-- ==== Sys2Proof/Word.lean ====
section
/-! DEFINITION. Word: the plain value types of the part, and the typed operands that commands carry.
Addresses, counts and codes that the manual only compares and adds are Nat; what software sees as a word is a bit vector. -/
namespace Sys2Proof

/-- One byte, as R4 counts bytes in packets and memory. -/
abbrev Byte := BitVec 8
/-- A 64-bit register word (R11). -/
abbrev Word64 := BitVec 64
/-- A packet, a payload or a record, lowest byte first. -/
abbrev Bytes := List Byte

/-- Who performs a register access: a host write over BAR2 (R6) or a control core of CTL (R351). -/
inductive Accessor where
  | host
  | core (c : Nat)
deriving DecidableEq, Repr

/-- A die message: the envelope of R20 and its payload. `len` is the LEN field, which a faulty sender may set freely. -/
structure DieMsg where
  dst : Nat
  cls : Nat
  src : Nat
  len : Nat
  unit : Nat
  epoch : Nat
  seq : Nat
  crClass : Nat
  crCount : Nat
  payload : Bytes
deriving DecidableEq, Repr

/-- The two activation widths of R35. -/
inductive Width where
  | a8
  | a4
deriving DecidableEq, Repr

/-- The two classes of MVM work that a layer sequencer grants (R201, R214). -/
inductive WorkClass where
  | generation
  | prompt
deriving DecidableEq, Repr

/-- Control-space addresses of one placement slot's CELL_ROWS, SLOT_PARAMS, RESIDUALS and OUTLIER_WEIGHTS (R148, R278). -/
structure SlotSrc where
  rows : Nat
  params : Nat
  resid : Nat
  outw : Nat
deriving DecidableEq, Repr

/-- An MVM as a layer sequencer issues it (R37, R89): tile and bank, expected epoch, width, outlier row mask, the layer job it
belongs to with its column block and chain position, its class, the layer's split mask (R110), the slot's weights, their format
(R147), whether the slice's fallback array runs it (R392), and whether it waits until its weights are switched in (R168). -/
structure MvmReq where
  tile : Nat
  bank : Nat
  epoch : Nat
  width : Width
  mask : List Nat
  job : Nat
  block : Nat
  pos : Nat
  cls : WorkClass
  split : Nat
  src : SlotSrc
  fmt : Nat
  fb : Bool
  await : Bool
deriving DecidableEq, Repr

/-- One activation vector through one layer (R112, R134 to R139): the step of its placement (R204), layer, sequence slot and position (R108), input vector,
inputs and outputs, tiles in a chain, home (slice, first column group) of each block of 512 columns, address
of the LADDER_WEIGHTS section with its format, and the layer's MVMs. -/
structure LayerJob where
  id : Nat
  placement : Nat
  step : Nat
  layer : Nat
  slot : Nat
  position : Nat
  vec : Nat
  inputs : Nat
  outputs : Nat
  chain : Nat
  homes : List (Nat × Nat)
  ladder : Nat
  ladderFmt : Nat
  mvms : List MvmReq
deriving DecidableEq, Repr

/-- An activation vector: A8 or A4 codes with their step and outlier side values (R105, R127), or floating-point patterns; `val` holds the
binary32 values that a later residual addition takes (R140). -/
structure Vect where
  codes : List Int
  step : Nat
  side : List (Nat × Nat)
  val : List Nat
  raw : List Nat
deriving DecidableEq, Repr

/-- A destination of the vector stage (R140): the input of a layer (width, static step or dynamic, outlier rows), keys or
values for a context die (the fields of R185, the scale and the KV format), or queries and logits (BF16 or FP32). -/
inductive Dest where
  | layer (width : Width) (step : Option Nat) (outliers : List Nat) (vec : Nat)
  | append (cxd slot epoch position layer head count kind : Nat)
  | cxd (fp32 : Bool) (vec : Nat)
deriving DecidableEq, Repr

/-- A function of the vector stage between layers (R140): one of the placement's, by its code, or the residual addition of an earlier
output vector. -/
inductive VecFn where
  | fn (code : Nat)
  | add (vec : Nat)
deriving DecidableEq, Repr

/-- What calibration measures of a logical column (R84, R116, R388): the column and its integrator-path gain g and offset o
(in unit currents) as quotients. -/
structure ColMeas where
  col : Nat
  g : Int × Nat
  o : Int × Nat
deriving DecidableEq, Repr

/-- What a calibration round measures of a tile (R388): the trims of the four bands, the ACC words (R85) of the diagnosis of step 2 by
converter (converter point at DAC codes +300 and -300, then for each of these DAC codes the integrator point at the even and the odd
parity), and the columns of both banks. -/
structure TileCal where
  tile : Nat
  trims : List Nat
  words : List (List Nat)
  bankA : List ColMeas
  bankB : List ColMeas
deriving DecidableEq, Repr

/-- What CTL firmware reads from a version's GRAPH section and layer descriptors, whose field offsets the manual does not give
(R148, R165, R176, R197): base version, vocabulary, attention parameters, scales as binary32 patterns by layer, each layer's static step (0 for dynamic) and
input width in bits (R127), the slice that the placement spans, and what the checks of the layer descriptors
answer. -/
structure Graph where
  base : Option (Nat × Nat)
  vocab : Nat
  layersKv : Nat
  headsKv : Nat
  headsQ : Nat
  dim : Nat
  fmt : Nat
  kScale : List Nat
  vScale : List Nat
  score : Nat
  window : Nat
  statics : List Nat
  widths : List Nat
  span : Option Nat
  descOk : Bool
deriving DecidableEq, Repr

/-- A slice descriptor (R308). -/
structure SliceDesc where
  slice : Nat
  origin : Nat
  ex : Nat
  ey : Nat
  ez : Nat
deriving DecidableEq, Repr

/-- What a fabric packet carries: a die message for the destination's package (R303), or one of the messages between CTLs and LKDs
whose byte layout the manual does not give (R305, R311 to R316, R334 to R341, R159 to R162). -/
inductive FabMsg where
  | die (m : DieMsg)
  | ack (cls pseq : Nat)
  | descriptor (d : SliceDesc) (rack : Nat)
  | active (slice status leader : Nat) (mates : List Nat)
  | left (slice : Nat)
  | member (code slice part : Nat)
  | dropped (slice part : Nat)
  | lendAsk (slice : Nat) (bytes : Nat)
  | lendGrant (slice : Nat) (at_ : Option Nat)
  | lendFree (at_ stripes : Nat)
  | arrive (slice round : Nat) (rack : Bool)
  | go (slice round time : Nat)
  | partnerAsk
  | partnerAnswer (ok : Bool)
  | journal (record : Bytes)
  | journalAck (kind request : Nat)
  | journalRefuse (kind request : Nat)
  | journalSealed
  | accepted (model version : Nat)
  | chunk (model version shard off : Nat) (last : Bool) (data : Bytes)
  | broadcast (model version shard off : Nat) (last : Bool) (data : Bytes)
  | shardAsk (model version shard : Nat)
  | tierPut (at_ : Nat) (data : Bytes)
  | tierAsk (at_ bytes : Nat)
  | tierData (at_ : Nat) (data : Bytes)
deriving DecidableEq, Repr

/-- A fabric packet: the header of R303 and what it carries. -/
structure FabPkt where
  dst : Nat
  src : Nat
  cls : Nat
  bcast : Bool
  vc : Nat
  hops : Nat
  len : Nat
  pseq : Nat
  slice : Nat
  detour : Nat
  long : Nat
  msg : FabMsg
deriving DecidableEq, Repr

/-- An NVMe/TCP PDU from a controller (R152, R324), as the fields that the part acts on, or the loss of its connection. A connection comes up
with the digests agreed, the largest transfer in bytes (MDTS; 0 for no limit) and the LBA size of each namespace. -/
inductive NvmePdu where
  | connected (ioq : Nat) (hdgst ddgst : Bool) (mdts : Nat) (spaces : List (Nat × Nat))
  | connectFailed (status : Nat)
  | data (data : Bytes)
  | response (ok : Bool)
  | termReq
  | badDigest
  | dropped
  | alive
deriving DecidableEq, Repr

/-- An Ethernet frame as the part handles it (R317). -/
inductive EthFrame where
  | arp (target : Bytes) (sender : Bytes)
  | ndp (target : Bytes) (sender : Bytes)
  | echo (dst src : Bytes) (data : Bytes)
  | tcp (dst : Bytes) (port : Nat) (data : Bytes)
deriving DecidableEq, Repr

/-- A frame as it reaches the part (R317): its VLAN, its length and what it carries. -/
structure EthArrival where
  vlan : Nat
  len : Nat
  frame : EthFrame
deriving DecidableEq, Repr

/-- The loss of an ingress connection (R318): the connection, and how many of the replies sent on it were not acknowledged. -/
structure IngressLoss where
  conn : Nat
  unacked : Nat
deriving DecidableEq, Repr

/-- The work of one sequence in a step (R204, R209): its slot, and for a prefill chunk the position that the chunk ends before. -/
structure BatchItem where
  slot : Nat
  stop : Nat
deriving DecidableEq, Repr

end Sys2Proof
end

