-- ==== Sys2Proof/Syntax.lean ====
section
/-! DEFINITION. Syntax: the commands of the block, one constructor per row of the opcode table. A command is a host command, an
access to a register, a message, or an event that comes to pass; its operands name the object concerned and carry what comes
from outside. The letters of the operands: `t` tile 1,024 ACD + n, `k` bank 2 t + b or stack, `c` cluster (slice) 16 ACD + n,
control core, CXD pair or controller, `a` ACD 0 to 7 or an address, `d` die, power domain or part, `q` UCIe port, `i` session or
index, `l` link, `e` model version, `sh` shard, `sl` sequence slot, `n` and `din` bits shifted through the debug port. -/
namespace Sys2Proof

/-- The commands (spec/opcode_table.json). -/
inductive Instr where
  /-- REGISTER_WRITE. A host or core write to a register field that has no row of its own sets RW fields, clears WC bits or
  counters and is discarded when misaligned or owned by firmware (R7). `by_` writes `size` bytes of `v` at offset `a`. -/
  | registerWrite (by_ : Accessor) (a size : Nat) (v : Word64)
  /-- MODULE_TRAINED. A UCIe module finishes training, exchanges initial credits over sideband and loads PEER_DIE and
  PEER_MOD (R23). `credits` are the far end's input buffers for each class. -/
  | moduleTrained (d q : Nat) (credits : List Nat)
  /-- MODULE_TRAINING_FAIL. A module fails training at 32 GT/s and retrains at 16 GT/s, or fails at 16 GT/s and is down
  (R16). -/
  | moduleTrainingFail (d q : Nat)
  /-- MODULE_DOWN. A module goes down because it needs more repair than its redundant lanes provide (R16). -/
  | moduleDown (d q : Nat)
  /-- DIE_MESSAGE_ACK. The receiving adapter acknowledges a die message, and the sender releases it (R17). -/
  | dieMessageAck (holder src dst cls seq : Nat)
  /-- DIE_MESSAGE_ARRIVE. A die message arrives at a die or mesh router and is checked, counted, discarded, forwarded or
  passed to its unit (R21). Die `at_` receives `m` on `port`. -/
  | dieMessageArrive (at_ port : Nat) (m : DieMsg)
  /-- DIE_REPLY_ARRIVE. A reply reaches the issuing CTL sequencer and is matched by TAG and CMD_SEQ, stopping its timer, or
  is discarded as late (R289). -/
  | dieReplyArrive
  /-- DIE_DELIVERY_TIMEOUT. A die message cannot be delivered within 100 ms, and the destination die is treated as failed
  (R286). -/
  | dieDeliveryTimeout (src dst cls seq : Nat)
  /-- MVM. An MVM naming a bank, width, epoch and outlier mask arrives at a tile and is queued or returned with STALE_ROLE,
  BANK_STATE or BANK_EXPIRED (R43). -/
  | mvm (t : Nat)
  /-- MVM_GRANT. A cluster's layer sequencer grants the next MVM by class under the balance-window rule (R214). -/
  | mvmGrant (c : Nat)
  /-- MVM_START. A queued MVM begins phase 0 once its bank is computable and the tile's rows are free (R35). -/
  | mvmStart (t : Nat)
  /-- MVM_RESULT. The codes of an MVM reach the slice, which corrects them into tile results with residual and outlier parts
  (R93). `xs` are the analogue column inputs of each pass. -/
  | mvmResult (t : Nat) (xs : List (List Int))
  /-- LADDER_EXEC_COMPLETE. A ladder re-execution has written every column of its cleared sets, which may then drain (R138). -/
  | ladderExecComplete (c : Nat)
  /-- TILE_RESULT_ARRIVE. A tile result from another slice or die arrives at the home accumulator and is added (R135). -/
  | tileResultArrive (c : Nat)
  /-- SET_DRAIN_END. A set finishes draining through the output stage, freeing it for held MVMs (R139). Column group `g`;
  `y` says that the output goes to the ladder. -/
  | setDrainEnd (c g : Nat) (y : Bool)
  /-- VECTOR_STAGE. The vector stage has a whole output vector, applies functions and sends it to its destination in the
  chosen format (R140). `fns` are the functions in order, `dest` where the output goes. -/
  | vectorStage (job : Nat) (fns : List VecFn) (dest : Dest)
  /-- WRITE_SHALLOW. A WRITE_SHALLOW operation for a new owner reaches a tile bank and is accepted with an epoch change or
  returned (R42). -/
  | writeShallow (die unit : Nat)
  /-- REFRESH. A REFRESH naming the bank's current owner reaches a tile bank and is accepted without an epoch change or
  returned (R42). -/
  | refresh (die unit : Nat)
  /-- WRITE_DEEP. A WRITE_DEEP operation reaches a tile bank and is accepted, or returned with BANK_STATE or WEAR_LIMIT
  (R42). -/
  | writeDeep (die unit : Nat)
  /-- ERASE. An ERASE operation reaches a DEEP bank and is accepted with an epoch change, or returned (R42). -/
  | erase (die unit : Nat)
  /-- RELEASE. A RELEASE operation reaches a bank, and its epoch changes at once (R47). -/
  | release (die unit : Nat)
  /-- RELEASE_TAKE_EFFECT. A deferred RELEASE takes effect after the last earlier MVM completes, and the bank becomes EMPTY
  (R47). -/
  | releaseTakeEffect (k : Nat)
  /-- EPOCH_WAIT_END. An epoch-changing operation held within 2 µs of the previous change is accepted (R285). -/
  | epochWaitEnd (die unit : Nat)
  /-- TILE_WRITE_START. A queued write or erase starts once the tile's earlier write and the bank's earlier MVMs have
  finished (R46). -/
  | tileWriteStart (t : Nat)
  /-- HOT_DEFER_END. A deep write or erase deferred above 100 °C starts when the cluster reaches 100 °C or below (R52). -/
  | hotDeferEnd (t : Nat)
  /-- SHALLOW_ROW_ARRIVE. A shallow row reaches the row write buffer, and a stalled write resumes (R54). -/
  | shallowRowArrive (t : Nat)
  /-- SHALLOW_WRITE_COMPLETE. The last shallow row is written; the bank becomes SHALLOW, D and A are reset and probe MVMs
  are issued (R53). -/
  | shallowWriteComplete (t : Nat)
  /-- DEEP_CLEAR_PASS_END. The clearing pass of a deep write over a SHALLOW or EXPIRED bank ends, and row 0 programming
  begins (R507). -/
  | deepClearPassEnd (t : Nat)
  /-- DEEP_ROW_VERIFY. A deep row finishes its 16 program-verify iterations and passes or fails verify (R48). `pass`: the
  read of the row agrees. -/
  | deepRowVerify (t : Nat) (pass : Bool)
  /-- ERASE_DONE. The nine erase groups of a bank complete, and a map update follows (R51). -/
  | eraseDone (t : Nat)
  /-- MAP_UPDATE_COMPLETE. A map row copy finishes its erase and deep write, completing the deep write, erase or retirement
  that needed it (R62). -/
  | mapUpdateComplete (t : Nat)
  /-- LIFE_TICK. At each whole millisecond of part time, LIFE of shallow banks falls by the band rate (R57). -/
  | lifeTick (c : Nat)
  /-- BANK_EXPIRE. LIFE reaches 0, and a SHALLOW bank becomes EXPIRED (R57). -/
  | bankExpire (k : Nat)
  /-- DEEP_AGE_TICK. At each whole millisecond of part time, DEEP_AGE of DEEP banks rises by the temperature rate (R58). -/
  | deepAgeTick (c : Nat)
  /-- AGE_ALERT. DEEP_AGE reaches 87,600 h; AGE_ALERT is set and an event is raised (R59). -/
  | ageAlert (k : Nat)
  /-- DEEP_AGE_MILESTONE. DEEP_AGE reaches a whole multiple of 1,000 h, and a map update is made (R62). -/
  | deepAgeMilestone (k : Nat)
  /-- DIE_RESET_EXIT. A die leaves reset, trains its UCIe modules and loads its fields marked load (R382). `stackFail`: a
  stack of the die fails its training. -/
  | dieResetExit (d : Nat) (stackFail : Bool)
  /-- BLANK_CHECK_COMPLETE. A bank's 52 µs blank check ends, and the bank becomes EMPTY or is erased first (R64). -/
  | blankCheckComplete (k : Nat)
  /-- DIE_RESET_TIMEOUT. A die does not leave reset within 1 s of its ramp ending, and bring-up stops with FAULT_CODE 6
  (R400). -/
  | dieResetTimeout (d : Nat)
  /-- CAL_CMD. A calibration command arrives as a die message at a tile's calibration unit and is checked and started
  (R279). -/
  | calCmd (die unit : Nat)
  /-- CONV_CAL_CMD. A host write to CONV_CAL_CMD starts a calibration command or is discarded with CMD_ERR (R80). `w` is the
  value written. -/
  | convCalCmd (by_ : Accessor) (t w : Nat)
  /-- CAL_COMPLETE. A calibration command ends n × 8 ns after its first phase, and CAL_BUSY clears (R80). `devs` are the
  deviations measured. -/
  | calComplete (t : Nat) (devs : List (List Int))
  /-- CAL_ABORT. A write of CAL_ABORT ends the running calibration command at the end of its phase (R82). -/
  | calAbort (by_ : Accessor) (t : Nat)
  /-- CAP_CLEAR. A write of CAP_CLEAR requests emptying of the capture memory (R87). -/
  | capClear (by_ : Accessor) (t : Nat)
  /-- CONV_CFG. A write to CONV_CFG sets the capture fields, and a change of CAP_MODE requests emptying (R87). `v` is the
  value written. -/
  | convCfg (by_ : Accessor) (t v : Nat)
  /-- CAPTURE_EMPTY. At the next array phase boundary, the capture memory is emptied in its new mode (R87). -/
  | captureEmpty (t : Nat)
  /-- CONV_QUEUE. A write of RD_PTR frees QUEUE entries, or is discarded with CMD_ERR (R88). `rd` is the value written to
  the read pointer. -/
  | convQueue (by_ : Accessor) (t rd : Nat)
  /-- LOAD_PROBE_FIT. After the last probe result, the slice fits gain and offset per column by least squares (R98). -/
  | loadProbeFit (k : Nat)
  /-- ANNEAL_DUE. A column check, deep probe or refresh of a bank falls due by interval or LIFE (R117). -/
  | annealDue (k : Nat)
  /-- ANNEAL_TASK. An ANNEAL_TASK message reaches an ACD anneal unit, which runs the task (R117). `probe`: the task follows
  a probe. -/
  | annealTask (k : Nat) (probe : Bool)
  /-- COLUMN_CHECK_COMPLETE. A column check's commands finish, and gain and offset are updated from the integrator-path
  measurements (R116). `meas` is what the check measures. -/
  | columnCheckComplete (a : Nat) (meas : List ColMeas)
  /-- LOAD. The host LOAD command creates a version entry in LOADING and starts fetching its shards (R268). -/
  | load (i : Nat)
  /-- STAGE_SHARD. A shard is assigned to a WSD staging engine, or waits in arrival order (R155). Version or image `e`,
  shard `sh`, placed from stripe address `base`. -/
  | stageShard (e sh base : Nat)
  /-- SHARD_STAGE_START. A waiting shard starts on a freed staging engine (R155). `lender` is the lent copy that the shard
  comes from. -/
  | shardStageStart (base : Nat) (lender : Option (Nat × Nat))
  /-- NVME_PDU_RECEIVE. An NVMe/TCP PDU arrives and completes a read, a connect step or a TermReq (R152). `holders` are the
  stripe holders that a failed shard leaves. -/
  | nvmePduReceive (c : Nat) (u : NvmePdu) (holders : List Nat)
  /-- HOST_READ_COMPLETE. A PCIe read of host memory completes, delivering ingot, prompt, grammar, table or image data
  (R263). -/
  | hostReadComplete (i : Nat) (data : Bytes)
  /-- HOST_READ_ERROR. A host memory read completes with an error or poison, is logged through AER and fails its command or
  attempt (R330). -/
  | hostReadError (i : Nat) (holders : List Nat)
  /-- FETCH_TIMEOUT. A source gives no response within the fetch timeout, and the attempt fails with FETCH (R152). -/
  | fetchTimeout (e sh : Nat) (holders : List Nat)
  /-- SHARD_CHECKS_DONE. A staging engine finishes the arrival checks of an ingot, and the shard is verified or fails
  (R151). `graph` is what firmware reads from the image. -/
  | shardChecksDone (e sh : Nat) (graph : Option Graph) (holders : List Nat)
  /-- SCRUB_DUE. A shard's scrub deadline approaches, and the scrub takes an engine (R157). -/
  | scrubDue (e sh : Nat)
  /-- SCRUB_SHARD. A SCRUB_SHARD command starts a re-read and hash of a shard (R157). -/
  | scrubShard (e sh : Nat)
  /-- SCRUB_COMPLETE. A scrub ends, and a mismatch sends the shard into the failure chain with cause SCRUB (R158). `bad`:
  the digest differs. -/
  | scrubComplete (e sh : Nat) (bad : Bool) (holders : List Nat)
  /-- PIPELINE_CHUNK. A pipeline chunk of ciphertext arrives from upstream and is forwarded downstream (R159). -/
  | pipelineChunk (base : Nat)
  /-- PIPELINE_WAIT_TIMEOUT. A downstream part has not accepted the load within the fetch timeout and is skipped (R160). -/
  | pipelineWaitTimeout (e : Nat)
  /-- BROADCAST_SHARD. A broadcast shard arrives and is taken in, or discarded without a matching load (R161). -/
  | broadcastShard (base : Nat)
  /-- TIER_COPY_COMPLETE. An encrypted tier copy is fully written, and the shard's stack space is freed (R162). -/
  | tierCopyComplete (e sh : Nat)
  /-- TIER_READBACK_COMPLETE. A tier copy is read back, decrypted and checked, or fails with cause TIER (R162). -/
  | tierReadbackComplete (e sh base : Nat) (holders : List Nat)
  /-- UNLOAD. The host UNLOAD command retires or frees a version (R272). -/
  | unload (i : Nat)
  /-- SET_CURRENT. The host SET_CURRENT command makes an AVAILABLE version current (R272). -/
  | setCurrent (i : Nat)
  /-- MODEL_QUERY. The host MODEL_QUERY command returns a model-table entry (R272). -/
  | modelQuery (i : Nat)
  /-- TIER_ADD. The host TIER_ADD command registers a host memory tier region (R273). -/
  | tierAdd (i : Nat)
  /-- TIER_REMOVE. The host TIER_REMOVE command closes a tier region and reads back its shards (R273). -/
  | tierRemove (i : Nat)
  /-- DEEP_ORPHAN_TIMEOUT. 60 s after bring-up, DEEP banks whose owner matches no version are erased (R169). -/
  | deepOrphanTimeout
  /-- PAGE_ALLOC. A PAGE_ALLOC operation appends a page to a slot's table or fails with NO_SPACE (R183). -/
  | pageAlloc (cxd sl : Nat)
  /-- PAGE_FORK. A PAGE_FORK operation assigns a new slot sharing leading tokens of the source's pages (R183). -/
  | pageFork (cxd sl target n : Nat)
  /-- PAGE_TRUNCATE. A PAGE_TRUNCATE operation sets LEN and drops pages (R183). -/
  | pageTruncate (cxd sl n : Nat)
  /-- SLOT_ASSIGN. A SLOT_ASSIGN operation assigns a slot unit and raises its epoch (R175). `shape` is the slot shape that
  the command names. -/
  | slotAssign (cxd sl shape : Nat)
  /-- SLOT_RELEASE. A SLOT_RELEASE operation removes every page and releases the slot with an epoch change (R175). -/
  | slotRelease (cxd sl : Nat)
  /-- PAGE_OP_APPLY. A waiting page operation applies at the slot's step boundary, and its reply follows both table copies
  (R184). -/
  | pageOpApply (sl : Nat)
  /-- PAGE_COPY_COMPLETE. The copy engine finishes a copy of its own of a page (R183). -/
  | pageCopyComplete (sl : Nat)
  /-- KV_APPEND. A KV-append message arrives and writes key or value elements into the slot's page (R186). -/
  | kvAppend (cxd sl : Nat)
  /-- ATTENTION. An attention request arrives at the attention engine and waits for its appends (R187). -/
  | attention (cxd id sl layer first count tag appends : Nat) (fp32 : Bool) (queries outputs : Nat)
  /-- ATTENTION_START. An attention request starts once APPENDS matching appends have been accepted (R187). -/
  | attentionStart (id : Nat)
  /-- ATTENTION_COMPLETE. Attention outputs are computed and sent to the output projection tiles (R189). -/
  | attentionComplete (id : Nat)
  /-- PATROL_READ. The patrol scrub reads an allocated stack location and corrects or detects errors (R192). Stack, address and kind of
      error, whether a unit's demand read finds it (R191), whether the other copy of a page-table block is lost too, the request whose journal
      records lie there, whether a pass ends, and the replica holders of a shard. -/
  | patrolRead (k addr kind : Nat) (demand other : Bool) (hit : Nat) (last : Bool) (holders : List Nat)
  /-- PAGE_REBUILD_COMPLETE. Re-prefill has rebuilt a lost KV page, and the page is put into its holders' tables (R193). -/
  | pageRebuildComplete (sl i : Nat) (data : Bytes)
  /-- STACK_REFRESH. A per-bank refresh interval expires, and the stack controller issues a refresh (R194). -/
  | stackRefresh (k : Nat)
  /-- STACK_TEMP_READOUT. The 1 ms stack temperature readout updates the stack's temperature and band (R422). -/
  | stackTempReadout (k : Nat) (v : Option Int)
  /-- STACK_BAND_FALL. After 1 s in a lower band, a stack's refresh interval falls (R194). -/
  | stackBandFall (k : Nat)
  /-- ADMIT. The host ADMIT command checks, binds, pins, assigns slots, asks policy and journals a request (R199). -/
  | admitRequest (i : Nat)
  /-- ADMIT_ASK_TIMEOUT. No answer arrives within ADMIT_TIMEOUT, and the admission follows TIMEOUT_ADMIT (R356). -/
  | admitAskTimeout (sl : Nat)
  /-- STEP_ISSUE. The scheduler issues a step of a placement over a batch, allocating pages and setting LEN first (R204).
  The items of a step of placement `e`, with its layer jobs and input vectors. -/
  | stepIssue (e : Nat) (items : List BatchItem) (jobs : List LayerJob) (vecs : List (Nat × Vect))
  /-- COMMIT. The sampling unit reaches a sequence's commit point, making tokens, grammar state, draft state and terminal
  status final (R207). The logits of each position, of the placement and of its companion. -/
  | commit (sl : Nat) (main draft : List (List Nat))
  /-- BALANCE_WINDOW. A 10 ms balance window begins, and each cluster's prompt_share is recomputed (R214). -/
  | balanceWindow
  /-- CANCEL. The host CANCEL command ends a waiting request, or sends a cancel marker for one in a step (R231). -/
  | cancel (i : Nat)
  /-- CANCEL_MARK. A cancel marker reaches the sampling unit for comparison at the next commit point (R232). -/
  | cancelMark (cxd : Nat)
  /-- TIME_LIMIT_EXPIRE. A request's TIME_LIMIT expires and is handled as a cancel with TIME_LIMIT (R233). -/
  | timeLimitExpire (sl : Nat)
  /-- REQUEST_QUERY. The host REQUEST_QUERY command returns a request's slot registers (R267). -/
  | requestQuery (i : Nat)
  /-- GRAMMAR_LOAD. The host GRAMMAR_LOAD command reads, checks and stores a grammar image (R222). -/
  | grammarLoad (i : Nat)
  /-- GRAMMAR_UNLOAD. The host GRAMMAR_UNLOAD command empties a grammar slot (R274). -/
  | grammarUnload (i : Nat)
  /-- KV_FORK. The host KV_FORK command creates a held slot sharing leading tokens (R275). -/
  | kvFork (i : Nat)
  /-- KV_TRUNCATE. The host KV_TRUNCATE command truncates a held slot (R276). -/
  | kvTruncate (i : Nat)
  /-- KV_RELEASE. The host KV_RELEASE command releases a held slot and its pin (R276). -/
  | kvRelease (i : Nat)
  /-- KV_QUERY. The host KV_QUERY command returns a held slot's KV_SEQ register (R276). -/
  | kvQuery (i : Nat)
  /-- SUBMISSION_WRITE. A host BAR0 write lands granules in a submission window (R237). -/
  | submissionWrite (off : Nat) (b : Bytes)
  /-- PACKET_TAKE. A complete packet at the take pointer is taken into the session queue once there is room (R239). -/
  | packetTake (i : Nat)
  /-- COMMAND_START. The next command of a session starts once the previous one allows, and it is checked in order (R244). -/
  | commandStart (i : Nat)
  /-- NOP. The NOP command replies with no effect (R259). -/
  | nop (i : Nat)
  /-- SESSION_OPEN. The SESSION_OPEN command negotiates features and a reply ring and opens the session (R253). -/
  | sessionOpen (i : Nat)
  /-- SESSION_CLOSE. The SESSION_CLOSE command closes an idle session (R258). -/
  | sessionClose (i : Nat)
  /-- SESSION_RESYNC. The SESSION_RESYNC command returns a FAULTED session to OPEN (R258). -/
  | sessionResync (i : Nat)
  /-- CREDIT. The CREDIT packet returns reply units and writes no reply (R245). -/
  | credit (i : Nat)
  /-- PART_INFO. The PART_INFO command returns the session-open reply body (R254). -/
  | partInfo (i : Nat)
  /-- SEED_SET. The SEED_SET command writes a new stochastic rounding seed to every ACD (R277). -/
  | seedSet (i : Nat)
  /-- NOTICE_MASK. The NOTICE_MASK command sets which notice reply kinds the session receives (R277). -/
  | noticeMask (i : Nat)
  /-- REPLY_WRITE. A waiting reply is written to the reply ring once the part holds its units, with body first, then header
  (R250). -/
  | replyWrite (i : Nat)
  /-- CREDIT_REPLY. 10 µs without a reply passes, or 256 units are unreported, and a CREDIT reply reports taken units
  (R248). -/
  | creditReply (i : Nat)
  /-- MSIX_HOLDOFF_EXPIRE. The INT_HOLDOFF ends, and one held MSI-X signal is sent (R252). -/
  | msixHoldoffExpire (i : Nat)
  /-- DIE_COMMAND_TIMEOUT. A command-class die message's timer expires, and the command fails with TIMEOUT and the die is
  treated as failed (R290). -/
  | dieCommandTimeout (tag seq : Nat)
  /-- LANE_FAIL. A lane loses lock or exceeds the uncorrectable codeword limit and is failed (R293). -/
  | laneFail (l lane : Nat) (peer : Bool)
  /-- LANE_RETRAIN. Every 10 s, a failed lane is retrained on idle patterns (R293). -/
  | laneRetrain (l lane : Nat)
  /-- LANE_GOOD. A retrained lane holds lock within limits for 1 s and becomes good (R293). -/
  | laneGood (l lane : Nat) (peer : Bool)
  /-- LINK_SIGNAL. Signal appears on a lane at both ends, and a DOWN link starts TRAINING (R294). -/
  | linkSignal (l : Nat)
  /-- LINK_TRAINED. Training completes, and the identity check makes the link ACTIVE or DOWN with MISWIRE (R296). -/
  | linkTrained (l peerPart dx dy dz peerPort peerLink good peerGood : Nat) (credits : List (Nat × Nat))
  /-- LINK_TRAINING_TIMEOUT. A link is not ACTIVE within 100 ms and goes DOWN with TIMEOUT (R294). -/
  | linkTrainingTimeout (l : Nat)
  /-- LINK_RETRY. 1 s after going DOWN, a link retries training (R294). -/
  | linkRetry (l : Nat)
  /-- LINK_SILENT. No flit is received for 1 ms, and the link goes DOWN with SILENT (R294). -/
  | linkSilent (l : Nat)
  /-- LINK_RESIZE_DONE. Both ends relock at the new width, and the link returns to ACTIVE (R295). -/
  | linkResizeDone (l : Nat)
  /-- LINK_RESIZE_TIMEOUT. A resize is not complete within 50 µs, and the link goes DOWN (R294). -/
  | linkResizeTimeout (l : Nat)
  /-- FLIT_RECEIVE. A flit arrives on a port and is accepted, acknowledged or NAKed for replay (R300). -/
  | flitReceive (l : Nat) (b : Bytes) (corr uncorr : Nat)
  /-- PACKET_ROUTE. A fabric packet reaches a part and is delivered, forwarded, detoured, discarded or held (R306). -/
  | packetRoute (port : Option Nat) (k : FabPkt)
  /-- PACKET_HOLD_RETRY. Every 10 µs, a held packet is routed again (R306). -/
  | packetHoldRetry
  /-- NO_ROUTE. A packet held or waiting for VC2 credits for 1 ms is discarded (R306). -/
  | noRoute
  /-- E2E_ACK. An end-to-end acknowledgement releases kept class 0 to 2 packets (R305). -/
  | e2eAck
  /-- E2E_RESEND. No acknowledgement arrives within 200 µs, and the packet is resent (R305). -/
  | e2eResend
  /-- UNREACHABLE. A destination has acknowledged nothing for 100 ms and is declared unreachable (R305). -/
  | unreachable (d : Nat)
  /-- GAP_SKIP. A PSEQ gap of class 3 to 5 lasts 1 ms and is skipped (R305). -/
  | gapSkip (src cls : Nat)
  /-- PORT_CFG. The PORT_CFG command sets PART_ID, dimensions, rack and link assignments (R319). -/
  | portCfg (i : Nat)
  /-- FABRIC_QUERY. The FABRIC_QUERY command returns fabric, slice or link state (R320). -/
  | fabricQuery (i : Nat)
  /-- SLICE_JOIN. The SLICE_JOIN command enters JOINING and sends the descriptor to the root (R321). -/
  | sliceJoin (i : Nat)
  /-- SLICE_LEAVE. The SLICE_LEAVE command enters LEAVING and completes when nothing is pinned (R322). -/
  | sliceLeave (i : Nat)
  /-- SLICE_DESCRIPTOR. The root receives a member's descriptor and accepts, refuses or completes the join (R311). -/
  | sliceDescriptor
  /-- SLICE_ACTIVE. A member receives ACTIVE from the root, and its SLICE_JOIN completes (R311). -/
  | sliceActive
  /-- LEND_REQUEST. A request for lent stripes arrives in class 1 and is served by a lending member (R313). -/
  | lendRequest
  /-- RACK_OFFSET_EXCHANGE. Every 1 ms, the root measures each leader's offset by a two-way exchange (R315). Slice, rack and
  the offset measured. -/
  | rackOffsetExchange (id rack : Nat) (offset : Int)
  /-- BARRIER_ARRIVE. An ARRIVE(n) reaches a leader or the root and may complete the rack or round (R316). -/
  | barrierArrive
  /-- BARRIER_GO. A GO(n, T) reaches a member, converted to its part time (R316). -/
  | barrierGo
  /-- ROUND_START. A member reaches T and starts barrier round n (R316). -/
  | roundStart (id : Nat)
  /-- ARRIVE_TIMEOUT. A member or leader has not arrived 10 ms after the first arrival and is dropped or replaced (R316). -/
  | arriveTimeout (id : Nat)
  /-- ETH_CFG. The ETH_CFG command configures an Ethernet link (R323). -/
  | ethCfg (i : Nat)
  /-- INGRESS_CLAIM. A TCP connection's 16-byte claim binds it to an ingress session or closes it (R318). Link, connection
  number, and the claim's bytes. -/
  | ingressClaim (l conn : Nat) (b : Bytes)
  /-- INGRESS_LOST. The ingress connection is lost, and the session becomes FAULTED with cause 5 (R318). -/
  | ingressLost (loss : IngressLoss)
  /-- NVME_CONNECT. The NVME_CONNECT command opens an NVMe/TCP controller (R324). -/
  | nvmeConnect (i : Nat)
  /-- NVME_CONNECT_TIMEOUT. The target gives no response within 2,000 ms, and the connect completes with BUSY (R324). -/
  | nvmeConnectTimeout (c : Nat)
  /-- NVME_DISCONNECT. The NVME_DISCONNECT command closes an NVMe controller (R324). -/
  | nvmeDisconnect (i : Nat)
  /-- JOURNAL_RECORD. A partner receives a journal record and stores and acknowledges it, or refuses it (R335). -/
  | journalRecord
  /-- JOURNAL_ACK. A partner's acknowledgement reaches the source and releases the admission reply or waiting token records
  (R336). -/
  | journalAck
  /-- JOURNAL_REFUSAL. A partner's refusal or sealed answer reaches the source, which loses its partner or stops its
  protected requests (R337). -/
  | journalRefusal
  /-- JOURNAL_SET. JOURNAL_PARTNER SET names a new partner and resyncs every live request (R338). -/
  | journalSet (i : Nat)
  /-- JOURNAL_CLEAR. JOURNAL_PARTNER CLEAR removes the partner and sends DROP (R340). -/
  | journalClear (i : Nat)
  /-- JOURNAL_SEAL. JOURNAL_PARTNER SEAL seals a source's journal at the partner (R341). -/
  | journalSeal (i : Nat)
  /-- JOURNAL_ADOPT. JOURNAL_PARTNER ADOPT adopts journaled requests from a sealed source (R343). -/
  | journalAdopt (i : Nat)
  /-- JOURNAL_RELEASE. JOURNAL_PARTNER RELEASE frees unadopted records and ends the partner role (R340). -/
  | journalRelease (i : Nat)
  /-- MBOX_SEND. A core writes MBOX_SEND to deliver its staged message or have it refused (R353). -/
  | mboxSend (c dest : Nat)
  /-- MBOX_POP. A core writes POP to remove its oldest mailbox message (R354). -/
  | mboxPop (c : Nat)
  /-- POL_RING_POP. A read of POL_RING_POP removes the oldest notice ring entry (R358). -/
  | polRingPop (c : Nat)
  /-- POL_RANK. A write to POL_RANK sets a slot's rank, or is discarded for an ended request (R357). -/
  | polRank (slot rank : Nat)
  /-- EVENT_MESSAGE. An event message or local event adds an occurrence to an EVC line (R360). -/
  | eventMessage
  /-- EVC_DELIVER. A pending deliverable line is routed to a target core as a normal or fast interrupt (R361). -/
  | evcDeliver
  /-- EVC_CLAIM. A read of EVC_CLAIM claims the highest-priority delivered line and its count (R362). -/
  | evcClaim (c : Nat)
  /-- EVC_COMPLETE. A write of EVC_COMPLETE completes a claimed line (R362). -/
  | evcComplete (c i : Nat)
  /-- FAST_SRET. An sret from a fast trap restores the shadow set and completes the line (R363). -/
  | fastSret (c : Nat)
  /-- MOD_TIMER_EXPIRE. A moderation timer expires, and the line is routed once (R364). -/
  | modTimerExpire (i : Nat)
  /-- EVC_GATE. A write of GATE holds or releases delivery to the policy cores (R365). -/
  | evcGate (by_ : Accessor) (v : Bool)
  /-- EVC_SOFT_SET. A write of EVC_SOFT_SET adds occurrences to the soft lines (R359). -/
  | evcSoftSet (mask : Nat)
  /-- POLICY_FAULT. A policy core faults, and every policy core is stopped (R352). -/
  | policyFault (c cause : Nat)
  /-- POLICY_LOAD. The POLICY_LOAD command reads and verifies a policy image (R456). -/
  | policyLoad (i : Nat)
  /-- POWER_ON. PG_IN rises, and the AON island comes up with part time at 0 (R374). -/
  | powerOn
  /-- POWER_DOWN. PG_IN falls or VIN_12 falls below range, and every domain is switched off (R397). -/
  | powerDown
  /-- RESET_N_LOW. Three low samples of RESET_N reset every domain except AON (R378). -/
  | resetNLow
  /-- RESET_N_HIGH. RESET_N reads high, and bring-up starts from stage LINK (R378). -/
  | resetNHigh
  /-- PERST_N_LOW. PERST_N asserts and resets the part, or only the PCIe function, as PERST_SCOPE selects (R376). -/
  | perstNLow (holders : List (List Nat))
  /-- PCIE_LINK_DOWN. A hot reset or link down clears Bus Master Enable and holds host writes (R377). -/
  | pcieLinkDown (holders : List (List Nat))
  /-- BUS_MASTER_ENABLE. A configuration write sets Bus Master Enable, and writes to the host resume (R377). -/
  | busMasterEnable (v : Bool)
  /-- PLL_LOCK_LOSS. A PLL is out of lock for 10 µs, and its die is declared failed (R373). -/
  | pllLockLoss (d : Nat)
  /-- REFCLK_LOSS. REFCLK_156 is absent for 10 µs, and CTL is declared failed or bring-up holds (R373). -/
  | refclkLoss
  /-- PART_RESET. PART_RESET without HALT replies, and the reset follows (R379). -/
  | partReset (i : Nat)
  /-- PART_RESET_HALT. PART_RESET with HALT drains writes, updates maps and records the orderly state before powering down
  (R379). -/
  | partResetHalt (i : Nat)
  /-- RESET_DELAY_EXPIRE. 100 µs after the PART_RESET reply, the reset of every domain except AON begins (R379). -/
  | resetDelayExpire
  /-- HALT_COMPLETE. The part reaches stage HALTED, and the halt reply is written (R379). -/
  | haltComplete
  /-- HALT_TIMEOUT. CTL cannot complete a HALT within 100 ms, and the part resets without the orderly record (R380). -/
  | haltTimeout
  /-- RST_CTL_RESET. A write of IOD.RST_CTL with ACTION 1 and the key resets the part (R380). -/
  | rstCtlReset (key : Nat)
  /-- RST_CTL_HALT. A write of IOD.RST_CTL with ACTION 2 and the key halts the part without a reply (R380). -/
  | rstCtlHalt (key : Nat)
  /-- STAGE_FIRMWARE. CTL firmware and the certificate are verified, and bring-up reaches stage FIRMWARE (R381). -/
  | stageFirmware
  /-- CAL_ROUND_START. A calibration round starts once both clusters are at 95 °C or below (R389). -/
  | calRoundStart (a : Nat)
  /-- CAL_ROUND_COMPLETE. A calibration round finishes, and its clusters join service or fail calibration (R391). What the
  round finds. -/
  | calRoundComplete (a : Nat) (fail : Bool) (tiles : List TileCal)
  /-- DOMAIN_SLEEP. The DOMAIN_SLEEP command drains a domain toward SLEEP under its domain's rule (R401). -/
  | domainSleep (i : Nat)
  /-- DOMAIN_WAKE. The DOMAIN_WAKE command queues a domain in the wake governor (R401). -/
  | domainWake (i : Nat)
  /-- PWR_WAKE. A write of IOD.PWR_WAKE with the key requests a wake of domain 1 (R407). -/
  | pwrWake (key : Nat)
  /-- RAMP_START. The wake governor starts the head domain's ramp within the ramp count and di/dt budget (R410). -/
  | rampStart
  /-- RAMP_END. A ramp ends with its rails in regulation, and the domain enters STARTING (R400). -/
  | rampEnd (d : Nat)
  /-- RAMP_TIMEOUT. Rails are not in regulation 1 ms after the ramp started, and the domain becomes FAILED (R400). -/
  | rampTimeout (d : Nat)
  /-- DOMAIN_ON. A domain reaches its completion point and enters ON (R400). -/
  | domainOn (d : Nat)
  /-- DOMAIN_SLEEP_COMPLETE. A closing domain finishes draining and enters SLEEP (R400). -/
  | domainSleepComplete (d : Nat)
  /-- REGULATOR_FAULT. A regulator faults, and its domain becomes FAILED (R400). -/
  | regulatorFault (d : Nat)
  /-- MAINTENANCE_WAKE. 60 s before the earliest scrub deadline, the AON island wakes domain 1 for a maintenance scrub
  (R408). -/
  | maintenanceWake
  /-- WSD_IDLE_SLEEP. After 10 s with no busy engine, CTL returns domain 19 to SLEEP (R409). -/
  | wsdIdleSleep
  /-- POWER_INTERVAL. A 10 µs interval begins, and the power governor sets its input limit and paces work (R412). The
  interval's energy, the VIN monitor's readings and the regulators' alarms. -/
  | powerInterval (uj vinMv iinCa : Nat) (pace clamp domClamp : Bool)
  /-- POWER_QUERY. The POWER_QUERY command returns power state (R414). -/
  | powerQuery (i : Nat)
  /-- POWER_LIMIT. The POWER_LIMIT command sets PLIM_W and PEAK_W (R414). -/
  | powerLimit (i : Nat)
  /-- SENSOR_SAMPLE. Every 100 µs, each on-die sensor is sampled and its reading updated (R416). The raw readings of each
  sensor, none where the conversion is missing. -/
  | sensorSample (die : Nat) (raws : List (Option Int))
  /-- THROTTLE_UPDATE. Every 10 ms, therm_step rises, falls or holds from the throttle temperature (R427). -/
  | throttleUpdate
  /-- REMOTE_SENSE_MEASURE. Every 10 ms, IOD measures each remote-sense pair (R425). -/
  | remoteSenseMeasure (i : Nat) (v : Option Int)
  /-- THERMAL_QUERY. The THERMAL_QUERY command returns thermal state, sensors or quench records (R435). -/
  | thermalQuery (i : Nat)
  /-- QUENCH_CLEAR. The QUENCH_CLEAR command marks quench records cleared and releases the hold (R436). -/
  | quenchClear (i : Nat)
  /-- ATTEST. The ATTEST command returns a signed attestation report (R460). -/
  | attest (i : Nat)
  /-- CERT_READ. The CERT_READ command returns an identity record or the configuration certificate (R459). -/
  | certRead (i : Nat)
  /-- KEY_INSTALL. The KEY_INSTALL command unwraps and installs a model key (R454). -/
  | keyInstall (i : Nat)
  /-- KEY_REMOVE. The KEY_REMOVE command removes a model key (R455). -/
  | keyRemove (i : Nat)
  /-- DEBUG_AUTH_PHASE0. DEBUG_AUTH phase 0 returns a new challenge (R462). -/
  | debugAuthPhase0 (i : Nat)
  /-- DEBUG_AUTH_PHASE1. DEBUG_AUTH phase 1 verifies a signed response and grants FEAT2 bits (R463). -/
  | debugAuthPhase1 (i : Nat)
  /-- DEBUG_CHALLENGE_EXPIRE. A held challenge expires 60 s after its reply (R462). -/
  | debugChallengeExpire
  /-- FREEZE_N_LOW. Three low samples of FREEZE_N trigger a freeze (R464). -/
  | freezeNLow
  /-- FREEZE. An accepted FREEZE packet triggers a freeze without a reply (R464). -/
  | freeze (i : Nat)
  /-- STOP_ACK_TIMEOUT. At T + 1 µs, FROZEN_N is driven low, with unacknowledged dies left clear in STOPPED (R465). `acks`
  is the mask of dies that have acknowledged. -/
  | stopAckTimeout (acks : Nat)
  /-- EXTEST. The TAP instruction EXTEST selects the boundary register (R471). -/
  | extest (n din : Nat)
  /-- SAMPLE_PRELOAD. The TAP instruction SAMPLE/PRELOAD selects the boundary register (R471). -/
  | samplePreload (n din : Nat)
  /-- IDCODE. The TAP instruction IDCODE shifts out the 32-bit identity (R471). -/
  | idcode (n din : Nat)
  /-- FZ_STATUS. The TAP instruction FZ_STATUS shifts out the freeze status and time (R471). -/
  | fzStatus (n din : Nat)
  /-- DIE_SEL. The TAP instruction DIE_SEL selects a die and chain while frozen (R472). -/
  | dieSel (n din : Nat)
  /-- SCAN_READ. The TAP instruction SCAN_READ recirculates the selected chain while frozen (R472). -/
  | scanRead (n din : Nat)
  /-- ARRAY_READ. The TAP instruction ARRAY_READ pulses and converts one physical row of a bank at Update-DR (R474).
  `inputs`: analogue input of each column and the value of its top comparison. -/
  | arrayRead (n din : Nat) (inputs : List (Int × Bool))
  /-- BYPASS. The TAP instruction BYPASS selects the 1-bit register (R471). -/
  | bypass (code n din : Nat)
  /-- TRACE_CFG. The TRACE_CFG command sets trace mode and sources, or clears the buffer (R475). -/
  | traceCfg (i : Nat)
  /-- TRACE_READ. The TRACE_READ command returns a snapshot of trace entries (R478). -/
  | traceRead (i : Nat)
  /-- DIAG_MVM. The DIAG_MVM command runs one MVM on a named bank and returns its uncorrected clip vector and corrected
  parts (R479). -/
  | diagMvm (i : Nat)
  /-- FALLBACK_COMPLETE. The fallback MAC array finishes the work of a tile, layer or out-of-range column and delivers its
  exact outputs to the accumulators (R114). -/
  | fallbackComplete (c : Nat)
  /-- PERST_N_HIGH. PERST_N is deasserted, ending the reset it held and letting the PCIe link train (R378). -/
  | perstNHigh
  /-- PCIE_LINK_UP. The PCIe link finishes training and comes up again after a link down, hot reset or PERST_N (R377). -/
  | pcieLinkUp
  /-- REFCLK_156_PRESENT. REFCLK_156 appears or returns, part time starts counting, REF156_OK sets and a held bring-up
  continues toward stage FIRMWARE (R390). `lockFail`: a PLL does not lock. -/
  | refclk156Present (lockFail : Bool)
  /-- REFCLK_WAIT_TIMEOUT. REFCLK_156 is still absent 1 s after stage LINK, and bring-up stops with FAULT_CODE 3 (R390). -/
  | refclkWaitTimeout
  /-- PARTNER_SET_TIMEOUT. A new partner named by JOURNAL_PARTNER SET does not answer within 100 ms, and the command
  completes with NO_PARTNER (R340). -/
  | partnerSetTimeout
  /-- NVME_KEEP_ALIVE. The keep-alive interval KATO of a connected NVMe/TCP controller runs out, and the part sends Keep
  Alive (R324). -/
  | nvmeKeepAlive (c : Nat)
  /-- ETH_LINK_UP. An enabled Ethernet-mode link completes auto-negotiation and training and comes up, setting ETH_UP
  (R317). -/
  | ethLinkUp (l : Nat)
  /-- ETH_FRAME_RECEIVE. An Ethernet frame arrives on an Ethernet link and is handled as ARP, NDP, ICMP echo or TCP segment
  (R317). -/
  | ethFrameReceive (l : Nat) (f : EthArrival)
  /-- INGRESS_DATA. Bytes arrive on a claimed ingress connection and fill the session's submission units, or overrun them
  (R318). -/
  | ingressData (conn : Nat) (b : Bytes)
  /-- STOP_ACK. The last stop acknowledgement of the dies reaches the AON island, STOPPED is recorded and FROZEN_N is driven
  low (R465). -/
  | stopAck
  /-- ARRAY_READ_COMPLETE. The read pulse and conversion started at Update-DR finish, and the row data becomes available for
  the next Capture-DR (R474). -/
  | arrayReadComplete
  /-- TAP_RESET. TRST_N low or five TMS-high cycles put the TAP into Test-Logic-Reset and select IDCODE (R471). -/
  | tapReset
  /-- UCIE_LANE_REPAIR. A UCIe lane fails, and the module repairs it onto a redundant lane, raising REPAIRED (R15). -/
  | ucieLaneRepair (d q : Nat)
  /-- ADAPTER_CRC_RETRY. A UCIe adapter flit fails CRC, is counted in CRC_ERR and is retried, which is counted in RETRY
  (R19). -/
  | adapterCrcRetry (d q : Nat)
deriving DecidableEq, Repr

end Sys2Proof
end

