-- ==== Sys2Proof/Decode.lean ====
section
/-! DEFINITION. Decode: the words that spell commands. The block is driven by commands from outside and no row of the opcode
table gives an encoding of its own, so no word spells one. (A host command's packet is decoded where it is taken: R243, R259.) -/
namespace Sys2Proof

/-- The command that a word of the opcode table spells: none, since no row of the table has bits. -/
def decodeTableWord (_nbits _w : Nat) : Option Instr := none

end Sys2Proof
end

