-- ==== Sys2Proof/Machine/Bytes.lean ====
section
/-! DEFINITION. Bytes: little-endian fields of packets and records (R4), bit fields of register words, and the arithmetic helpers
that the chapters share. -/
namespace Sys2Proof.Machine

/-- The number that a little-endian byte list spells (R4). -/
def leNat : Bytes → Nat
  | [] => 0
  | b :: bs => b.toNat + 256 * leNat bs

/-- `n` bytes of `v`, little-endian (R4). -/
def leBytes : Nat → Nat → Bytes
  | 0, _ => []
  | n + 1, v => BitVec.ofNat 8 v :: leBytes n (v / 256)

/-- The number that a big-endian byte list spells (values whose order a standard fixes, R4). -/
def beNat (bs : Bytes) : Nat := leNat bs.reverse

/-- `n` bytes of `v`, big-endian. -/
def beBytes (n v : Nat) : Bytes := (leBytes n v).reverse

/-- `n` bytes of a packet from offset `off`; bytes past its end are absent. -/
def slice (b : Bytes) (off n : Nat) : Bytes := (b.drop off).take n

/-- The little-endian field of `n` bytes at offset `off` (R4); absent bytes read zero. -/
def fld (b : Bytes) (off n : Nat) : Nat := leNat (slice b off n)

/-- Every byte of `b` from `off` on, `n` of them, is zero (reserved bytes, R261 step 6). -/
def zeros (b : Bytes) (off n : Nat) : Bool := (slice b off n).all (· == 0)

/-- `n` zero bytes. -/
def zpad (n : Nat) : Bytes := List.replicate n 0

/-- `b` padded with zeros to `n` bytes. -/
def padTo (n : Nat) (b : Bytes) : Bytes := b ++ zpad (n - b.length)

/-- `b` padded with zeros to a multiple of 16 bytes (R265). -/
def pad16 (b : Bytes) : Bytes := b ++ zpad ((16 - b.length % 16) % 16)

/-- Ceiling division. -/
def cdiv (a b : Nat) : Nat := (a + b - 1) / b

/-- Bits `lo` to `lo + w - 1` of a register word. -/
def getBits (v : Word64) (lo w : Nat) : Nat := (v.toNat >>> lo) % 2 ^ w

/-- `v` with bits `lo` to `lo + w - 1` replaced by `x` modulo `2 ^ w`. -/
def setBits (v : Word64) (lo w x : Nat) : Word64 :=
  BitVec.ofNat 64 (v.toNat % 2 ^ lo + (x % 2 ^ w) * 2 ^ lo + (v.toNat / 2 ^ (lo + w)) * 2 ^ (lo + w))

/-- The mask with ones in bits `lo` to `lo + w - 1`. -/
def maskBits (lo w : Nat) : Word64 := BitVec.ofNat 64 ((2 ^ w - 1) * 2 ^ lo)

/-- A register word from its fields: (lowest bit, width, value). -/
def packBits : List (Nat × Nat × Nat) → Word64
  | [] => 0
  | (lo, w, x) :: r => setBits (packBits r) lo w x

/-- The eight bytes of a register word. -/
def wordBytes (v : Word64) : Bytes := leBytes 8 v.toNat

/-- A Bool as a bit. -/
def bit (b : Bool) : Nat := if b then 1 else 0

/-- Addition that saturates at the largest value of `w` bits (the counters of the register tables). -/
def satAdd (w a n : Nat) : Nat := min (a + n) (2 ^ w - 1)

/-- An integer clipped to a range. -/
def clipInt (lo hi x : Int) : Int := if x < lo then lo else if hi < x then hi else x

/-- The two's complement value of `w` bits. -/
def sext (w v : Nat) : Int := if v % 2 ^ w < 2 ^ (w - 1) then ↑(v % 2 ^ w) else ↑(v % 2 ^ w) - ↑(2 ^ w)

/-- The `w`-bit two's complement pattern of an integer. -/
def toBits (w : Nat) (x : Int) : Nat := (x % (2 ^ w : Int)).toNat

/-- The element at an index of a list, or a default. -/
def nth {α : Type} (d : α) : List α → Nat → α
  | [], _ => d
  | x :: _, 0 => x
  | _ :: xs, n + 1 => nth d xs n

/-- A list with the element at an index replaced; indexes past the end change nothing. -/
def setNth {α : Type} : List α → Nat → α → List α
  | [], _, _ => []
  | _ :: xs, 0, v => v :: xs
  | x :: xs, n + 1, v => x :: setNth xs n v

/-- The first element that meets a test, with its place removed from the list. -/
def takeFirst {α : Type} (q : α → Bool) : List α → Option (α × List α)
  | [] => none
  | x :: xs =>
    if q x then some (x, xs)
    else match takeFirst q xs with
      | none => none
      | some (y, ys) => some (y, x :: ys)

/-- One bit of the CRC-16 of R61: polynomial 0x1021, no reflection. -/
def crcBit (c : Nat) : Nat := if 0x8000 ≤ c then (c * 2 % 65536) ^^^ 0x1021 else c * 2

/-- One byte of the CRC-16 of R61. -/
def crcByte (c : Nat) (b : Byte) : Nat :=
  crcBit (crcBit (crcBit (crcBit (crcBit (crcBit (crcBit (crcBit (c ^^^ (b.toNat * 256)))))))))

/-- CRC-16 over a byte list, initial value 0xFFFF, no final XOR (R61, R442). -/
def crc16 (bs : Bytes) : Nat := bs.foldl crcByte 0xFFFF

/-- The bytes of an ASCII string. -/
def ascii (s : String) : Bytes := s.toList.map fun c => BitVec.ofNat 8 c.toNat

/-- The sum of a list of numbers. -/
def sumNat : List Nat → Nat
  | [] => 0
  | x :: xs => x + sumNat xs

/-- The sum of a list of integers. -/
def sumInt : List Int → Int
  | [] => 0
  | x :: xs => x + sumInt xs

end Sys2Proof.Machine
end

