-- ==== Sys2Proof/Machine/Float.lean ====
section
/-! DEFINITION. Float: the floating-point formats of R130 to R133 as exact rationals rounded once per operation, and the
stochastic rounding function of R108. -/
namespace Sys2Proof.Machine

/-- A rational number `n / d` with the sign of a zero (`nz`: the value is −0), as IEEE 754 results have it; `d` is never zero in a value
that an operation below answers. -/
structure Q where
  n : Int
  d : Nat
  nz : Bool
deriving DecidableEq, Repr

/-- A quotient of integers, a zero being +0. -/
def Q.of (n : Int) (d : Nat) : Q := ⟨n, d, false⟩

/-- An integer as a rational. -/
def Q.ofInt (n : Int) : Q := Q.of n 1

/-- Zero. -/
def Q.zero : Q := Q.of 0 1

/-- The value has a minus sign, −0 included. -/
def Q.minus (a : Q) : Bool := decide (a.n < 0) || (a.n == 0 && a.nz)

/-- Exact sum; a sum of zero is −0 only where both operands are −0. -/
def Q.add (a b : Q) : Q :=
  let nz := a.n == 0 && b.n == 0 && a.nz && b.nz
  if a.d = b.d then ⟨a.n + b.n, a.d, nz⟩ else ⟨a.n * b.d + b.n * a.d, a.d * b.d, nz⟩

/-- Exact negation. -/
def Q.neg (a : Q) : Q := ⟨-a.n, a.d, !a.nz⟩

/-- Exact difference. -/
def Q.sub (a b : Q) : Q := a.add b.neg

/-- Exact product. -/
def Q.mul (a b : Q) : Q := ⟨a.n * b.n, a.d * b.d, a.minus != b.minus⟩

/-- Exact quotient; the quotient by zero is written with denominator 0 (`Q.bad`). -/
def Q.div (a b : Q) : Q :=
  if b.n < 0 then ⟨-(a.n * b.d), a.d * b.n.natAbs, !a.minus⟩ else ⟨a.n * b.d, a.d * b.n.natAbs, a.minus != b.minus⟩

/-- A quotient by zero: not finite. -/
def Q.bad (a : Q) : Bool := a.d == 0

/-- a < b. -/
def Q.lt (a b : Q) : Bool := decide (a.n * b.d < b.n * a.d)

/-- a ≤ b. -/
def Q.le (a b : Q) : Bool := decide (a.n * b.d ≤ b.n * a.d)

/-- Magnitude. -/
def Q.abs (a : Q) : Q := Q.of a.n.natAbs a.d

/-- Multiplication by a power of two. -/
def Q.scale (a : Q) (e : Int) : Q := if 0 ≤ e then ⟨a.n * (2 ^ e.toNat : Nat), a.d, a.nz⟩ else ⟨a.n, a.d * 2 ^ (-e).toNat, a.nz⟩

/-- Floor to an integer. -/
def Q.floor (a : Q) : Int := a.n / (a.d : Int)

/-- Round a non-negative fraction to the nearest integer, ties to even. -/
def roundNat (n d : Nat) : Nat :=
  let q := n / d
  let r := n % d
  if 2 * r < d then q else if d < 2 * r then q + 1 else if q % 2 = 0 then q else q + 1

/-- Round to the nearest integer, ties to even. -/
def Q.round (a : Q) : Int := if a.n < 0 then -(roundNat a.n.natAbs a.d : Int) else roundNat a.n.natAbs a.d

/-- The exponent e with 2^e ≤ n / d < 2^(e + 1), for n > 0. -/
def ilog2 (n d : Nat) : Int :=
  let e : Int := (Nat.log2 n : Int) - (Nat.log2 d : Int)
  if 0 ≤ e then (if n < d * 2 ^ e.toNat then e - 1 else e) else (if n * 2 ^ (-e).toNat < d then e - 1 else e)

/-- A floating-point format: bits of precision, exponent of the least subnormal, and the largest finite magnitude (R130 to
R132). -/
structure Fmt where
  p : Nat
  emin : Int
  top : Q
deriving DecidableEq, Repr

/-- IEEE 754 binary32. -/
def binary32 : Fmt := ⟨24, -149, Q.of ((2 ^ 24 - 1) * 2 ^ 104) 1⟩
/-- IEEE 754 binary64. -/
def binary64 : Fmt := ⟨53, -1074, Q.of ((2 ^ 53 - 1) * 2 ^ 971) 1⟩
/-- BF16. -/
def bfloat16 : Fmt := ⟨8, -133, Q.of ((2 ^ 8 - 1) * 2 ^ 120) 1⟩
/-- FP8 E4M3 (R130). -/
def e4m3 : Fmt := ⟨4, -9, Q.of 448 1⟩
/-- FP8 E5M2 (R131). -/
def e5m2 : Fmt := ⟨3, -16, Q.of 57344 1⟩

/-- The quantum exponent of a value in a format. -/
def Fmt.quantum (f : Fmt) (a : Q) : Int := max (ilog2 a.n.natAbs a.d - ((f.p : Int) - 1)) f.emin

/-- The exact value rounded to nearest, ties to even, without a range limit (R132); a zero keeps the sign of what was rounded. -/
def Fmt.near (f : Fmt) (a : Q) : Q :=
  if a.n = 0 then ⟨0, 1, a.nz⟩
  else { (Q.ofInt (a.scale (-(f.quantum a))).round).scale (f.quantum a) with nz := decide (a.n < 0) }

/-- The exact value rounded to a format and held at its largest finite magnitude (R133). -/
def Fmt.rnd (f : Fmt) (a : Q) : Q :=
  let b := f.near a
  if f.top.lt b.abs then (if b.n < 0 then f.top.neg else f.top) else b

/-- The rounded value exceeds the format: a saturation of R133. -/
def Fmt.ovf (f : Fmt) (a : Q) : Bool := f.top.lt (f.near a).abs

/-- binary32 sum, difference, product and quotient (R93, R139). -/
def fadd (a b : Q) : Q := binary32.rnd (a.add b)
/-- binary32 difference. -/
def fsub (a b : Q) : Q := binary32.rnd (a.sub b)
/-- binary32 product. -/
def fmul (a b : Q) : Q := binary32.rnd (a.mul b)
/-- binary32 quotient. -/
def fdiv (a b : Q) : Q := binary32.rnd (a.div b)

/-- The bit pattern of a finite value of a format with `w` exponent bits and bias `bias` (R130 to R132). -/
def Fmt.encode (f : Fmt) (w : Nat) (a : Q) : Nat :=
  let sign := if a.minus then 2 ^ (w + f.p - 1) else 0
  if a.n = 0 then sign
  else
    let q := f.quantum a
    let m := (a.abs.scale (-q)).round.toNat
    sign + (if q = f.emin ∧ m < 2 ^ (f.p - 1) then m else ((q - f.emin + 1).toNat) * 2 ^ (f.p - 1) + (m - 2 ^ (f.p - 1)))

/-- The value of a finite bit pattern of a format with `w` exponent bits. -/
def Fmt.decode (f : Fmt) (w v : Nat) : Q :=
  let m := v % 2 ^ (f.p - 1)
  let e := v / 2 ^ (f.p - 1) % 2 ^ w
  let a := if e = 0 then (Q.ofInt m).scale f.emin else (Q.ofInt (m + 2 ^ (f.p - 1))).scale (f.emin + (e : Int) - 1)
  if v / 2 ^ (w + f.p - 1) % 2 = 1 then a.neg else a

/-- binary32 pattern of a value. -/
def toF32 (a : Q) : Nat := binary32.encode 8 (binary32.rnd a)
/-- Value of a binary32 pattern. -/
def ofF32 (v : Nat) : Q := binary32.decode 8 v
/-- BF16 pattern of a value, rounded to nearest, ties to even (R133). -/
def toBf16 (a : Q) : Nat := bfloat16.encode 8 (bfloat16.rnd a)
/-- Value of a BF16 pattern. -/
def ofBf16 (v : Nat) : Q := bfloat16.decode 8 v

/-- BF16 pattern of a non-negative binary32 value rounded toward +∞ (R128). -/
def toBf16Up (a : Q) : Nat :=
  let b := bfloat16.near a
  let n := bfloat16.encode 8 b
  if b.lt a then n + 1 else n

/-- A BF16 pattern is positive and normal, and no greater than `top` (R125). -/
def stepOk (top : Nat) (v : Nat) : Bool := decide (0x0080 ≤ v ∧ v ≤ top)

/-- A binary32 pattern is finite. -/
def f32Finite (v : Nat) : Bool := v / 2 ^ 23 % 256 != 255

/-- A binary32 pattern is positive and normal. -/
def f32PosNormal (v : Nat) : Bool := decide (0x00800000 ≤ v ∧ v < 0x7F800000)

/-- mix64 of R108: all arithmetic modulo 2^64. -/
def mix64 (z : BitVec 64) : BitVec 64 :=
  let z := (z ^^^ (z >>> 30)) * 0xBF58476D1CE4E5B9#64
  let z := (z ^^^ (z >>> 27)) * 0x94D049BB133111EB#64
  z ^^^ (z >>> 31)

/-- stochastic_r of R108. -/
def stochasticR (seed : Word64) (layer slot pos element : Nat) : Nat :=
  let ctx := (BitVec.ofNat 64 layer <<< 48) ||| (BitVec.ofNat 64 slot <<< 34) ||| (BitVec.ofNat 64 pos <<< 17) |||
    BitVec.ofNat 64 (element % 131072)
  (mix64 (seed ^^^ ctx)).toNat % 65536

end Sys2Proof.Machine
end

