-- ==== Sys2Proof/Config.lean ====
section
/-! DEFINITION. Config: what the manual leaves open (free values) and what published standards fix (uninterpreted functions).
Every constant here is opaque: no proof can see its value. -/
namespace Sys2Proof

/-- A fresh free value for each count of `freeTick`: draws of the entropy source (R198, R277, R451, R462), undefined outcomes
of R348 and every other value the manual leaves open. -/
opaque Config.freeValue : Nat → BitVec 64

/-- SHA-512 (FIPS 180-4) of a byte string: 64 bytes as one number, big-endian. Uninterpreted. -/
opaque Config.sha512 : Bytes → BitVec 512

/-- ECDSA P-521 verification (FIPS 186-5): key, message, signature. Uninterpreted. -/
opaque Config.ecdsaVerify : Bytes → Bytes → Bytes → Bool

/-- ECDSA P-521 signing: secret key, message; 132 bytes as a number. Uninterpreted. -/
opaque Config.ecdsaSign : BitVec 528 → Bytes → BitVec 1056

/-- Public key of a P-521 secret key in the SIGNER_KEY form of R444: 133 bytes as a number. Uninterpreted. -/
opaque Config.p521Public : BitVec 528 → BitVec 1064

/-- x-coordinate of secret key times public point (SP 800-56A); none for a point that is not on the curve (R454). -/
opaque Config.ecdhX : BitVec 528 → Bytes → Option (BitVec 528)

/-- HKDF-SHA-512 (RFC 5869): input key, salt, info; the first 80 bytes of output as a number, big-endian. Uninterpreted. -/
opaque Config.hkdf : Bytes → Bytes → Bytes → BitVec 640

/-- AES-256-GCM encryption (SP 800-38D): key, nonce, associated data, plaintext; ciphertext followed by the 16-byte tag. -/
opaque Config.gcmSeal : BitVec 256 → Bytes → Bytes → Bytes → Bytes

/-- AES-256-GCM decryption: key, nonce, associated data, ciphertext, tag; none when the tag fails. -/
opaque Config.gcmOpen : BitVec 256 → Bytes → Bytes → Bytes → Bytes → Option Bytes

/-- The error of the exponential of attention and sampling (R189): the manual bounds it by two units in the last place and fixes no value.
The argument is a binary32 pattern; the remainder of the result by 5, less 2, is the error in units in the last place. -/
opaque Config.exp32 : BitVec 32 → BitVec 32

/-- The functions of the GRAPH section that the vector stage applies (R140): placement, function code and input elements. -/
opaque Config.vectorFn : Nat → Nat → List Int → List Int

/-- The SHA-512 digests of the four Staolmette root public keys in the boot ROM (R443). -/
opaque Config.rootDigest : Nat → BitVec 512

/-- The BCH correction of the identity macro (R438): raw bits and helper data; none when more than 40 bits are in error. -/
opaque Config.bchCorrect : Bytes → Bytes → Option Bytes

/-- The length of the boundary register of a stepping (R471): in the stepping's BSDL file. -/
opaque Config.boundaryLen : Nat → Nat

/-- What the boundary cells capture (R471), for each count of `freeTick`: their places are in the BSDL file. -/
opaque Config.boundaryCapture : Nat → Nat

/-- The length of a scan chain (R471): stepping, die and chain. The scan map gives it. -/
opaque Config.chainLen : Nat → Nat → Nat → Nat

/-- A bit of a scan chain (R471): the freeze it was frozen by, die, chain and place. The scan map says what it stands for. -/
opaque Config.scanBit : Nat → Nat → Nat → Nat → Bool

/-- What a bit of a chain belongs to (R473), by stepping, die, chain and position, as the scan map has it: 1 storage of weights, activations,
keys, values or token identifiers, 2 the CTL key store or the key registers of a staging engine, any other number the rest. -/
opaque Config.scanKind : Nat → Nat → Nat → Nat → Nat

end Sys2Proof
end

