-- ==== Sys2Proof/Machine/Store.lean ====
section
/-! DEFINITION. Store: sparse tables and byte memories as lists of (key, value) pairs in one canonical form: keys strictly rising
and no entry equal to what an unlisted key reads as. -/
namespace Sys2Proof.Machine

/-- The value listed under a key. -/
def mfind {α : Type} : List (Nat × α) → Nat → Option α
  | [], _ => none
  | (k', v) :: r, k => if k' = k then some v else mfind r k

/-- The value under a key, or the default `d` of an unlisted key. -/
def mget {α : Type} (d : α) (m : List (Nat × α)) (k : Nat) : α := (mfind m k).getD d

/-- Remove a key. -/
def merase {α : Type} : List (Nat × α) → Nat → List (Nat × α)
  | [], _ => []
  | (k', v) :: r, k => if k' = k then merase r k else (k', v) :: merase r k

/-- Put a value under a key, keeping the keys in rising order. -/
def minsert {α : Type} : List (Nat × α) → Nat → α → List (Nat × α)
  | [], k, v => [(k, v)]
  | (k', v') :: r, k, v =>
    if k < k' then (k, v) :: (k', v') :: r
    else if k = k' then (k, v) :: r
    else (k', v') :: minsert r k v

/-- Write a value under a key; writing the default removes the entry, so equal tables are equal lists. -/
def mset {α : Type} [DecidableEq α] (d : α) (m : List (Nat × α)) (k : Nat) (v : α) : List (Nat × α) :=
  if v = d then merase m k else minsert m k v

/-- Apply a function to the value under a key. -/
def mmod {α : Type} [DecidableEq α] (d : α) (m : List (Nat × α)) (k : Nat) (f : α → α) : List (Nat × α) :=
  mset d m k (f (mget d m k))

/-- Every key of the table lies above a bound. -/
def mabove {α : Type} (b : Nat) : List (Nat × α) → Bool
  | [] => true
  | (k, _) :: r => decide (b < k) && mabove b r

/-- The canonical form of a table: keys strictly rising, no entry equal to the default. -/
def mwf {α : Type} [DecidableEq α] (d : α) : List (Nat × α) → Bool
  | [] => true
  | (k, v) :: r => decide (v ≠ d) && mabove k r && mwf d r

/-- A byte memory (Host.Cell pairs). An unlisted byte reads zero: DESIGN CHOICE, log entry 4. -/
abbrev Memory := List Host.Cell

/-- The canonical form of a byte memory. -/
def Memory.wf (m : Memory) : Bool := mwf (0 : Byte) m

/-- One byte of a memory. -/
def memRead (m : Memory) (a : Nat) : Byte := mget (0 : Byte) m a

/-- Write one byte. -/
def memWrite (m : Memory) (a : Nat) (b : Byte) : Memory := mset (0 : Byte) m a b

/-- `n` bytes from address `a` on. -/
def memReadN (m : Memory) (a : Nat) : Nat → Bytes
  | 0 => []
  | n + 1 => memRead m a :: memReadN m (a + 1) n

/-- Write a byte list from address `a` on. -/
def memWriteN (m : Memory) (a : Nat) : Bytes → Memory
  | [] => m
  | b :: bs => memWriteN (memWrite m a b) (a + 1) bs

end Sys2Proof.Machine
end

