-- ==== Sys2Proof/Machine/RegTable.lean ====
section
/-! DEFINITION. RegTable: the register tables of every chapter: offset, index strides, width and the fields that a write touches
(RW, WC and WO, R7) with their reset values (R10). Read-only fields are views of the typed state, in RegView. -/
namespace Sys2Proof.Machine

/-- The kinds of die whose windows hold registers (R5). -/
inductive DieKind where
  | ctl | iod | wsd | lkd | cxd | acd | any
deriving DecidableEq, Repr

/-- The kind of a die number (R13). -/
def dieKind (d : Nat) : DieKind :=
  if d = 0 then .ctl else if d = 1 then .iod else if d ≤ 3 then .wsd else if d ≤ 7 then .lkd
  else if d ≤ 11 then .cxd else if d ≤ 19 then .acd else .any

/-- Access codes of R7. -/
inductive Access where
  | rw | wc | wo
deriving DecidableEq, Repr

/-- The registers of the part, one name for each register table. -/
inductive RegName where
  | d2dPortStatus | tileCfg | tileStatus | tileBankInfoA | tileBankInfoB | tileBankOwnerA | tileBankOwnerB
  | tileBankWearA | tileBankWearB | tileMap | clusterCfg | clusterStatus | clusterCnt | convCfg | convCalCmd
  | convCtl | convStatus | convClip | convQueue | convTrim | convRange | convCap | tpCtl | tpSeed | tpSliceStatus
  | tpSliceCnt | tpSliceCnt2 | annealStatus | tpDrift | tpColcorr | numSliceCnt | stgStatus | stgCnt
  | scrubStatus | nvmeConn | modelEnt0 | modelEnt1 | modelEnt2 | modelEnt3 | kvCfg | kvPool | kvCnt | attCnt
  | patrol | stackStatus | stackUeAddr | kvSeq | srvStatus | srvCnt | srvCnt2 | grammar | srvReq | srvReq2
  | sampCnt | sessStatus | sessStatus2 | sessCnt | d2dTimeout | cmdCnt | fabCfg | fabPort | fabCnt | fabCnt2
  | fabSlice | fabSlice2 | linkStatus | linkCnt | jrnCfg | jrnStatus | jrnSrc | jrnCnt | partEvent | evcGate
  | evcLine | evcCore | evcClaim | evcComplete | evcSoftSet | evcCnt | mboxData | mboxSend | mboxRx | mboxStatus
  | polCfg | polCnt | polRingPop | polRingHi | polRank | acdBands | bootStatus | rstCtl | rstCause | rstCfg
  | partTime | clkStatus | calStatus | pwrDomain | pwrGov | pwrWake | pwrLimit | vinMon | pwrCnt | tsSensor
  | tsStatus | thermStatus | thermCnt | tsenseCfg | tsenseStatus | quenchRec | idSerial | idInfo | idCounters
  | idBoot | secStatus | fzStatus | fzTime | traceStatus | traceCnt
deriving DecidableEq, Repr

/-- One field that a write touches: lowest bit, width, access and reset value. -/
structure RegField where
  lo : Nat
  width : Nat
  acc : Access
  reset : Nat
deriving DecidableEq, Repr

/-- One register table: the die kind, the offset in the window, (stride, count) per index, the width in bits and the fields
that a write touches. -/
structure RegDesc where
  name : RegName
  kind : DieKind
  off : Nat
  dims : List (Nat × Nat)
  width : Nat
  fields : List RegField
deriving DecidableEq, Repr

/-- Register tables, part 0. -/
def regTable0 : List RegDesc :=
  [ ⟨.d2dPortStatus, .any, 0x800, [(0x8, 32)], 64, [⟨16, 16, .wc, 0x0⟩, ⟨32, 16, .wc, 0x0⟩, ⟨48, 16, .wc, 0x0⟩]⟩,
    ⟨.tileCfg, .acd, 0x100000, [(0x40, 1024)], 64, [⟨0, 1, .rw, 0x0⟩, ⟨1, 1, .rw, 0x0⟩]⟩,
    ⟨.tileStatus, .acd, 0x100008, [(0x40, 1024)], 64, [⟨16, 16, .wc, 0x0⟩, ⟨32, 16, .wc, 0x0⟩, ⟨48, 8, .wc, 0x0⟩, ⟨56, 8, .wc, 0x0⟩]⟩,
    ⟨.tileBankInfoA, .acd, 0x100010, [(0x40, 1024)], 64, []⟩,
    ⟨.tileBankInfoB, .acd, 0x100018, [(0x40, 1024)], 64, []⟩,
    ⟨.tileBankOwnerA, .acd, 0x100020, [(0x40, 1024)], 64, []⟩,
    ⟨.tileBankOwnerB, .acd, 0x100028, [(0x40, 1024)], 64, []⟩,
    ⟨.tileBankWearA, .acd, 0x100030, [(0x40, 1024)], 64, []⟩,
    ⟨.tileBankWearB, .acd, 0x100038, [(0x40, 1024)], 64, []⟩,
    ⟨.tileMap, .acd, 0x200000, [(0x100, 1024), (0x80, 2), (0x8, 9)], 64, []⟩,
    ⟨.clusterCfg, .acd, 0x80000, [(0x20, 16)], 64, [⟨0, 1, .rw, 0x1⟩]⟩,
    ⟨.clusterStatus, .acd, 0x80008, [(0x20, 16)], 64, []⟩,
    ⟨.clusterCnt, .acd, 0x80010, [(0x20, 16)], 64, [⟨48, 16, .wc, 0x0⟩]⟩,
    ⟨.convCfg, .acd, 0x300000, [(0x40, 1024)], 64, [⟨0, 2, .rw, 0x0⟩, ⟨2, 2, .rw, 0x0⟩, ⟨4, 2, .rw, 0x0⟩, ⟨6, 9, .rw, 0x0⟩]⟩,
    ⟨.convCalCmd, .acd, 0x300008, [(0x40, 1024)], 64, [⟨0, 10, .wo, 0x0⟩, ⟨10, 2, .wo, 0x0⟩, ⟨12, 1, .wo, 0x0⟩, ⟨13, 1, .wo, 0x0⟩, ⟨14, 1, .wo, 0x0⟩, ⟨15, 1, .wo, 0x0⟩, ⟨16, 9, .wo, 0x0⟩, ⟨25, 1, .wo, 0x0⟩, ⟨32, 16, .wo, 0x0⟩]⟩,
    ⟨.convCtl, .acd, 0x300010, [(0x40, 1024)], 64, [⟨0, 1, .wo, 0x0⟩, ⟨1, 1, .wo, 0x0⟩]⟩,
    ⟨.convStatus, .acd, 0x300018, [(0x40, 1024)], 64, [⟨1, 1, .wc, 0x0⟩, ⟨16, 16, .wc, 0x0⟩, ⟨32, 16, .wc, 0x0⟩, ⟨48, 16, .wc, 0x0⟩]⟩,
    ⟨.convClip, .acd, 0x300020, [(0x40, 1024)], 64, [⟨0, 32, .wc, 0x0⟩, ⟨32, 16, .wc, 0x0⟩, ⟨48, 16, .wc, 0x0⟩]⟩,
    ⟨.convQueue, .acd, 0x300028, [(0x40, 1024)], 64, [⟨32, 9, .rw, 0x0⟩]⟩,
    ⟨.convTrim, .acd, 0x300030, [(0x40, 1024)], 64, []⟩ ]

/-- Register tables, part 1. -/
def regTable1 : List RegDesc :=
  [ ⟨.convRange, .acd, 0x400000, [(0x100, 1024), (0x80, 2), (0x8, 8)], 64, []⟩,
    ⟨.convCap, .acd, 0x1000000, [(0x1000, 1024), (0x8, 512)], 64, []⟩,
    ⟨.tpCtl, .acd, 0x500000, [], 64, [⟨0, 1, .rw, 0x0⟩, ⟨1, 1, .rw, 0x0⟩]⟩,
    ⟨.tpSeed, .acd, 0x500008, [], 64, [⟨0, 64, .rw, 0x0⟩]⟩,
    ⟨.tpSliceStatus, .acd, 0x500100, [(0x40, 16)], 64, []⟩,
    ⟨.tpSliceCnt, .acd, 0x500108, [(0x40, 16)], 64, [⟨0, 32, .wc, 0x0⟩, ⟨32, 16, .wc, 0x0⟩, ⟨48, 16, .wc, 0x0⟩]⟩,
    ⟨.tpSliceCnt2, .acd, 0x500110, [(0x40, 16)], 64, [⟨0, 32, .wc, 0x0⟩, ⟨32, 16, .wc, 0x0⟩, ⟨48, 16, .wc, 0x0⟩]⟩,
    ⟨.annealStatus, .acd, 0x500800, [], 64, [⟨48, 16, .wc, 0x0⟩]⟩,
    ⟨.tpDrift, .acd, 0x600000, [(0x10, 1024), (0x8, 2)], 64, []⟩,
    ⟨.tpColcorr, .acd, 0x2000000, [(0x1000, 1024), (0x800, 2), (0x4, 512)], 32, []⟩,
    ⟨.numSliceCnt, .acd, 0x500118, [(0x40, 16)], 64, [⟨0, 16, .wc, 0x0⟩, ⟨16, 16, .wc, 0x0⟩, ⟨32, 16, .wc, 0x0⟩, ⟨48, 16, .wc, 0x0⟩]⟩,
    ⟨.stgStatus, .wsd, 0x10000, [], 64, []⟩,
    ⟨.stgCnt, .wsd, 0x10008, [], 64, [⟨0, 32, .wc, 0x0⟩, ⟨32, 16, .wc, 0x0⟩, ⟨48, 16, .wc, 0x0⟩]⟩,
    ⟨.scrubStatus, .wsd, 0x10010, [], 64, [⟨0, 32, .wc, 0x0⟩, ⟨32, 16, .wc, 0x0⟩]⟩,
    ⟨.nvmeConn, .wsd, 0x10100, [(0x8, 8)], 64, [⟨16, 16, .wc, 0x0⟩, ⟨32, 16, .wc, 0x0⟩]⟩,
    ⟨.modelEnt0, .ctl, 0x1000000, [(0x20, 8192)], 64, []⟩,
    ⟨.modelEnt1, .ctl, 0x1000008, [(0x20, 8192)], 64, []⟩,
    ⟨.modelEnt2, .ctl, 0x1000010, [(0x20, 8192)], 64, []⟩,
    ⟨.modelEnt3, .ctl, 0x1000018, [(0x20, 8192)], 64, []⟩,
    ⟨.kvCfg, .ctl, 0x1100000, [], 64, [⟨0, 13, .rw, 0x594⟩]⟩ ]

/-- Register tables, part 2. -/
def regTable2 : List RegDesc :=
  [ ⟨.kvPool, .cxd, 0x20000, [], 64, []⟩,
    ⟨.kvCnt, .cxd, 0x20008, [], 64, [⟨0, 32, .wc, 0x0⟩, ⟨32, 16, .wc, 0x0⟩, ⟨48, 16, .wc, 0x0⟩]⟩,
    ⟨.attCnt, .cxd, 0x20010, [], 64, [⟨0, 32, .wc, 0x0⟩, ⟨32, 16, .wc, 0x0⟩, ⟨48, 16, .wc, 0x0⟩]⟩,
    ⟨.patrol, .cxd, 0x20018, [], 64, [⟨16, 32, .wc, 0x0⟩]⟩,
    ⟨.stackStatus, .cxd, 0x30000, [(0x20, 8)], 64, [⟨16, 32, .wc, 0x0⟩, ⟨48, 16, .wc, 0x0⟩]⟩,
    ⟨.stackUeAddr, .cxd, 0x30008, [(0x20, 8)], 64, []⟩,
    ⟨.kvSeq, .cxd, 0x100000, [(0x10, 16384)], 64, []⟩,
    ⟨.srvStatus, .ctl, 0x1200000, [], 64, []⟩,
    ⟨.srvCnt, .ctl, 0x1200008, [], 64, [⟨0, 16, .wc, 0x0⟩, ⟨16, 16, .wc, 0x0⟩, ⟨32, 16, .wc, 0x0⟩, ⟨48, 16, .wc, 0x0⟩]⟩,
    ⟨.srvCnt2, .ctl, 0x1200010, [], 64, [⟨0, 32, .wc, 0x0⟩, ⟨32, 16, .wc, 0x0⟩, ⟨48, 16, .wc, 0x0⟩]⟩,
    ⟨.grammar, .ctl, 0x1280000, [(0x8, 256)], 64, []⟩,
    ⟨.srvReq, .ctl, 0x1300000, [(0x10, 16384)], 64, []⟩,
    ⟨.srvReq2, .ctl, 0x1300008, [(0x10, 16384)], 64, []⟩,
    ⟨.sampCnt, .cxd, 0x40000, [], 64, [⟨0, 32, .wc, 0x0⟩, ⟨32, 16, .wc, 0x0⟩, ⟨48, 16, .wc, 0x0⟩]⟩,
    ⟨.sessStatus, .ctl, 0x1400000, [(0x40, 64)], 64, []⟩,
    ⟨.sessStatus2, .ctl, 0x1400008, [(0x40, 64)], 64, []⟩,
    ⟨.sessCnt, .ctl, 0x1400010, [(0x40, 64)], 64, [⟨0, 16, .wc, 0x0⟩, ⟨16, 16, .wc, 0x0⟩, ⟨32, 16, .wc, 0x0⟩, ⟨48, 16, .wc, 0x0⟩]⟩,
    ⟨.d2dTimeout, .ctl, 0x1401000, [], 64, [⟨0, 8, .rw, 0x5⟩, ⟨8, 8, .rw, 0x64⟩, ⟨16, 8, .rw, 0x32⟩, ⟨24, 8, .rw, 0x32⟩, ⟨32, 8, .rw, 0xc8⟩]⟩,
    ⟨.cmdCnt, .ctl, 0x1401008, [], 64, [⟨0, 16, .wc, 0x0⟩, ⟨16, 16, .wc, 0x0⟩, ⟨32, 16, .wc, 0x0⟩, ⟨48, 16, .wc, 0x0⟩]⟩,
    ⟨.fabCfg, .ctl, 0x1500000, [], 64, []⟩ ]

/-- Register tables, part 3. -/
def regTable3 : List RegDesc :=
  [ ⟨.fabPort, .ctl, 0x1500008, [(0x8, 6)], 64, []⟩,
    ⟨.fabCnt, .ctl, 0x1500040, [], 64, [⟨0, 16, .wc, 0x0⟩, ⟨16, 16, .wc, 0x0⟩, ⟨32, 16, .wc, 0x0⟩, ⟨48, 16, .wc, 0x0⟩]⟩,
    ⟨.fabCnt2, .ctl, 0x1500048, [], 64, [⟨0, 32, .wc, 0x0⟩, ⟨32, 16, .wc, 0x0⟩, ⟨48, 16, .wc, 0x0⟩]⟩,
    ⟨.fabSlice, .ctl, 0x1500100, [(0x10, 4)], 64, []⟩,
    ⟨.fabSlice2, .ctl, 0x1500108, [(0x10, 4)], 64, [⟨48, 16, .wc, 0x0⟩]⟩,
    ⟨.linkStatus, .lkd, 0x10000, [(0x10, 4)], 64, []⟩,
    ⟨.linkCnt, .lkd, 0x10008, [(0x10, 4)], 64, [⟨0, 32, .wc, 0x0⟩, ⟨32, 16, .wc, 0x0⟩, ⟨48, 16, .wc, 0x0⟩]⟩,
    ⟨.jrnCfg, .ctl, 0x1600000, [], 64, []⟩,
    ⟨.jrnStatus, .ctl, 0x1600008, [], 64, []⟩,
    ⟨.jrnSrc, .ctl, 0x1600010, [(0x8, 2)], 64, []⟩,
    ⟨.jrnCnt, .ctl, 0x1600020, [], 64, [⟨0, 32, .wc, 0x0⟩, ⟨32, 16, .wc, 0x0⟩, ⟨48, 16, .wc, 0x0⟩]⟩,
    ⟨.partEvent, .ctl, 0x1600028, [], 64, [⟨6, 1, .wc, 0x0⟩, ⟨7, 1, .wc, 0x0⟩, ⟨8, 1, .wc, 0x0⟩]⟩,
    ⟨.evcGate, .ctl, 0x1700000, [], 64, [⟨0, 1, .rw, 0x0⟩]⟩,
    ⟨.evcLine, .ctl, 0x1701000, [(0x8, 512)], 64, [⟨0, 4, .rw, 0x0⟩, ⟨4, 1, .rw, 0x0⟩, ⟨5, 1, .rw, 0x0⟩, ⟨6, 10, .rw, 0x0⟩, ⟨16, 24, .rw, 0x0⟩]⟩,
    ⟨.evcCore, .ctl, 0x1704000, [(0x40, 24)], 64, [⟨0, 4, .rw, 0x0⟩]⟩,
    ⟨.evcClaim, .ctl, 0x1704008, [(0x40, 24)], 64, []⟩,
    ⟨.evcComplete, .ctl, 0x1704010, [(0x40, 24)], 64, [⟨0, 10, .wo, 0x0⟩]⟩,
    ⟨.evcSoftSet, .ctl, 0x1700008, [], 64, [⟨0, 32, .wo, 0x0⟩]⟩,
    ⟨.evcCnt, .ctl, 0x1700010, [], 64, [⟨0, 32, .wc, 0x0⟩, ⟨32, 16, .wc, 0x0⟩, ⟨48, 8, .wc, 0x0⟩, ⟨56, 8, .wc, 0x0⟩]⟩,
    ⟨.mboxData, .ctl, 0x1800000, [(0x100, 24), (0x8, 8)], 64, [⟨0, 64, .wo, 0x0⟩]⟩ ]

/-- Register tables, part 4. -/
def regTable4 : List RegDesc :=
  [ ⟨.mboxSend, .ctl, 0x1800040, [(0x100, 24)], 64, [⟨0, 5, .wo, 0x0⟩]⟩,
    ⟨.mboxRx, .ctl, 0x1800080, [(0x100, 24), (0x8, 8)], 64, []⟩,
    ⟨.mboxStatus, .ctl, 0x18000c0, [(0x100, 24)], 64, [⟨32, 1, .wo, 0x0⟩]⟩,
    ⟨.polCfg, .ctl, 0x1900000, [], 64, [⟨0, 8, .rw, 0xff⟩, ⟨8, 1, .rw, 0x0⟩, ⟨32, 16, .rw, 0x14⟩]⟩,
    ⟨.polCnt, .ctl, 0x1900008, [], 64, [⟨0, 32, .wc, 0x0⟩, ⟨32, 16, .wc, 0x0⟩, ⟨48, 16, .wc, 0x0⟩]⟩,
    ⟨.polRingPop, .ctl, 0x1900010, [], 64, []⟩,
    ⟨.polRingHi, .ctl, 0x1900100, [(0x8, 24)], 64, []⟩,
    ⟨.polRank, .ctl, 0x1910000, [(0x8, 16384)], 64, [⟨0, 16, .rw, 0x8000⟩]⟩,
    ⟨.acdBands, .ctl, 0x1900200, [(0x8, 8)], 64, []⟩,
    ⟨.bootStatus, .iod, 0x1000, [], 64, []⟩,
    ⟨.rstCtl, .iod, 0x1008, [], 64, [⟨0, 16, .wo, 0x0⟩, ⟨16, 2, .wo, 0x0⟩]⟩,
    ⟨.rstCause, .iod, 0x1010, [], 64, []⟩,
    ⟨.rstCfg, .ctl, 0x1a00000, [], 64, [⟨0, 1, .rw, 0x0⟩]⟩,
    ⟨.partTime, .ctl, 0x1a00008, [], 64, []⟩,
    ⟨.clkStatus, .ctl, 0x1a00010, [], 64, []⟩,
    ⟨.calStatus, .acd, 0x81000, [], 64, [⟨32, 16, .wc, 0x0⟩]⟩,
    ⟨.pwrDomain, .iod, 0x2000, [(0x8, 20)], 64, [⟨48, 16, .wc, 0x0⟩]⟩,
    ⟨.pwrGov, .iod, 0x2100, [], 64, []⟩,
    ⟨.pwrWake, .iod, 0x2108, [], 64, [⟨0, 16, .wo, 0x0⟩]⟩,
    ⟨.pwrLimit, .iod, 0x2110, [], 64, []⟩ ]

/-- Register tables, part 5. -/
def regTable5 : List RegDesc :=
  [ ⟨.vinMon, .iod, 0x2118, [], 64, []⟩,
    ⟨.pwrCnt, .iod, 0x2120, [], 64, [⟨0, 32, .wc, 0x0⟩, ⟨32, 16, .wc, 0x0⟩, ⟨48, 16, .wc, 0x0⟩]⟩,
    ⟨.tsSensor, .any, 0x3000, [(0x8, 64)], 64, []⟩,
    ⟨.tsStatus, .any, 0x3200, [], 64, []⟩,
    ⟨.thermStatus, .iod, 0x3400, [], 64, []⟩,
    ⟨.thermCnt, .iod, 0x3408, [], 64, [⟨0, 32, .wc, 0x0⟩, ⟨32, 16, .wc, 0x0⟩, ⟨48, 16, .wc, 0x0⟩]⟩,
    ⟨.tsenseCfg, .iod, 0x3410, [(0x10, 4)], 64, [⟨0, 2, .rw, 0x0⟩, ⟨2, 1, .rw, 0x0⟩, ⟨4, 12, .rw, 0x408⟩, ⟨16, 16, .rw, 0xf1e⟩, ⟨32, 12, .rw, 0x190⟩]⟩,
    ⟨.tsenseStatus, .iod, 0x3418, [(0x10, 4)], 64, [⟨32, 16, .wc, 0x0⟩]⟩,
    ⟨.quenchRec, .iod, 0x3500, [(0x20, 16), (0x8, 4)], 64, []⟩,
    ⟨.idSerial, .iod, 0x4000, [], 64, []⟩,
    ⟨.idInfo, .iod, 0x4008, [], 64, []⟩,
    ⟨.idCounters, .iod, 0x4010, [], 64, []⟩,
    ⟨.idBoot, .iod, 0x4018, [], 64, []⟩,
    ⟨.secStatus, .ctl, 0x1b00000, [], 64, [⟨32, 16, .wc, 0x0⟩]⟩,
    ⟨.fzStatus, .iod, 0x5000, [], 64, []⟩,
    ⟨.fzTime, .iod, 0x5008, [], 64, []⟩,
    ⟨.traceStatus, .ctl, 0x1c00000, [], 64, []⟩,
    ⟨.traceCnt, .ctl, 0x1c00008, [], 64, [⟨32, 32, .wc, 0x0⟩]⟩ ]

/-- Every register table of the manual. -/
def regTable : List RegDesc :=
  regTable0 ++ regTable1 ++ regTable2 ++ regTable3 ++ regTable4 ++ regTable5

/-- The indexes that an offset past the base spells under a list of (stride, count), or none. -/
def splitIdx : List (Nat × Nat) → Nat → Option (List Nat)
  | [], r => if r = 0 then some [] else none
  | (st, n) :: ds, r =>
    if r / st < n then
      match splitIdx ds (r % st) with
      | none => none
      | some is => some (r / st :: is)
    else none

/-- The register of a table list at an offset of a die's window, with its indexes. -/
def findIn (k : DieKind) (off : Nat) : List RegDesc → Option (RegDesc × List Nat)
  | [] => none
  | d :: ds =>
    if (d.kind = k ∨ d.kind = .any) ∧ d.off ≤ off then
      match splitIdx d.dims (off - d.off) with
      | some is => some (d, is)
      | none => findIn k off ds
    else findIn k off ds

/-- The size of a die's window (R5). -/
def windowBytes : Nat := 0x4000000

/-- The register at an address of the part control space (R5, R6). -/
def findReg (addr : Nat) : Option (RegDesc × List Nat) :=
  if addr < 0x50000000 then findIn (dieKind (addr / windowBytes)) (addr % windowBytes) regTable else none

/-- The word that a register's writable fields hold after reset (R10). -/
def fieldsReset : List RegField → Word64
  | [] => 0
  | f :: fs => setBits (fieldsReset fs) f.lo f.width f.reset

/-- The stored word of an address after the reset of its domain. -/
def regReset (addr : Nat) : Word64 :=
  match findReg addr with
  | none => 0
  | some (d, _) => fieldsReset d.fields

/-- Address of DIE.D2D_PORT_STATUS. -/
def aD2dPortStatus (die : Nat) (p : Nat) : Nat := die * windowBytes + 0x800 + p * 0x8
/-- Address of ACD.TILE_CFG. -/
def aTileCfg (die : Nat) (n : Nat) : Nat := die * windowBytes + 0x100000 + n * 0x40
/-- Address of ACD.TILE_STATUS. -/
def aTileStatus (die : Nat) (n : Nat) : Nat := die * windowBytes + 0x100008 + n * 0x40
/-- Address of ACD.CLUSTER_CFG. -/
def aClusterCfg (die : Nat) (c : Nat) : Nat := die * windowBytes + 0x80000 + c * 0x20
/-- Address of ACD.CLUSTER_CNT. -/
def aClusterCnt (die : Nat) (c : Nat) : Nat := die * windowBytes + 0x80010 + c * 0x20
/-- Address of ACD.CONV_CFG. -/
def aConvCfg (die : Nat) (n : Nat) : Nat := die * windowBytes + 0x300000 + n * 0x40
/-- Address of ACD.CONV_CAL_CMD. -/
def aConvCalCmd (die : Nat) (n : Nat) : Nat := die * windowBytes + 0x300008 + n * 0x40
/-- Address of ACD.CONV_CTL. -/
def aConvCtl (die : Nat) (n : Nat) : Nat := die * windowBytes + 0x300010 + n * 0x40
/-- Address of ACD.CONV_STATUS. -/
def aConvStatus (die : Nat) (n : Nat) : Nat := die * windowBytes + 0x300018 + n * 0x40
/-- Address of ACD.CONV_CLIP. -/
def aConvClip (die : Nat) (n : Nat) : Nat := die * windowBytes + 0x300020 + n * 0x40
/-- Address of ACD.CONV_QUEUE. -/
def aConvQueue (die : Nat) (n : Nat) : Nat := die * windowBytes + 0x300028 + n * 0x40
/-- Address of ACD.TP_CTL. -/
def aTpCtl (die : Nat) : Nat := die * windowBytes + 0x500000
/-- Address of ACD.TP_SEED. -/
def aTpSeed (die : Nat) : Nat := die * windowBytes + 0x500008
/-- Address of ACD.TP_SLICE_CNT. -/
def aTpSliceCnt (die : Nat) (s : Nat) : Nat := die * windowBytes + 0x500108 + s * 0x40
/-- Address of ACD.TP_SLICE_CNT2. -/
def aTpSliceCnt2 (die : Nat) (s : Nat) : Nat := die * windowBytes + 0x500110 + s * 0x40
/-- Address of ACD.ANNEAL_STATUS. -/
def aAnnealStatus (die : Nat) : Nat := die * windowBytes + 0x500800
/-- Address of ACD.NUM_SLICE_CNT. -/
def aNumSliceCnt (die : Nat) (s : Nat) : Nat := die * windowBytes + 0x500118 + s * 0x40
/-- Address of WSD.STG_CNT. -/
def aStgCnt (die : Nat) : Nat := die * windowBytes + 0x10008
/-- Address of WSD.SCRUB_STATUS. -/
def aScrubStatus (die : Nat) : Nat := die * windowBytes + 0x10010
/-- Address of WSD.NVME_CONN. -/
def aNvmeConn (die : Nat) (c : Nat) : Nat := die * windowBytes + 0x10100 + c * 0x8
/-- Address of CTL.KV_CFG. -/
def aKvCfg : Nat := 0x1100000
/-- Address of CXD.KV_CNT. -/
def aKvCnt (die : Nat) : Nat := die * windowBytes + 0x20008
/-- Address of CXD.ATT_CNT. -/
def aAttCnt (die : Nat) : Nat := die * windowBytes + 0x20010
/-- Address of CXD.PATROL. -/
def aPatrol (die : Nat) : Nat := die * windowBytes + 0x20018
/-- Address of CXD.STACK_STATUS. -/
def aStackStatus (die : Nat) (k : Nat) : Nat := die * windowBytes + 0x30000 + k * 0x20
/-- Address of CTL.SRV_CNT. -/
def aSrvCnt : Nat := 0x1200008
/-- Address of CTL.SRV_CNT2. -/
def aSrvCnt2 : Nat := 0x1200010
/-- Address of CXD.SAMP_CNT. -/
def aSampCnt (die : Nat) : Nat := die * windowBytes + 0x40000
/-- Address of CTL.SESS_CNT. -/
def aSessCnt (s : Nat) : Nat := 0x1400010 + s * 0x40
/-- Address of CTL.D2D_TIMEOUT. -/
def aD2dTimeout : Nat := 0x1401000
/-- Address of CTL.CMD_CNT. -/
def aCmdCnt : Nat := 0x1401008
/-- Address of CTL.FAB_CNT. -/
def aFabCnt : Nat := 0x1500040
/-- Address of CTL.FAB_CNT2. -/
def aFabCnt2 : Nat := 0x1500048
/-- Address of CTL.FAB_SLICE2. -/
def aFabSlice2 (i : Nat) : Nat := 0x1500108 + i * 0x10
/-- Address of LKD.LINK_CNT. -/
def aLinkCnt (die : Nat) (l : Nat) : Nat := die * windowBytes + 0x10008 + l * 0x10
/-- Address of CTL.JRN_CNT. -/
def aJrnCnt : Nat := 0x1600020
/-- Address of CTL.PART_EVENT. -/
def aPartEvent : Nat := 0x1600028
/-- Address of CTL.EVC_GATE. -/
def aEvcGate : Nat := 0x1700000
/-- Address of CTL.EVC_LINE. -/
def aEvcLine (i : Nat) : Nat := 0x1701000 + i * 0x8
/-- Address of CTL.EVC_CORE. -/
def aEvcCore (c : Nat) : Nat := 0x1704000 + c * 0x40
/-- Address of CTL.EVC_COMPLETE. -/
def aEvcComplete (c : Nat) : Nat := 0x1704010 + c * 0x40
/-- Address of CTL.EVC_SOFT_SET. -/
def aEvcSoftSet : Nat := 0x1700008
/-- Address of CTL.EVC_CNT. -/
def aEvcCnt : Nat := 0x1700010
/-- Address of CTL.MBOX_DATA. -/
def aMboxData (c : Nat) (w : Nat) : Nat := 0x1800000 + c * 0x100 + w * 0x8
/-- Address of CTL.MBOX_SEND. -/
def aMboxSend (c : Nat) : Nat := 0x1800040 + c * 0x100
/-- Address of CTL.MBOX_STATUS. -/
def aMboxStatus (c : Nat) : Nat := 0x18000c0 + c * 0x100
/-- Address of CTL.POL_CFG. -/
def aPolCfg : Nat := 0x1900000
/-- Address of CTL.POL_CNT. -/
def aPolCnt : Nat := 0x1900008
/-- Address of CTL.POL_RANK. -/
def aPolRank (s : Nat) : Nat := 0x1910000 + s * 0x8
/-- Address of IOD.RST_CTL. -/
def aRstCtl : Nat := 0x4001008
/-- Address of CTL.RST_CFG. -/
def aRstCfg : Nat := 0x1a00000
/-- Address of ACD.CAL_STATUS. -/
def aCalStatus (die : Nat) : Nat := die * windowBytes + 0x81000
/-- Address of IOD.PWR_DOMAIN. -/
def aPwrDomain (d : Nat) : Nat := 0x4002000 + d * 0x8
/-- Address of IOD.PWR_WAKE. -/
def aPwrWake : Nat := 0x4002108
/-- Address of IOD.PWR_CNT. -/
def aPwrCnt : Nat := 0x4002120
/-- Address of IOD.THERM_CNT. -/
def aThermCnt : Nat := 0x4003408
/-- Address of IOD.TSENSE_CFG. -/
def aTsenseCfg (p : Nat) : Nat := 0x4003410 + p * 0x10
/-- Address of IOD.TSENSE_STATUS. -/
def aTsenseStatus (p : Nat) : Nat := 0x4003418 + p * 0x10
/-- Address of CTL.SEC_STATUS. -/
def aSecStatus : Nat := 0x1b00000
/-- Address of CTL.TRACE_CNT. -/
def aTraceCnt : Nat := 0x1c00008

end Sys2Proof.Machine
end

