-- ==== Sys2Proof/Machine/State.lean ====
section
/-! DEFINITION. State: everything the manual gives the part, as plain data, and its value after reset. -/
namespace Sys2Proof.Machine

/-! ### Stored register words (00) -/

/-- The stored RW and WC fields of registers by control-space address, an unlisted address holding its reset value (R10), and what the
WC fields counted in the present cycle: the cycle of REFCLK_156 that `hits` speaks of, and the counts by address (R8, log entry 140). -/
structure RegFile where
  words : List (Nat × Word64)
  cycle : Nat
  hits : List (Nat × Word64)
deriving DecidableEq, Repr

/-- Every register at its reset value, nothing counted. -/
def RegFile.reset : RegFile := { words := [], cycle := 0, hits := [] }

/-! ### Sessions and the host link (09, 11) -/

/-- Session states of R241. -/
inductive SessState where
  | closed
  | opened
  | faulted
deriving DecidableEq, Repr

/-- An A command past its start point (R244): it still owes exactly one reply. `key` names the object it works on, `id` is its number among
the commands that its session has started. -/
structure ACmd where
  op : Nat
  tag : Nat
  seq : Nat
  flags : Nat
  key : Nat
  id : Nat
deriving DecidableEq, Repr

/-- A reply that has been produced and waits for reply units (R247, R249). `owner` is REQUEST_ID plus 1 of the request
whose final token record this is, else 0 (R202, R334); `id` the number of the command which its writing releases, else 0 (R244). -/
structure Reply where
  op : Nat
  kind : Nat
  tag : Nat
  seq : Nat
  status : Nat
  body : Bytes
  owner : Nat
  id : Nat
deriving DecidableEq, Repr

/-- One host session (R236 to R258). `gran` lists the granules written and not yet taken; `out` is the model's record of the
replies written to host memory (ring byte offset and bytes); `unret` lists the units written and not yet returned. A packet in the queue is kept with the
state in which it was taken (R258), `curIn` that of the command in execution, whose number is `serial` (R244). -/
structure Session where
  st : SessState
  ifMinor : Nat
  cause : Nat
  takePtr : Nat
  unreported : Nat
  gran : List (Nat × Bytes)
  queue : List (Bytes × SessState)
  seqExpect : Nat
  ringAddr : Nat
  ringUnits : Nat
  replyPtr : Nat
  replyHeld : Nat
  phase : Bool
  intEn : Bool
  holdoff : Nat
  noticeMask : Nat
  feat0 : Nat
  feat2 : Nat
  cur : Option Bytes
  curIn : SessState
  serial : Nat
  hold : Option Nat
  running : List ACmd
  waiting : List Reply
  out : List (Nat × Bytes)
  resend : List (Nat × Bytes)
  unret : List (Nat × Nat)
  lastReply : Nat
  msixLast : Option Nat
  msixDue : Bool
  ingress : Bool
  claimed : Bool
  closing : Bool
  granted : Bool
deriving DecidableEq, Repr

/-- A session after the reset of domain 1: CLOSED, the host holding units 0 to 15 (R241). -/
def Session.reset : Session :=
  { st := .closed, ifMinor := 0, cause := 0, takePtr := 0, unreported := 0, gran := [], queue := [], seqExpect := 0,
    ringAddr := 0, ringUnits := 0, replyPtr := 0, replyHeld := 0, phase := false, intEn := false, holdoff := 0,
    noticeMask := 0, feat0 := 0, feat2 := 0, cur := none, curIn := .closed, serial := 0, hold := none, running := [], waiting := [], out := [], resend := [],
    unret := [], lastReply := 0, msixLast := none, msixDue := false, ingress := false, claimed := false, closing := false, granted := false }

/-- A host memory read that the part has issued and whose completion it awaits (R263, R330): what it is for, the session,
the address and the length. -/
structure HostRead where
  kind : Nat
  sess : Nat
  key : Nat
  addr : Nat
  len : Nat
deriving DecidableEq, Repr

/-- An entry of the MSI-X table (R235): message address, message data, and the mask bit of its vector control. -/
structure MsixEntry where
  addr : Nat
  data : Nat
  masked : Bool
deriving DecidableEq, Repr

/-- A table entry after the reset of the function. PRESUMED (log entry 178): masked, as PCI Express has it. -/
def MsixEntry.reset : MsixEntry := { addr := 0, data := 0, masked := true }

/-- The PCIe function (R235, R377): link state, Bus Master Enable, the MSI-X table by vector, MSI-X signals pending (the pending-bit array) and
sent, AER entries, and reads of host memory in progress. -/
structure HostLink where
  linkUp : Bool
  bme : Bool
  table : List (Nat × MsixEntry)
  msixPend : List Nat
  msixSent : List (Nat × Nat)
  aer : Nat
  reads : List HostRead
deriving DecidableEq, Repr

/-- The PCIe function after its reset. -/
def HostLink.reset : HostLink :=
  { linkUp := false, bme := false, table := [], msixPend := [], msixSent := [], aer := 0, reads := [] }

/-! ### Die-to-die (01, 09) -/

/-- One end of a UCIe module (R18, R19, R23, R24): STATE, REPAIRED, PEER_DIE, PEER_MOD, and by class the credits held, the credits of
this port's own receive buffers that are to be returned to the peer (`owed`), and the initial credits of each class (`full`). -/
structure Port where
  st : Nat
  repaired : Nat
  peerDie : Nat
  peerMod : Nat
  slow : Bool
  credits : List Nat
  owed : List Nat
  full : List Nat
deriving DecidableEq, Repr

/-- A port that is absent or down. -/
def Port.reset : Port := { st := 0, repaired := 0, peerDie := 0, peerMod := 0, slow := false, credits := [], owed := [], full := [] }

/-- A die message that a sending die or router holds until it is acknowledged (R17): the die, the port it goes out on, the instant the
die took it up, the port on which it came (32 for the die's own; its receive buffer is occupied until the message goes on, R24), and
whether it has gone out: until then it waits for credits of its class (R23). -/
structure HeldMsg where
  m : DieMsg
  holder : Nat
  port : Nat
  since : Nat
  inPort : Nat
  sent : Bool
deriving DecidableEq, Repr

/-- A message passed to its unit: arrival cycle and arrival port order it (R284). -/
structure Arrived where
  m : DieMsg
  cycle : Nat
  port : Nat
deriving DecidableEq, Repr

/-- A command-class die message that a CTL sequencer has issued (R288): its timer starts at `start`; `stopped` is the time it
has stood still while the destination cluster is hot; `sess` and `op` name the host command that waits (sess 64: none). -/
structure CtlCmd where
  tag : Nat
  seq : Nat
  die : Nat
  unit : Nat
  opcode : Nat
  start : Nat
  sess : Nat
deriving DecidableEq, Repr

/-- The die-to-die fabric. Ports are keyed die * 32 + port, sequence counters (src * 32 + dst) * 8 + class, inboxes
die * 65,536 + unit. `early` lists, by die, messages that came before their predecessors in SEQ order (R22). -/
structure D2d where
  ports : List (Nat × Port)
  txSeq : List (Nat × Nat)
  rxSeq : List (Nat × Nat)
  held : List HeldMsg
  early : List (Nat × List Arrived)
  inbox : List (Nat × List Arrived)
  outstanding : List CtlCmd
  ctlReplies : List DieMsg
deriving DecidableEq, Repr

/-- No module trained, nothing in flight. -/
def D2d.reset : D2d :=
  { ports := [], txSeq := [], rxSeq := [], held := [], early := [], inbox := [], outstanding := [], ctlReplies := [] }

/-! ### Control die (12) -/

/-- A mailbox message: its sender and its eight words (R353). -/
structure MboxMsg where
  src : Nat
  words : List Word64
deriving DecidableEq, Repr

/-- One control core (R349, R353, R361 to R363). `csr` holds sepc, scause, stval, SPP and SPIE; `shadow` is the fast shadow
set; `bank1` is set while the second register bank is in use; `delivered` lists lines delivered and not claimed; `rd` is what
the last read with an effect returned; `claimed` lists lines claimed and not completed. -/
structure CtlCore where
  staged : List Word64
  mbox : List MboxMsg
  last : Nat
  prio : Nat
  rd : Word64
  stopped : Bool
  fastActive : Bool
  fastLine : Nat
  fastCount : Nat
  bank1 : Bool
  csr : List Word64
  shadow : List Word64
  delivered : List Nat
  claimed : List (Nat × Nat)
  refused : List MboxMsg
  refusedAt : Nat
  ringHi : Word64
  sram : Bytes
deriving DecidableEq, Repr

/-- A core after the reset of domain 1. -/
def CtlCore.reset : CtlCore :=
  { staged := [0, 0, 0, 0, 0, 0, 0, 0], mbox := [], last := 0, prio := 0, rd := 0, stopped := false,
    fastActive := false, fastLine := 0, fastCount := 0, bank1 := false, csr := [0, 0, 0, 0, 0],
    shadow := [0, 0, 0, 0, 0], delivered := [], claimed := [], refused := [], refusedAt := 0, ringHi := 0, sram := [] }

/-- One event line (R359 to R364). `armed` is set while occurrences wait to be routed; `timer` is the end of the moderation
interval. -/
structure Line where
  prio : Nat
  fast : Bool
  wake : Bool
  modUs : Nat
  target : Nat
  count : Nat
  armed : Bool
  timer : Option Nat
deriving DecidableEq, Repr

/-- A line after the reset of domain 1. -/
def Line.reset : Line :=
  { prio := 0, fast := false, wake := false, modUs := 0, target := 0, count := 0, armed := false, timer := none }

/-- A policy image being loaded (R456): session, command, address, length and flags. -/
structure PolLoad where
  sess : Nat
  tag : Nat
  seq : Nat
  addr : Nat
  len : Nat
  commit : Bool
deriving DecidableEq, Repr

/-- Control die state: cores, event lines, the gate, event messages on their way to the event controller, policy firmware
and the notice ring (R349 to R366). -/
structure Ctl where
  cores : List (Nat × CtlCore)
  lines : List (Nat × Line)
  gate : Bool
  gateWas : Bool
  gateAt : Nat
  events : List Bytes
  loaded : Bool
  fault : Bool
  faultCore : Nat
  faultCause : Nat
  image : Bytes
  load : Option PolLoad
  ring : List Bytes
  pops : List (Nat × Bytes)
  popsAt : Nat
  ranks : List (Nat × Nat)
  askId : Nat
deriving DecidableEq, Repr

/-- The control die after the reset of domain 1. -/
def Ctl.reset : Ctl :=
  { cores := [], lines := [], gate := false, gateWas := false, gateAt := 0, events := [], loaded := false, fault := false,
    faultCore := 0, faultCause := 0, image := [], load := none, ring := [], pops := [], popsAt := 0, ranks := [], askId := 0 }

/-- The event state that the AON domain retains while domain 1 sleeps (R366). -/
structure EvcCopy where
  lines : List (Nat × Line)
  gate : Bool
  prios : List (Nat × Nat)
deriving DecidableEq, Repr

/-! ### Identity and security (16) -/

/-- A debug challenge (R462): its 64 bytes and the instant it expires (60 s after its reply; none until the reply is
written). -/
structure Challenge where
  bytes : Bytes
  replied : Option Nat
deriving DecidableEq, Repr

/-- Identity, secure boot and key state (R438 to R463). -/
structure Sec where
  serial : Nat
  stepping : Nat
  order : Nat
  pufOk : Bool
  configOk : Bool
  slot : Nat
  fwVersion : Nat
  svn : Nat
  slotFails : Nat
  bootCount : Nat
  revoke : Nat
  cert : Bytes
  devRecord : Bytes
  uds : Option (BitVec 256)
  udsLocked : Bool
  deviceKey : BitVec 528
  cdi1 : BitVec 512
  bootNonce : Bytes
  m1 : BitVec 512
  keys : List (Nat × BitVec 256)
  debugSeen : Bool
  challenge : Option Challenge
deriving DecidableEq, Repr

/-- Security state after the reset of domain 1: no key, nothing loaded yet. -/
def Sec.reset : Sec :=
  { serial := 0, stepping := 0, order := 0, pufOk := false, configOk := false, slot := 0, fwVersion := 0, svn := 0,
    slotFails := 0, bootCount := 0, revoke := 0, cert := [], devRecord := [], uds := none, udsLocked := false,
    deviceKey := 0, cdi1 := 0, bootNonce := [], m1 := 0, keys := [], debugSeen := false, challenge := none }

/-- The log rows (R440): the four counters (FW_SVN, POLICY_SVN, CONFIG_SVN, KEY_REVOKE), boot records by ring row 0 to 63,
quench records by row 0 to 15, helper data, factory serial, the silicon's stepping and identity-macro contents, and the factory trims of the sensors by
64 die + sensor (R10). -/
structure LogRows where
  counters : List Nat
  boots : List (Nat × Bytes)
  quench : List (Nat × Bytes)
  helper : Bytes
  serial : Nat
  stepping : Nat
  puf : Bytes
  trims : List (Nat × Nat)
deriving DecidableEq, Repr

/-- Log rows of a part with nothing recorded. -/
def LogRows.reset : LogRows :=
  { counters := [0, 0, 0, 0], boots := [], quench := [], helper := [], serial := 0, stepping := 0, puf := [], trims := [] }

/-! ### Tiles, banks and slices (02 to 05) -/

/-- Bank states of R42, in the encoding order of TILE_BANK_INFO.STATE. -/
inductive BankState where
  | empty
  | writingShallow
  | writingDeep
  | shallow
  | deep
  | expired
  | erasing
  | retired
deriving DecidableEq, Repr

/-- One physical row of a bank as it was last programmed (R31 to R33, R49, R55): a byte for each physical column, weight columns 0 to 511,
reference columns 512 to 519 and spare columns 520 to 535, that holds the level of the plus device (bits 1:0) and of the minus device
(bits 3:2); whether it was written deep; and the band whose waveform programmed it. -/
structure CellRow where
  levels : Bytes
  deep : Bool
  band : Nat
deriving DecidableEq, Repr

/-- A row without charge: every device at L0. -/
def CellRow.blank : CellRow := { levels := [], deep := false, band := 0 }

/-- One bank of a tile (R32, R42, R61, R70, R93 to R101). `age` counts DEEP_AGE in units of 1/20 h per hour of milliseconds
(R58), `alerted` is set once that age has raised its event (R59), `cells` lists the programmed physical rows, `copy6` and `copy7` the two map rows (the empty list stands for the row that the factory left, log entry 7),
`colcorr` GAIN and OFFSET by column, `sums` and `meas` the probe sums e_k and measurements m_k by 512 k + j, `prev` the g and o
of the last column check, `fitted` the columns that the last fit gave values (R116), `due` and `last` the instants of the next and last column check and deep probe (R117), the three flags
what has fallen due, `probeD` is D after the last result of the probe under way (R98), `calOor` the columns that bring-up could not calibrate (R504), `writtenAt` the instant of the last write or refresh (R158). -/
structure Bank where
  st : BankState
  wfmt : Nat
  epoch : Nat
  model : Nat
  version : Nat
  slot : Nat
  life : Nat
  age : Nat
  cycles : Nat
  rowMap : List Nat
  colMap : List Nat
  copy6 : Bytes
  copy7 : Bytes
  mapFault : Bool
  cells : List (Nat × CellRow)
  ranges : Bytes
  nextRanges : Bytes
  d : Nat
  a : Int
  colcorr : List (Nat × Nat × Int)
  probed : Bool
  oor : List Nat
  rsh : Nat
  resid : List Nat
  outRows : List Nat
  outW : Bytes
  sums : List (Nat × Int)
  meas : List (Nat × Int × Nat)
  prev : List (Nat × (Int × Nat) × (Int × Nat))
  fitted : List Nat
  src : SlotSrc
  epochAt : Option Nat
  releasing : Option DieMsg
  loaded : Bool
  alerted : Bool
  clear : Bool
  probing : Bool
  probeD : Nat
  dueCheck : Nat
  lastCheck : Nat
  dueProbe : Nat
  lastProbe : Nat
  checkDue : Bool
  probeDue : Bool
  refreshDue : Bool
  calOor : List Nat
  writtenAt : Nat
deriving DecidableEq, Repr

/-- A bank after the reset of its ACD's power domain (R10, R281), with the factory's map: until its blank check has ended it is ERASING
(R64, log entry 152). -/
def Bank.reset : Bank :=
  { st := .erasing, wfmt := 0, epoch := 0, model := 0, version := 0, slot := 0, life := 0, age := 0, cycles := 0, rowMap := [],
    colMap := [], copy6 := [], copy7 := [], mapFault := false, cells := [], ranges := [], nextRanges := [], d := 0x4000,
    a := 0, colcorr := [], probed := false, oor := [], rsh := 0, resid := [], outRows := [], outW := [], sums := [],
    meas := [], prev := [], fitted := [], src := ⟨0, 0, 0, 0⟩, epochAt := none, releasing := none, loaded := false, alerted := false,
    clear := false, probing := false, probeD := 0x4000, dueCheck := 0, lastCheck := 0, dueProbe := 0, lastProbe := 0,
    checkDue := false, probeDue := false, refreshDue := false, calOor := [], writtenAt := 0 }

/-- What an MVM on a tile is for: layer work, probe k of R97 (its bank's work class in the request), or DIAG_MVM of a session. -/
inductive MvmKind where
  | layer
  | probe (k : Nat)
  | diag (sess : Nat)
deriving DecidableEq, Repr

/-- An MVM that a tile sequencer has accepted (R43). `blocks` is the drive mask of its row blocks, `half` is 0 for a whole MVM
and 1 or 2 for the halves of a split repeat, `due` says that it must run before the bank operation accepted after it (R46), `wake` that its cluster was clock-gated when it
arrived (R38). -/
structure Mvm where
  req : MvmReq
  kind : MvmKind
  blocks : Nat
  half : Nat
  due : Bool
  wake : Bool
  acts : List Int
  side : List (Nat × Nat)
deriving DecidableEq, Repr

/-- An MVM in its phases or on its way through the slice (R35, R72, R94): its phase 0, the values and the band latched there (the band
chooses the reference trim), and the row blocks that it drives. -/
structure MvmRun where
  m : Mvm
  start : Nat
  d : Nat
  colcorr : List (Nat × Nat × Int)
  band : Nat
  driven : Nat
deriving DecidableEq, Repr

/-- Writes and other work of the program drivers (R45, R62, R64). -/
inductive WrKind where
  | shallow
  | refresh
  | deep
  | erase
  | blankErase
  | map
deriving DecidableEq, Repr

/-- A write, erase or map update of a tile: the bank, the message that it answers, the row in progress, the band at that row's start,
whose waveform programs it (R49, R55), the instant its present part ends, and for a map update what completes with it. -/
structure Wr where
  kind : WrKind
  bank : Nat
  msg : Option DieMsg
  row : Nat
  band : Nat
  due : Nat
  clearing : Bool
  completes : Option WrKind
  copy : Nat
  cls : WorkClass
  since : Nat
deriving DecidableEq, Repr

/-- A calibration command that runs on a tile (R80): its word, first phase, the band there (R72), phases run before an abort, the phases
dropped (R81) with how many of them CONV_DROP has counted, the message or the anneal measurement that it answers. -/
structure CalRun where
  word : Nat
  start : Nat
  band : Nat
  phases : Nat
  drops : List Nat
  counted : Nat
  msg : Option DieMsg
deriving DecidableEq, Repr

/-- Capture memory of a tile (R85 to R88): ACC words and QUEUE entries by number, QUEUE pointers, the mode in force, and the
instant at which an emptying takes effect and that of the last one. -/
structure Cap where
  mode : Nat
  acc : List (Nat × Nat)
  ring : List (Nat × Nat)
  wr : Nat
  rd : Nat
  count : Nat
  emptyAt : Option Nat
  since : Nat
deriving DecidableEq, Repr

/-- Empty capture memory. -/
def Cap.reset : Cap := { mode := 0, acc := [], ring := [], wr := 0, rd := 0, count := 0, emptyAt := none, since := 0 }

/-- One tile (R32 to R47). `freeAt` is the end of the last phase driven, `lastBank` the bank the column select stands on,
`halfSums` the corrected parts of finished first halves with their MVMs, `buf` the rows held in the row write buffer, `fault` a converter fault or
a 17th out-of-range column (R84, R99). -/
structure Tile where
  ready : Bool
  mapLoaded : Bool
  queue : List Mvm
  runs : List MvmRun
  wr : Option Wr
  wq : List Wr
  buf : List Bytes
  rowAt : Nat
  freeAt : Nat
  lastBank : Nat
  residAt : Nat
  halfSums : List (MvmReq × List Int)
  cal : Option CalRun
  cap : Cap
  trims : List Nat
  convFault : Bool
  shadowFull : Bool
deriving DecidableEq, Repr

/-- A tile after the reset of its ACD's power domain. -/
def Tile.reset : Tile :=
  { ready := false, mapLoaded := false, queue := [], runs := [], wr := none, wq := [], buf := [], rowAt := 0, freeAt := 0,
    lastBank := 0, residAt := 0, halfSums := [], cal := none, cap := Cap.reset, trims := [], convFault := false,
    shadowFull := false }

/-- An output set of a column group (R136): the group, set X or Y, the job and block it is bound to, the chain positions
that have been added, the 64 accumulators in units of 2^-8, cleared for a ladder re-execution, draining. -/
structure OutSet where
  group : Nat
  y : Bool
  job : Nat
  col : Nat
  got : List Nat
  acc : List Int
  ladder : Bool
  drain : Bool
deriving DecidableEq, Repr

/-- Work of a slice's fallback MAC array (R115): a layer MVM whose tile cannot run it, or a ladder re-execution of a job. -/
inductive FbWork where
  | mvm (r : MvmReq)
  | ladder (job : Nat)
deriving DecidableEq, Repr

/-- One temper-path slice (R89): MVMs its sequencer asks for with the instant of asking, those held for want of a set, those granted, MVMs that tiles returned with their status,
output sets, the column shadow (bank, column), fallback work, the class last granted, and when the residual and outlier units are
free, in units of 1/4,096 ns (R103, R106). -/
structure Slice where
  want : List (MvmReq × Nat)
  held : List MvmReq
  granted : List MvmReq
  back : List (MvmReq × Nat)
  sets : List OutSet
  shadow : List (Nat × Nat)
  work : List FbWork
  lastCls : WorkClass
  residFree : Nat
  outFree : Nat
deriving DecidableEq, Repr

/-- A slice after reset. -/
def Slice.reset : Slice :=
  { want := [], held := [], granted := [], back := [], sets := [], shadow := [], work := [], lastCls := .generation, residFree := 0,
    outFree := 0 }

/-- A tile result on its way to a home slice (R135): the sender, the job, block and chain position, and 512 values. -/
structure Flying where
  home : Nat
  job : Nat
  block : Nat
  pos : Nat
  vals : List Int
deriving DecidableEq, Repr

/-- An anneal task that an ACD's anneal unit runs (R116 to R120): column check or deep probe of a bank, the message it answers,
the reissues of its present command, and the ACC words of the column-check commands that are done. -/
structure AnnealRun where
  probe : Bool
  bank : Nat
  msg : DieMsg
  tries : Nat
  words : List (List Nat)
deriving DecidableEq, Repr

/-- State of one ACD: the instant of its reset (R86), the instant at which its banks loaded their maps (R64), the seed in force and the seed that the next step takes up (R109), the
anneal task in progress, and calibration: round, activity, waiting, pairs that failed (R388 to R391). -/
structure Acd where
  resetAt : Nat
  mapAt : Option Nat
  seed : Word64
  nextSeed : Word64
  anneal : Option AnnealRun
  calRound : Nat
  calActive : Bool
  calWaiting : Bool
  failedPairs : Nat
  hotSince : Nat
deriving DecidableEq, Repr

/-- An ACD after the reset of its power domain. -/
def Acd.reset : Acd :=
  { resetAt := 0, mapAt := none, seed := 0, nextSeed := 0, anneal := none, calRound := 0, calActive := false, calWaiting := false,
    failedPairs := 0, hotSince := 0 }

/-- A layer job in progress: what was asked for, the seed of its step (R109), WSCALE, LSCALE and BIAS of its columns as they stood when the
step was issued (R25, R148), the outputs drained so far as binary32 patterns by column, whether a ladder re-execution replaces it (R112),
and whether its input vector has arrived and its MVMs have been asked for. -/
structure JobRun where
  job : LayerJob
  seed : Word64
  params : Bytes
  outs : List (Nat × Nat)
  ladder : Bool
  issued : Bool
deriving DecidableEq, Repr

/-- The ACDs: tiles by 1,024 acd + n, banks by 2 tile + b, slices by 16 acd + s, ACDs by number, activation vectors and layer
jobs by identity, and tile results between slices. -/
structure An where
  tiles : List (Nat × Tile)
  banks : List (Nat × Bank)
  slices : List (Nat × Slice)
  acds : List (Nat × Acd)
  vectors : List (Nat × Vect)
  jobs : List JobRun
  flying : List Flying
deriving DecidableEq, Repr

/-- Nothing loaded, nothing running. -/
def An.reset : An := { tiles := [], banks := [], slices := [], acds := [], vectors := [], jobs := [], flying := [] }

/-! ### Freeze, readout and trace (17) -/

/-- The ARRAY_READ in progress (R474): the command word, the instant of Update-DR and the 520 entries. -/
structure ArrayOp where
  word : Nat
  at_ : Nat
  data : List Nat
deriving DecidableEq, Repr

/-- The freeze record and the TAP (R464 to R474). `source` is set after a FREEZE packet, which also sets AUTH. `ir` is the instruction in
force, `irOut` what the last instruction scan shifted out, `dr` the bits that the last data scan shifted out with their number `drLen`,
`boundary` the boundary register as last updated; `spins` holds how far each scan chain (die * 256 + chain) has recirculated, and
`captured` the entries of the ARRAY_READ command `capturedWord`. -/
structure Frz where
  active : Bool
  t : Nat
  frozenLow : Bool
  valid : Bool
  source : Bool
  stopped : Nat
  count : Nat
  ir : Nat
  selDie : Nat
  selChain : Nat
  dr : Nat
  drLen : Nat
  irOut : Nat
  boundary : Nat
  spins : List (Nat × Nat)
  arrayOp : Option ArrayOp
  captured : List Nat
  capturedWord : Nat
deriving DecidableEq, Repr

/-- No freeze since power-on; the TAP in Test-Logic-Reset with IDCODE selected (R471). -/
def Frz.reset : Frz :=
  { active := false, t := 0, frozenLow := false, valid := false, source := false, stopped := 0, count := 0,
    ir := 2, selDie := 0, selChain := 0, dr := 0, drLen := 0, irOut := 0, boundary := 0, spins := [], arrayOp := none, captured := [],
    capturedWord := 0 }

/-- The trace buffer (R475 to R478): entries oldest first, at most 131,072. -/
structure Trace where
  mode : Nat
  sources : Nat
  entries : List Bytes
  written : Nat
deriving DecidableEq, Repr

/-- Tracing off, buffer empty. -/
def Trace.reset : Trace := { mode := 0, sources := 0, entries := [], written := 0 }

/-! ### Clocks, pins, reset and bring-up (13, 18) -/

/-- Part time: cycles of REFCLK_156 counted since power-on (R372), its presence and the PLL locks by die (R373). -/
structure Clk where
  cycles : Nat
  ref156 : Bool
  lock : Nat
deriving DecidableEq, Repr

/-- Nothing counted, reference absent. -/
def Clk.reset : Clk := { cycles := 0, ref156 := false, lock := 0 }

/-- Sideband pins (R374, R427, R431, R465): inputs as sampled and open-drain outputs, true while released. `pgIn` is set while the part
is powered: PG_IN high with VIN_12 in range (R397). `xspi` says that IOD drives the pins of the boot flash (R383). -/
structure Pins where
  pgIn : Bool
  resetN : Bool
  perstN : Bool
  throtN : Bool
  quenchN : Bool
  frozenN : Bool
  xspi : Bool
deriving DecidableEq, Repr

/-- Before power: PG_IN low, PERST_N held low by the board (R395), the other inputs high, outputs released. -/
def Pins.reset : Pins :=
  { pgIn := false, resetN := true, perstN := false, throtN := true, quenchN := true, frozenN := true, xspi := false }

/-- A HALT in progress (R379, R380): by IOD.RST_CTL or by a command of a session. -/
structure Halt where
  byCtl : Bool
  sess : Nat
  tag : Nat
  seq : Nat
  since : Nat
deriving DecidableEq, Repr

/-- Bring-up (R381, R390), reset requests and the AON record of the last reset (R379, R380). `held` and `perstHeld` hold the part in reset
(R378); `noTake` stops taking, admissions and steps once PART_RESET is taken (R379); `dieUp` has a bit per die out of reset. -/
structure Boot where
  stage : Nat
  quenchHold : Bool
  faultCode : Nat
  held : Bool
  perstHeld : Bool
  noTake : Bool
  halt : Option Halt
  resetDue : Option Nat
  cause : Nat
  orderly : Bool
  haltedBy : Nat
  bootRow : Nat
  dieUp : Nat
  fullAt : Nat
  feat1Seen : Nat
  readySeen : Nat
deriving DecidableEq, Repr

/-- Before power-on. -/
def Boot.reset : Boot :=
  { stage := 0, quenchHold := false, faultCode := 0, held := false, perstHeld := false, noTake := false, halt := none,
    resetDue := none, cause := 0, orderly := false, haltedBy := 0, bootRow := 0, dieUp := 0,
    fullAt := 0, feat1Seen := 0, readySeen := 0 }

/-! ### Supplies and domains (14) -/

/-- Domain states of R400, in the encoding of IOD.PWR_DOMAIN.STATE. -/
inductive DomState where
  | on
  | closing
  | sleep
  | queued
  | ramping
  | starting
  | failed
deriving DecidableEq, Repr

/-- One power domain. `sleepReq` is SLEEP_REQ, the instants are those of its last entry to QUEUED, RAMPING, STARTING and SLEEP, and `held`
is set while a freeze holds it in reset (R466). -/
structure Dom where
  st : DomState
  sleepReq : Bool
  queuedAt : Nat
  rampAt : Nat
  startAt : Nat
  lastQueueUs : Nat
  lastRampUs : Nat
  lastStartUs : Nat
  sleepAt : Nat
  held : Bool
deriving DecidableEq, Repr

/-- A domain at power-on and after every reset of all domains except AON (R400). -/
def Dom.reset : Dom :=
  { st := .sleep, sleepReq := false, queuedAt := 0, rampAt := 0, startAt := 0, lastQueueUs := 0, lastRampUs := 0,
    lastStartUs := 0, sleepAt := 0, held := false }

/-- Power state of the AON island and the power governor (R406 to R414). `limit` is the limit of the current interval in units
of 1/2,560 W; `energy` holds the input energy of past intervals in µJ, newest first. -/
structure Pwr where
  dom : List (Nat × Dom)
  queue : List Nat
  plim : Nat
  peak : Nat
  limit : Int
  run : Nat
  paced : Bool
  clamped : Bool
  energy : List Nat
  vinMv : Nat
  iinCa : Nat
  pW : Nat
  meanW : Nat
  maint : Bool
  nextMaint : Option Nat
  wsdIdleSince : Nat
  intervalAt : Nat
deriving DecidableEq, Repr

/-- Power state at power-on: nothing woken, PLIM_W 1,800 and PEAK_W 2,100 (R414). -/
def Pwr.reset : Pwr :=
  { dom := [], queue := [], plim := 0x708, peak := 0x834, limit := 2100 * 2560, run := 0, paced := false, clamped := false,
    energy := [], vinMv := 0, iinCa := 0, pW := 0, meanW := 0, maint := false, nextMaint := none,
    wsdIdleSince := 0, intervalAt := 0 }

/-! ### Thermal (15) -/

/-- One on-die sensor (R416 to R420). Temperatures are in units of 0.25 °C. `samples` holds up to eight raw samples, newest
first; `hot` is set while the last sample was 112 °C or more and counted towards a quench. -/
structure Sensor where
  samples : List Int
  reading : Int
  raw : Int
  failed : Bool
  dev : Nat
  hot : Bool
  trim : Nat
deriving DecidableEq, Repr

/-- A sensor after the reset of its die. -/
def Sensor.reset : Sensor :=
  { samples := [], reading := 0, raw := 0, failed := false, dev := 0, hot := false, trim := 0 }

/-- One remote-sense pair (R425, R426). `armed` is false from an alarm until the reading falls to LIMIT - 2 °C. -/
structure Pair where
  reading : Int
  fault : Bool
  alarm : Bool
deriving DecidableEq, Repr

/-- A pair that has not been measured. -/
def Pair.reset : Pair := { reading := 0, fault := false, alarm := false }

/-- Thermal state: sensors by die * 64 + sensor, throttle step and throttle temperature with its source, remote pairs,
and the quench (R416 to R434). -/
structure Therm where
  sensors : List (Nat × Sensor)
  step : Nat
  throt : Int
  srcKind : Nat
  srcUnit : Nat
  pairs : List (Nat × Pair)
  quenched : Bool
deriving DecidableEq, Repr

/-- Thermal state at power-on. -/
def Therm.reset : Therm :=
  { sensors := [], step := 0, throt := 0, srcKind := 0, srcUnit := 0, pairs := [], quenched := false }

/-- One memory stack (R190, R194, R422, R430). `band` is the refresh band in force, `rise` the higher
band that takes effect at the next refresh command, and `lower` has, for lower bands, the instant since which every readout has been in that
band or below it. -/
structure Stack where
  ready : Bool
  temp : Int
  band : Nat
  rise : Option Nat
  lower : List (Nat × Nat)
  invalid : Nat
  blind : Bool
  hot : Bool
  refreshAt : Nat
  ueAddr : Nat
  ueOwner : Nat
  patrolAt : Nat
deriving DecidableEq, Repr

/-- A stack before its initialisation. -/
def Stack.reset : Stack :=
  { ready := false, temp := 0, band := 0, rise := none, lower := [], invalid := 0, blind := false, hot := false, refreshAt := 0,
    ueAddr := 0, ueOwner := 0, patrolAt := 0 }

/-! ### Clusters (02, 08, 13) -/

/-- One cluster of 64 tiles: service, band and temperature in force with the highest temperature of the present and the
last millisecond, the milliseconds last counted by LIFE and DEEP_AGE, calibration, and the balance window of R214. -/
structure Cluster where
  service : Bool
  band : Nat
  temp : Int
  ms : Nat
  msTemp : Int
  prevTemp : Int
  lifeMs : Nat
  ageMs : Nat
  calDone : Bool
  calFailed : Bool
  mvmCount : Nat
  genBusy : Nat
  genWait : Nat
  promptUsed : Nat
  share : Nat
  window : Nat
deriving DecidableEq, Repr

/-- A cluster after the reset of its domain. -/
def Cluster.reset : Cluster :=
  { service := false, band := 0, temp := 0, ms := 0, msTemp := 0, prevTemp := 0,
    lifeMs := 0, ageMs := 0, calDone := false, calFailed := false, mvmCount := 0, genBusy := 0,
    genWait := 0, promptUsed := 0, share := 0, window := 0 }

/-! ### Fabric configuration (10) -/

/-- What PORT_CFG sets (R319). -/
structure FabCfg where
  partId : Nat
  dimX : Nat
  dimY : Nat
  dimZ : Nat
  rackId : Nat
  configured : Bool
deriving DecidableEq, Repr

/-- Before PORT_CFG. -/
def FabCfg.reset : FabCfg := { partId := 0, dimX := 0, dimY := 0, dimZ := 0, rackId := 0, configured := false }

/-! ### Links, ports and packets (10) -/

/-- One link (R292 to R297). `mode` is 0 unassigned, 1 Efylink, 2 Ethernet, `port` its torus port; `st` 0 DOWN, 1 TRAINING, 2 ACTIVE,
3 RESIZING; `good` the good lanes as a mask; `retrain` lanes that have been retrained with the instant of lock; `retry` a wait of 1 s
before training again, `since` the instant of the last change of state, `lastRx` that of the last flit. -/
structure Link where
  mode : Nat
  port : Nat
  st : Nat
  width : Nat
  good : Nat
  peerGood : Nat
  cause : Nat
  peerPart : Nat
  peerLink : Nat
  retry : Bool
  retrain : List (Nat × Nat)
  since : Nat
  lastRx : Nat
deriving DecidableEq, Repr

/-- A link after the reset of its LKD: unassigned and DOWN. -/
def Link.reset : Link :=
  { mode := 0, port := 0, st := 0, width := 0, good := 0, peerGood := 0, cause := 0, peerPart := 0, peerLink := 0, retry := false,
    retrain := [], since := 0, lastRx := 0 }

/-- A flit as a port sends it (R299): FSEQ, ACK, the credit pair and its count, NAK, IDLE, START, and the packet whose 240-byte piece with number
`piece` is its PAYLOAD. The CRC follows from the bytes. -/
structure Flit where
  fseq : Nat
  ack : Nat
  crPair : Nat
  crCount : Nat
  nak : Bool
  idle : Bool
  start : Nat
  pkt : Option FabPkt
  piece : Nat
deriving DecidableEq, Repr

/-- The receive buffer that a packet still fills: the port it came by, its pair of class and VC there, and its flits (R301). -/
structure Owe where
  port : Nat
  pair : Nat
  flits : Nat
deriving DecidableEq, Repr

/-- A packet that waits at a port for credits (R301), since when, and the buffer it fills meanwhile. -/
structure WaitPkt where
  k : FabPkt
  since : Nat
  owe : Option Owe
deriving DecidableEq, Repr

/-- One torus port (R298 to R301): the next FSEQ to send and to receive, the NAK to send, the replay buffer of unacknowledged flits, credits
held and credits to return by 4 * class + VC, packets that wait for credits, received payload bytes that do not make a packet yet, whole
packets received, and the flits sent. -/
structure FPort where
  txSeq : Nat
  rxNext : Nat
  nak : Bool
  replay : List Flit
  credits : List (Nat × Nat)
  owed : List (Nat × Nat)
  wait : List WaitPkt
  rxBuf : Bytes
  rxPkts : List Bytes
  sent : List Flit
deriving DecidableEq, Repr

/-- A port that is down. -/
def FPort.reset : FPort :=
  { txSeq := 0, rxNext := 0, nak := false, replay := [], credits := [], owed := [], wait := [], rxBuf := [], rxPkts := [], sent := [] }

/-- A packet that its source keeps until it is acknowledged end to end (R305): when it was first and last sent. -/
structure Kept where
  k : FabPkt
  first : Nat
  last : Nat
deriving DecidableEq, Repr

/-- A packet that is held for want of a route (R306): its arrival port (6 for none), and when it was held and last tried. -/
structure HeldPkt where
  k : FabPkt
  port : Nat
  since : Nat
  tried : Nat
  owe : Option Owe
deriving DecidableEq, Repr

/-- In-order delivery of one source and class (R305): the PSEQ expected, packets that came early, and since when there is a gap. -/
structure RxFlow where
  next : Nat
  early : List FabPkt
  gap : Option Nat
deriving DecidableEq, Repr

/-- No packet received. -/
def RxFlow.reset : RxFlow := { next := 0, early := [], gap := none }

/-- One slice that the part is in (R308 to R316). `index` is its place among the four of CTL.FAB_SLICE, `st` is 1 JOINING, 2 ACTIVE, 3 LEAVING; `sess` and `seq` the SLICE_JOIN that waits (64: none). At the root, `joined` lists members whose equal descriptors it holds with their
racks, `lost` the members marked lost, `racks` the rack table (rack, leader, offset in ns once measured) and `offsetAt` its last exchange. `leader` is
the leader of this part's rack, `mates` at the leader the members of its rack with the offsets of their part times. `lent` lists
stripes lent with their borrowers. `round` is the next round, `arrived` and `rackArrived` who has arrived for it since `firstAt` and
`rackFirstAt`, `go` the round and start time that GO gave, `started` set while a round has started and no step has used it. -/
structure SliceRec where
  desc : SliceDesc
  index : Nat
  st : Nat
  tight : Bool
  lend : Bool
  lendMib : Nat
  root : Nat
  marginUs : Nat
  sess : Nat
  seq : Nat
  joined : List (Nat × Nat)
  lost : List Nat
  racks : List (Nat × Nat × Option Int)
  offsetAt : Nat
  leader : Nat
  mates : List (Nat × Int)
  lent : List (Nat × Nat)
  round : Nat
  started : Bool
  arrived : List Nat
  rackArrived : List Nat
  firstAt : Option Nat
  rackFirstAt : Option Nat
  go : Option (Nat × Nat)
deriving DecidableEq, Repr

/-- An Ethernet link as ETH_CFG set it (R317, R323): the 64 bytes of parameters, and whether it is up. -/
structure EthLink where
  cfg : Bytes
  enabled : Bool
  up : Bool
deriving DecidableEq, Repr

/-- An Ethernet link that has not been configured. -/
def EthLink.reset : EthLink := { cfg := [], enabled := false, up := false }

/-- A read command of an ingot that a controller has been sent (R152): its shard (version entry * 65,536 + index), namespace, first LBA,
bytes asked and bytes received. -/
structure NvmeRead where
  ref : Nat
  nsid : Nat
  lba : Nat
  len : Nat
  got : Nat
deriving DecidableEq, Repr

/-- One NVMe controller (R152, R324): `st` 0 unused, 1 connecting, 2 connected, 3 failed; parameters, granted queues, the command that
waits, instants, what Identify said of the largest transfer (MDTS) and of each namespace's LBA size, and reads outstanding. -/
structure NvmeConn where
  st : Nat
  cfg : Bytes
  nqn : Bytes
  ioq : Nat
  hdgst : Bool
  ddgst : Bool
  sess : Nat
  seq : Nat
  since : Nat
  kato : Nat
  aliveAt : Nat
  mdts : Nat
  spaces : List (Nat × Nat)
  reads : List NvmeRead
deriving DecidableEq, Repr

/-- An unused controller. -/
def NvmeConn.reset : NvmeConn :=
  { st := 0, cfg := [], nqn := [], ioq := 0, hdgst := false, ddgst := false, sess := 64, seq := 0, since := 0, kato := 0, aliveAt := 0,
    mdts := 0, spaces := [], reads := [] }

/-- An ingress TCP connection (R318): link, and the session that it has claimed. -/
structure Ingress where
  conn : Nat
  link : Nat
  sess : Nat
  carry : Bytes
deriving DecidableEq, Repr

/-- The fabric: links by number, ports 0 to 5, PSEQ counters by (destination * 8 + class), flows by (source * 8 + class), packets waiting to
be routed from this part, kept and held ones, messages delivered to this part and not handled, destinations with unacknowledged
packets and the instant of the last acknowledgement, slices, Ethernet links 12 to 15, controllers 0 to 7, ingress connections and
frames sent. -/
structure Fab where
  links : List (Nat × Link)
  ports : List (Nat × FPort)
  psTx : List (Nat × Nat)
  psRx : List (Nat × RxFlow)
  out : List FabPkt
  kept : List Kept
  held : List HeldPkt
  inbox : List (Nat × FabMsg)
  lastAck : List (Nat × Nat)
  unreachable : List Nat
  slices : List SliceRec
  eth : List (Nat × EthLink)
  nvme : List (Nat × NvmeConn)
  ingress : List Ingress
  ethOut : List (Nat × EthFrame)
deriving DecidableEq, Repr

/-- No link assigned, nothing in flight. -/
def Fab.reset : Fab :=
  { links := [], ports := [], psTx := [], psRx := [], out := [], kept := [], held := [], inbox := [], lastAck := [], unreachable := [],
    slices := [], eth := [], nvme := [], ingress := [], ethOut := [] }

/-! ### Models and ingots (06) -/

/-- States of a version (R164). -/
inductive VerState where
  | loading
  | available
  | retiring
  | unavailable
deriving DecidableEq, Repr

/-- Where a shard stands: waiting for an engine, on an engine, verified, or given up. -/
inductive ShardState where
  | waiting
  | staging
  | verified
  | failed
deriving DecidableEq, Repr

/-- A shard's copy in the slower tier (R162): host region and offset, or a lender and its stripe. `data` is nonce, ciphertext and tag. -/
structure TierCopy where
  peer : Bool
  place : Nat
  off : Nat
  data : Bytes
  written : Bool
deriving DecidableEq, Repr

/-- A SLOT_PARAMS record of a verified shard (R148): its slot, its layer and its 128 bytes. -/
structure SlotRec where
  slot : Nat
  layer : Nat
  bytes : Bytes
deriving DecidableEq, Repr

/-- One shard of a version (R146 to R172). `src` is its entry of the source table, `peer` the part that the present attempt reads from,
`base` the control-space address of its stack copy and `room` its bytes, with `held` set while it has one, `got` the bytes received, `key` the model key taken at
check 3, `fails` the attempts that have failed, `cause` that of the last and `first` that of the failure that began the chain (R170), `peers` replica holders left to try. Instants: last outstanding read, last scrub start, last
passing scrub or verification, last read by a bank write. `whole` is set once every byte has arrived, `rewrite` while the banks written
since the last passing scrub are to be written again (R158). `recs` and `lparams` are the SLOT_PARAMS records and the LAYER_PARAMS sections
(with their layers) of its last verified copy (R25, R165). -/
structure Shard where
  st : ShardState
  src : Bytes
  peer : Option Nat
  engine : Nat
  base : Nat
  room : Nat
  held : Bool
  header : Bytes
  got : Bytes
  key : Option (BitVec 256)
  fails : Nat
  inChain : Bool
  cause : Nat
  first : Nat
  peers : List Nat
  peersSet : Bool
  askedAt : Nat
  scrubAt : Nat
  scrubbing : Bool
  passAt : Nat
  readAt : Nat
  whole : Bool
  rewrite : Bool
  tier : Option TierCopy
  recs : List SlotRec
  lparams : List (Nat × Bytes)
deriving DecidableEq, Repr

/-- A shard at the start of its load. -/
def Shard.reset : Shard :=
  { st := .waiting, src := [], peer := none, engine := 96, base := 0, room := 0, held := false, header := [], got := [], key := none, fails := 0,
    inChain := false, cause := 0, first := 0, peers := [], peersSet := false, askedAt := 0, scrubAt := 0, scrubbing := false, passAt := 0, readAt := 0, whole := false, rewrite := false,
    tier := none, recs := [], lparams := [] }

/-- One entry of the model table (R164 to R172): the LOAD that made it, its shards, and the bookkeeping of MODEL_ENT0 to MODEL_ENT3. `down`
is the position of the downstream part in the chain, `downOk` set once it has accepted; `fwd` holds chunks that wait for it, and `asks` the
parts that wait here for a shard that is not verified yet (part, shard; R160). `analog` are the tiles that run the placement's work in their
arrays (R393). -/
structure Version where
  model : Nat
  version : Nat
  st : VerState
  current : Bool
  kept : Bool
  deep : Bool
  pins : Nat
  count : Nat
  makeCurrent : Bool
  keep : Bool
  mode : Nat
  chain : List Nat
  pos : Nat
  root : Nat
  slice : Nat
  timeoutMs : Nat
  deepAllowed : Bool
  sess : Nat
  seq : Nat
  graph : Option Graph
  shards : List (Nat × Shard)
  cause : Nat
  faultShard : Nat
  attempts : Nat
  down : Nat
  downOk : Bool
  downSince : Nat
  fwd : List (Nat × Nat × Bool × Bytes)
  asks : List (Nat × Nat)
  analog : List Nat
  steps : Nat
  lastCohort : Nat
deriving DecidableEq, Repr

/-- A tier region in host memory (R162, R273). -/
structure TierRegion where
  addr : Nat
  len : Nat
  closed : Bool
deriving DecidableEq, Repr

/-- A grammar slot (R221, R222, R274): `st` 0 empty, 1 loading, 2 resident, 3 unusable. -/
structure Grammar where
  st : Nat
  pins : Nat
  image : Bytes
  addr : Nat
  bytes : Nat
  sess : Nat
  seq : Nat
  scrubAt : Nat
  scrubbing : Bool
deriving DecidableEq, Repr

/-- An empty grammar slot. -/
def Grammar.reset : Grammar := { st := 0, pins := 0, image := [], addr := 0, bytes := 0, sess := 64, seq := 0, scrubAt := 0, scrubbing := false }

/-- The model table by entry, shards that wait for an engine in arrival order (version entry, shard), tier regions, grammars, scrubs that
wait for an engine (version entry or 8,192 + grammar slot, shard), banks that CTL writes again (bank, version entry * 65,536 + slot;
R158): DEEP ones that it erases first, and ones whose present write must end first, slots that move from a bank of an ACD that is to sleep to a reserved bank (R403), and whether the erase of R169 has been done. -/
structure Models where
  table : List (Nat × Version)
  queue : List (Nat × Nat)
  tiers : List (Nat × TierRegion)
  grammars : List (Nat × Grammar)
  scrubQueue : List (Nat × Nat)
  rewrites : List (Nat × Nat)
  moves : List (Nat × Nat)
  orphansDone : Bool
deriving DecidableEq, Repr

/-- No model. -/
def Models.reset : Models := { table := [], queue := [], tiers := [], grammars := [], scrubQueue := [], rewrites := [], moves := [], orphansDone := false }

/-! ### Sequence slots, pages and attention (07) -/

/-- A page: slab and frame on the slot's home (R178, R180). -/
structure Page where
  slab : Nat
  frame : Nat
deriving DecidableEq, Repr

/-- The page operations of R183 as they reach a slot, and the replacement of a rebuilt page (R193); `msg` is the die message to answer, `sess` and `seq` the host command (64: none). -/
inductive PageOp where
  | alloc
  | fork (target positions : Nat)
  | truncate (n : Nat)
  | release
  | replace (index : Nat) (dest : Page)
deriving DecidableEq, Repr

/-- A page operation that waits for a step boundary or for its copy. -/
structure WaitingOp where
  op : PageOp
  msg : Option DieMsg
  sess : Nat
  seq : Nat
deriving DecidableEq, Repr

/-- One sequence slot (R173, R175, R180 to R186). `home` is its context die, `shape` the version whose geometry its pages have; `copyA` and `copyB` are the valid
entries of the two copies of its page table; `inStep` is
set from a step's issue to its step boundary; `tags` counts appends by (STEP_TAG, layer), with (STEP_TAG, 65,536) once a request of the tag
has started, `heldAppends` wait for a tag (R186), and `rebuild` lists the pages being rebuilt (R193). `tag` is the STEP_TAG of the
slot's last step (R204), `start` the first position that it writes, `got` how many heads its appends have written, and `chunk` says that it is a
prefill chunk that samples nothing (R206). `logits` are those that the final projection has delivered for the step, as binary32 patterns by
position (R25). -/
structure KvSlot where
  assigned : Bool
  home : Nat
  shape : Nat
  len : Nat
  copyA : List Page
  copyB : List Page
  inStep : Bool
  ops : List WaitingOp
  tags : List (Nat × Nat × Nat)
  heldAppends : List DieMsg
  rebuild : List Nat
  tag : Nat
  start : Nat
  got : Nat
  chunk : Bool
  logits : List (Nat × List Nat)
deriving DecidableEq, Repr

/-- A slot that is not assigned. -/
def KvSlot.reset : KvSlot :=
  { assigned := false, home := 0, shape := 0, len := 0, copyA := [], copyB := [], inStep := false, ops := [], tags := [], heldAppends := [],
    rebuild := [], tag := 0, start := 0, got := 0, chunk := false, logits := [] }

/-- The pages of a slot's table, in order: copy A is read (R180). -/
def KvSlot.pages (v : KvSlot) : List Page := v.copyA

/-- A slot with another page table: both copies are written (R180). -/
def KvSlot.withPages (v : KvSlot) (l : List Page) : KvSlot := { v with copyA := l, copyB := l }

/-- What a slab is used for (R178). -/
inductive SlabUse where
  | free
  | weight
  | kv (pageBytes : Nat)
deriving DecidableEq, Repr

/-- A copy that a page unit's copy engine makes (R183): from and to, the slot that waits and the operation. -/
structure PageCopy where
  cxd : Nat
  src : Page
  dst : Page
  slot : Nat
  op : WaitingOp
  done : Nat
deriving DecidableEq, Repr

/-- An attention request (R187): slot, layer, query positions, tag, appends it depends on, query vectors and output vectors by number
(per position and head), and whether it has started. -/
structure AttReq where
  id : Nat
  cxd : Nat
  slot : Nat
  layer : Nat
  first : Nat
  count : Nat
  tag : Nat
  appends : Nat
  fp32 : Bool
  queries : Nat
  outputs : Nat
  started : Bool
  msg : Option DieMsg
deriving DecidableEq, Repr

/-- Context dies: slots by number, role epochs by (die * 16,384 + slot) with the instant of the last change, slab use by (die * 5,722 +
slab), copies, attention requests, patrol passes and cancel markers by slot with the cycle of arrival. -/
structure Kv where
  slots : List (Nat × KvSlot)
  epochs : List (Nat × Nat)
  epochAt : List (Nat × Nat)
  slabs : List (Nat × SlabUse)
  copies : List PageCopy
  atts : List AttReq
  passes : List (Nat × Nat)
  marks : List (Nat × Nat)
deriving DecidableEq, Repr

/-- No slot assigned, every slab free. -/
def Kv.reset : Kv := { slots := [], epochs := [], epochAt := [], slabs := [], copies := [], atts := [], passes := [], marks := [] }

/-! ### Requests (08) and the journal (11) -/

/-- States of a request (R202). -/
inductive ReqState where
  | admitting
  | waiting
  | prefill
  | decode
  | preempted
  | ending
deriving DecidableEq, Repr

/-- How far an ADMITTING request has come: policy firmware is asked, the journal record is out, acknowledged. -/
inductive AdmitStage where
  | asking
  | journaling
  | done
deriving DecidableEq, Repr

/-- A token record that waits to be produced (R210 to R212, R336): its bytes, tokens, END, and whether the partner's acknowledgement is
still awaited. -/
structure TokRec where
  body : Bytes
  count : Nat
  end_ : Nat
  acked : Bool
deriving DecidableEq, Repr

/-- The step of a request in flight (R204, R209): its number, whether it decodes, drafts, and the positions of a prefill chunk. -/
structure StepRun where
  step : Nat
  decode : Bool
  drafts : Nat
  first : Nat
  stop : Nat
  samples : Bool
deriving DecidableEq, Repr

/-- One request, held under its sequence slot (R196 to R234, R264). `params` are the 128 ADMIT bytes as bound; `tokens` is the token record
(prompt, then committed tokens), `prompt` the prompt's length, `done` the positions already prefilled, `total` the positions that the
prefill runs to; `end_` is the terminal status once fixed, `finalSent` set once its record is produced and `finalDone` once it is
written to the host. `cancels` lists the sessions whose CANCEL waits (session, 0);
`before` is the time in µs that a request adopted here ran on another part (R345). -/
structure Req where
  id : Nat
  sess : Nat
  tag : Nat
  seq : Nat
  st : ReqState
  stage : AdmitStage
  params : Bytes
  ver : Nat
  draft : Option Nat
  companion : Option Nat
  cmd : Nat
  prefix_ : Bool
  tokens : List Nat
  prompt : Nat
  allowed : List Nat
  seed : Word64
  gram : Option Nat
  gramState : Nat
  draftLen : Nat
  noAccept : Nat
  cohort : Nat
  admitAt : Nat
  lastCommit : Nat
  measured : Bool
  ttft : Nat
  tbtMisses : Nat
  maxTbt : Nat
  limitNs : Option Nat
  finalDone : Bool
  heldFlag : Bool
  refill : Bool
  refillFlag : Bool
  done : Nat
  total : Nat
  run : Option StepRun
  recs : List TokRec
  cancels : List (Nat × Nat)
  cancelEnd : Nat
  end_ : Nat
  finalSent : Bool
  isProtected : Bool
  askId : Nat
  askAt : Nat
  before : Nat
deriving DecidableEq, Repr

/-- A held slot of a session (R275): its owner, version and token record. -/
structure HeldSlot where
  sess : Nat
  ver : Nat
  tokens : List Nat
deriving DecidableEq, Repr

/-- A journaled request at the partner (R334, R335): ADMIT body, tokens, END, draft state, grammar state, elapsed time, the bytes that its
records take, and whether they can still be read. -/
structure JReq where
  id : Nat
  admission : Bytes
  tokens : List Nat
  end_ : Nat
  draftLen : Nat
  noAccept : Nat
  gramState : Nat
  elapsedUs : Nat
  size : Nat
  lost : Bool
deriving DecidableEq, Repr

/-- The journal that the part holds for one source (R333, R335, R341): the stripes that its records lie in. -/
structure JSrc where
  part : Nat
  isSealed : Bool
  reqs : List JReq
  stripes : List Nat
  adopted : Nat
deriving DecidableEq, Repr

/-- A SET of JOURNAL_PARTNER in progress (R338, R340). -/
structure JSet where
  part : Nat
  sess : Nat
  since : Nat
  answered : Bool
deriving DecidableEq, Repr

/-- The journal (R333 to R345): partner, loss, SET in progress, sources held, and by source the pieces of a record that is not whole yet.
`pending` lists the records of resyncs and adoptions whose acknowledgement is awaited (kind, request), with the token records of the
request that the acknowledgement releases. -/
structure Jrn where
  partner : Option Nat
  lost : Bool
  set : Option JSet
  sources : List JSrc
  partial_ : List (Nat × Bytes)
  pending : List (Nat × Nat × Nat)
deriving DecidableEq, Repr

/-- Neither partner nor source. -/
def Jrn.reset : Jrn := { partner := none, lost := false, set := none, sources := [], partial_ := [], pending := [] }

/-- Serving: requests and held slots by sequence slot, requests whose final record was delivered and whose FREE record is due, with the partner,
and the order of admission. -/
structure Serv where
  reqs : List (Nat × Req)
  heldSlots : List (Nat × HeldSlot)
  order : List Nat
  frees : List (Nat × Nat)
  cohorts : Nat
deriving DecidableEq, Repr

/-- No request. -/
def Serv.reset : Serv := { reqs := [], heldSlots := [], order := [], frees := [], cohorts := 0 }


/-! ### The sleep image (R406) -/

/-- What the encrypted sleep image holds: the model table with the scrub instants, grammars and tier state, the model keys, the slab
allocation, the RW fields of the CTL registers, the stochastic rounding seed and the policy firmware image. `valid` says that its tag
verifies. -/
structure SleepImage where
  nonce : Bytes
  sealKey : BitVec 256
  valid : Bool
  models : Models
  keys : List (Nat × BitVec 256)
  slabs : List (Nat × SlabUse)
  regs : List (Nat × Word64)
  ranks : List (Nat × Nat)
  seed : Word64
  policy : Option Bytes
deriving DecidableEq, Repr

/-! ### The whole -/

/-- Everything the manual gives the part but the byte memories. `regs` holds the stored register words. `freeTick` counts the free values taken (the model's own). -/
structure Part where
  freeTick : Nat
  clk : Clk
  pins : Pins
  boot : Boot
  log : LogRows
  evcCopy : Option EvcCopy
  image : Option SleepImage
  pwr : Pwr
  therm : Therm
  host : HostLink
  sess : List (Nat × Session)
  d2d : D2d
  ctl : Ctl
  sec : Sec
  frz : Frz
  trace : Trace
  regs : RegFile
  an : An
  clusters : List (Nat × Cluster)
  hbm : List (Nat × Stack)
  flash : Memory
  failedDie : Option Nat
  fabCfg : FabCfg
  fab : Fab
  models : Models
  kv : Kv
  serv : Serv
  jrn : Jrn
deriving DecidableEq, Repr

/-- The part before its first power-on: every field at its reset value (R10, R374), the boot flash unlisted. -/
def Part.reset : Part :=
  { freeTick := 0, clk := Clk.reset, pins := Pins.reset, boot := Boot.reset, log := LogRows.reset, evcCopy := none,
    image := none, pwr := Pwr.reset, therm := Therm.reset, host := HostLink.reset, sess := [], d2d := D2d.reset,
    ctl := Ctl.reset, sec := Sec.reset, frz := Frz.reset, trace := Trace.reset, regs := RegFile.reset, an := An.reset, clusters := [],
    hbm := [], flash := [], failedDie := none, fabCfg := FabCfg.reset,
    fab := Fab.reset, models := Models.reset, kv := Kv.reset, serv := Serv.reset, jrn := Jrn.reset }

/-- Why a step stops. -/
inductive Fault where
  /-- A command names a tile, die, session or other object that the part does not have: no such command can occur.
  Raised by `State.live`. Safe. -/
  | noSuchObject
deriving DecidableEq, Repr

/-- Why a command has no meaning. -/
inductive Refusal where
  /-- The command has no meaning yet; its mnemonic in the opcode table. Raised by `exec` alone. Safe. -/
  | notModelled (mnemonic : String)
deriving DecidableEq, Repr

/-- The state of the block: the commands that wait, the part, and its two byte memories: `mem`, the control-space addresses
from 0x50_0000_0000 (R278), and `kvmem`, the bytes of KV pages (R177). -/
structure State where
  pending : List Instr
  part : Part
  mem : Memory
  kvmem : Memory
deriving DecidableEq, Repr

/-- The part as it stands before power-on, with no command waiting. -/
def State.reset : State := { pending := [], part := Part.reset, mem := [], kvmem := [] }

end Sys2Proof.Machine
end

