-- ==== Sys2Proof/Machine/Ops.lean ====
section
/-! DEFINITION. Ops: the operations that every chapter shares: part time, register fields and counters, domains and dies,
replies, notices, event messages, trace entries, part fault, and the forms in which a command takes effect. -/
namespace Sys2Proof.Machine

/-- What a command answers. -/
abbrev Out := Host.Outcome State Fault Refusal

/-- Part time in ns: floor(cycles * 32 / 5) (R372). -/
def Part.now (p : Part) : Nat := p.clk.cycles * 32 / 5

/-- Take a free value (log entry 2). -/
def Part.free (p : Part) : Word64 × Part := (Config.freeValue p.freeTick, { p with freeTick := p.freeTick + 1 })

/-- One cycle of REFCLK_156 passes: the AON island counts it while the part is powered and the reference is present (R372). -/
def Part.tick (p : Part) : Part :=
  if p.pins.pgIn && p.clk.ref156 then { p with clk := { p.clk with cycles := p.clk.cycles + 1 } } else p

/-- The stored word of a register address: its RW and WC fields (R7, R10). -/
def Part.regGet (p : Part) (a : Nat) : Word64 := mget (regReset a) p.regs.words a

/-- Store a register word. -/
def Part.regSet (p : Part) (a : Nat) (v : Word64) : Part := { p with regs := { p.regs with words := mset (regReset a) p.regs.words a v } }

/-- A field of a stored register word. -/
def Part.regFld (p : Part) (a lo w : Nat) : Nat := getBits (p.regGet a) lo w

/-- What the WC fields of a register have counted in the present cycle (R8). -/
def Part.regHits (p : Part) (a : Nat) : Word64 := if p.regs.cycle = p.clk.cycles then mget 0 p.regs.hits a else 0

/-- Note a register's counts of the present cycle; those of an earlier cycle are forgotten. -/
def RegFile.note (r : RegFile) (now a : Nat) (v : Word64) : RegFile :=
  { r with cycle := now, hits := mset 0 (if r.cycle = now then r.hits else []) a v }

/-- Count `n` events in the saturating counter field at bits `lo` to `lo + w - 1` of a register, or set the bit where the field is one bit
wide (R8). -/
def Part.bump (p : Part) (a lo w n : Nat) : Part :=
  let h := p.regHits a
  let q := p.regSet a (setBits (p.regGet a) lo w (satAdd w (p.regFld a lo w) n))
  { q with regs := q.regs.note p.clk.cycles a (setBits h lo w (satAdd w (getBits h lo w) n)) }

/-- The power domain that holds a die (R13). CTL counts as CTL_MAIN. -/
def dieDomain (d : Nat) : Nat :=
  if d = 0 then 1 else if d = 1 then 2 else if d ≤ 3 then 19 else if d ≤ 7 then d + 11 else if d ≤ 11 then d + 3 else d - 9

/-- The lowest-numbered die of a domain (R400). -/
def domainDie (d : Nat) : Nat :=
  if d ≤ 1 then 0 else if d = 2 then 1 else if d = 19 then 2 else if 15 ≤ d then d - 11 else if 11 ≤ d then d - 3 else d + 9

/-- A power domain's record. -/
def Part.dom (p : Part) (d : Nat) : Dom := mget Dom.reset p.pwr.dom d

/-- Replace a power domain's record. -/
def Part.setDom (p : Part) (d : Nat) (v : Dom) : Part :=
  { p with pwr := { p.pwr with dom := mset Dom.reset p.pwr.dom d v } }

/-- The domain's STATE; domain 0 always reads ON (R400). -/
def Part.domSt (p : Part) (d : Nat) : DomState := if d = 0 then .on else (p.dom d).st

/-- The domain is powered with its dies out of reset or leaving it: STARTING, ON or CLOSING. -/
def Part.domUp (p : Part) (d : Nat) : Bool :=
  match p.domSt d with
  | .on => true
  | .starting => true
  | .closing => true
  | _ => false

/-- A unit of the domain can act: the part is powered (R397), not frozen (R465), not held in reset (R378) and not quenched (R432), and the
domain is powered. -/
def Part.alive (p : Part) (d : Nat) : Bool :=
  p.pins.pgIn && !p.frz.active && !p.boot.held && !p.boot.perstHeld && !p.therm.quenched && p.domUp d

/-- The command acts on the part; an event whose condition does not hold leaves it unchanged (log entry 3). -/
def State.on (s : State) (f : Part → Part) : Out := .next { s with part := f s.part }

/-- The command acts on a unit of power domain `d`. `ok` says that the objects it names exist. Where the domain cannot act
the event does not occur (log entry 3). -/
def State.live (s : State) (d : Nat) (ok : Bool) (f : Part → Part) : Out :=
  if ok then .next (if s.part.alive d then { s with part := f s.part } else s) else .fault .noSuchObject

/-- The same for a command that reads or writes the byte memories. -/
def State.liveMem (s : State) (d : Nat) (ok : Bool) (f : State → State) : Out :=
  if ok then .next (if s.part.alive d then f s else s) else .fault .noSuchObject

/-! ### Sessions: records, replies and notices -/

/-- A session's record. -/
def Part.ses (p : Part) (i : Nat) : Session := mget Session.reset p.sess i

/-- Replace a session's record. -/
def Part.setSes (p : Part) (i : Nat) (v : Session) : Part := { p with sess := mset Session.reset p.sess i v }

/-- Change a session's record. -/
def Part.modSes (p : Part) (i : Nat) (f : Session → Session) : Part := p.setSes i (f (p.ses i))

/-- Replies of kinds 2 to 5 that wait (R251). -/
def noticesWaiting (rs : List Reply) : Nat := (rs.filter fun r => decide (2 ≤ r.kind ∧ r.kind ≤ 5)).length

/-- A reply is produced for a session that is not CLOSED: it waits in order (R247, R251). A reply of kinds 2 to 5 beyond 256
such is dropped and counted in NOTICE_DROP. -/
def Part.produce (p : Part) (i : Nat) (r : Reply) : Part :=
  match (p.ses i).st with
  | .closed => p
  | _ =>
    if 2 ≤ r.kind ∧ r.kind ≤ 5 ∧ 256 ≤ noticesWaiting (p.ses i).waiting then p.bump (aSessCnt i) 16 16 1
    else p.modSes i fun s => { s with waiting := s.waiting ++ [r] }

/-- The same reply to every session of a list that has a NOTICE_MASK bit set (R251). -/
def Part.toMasked (p : Part) (mask : Nat) (r : Reply) : List Nat → Part
  | [] => p
  | i :: is =>
    (if (p.ses i).noticeMask.testBit mask then p.produce i r else p).toMasked mask r is

/-- Every session number. -/
def allSessions : List Nat := List.range 64

/-- A reply of kind `k` that no command caused (R249). -/
def freeReply (k : Nat) (body : Bytes) : Reply :=
  { op := 0, kind := k, tag := 0, seq := 0, status := 0, body := body, owner := 0, id := 0 }

/-- A NOTICE reply with its code and up to 14 bytes, to every session with NOTICE_MASK bit 3 (R249, R251). -/
def Part.notice (p : Part) (code : Nat) (b : Bytes) : Part :=
  p.toMasked 3 (freeReply 5 (padTo 16 (leBytes 2 code ++ b))) allSessions

/-! ### MSI-X (R252, R377) -/

/-- The part may write to host memory: link up and Bus Master Enable set (R377). -/
def Part.canWrite (p : Part) : Bool := p.host.linkUp && p.host.bme

/-- Where BAR4 begins in the numbering of host accesses: behind the 2 GiB of BAR2. DESIGN CHOICE (log entry 178). -/
def bar4Base : Nat := 2 ^ 31

/-- The MSI-X table entry of a vector (R235). -/
def Part.msixEntry (p : Part) (v : Nat) : MsixEntry := mget MsixEntry.reset p.host.table v

/-- Signal an MSI-X vector, or hold it as a pending bit while the part may not write or the vector is masked (R235, R252, R377). -/
def Part.msix (p : Part) (v : Nat) : Part :=
  if p.canWrite && !(p.msixEntry v).masked then { p with host := { p.host with msixSent := p.host.msixSent ++ [(v, p.now)] } }
  else if p.host.msixPend.contains v then p
  else { p with host := { p.host with msixPend := p.host.msixPend ++ [v] } }

/-- Pending MSI-X signals that may go out are sent (R377). -/
def Part.msixFlush (p : Part) : Part :=
  let ready (v : Nat) : Bool := p.canWrite && !(p.msixEntry v).masked
  { p with host := { p.host with
      msixSent := p.host.msixSent ++ (p.host.msixPend.filter ready).map fun x => (x, p.now), msixPend := p.host.msixPend.filter fun v => !ready v } }

/-! ### Events (R359, R360) -/

/-- Send an event message to the event controller: line and 12 bytes of data (R360). -/
def Part.event (p : Part) (line : Nat) (data : Bytes) : Part :=
  { p with ctl := { p.ctl with events := p.ctl.events ++ [padTo 16 (leBytes 2 line ++ [0, 0] ++ data.take 12)] } }

/-! ### Trace (R475 to R477) -/

/-- A trace entry of 32 bytes (R476). -/
def traceEntry (t src dir w : Nat) (payload : Bytes) : Bytes :=
  leBytes 8 t ++ leBytes 1 src ++ leBytes 1 dir ++ leBytes 2 w ++ padTo 16 (payload.take 16) ++ zpad 4

/-- Store a trace entry of one source, or drop and count it (R477). Entries of one step enter in the order of the step. -/
def Part.traceAdd (p : Part) (src dir w : Nat) (payload : Bytes) : Part :=
  if p.trace.mode = 0 ∨ !p.trace.sources.testBit src then p
  else
    let e := traceEntry p.now src dir w payload
    if p.trace.entries.length < 131072 then
      { p with trace := { p.trace with entries := p.trace.entries ++ [e], written := (p.trace.written + 1) % 2 ^ 32 } }
    else if p.trace.mode = 1 then
      { p with trace := { p.trace with entries := p.trace.entries.drop 1 ++ [e], written := (p.trace.written + 1) % 2 ^ 32 } }
    else p.bump aTraceCnt 32 32 1

/-! ### Part fault (R331) -/

/-- The part treats a die as failed: part fault from this instant, PART_EVENT, vector 64 and a PART_FAULT notice (R331).
Token records that wait are not written any more. FAILED_DIE keeps the first die. A domain that is ON fails with its die (R400). -/
def Part.dieFailed (p : Part) (d : Nat) : Part :=
  let p := if p.domSt (dieDomain d) = .on then p.setDom (dieDomain d) { p.dom (dieDomain d) with st := .failed } else p
  match p.failedDie with
  | some _ => p
  | none =>
    let p : Part := { p with failedDie := some d, sess := p.sess.map fun s => (s.1, { s.2 with waiting := s.2.waiting.filter fun r => r.kind != 1 }) }
    (p.msix 64).notice 0x200 (leBytes 2 p.fabCfg.partId)

/-- The part is in part fault (R331). -/
def Part.faulted (p : Part) : Bool := p.failedDie.isSome

/-- A condition that fails a die: part fault in service, stage FAULT with the code during bring-up (R373, R390, R400). -/
def Part.bringupFault (p : Part) (code d : Nat) : Part :=
  if p.boot.stage = 7 ∨ p.boot.stage = 6 then p
  else if p.boot.stage < 3 then { p with boot := { p.boot with stage := 7, faultCode := code } } else p.dieFailed d

end Sys2Proof.Machine
end

