-- ==== Sys2Proof/Machine/Topology.lean ====
section
/-! DEFINITION. Topology: the UCIe modules of R14, the ports of R18, and the mesh paths of R500. -/
namespace Sys2Proof.Machine

/-- Data modules between two dies, lower number first (R14). -/
def dataModsLt (a b : Nat) : Nat :=
  if a = 0 then (if b ≤ 3 then 1 else 0)
  else if 4 ≤ a ∧ a ≤ 7 then (if b = a + 4 then 3 else 0)
  else if a = 2 then (if b = 8 ∨ b = 9 then 1 else 0)
  else if a = 3 then (if b = 10 ∨ b = 11 then 1 else 0)
  else if 8 ≤ a ∧ a ≤ 11 then
    if b ≤ 11 then (if b = a + 1 then 2 else 0)
    else if b ≤ 19 ∧ (a - 8) / 2 = ((b - 12) % 4) / 2 then 3 else 0
  else if 12 ≤ a then (if a % 2 = 0 ∧ b = a + 1 ∧ b ≤ 19 then 1 else 0)
  else 0

/-- Mesh modules between two dies, lower number first (R14): CTL to CXD1 and CXD2, ACDn to CXD(n mod 4). DESIGN CHOICE, log entry 142:
both modules of a pair of context dies count as data modules. -/
def meshModsLt (a b : Nat) : Nat :=
  if a = 0 ∧ (b = 9 ∨ b = 10) then 1
  else if 8 ≤ a ∧ a ≤ 11 ∧ 12 ≤ b ∧ b ≤ 19 ∧ (b - 12) % 4 = a - 8 then 1
  else 0

/-- Data modules of a pair of dies, in either order. -/
def dataMods (a b : Nat) : Nat := if a < b then dataModsLt a b else if b < a then dataModsLt b a else 0

/-- Mesh modules of a pair of dies, in either order. -/
def meshMods (a b : Nat) : Nat := if a < b then meshModsLt a b else if b < a then meshModsLt b a else 0

/-- The ports of a die: (peer die, module index), data modules first and the mesh module after them (R18). -/
def portTable (d : Nat) : List (Nat × Nat) :=
  (List.range 20).flatMap fun e => (List.range (dataMods d e + meshMods d e)).map fun i => (e, i)

/-- The place of a (peer, module index) pair in a port table. -/
def portIndex : List (Nat × Nat) → Nat × Nat → Nat → Option Nat
  | [], _, _ => none
  | x :: xs, y, n => if x = y then some n else portIndex xs y (n + 1)

/-- The die and port at the other end of a module. -/
def farEnd (d p : Nat) : Option (Nat × Nat) :=
  match (portTable d)[p]? with
  | none => none
  | some (e, i) =>
    match portIndex (portTable e) (d, i) 0 with
    | none => none
    | some q => some (e, q)

/-- The port is the pair's mesh module. -/
def isMeshPort (d p : Nat) : Bool :=
  match (portTable d)[p]? with
  | none => false
  | some (e, i) => decide (meshMods d e = 1 ∧ i = dataMods d e)

/-- The key of a port record. -/
def portKey (d p : Nat) : Nat := d * 32 + p

/-- A port's record. -/
def Part.port (s : Part) (d p : Nat) : Port := mget Port.reset s.d2d.ports (portKey d p)

/-- Replace a port's record. -/
def Part.setPort (s : Part) (d p : Nat) (v : Port) : Part :=
  { s with d2d := { s.d2d with ports := mset Port.reset s.d2d.ports (portKey d p) v } }

/-- Change the records of both ends of a module. -/
def Part.bothEnds (s : Part) (d p : Nat) (f : Port → Port) : Part :=
  match farEnd d p with
  | none => s
  | some (e, q) =>
    let s1 := s.setPort d p (f (s.port d p))
    s1.setPort e q (f (s1.port e q))

/-- The module is active, at 32 or at 16 GT/s (R19). -/
def Part.active (s : Part) (d p : Nat) : Bool := (s.port d p).st == 2 || (s.port d p).st == 3

/-- The ports of `d` that lead to die `e`, lowest first. -/
def portsTo (d e : Nat) : List Nat :=
  (List.range (portTable d).length).filter fun p => ((portTable d)[p]?.map Prod.fst) == some e

/-- The module a pair of dies uses: its mesh module, else its lowest-numbered active module (R500). -/
def Part.pairPort (s : Part) (d e : Nat) : Option Nat :=
  match (portsTo d e).find? (isMeshPort d) with
  | some p => some p
  | none => (portsTo d e).find? (s.active d)

/-- The attachment router of a die (R500); a die that holds a router is its own. -/
def attach (d : Nat) : Nat :=
  if d ≤ 3 then 0 else if d ≤ 7 then d + 4 else if d ≤ 11 then d else 8 + (d - 12) % 4

/-- The next router on the unique shortest path between two routers (R500). -/
def nextRouter (r t : Nat) : Nat :=
  if r = 0 then (if t ≤ 9 then 9 else 10)
  else if r = 8 then 9
  else if r = 11 then 10
  else if r = 9 then (if t = 8 then 8 else if t = 0 then 0 else 10)
  else (if t = 11 then 11 else if t = 0 then 0 else 9)

/-- The routers from one to another, both included; `n` bounds their number. -/
def routers : Nat → Nat → Nat → List Nat
  | 0, r, _ => [r]
  | n + 1, r, t => if r = t then [r] else r :: routers n (nextRouter r t) t

/-- The dies of the fixed path of a message (R500): two dies that share a module are next to each other; between others the path leads
from the source to its attachment router, over the routers, and to the destination. -/
def fixedPath (src dst : Nat) : List Nat :=
  if src = dst then [src]
  else if 0 < dataMods src dst + meshMods src dst then [src, dst]
  else
    (if attach src = src then [] else [src]) ++ routers 5 (attach src) (attach dst) ++ (if attach dst = dst then [] else [dst])

/-- The die after `d` on a path. -/
def nextOn (d : Nat) : List Nat → Option Nat
  | x :: y :: r => if x = d then some y else nextOn d (y :: r)
  | _ => none

/-- Every hop of a path has an active module for it. -/
def Part.pathUp (s : Part) : List Nat → Bool
  | x :: y :: r => (match s.pairPort x y with
    | none => false
    | some p => s.active x p) && s.pathUp (y :: r)
  | _ => true

/-- One round of distances to a die over active modules; 100 stands for unreachable. -/
def Part.relax (s : Part) (ds : List Nat) : List Nat :=
  (List.range 20).map fun d =>
    (List.range (portTable d).length).foldl (fun m p =>
      match (portTable d)[p]? with
      | none => m
      | some (e, _) => if s.active d p then min m (nth 100 ds e + 1) else m) (nth 100 ds d)

/-- Distances to a die over active modules after `n` rounds. -/
def Part.distances (s : Part) (e : Nat) : Nat → List Nat
  | 0 => (List.range 20).map fun d => if d = e then 0 else 100
  | n + 1 => s.relax (s.distances e n)

/-- The lowest-numbered port of the shortest path over active modules from die `d` to die `e`. -/
def Part.shortPort (s : Part) (d e : Nat) : Option Nat :=
  let ds := s.distances e 20
  (List.range (portTable d).length).find? fun p =>
    match (portTable d)[p]? with
    | none => false
    | some (f, _) => s.active d p && decide (nth 100 ds f < 100 ∧ nth 100 ds f + 1 = nth 100 ds d)

/-- The port on which die `d` sends a message of `src` for `dst` on: the fixed path's, or while a module of that path is down, or off
it, the shortest path's (R17, R500); none when no path remains. A message for a die that the part does not have leaves on the
lowest-numbered active port (DESIGN CHOICE, log entry 143): the die that receives it discards it (R21). -/
def Part.nextPort (s : Part) (d src dst : Nat) : Option Nat :=
  if 20 ≤ dst then (List.range (portTable d).length).find? (s.active d)
  else
    let path := fixedPath src dst
    match nextOn d path with
    | some e => if s.pathUp path then s.pairPort d e else s.shortPort d dst
    | none => s.shortPort d dst

/-- A path over active modules joins two dies. -/
def Part.reachable (s : Part) (d e : Nat) : Bool := d == e || (s.nextPort d d e).isSome

end Sys2Proof.Machine
end

