-- ==== Sys2Proof/Machine/Mesh.lean ====
section
/-! DEFINITION. Mesh: UCIe modules, die messages held and acknowledged, returns and replies, and the timers of CTL's die
commands (R15 to R24, R243, R283 to R291, R500). -/
namespace Sys2Proof.Machine

/-! ### Status codes (R280) -/

/-- OK. -/
def stOk : Nat := 0x0000
/-- ALREADY_DONE. -/
def stAlreadyDone : Nat := 0x0001
/-- BAD_OPCODE. -/
def stBadOpcode : Nat := 0x0100
/-- BAD_CLASS. -/
def stBadClass : Nat := 0x0101
/-- LEN_RANGE. -/
def stLenRange : Nat := 0x0102
/-- BAD_PARAM. -/
def stBadParam : Nat := 0x0103
/-- BAD_VERSION. -/
def stBadVersion : Nat := 0x0104
/-- NOT_NEGOTIATED. -/
def stNotNegotiated : Nat := 0x0105
/-- BAD_UNIT. -/
def stBadUnit : Nat := 0x0106
/-- SEQ_ERR. -/
def stSeqErr : Nat := 0x0107
/-- CREDIT_OVERRUN. -/
def stCreditOverrun : Nat := 0x0108
/-- UNAUTHORISED. -/
def stUnauthorised : Nat := 0x0109
/-- STALE_ROLE. -/
def stStaleRole : Nat := 0x0200
/-- BUSY. -/
def stBusy : Nat := 0x0201
/-- NOT_READY. -/
def stNotReady : Nat := 0x0202
/-- NO_SPACE. -/
def stNoSpace : Nat := 0x0203
/-- NO_SLOT. -/
def stNoSlot : Nat := 0x0204
/-- POLICY_REJECT. -/
def stPolicyReject : Nat := 0x0205
/-- MODEL_UNAVAILABLE. -/
def stModelUnavailable : Nat := 0x0206
/-- NO_PARTNER. -/
def stNoPartner : Nat := 0x0207
/-- TIMEOUT. -/
def stTimeout : Nat := 0x0208
/-- BANK_STATE. -/
def stBankState : Nat := 0x0300
/-- BANK_EXPIRED. -/
def stBankExpired : Nat := 0x0301
/-- WRITE_FAILED. -/
def stWriteFailed : Nat := 0x0302
/-- WEAR_LIMIT. -/
def stWearLimit : Nat := 0x0303
/-- PAGE_FAULT. -/
def stPageFault : Nat := 0x0304

/-! ### Sending -/

/-- The key of a sequence counter: source, destination, class (R20). -/
def seqKey (src dst cls : Nat) : Nat := (src * 32 + dst) * 8 + cls

/-- Credits that a message consumes (R23). -/
def msgCredits (len : Nat) : Nat := (16 + len + 255) / 256

/-- The 16-byte envelope of a message (R20). -/
def envelope (m : DieMsg) : Bytes :=
  leBytes 1 (m.dst + 32 * m.cls) ++ leBytes 1 m.src ++ leBytes 2 m.len ++ leBytes 2 m.unit ++ leBytes 2 m.epoch ++
  leBytes 4 m.seq ++ leBytes 1 m.crClass ++ [0] ++ leBytes 2 m.crCount

/-- A list of eight counts by class, with one of them changed. -/
def classMod (l : List Nat) (c : Nat) (f : Nat → Nat) : List Nat :=
  setNth (l ++ List.replicate (8 - l.length) 0) c (f (nth 0 l c))

/-- A port's credits of one class, changed by `f`. -/
def Port.credit (q : Port) (c : Nat) (f : Nat → Nat) : Port := { q with credits := classMod q.credits c f }

/-- What a port owes its peer of one class, changed by `f`. -/
def Port.owe (q : Port) (c : Nat) (f : Nat → Nat) : Port := { q with owed := classMod q.owed c f }

/-- The class of which a port owes most, the lowest on a tie, and how much: the CR fields of the next message (R20, R23; DESIGN CHOICE,
log entry 144). -/
def Port.returns (q : Port) : Nat × Nat :=
  (List.range 8).foldl (fun x c => if x.2 < min (nth 0 q.owed c) 65535 then (c, min (nth 0 q.owed c) 65535) else x) (0, 0)

/-- A message of the same class waits for credits at the same port already. -/
def Part.waitsBehind (p : Part) (h : HeldMsg) : Bool :=
  p.d2d.held.any fun x => x.holder == h.holder && x.port == h.port && x.m.cls == h.m.cls && !x.sent

/-- Append to the messages held. -/
def Part.hold (p : Part) (h : HeldMsg) : Part := { p with d2d := { p.d2d with held := p.d2d.held ++ [h] } }

/-- A message goes out: it consumes credits of its class, takes the credits to return along, and stays held until the receiving adapter
acknowledges it (R17, R23). What CTL sends is traced (R475). -/
def Part.launch (p : Part) (h : HeldMsg) : Part :=
  let r := p.port h.holder h.port
  let cr := r.returns
  let m := { h.m with crClass := cr.1, crCount := cr.2 }
  let p := if h.holder = 0 ∧ h.m.src = 0 ∧ 0 < h.m.len then p.traceAdd 0 0 h.port (envelope m) else p
  (p.setPort h.holder h.port ((r.credit h.m.cls fun c => c - msgCredits h.m.len).owe cr.1 fun c => c - cr.2)).hold
    { h with m := m, sent := true }

/-- A message goes to its port: out at once when the credits of its class suffice and none of its class waits there, else behind those that
wait (R23, R24). The answer says whether it went out. -/
def Part.offer (p : Part) (h : HeldMsg) : Part × Bool :=
  if p.waitsBehind h || decide (nth 0 (p.port h.holder h.port).credits h.m.cls < msgCredits h.m.len) then (p.hold { h with sent := false }, false)
  else (p.launch h, true)

/-- A die's next SEQ towards another die in a class (R20), and the part with it taken. -/
def Part.takeSeq (p : Part) (src dst cls : Nat) : Nat × Part :=
  let k := seqKey src dst cls
  let n := mget 0 p.d2d.txSeq k
  (n, { p with d2d := { p.d2d with txSeq := mset 0 p.d2d.txSeq k ((n + 1) % 2 ^ 32) } })

/-- A credit-only message to the peer of a port (R20, R23), of the mesh-management class, unless one waits there. -/
def Part.creditOnly (p : Part) (d q : Nat) : Part :=
  match farEnd d q with
  | none => p
  | some (e, _) =>
    if p.d2d.held.any fun x => x.holder == d && x.port == q && x.m.len == 0 && !x.sent then p
    else
      let (n, p) := p.takeSeq d e 6
      (p.offer { m := { dst := e, cls := 6, src := d, len := 0, unit := 0, epoch := 0, seq := n, crClass := 0, crCount := 0, payload := [] },
                 holder := d, port := q, since := p.now, inPort := 32, sent := false }).1

/-- A message leaves the receive buffer of its class at a port (R24): its credits go back to the peer with the next message, or in a
credit-only message once half of the initial credits of the class are owed (R23; DESIGN CHOICE, log entry 144). A credit-only message
asks for no other. -/
def Part.freeRx (p : Part) (d q : Nat) (m : DieMsg) : Part :=
  if !p.active d q ∨ 7 ≤ m.cls then p
  else
    let r := (p.port d q).owe m.cls (· + msgCredits m.len)
    let p := p.setPort d q r
    if 0 < m.len ∧ 0 < nth 0 r.full m.cls ∧ nth 0 r.full m.cls ≤ 2 * nth 0 r.owed m.cls then p.creditOnly d q else p

/-- A message goes to its port, and leaves the receive buffer it lay in when it goes out. -/
def Part.post (p : Part) (h : HeldMsg) : Part :=
  let (q, out) := p.offer h
  if out && decide (h.inPort < 32) then q.freeRx h.holder h.inPort h.m else q

/-- Credits have come at a port: the messages that wait there go out in their order, each class for itself (R23, R24). -/
def Part.pump (p : Part) (d q : Nat) : Part :=
  let one (x : Part × List HeldMsg) (h : HeldMsg) : Part × List HeldMsg :=
    if h.holder = d ∧ h.port = q ∧ !h.sent then
      let (p, out) := x.1.offer h
      (p, if out && decide (h.inPort < 32) then x.2 ++ [h] else x.2)
    else (x.1.hold h, x.2)
  let r := p.d2d.held.foldl one ({ p with d2d := { p.d2d with held := [] } }, [])
  r.2.foldl (fun q h => q.freeRx h.holder h.inPort h.m) r.1

/-- A die sends a message of its own (R17, R20, R23): it takes the next SEQ and goes to its port. A destination that no path reaches is
treated as failed (R17). -/
def Part.send (p : Part) (m : DieMsg) : Part :=
  let (n, p) := p.takeSeq m.src m.dst m.cls
  match p.nextPort m.src m.src m.dst with
  | none => if m.dst < 20 then p.dieFailed m.dst else p
  | some q => p.post { m := { m with seq := n }, holder := m.src, port := q, since := p.now, inPort := 32, sent := false }

/-- A die raises an event of a line (R360): CTL's own reaches the event controller at once, another die's goes in an event message to unit
0x100 of CTL. -/
def Part.eventFrom (p : Part) (die line : Nat) (data : Bytes) : Part :=
  if die = 0 then p.event line data
  else p.send { dst := 0, cls := 5, src := die, len := 16, unit := 0x100, epoch := 0, seq := 0, crClass := 0, crCount := 0,
                payload := padTo 16 (leBytes 2 line ++ [0, 0] ++ data.take 12) }

/-- The header of a reply carried in a reply-class die message (R243, R249). -/
def dieReplyBytes (m : DieMsg) (status : Nat) (body : Bytes) : Bytes :=
  (if m.cls = 0 then leBytes 1 (fld m.payload 0 1) else [0]) ++ [0] ++ leBytes 2 (16 + body.length) ++
  (if m.cls = 0 then slice m.payload 4 4 ++ slice m.payload 8 4 else zpad 8) ++ leBytes 2 status ++ [0, 0] ++ body

/-- Answer a message from die `at_`: a reply-class message to its SRC_DIE that names the answering unit and carries that unit's
epoch (R243). -/
def Part.answer (p : Part) (at_ : Nat) (m : DieMsg) (epoch status : Nat) (body : Bytes) : Part :=
  let b := dieReplyBytes m status body
  p.send { dst := m.src, cls := 1, src := at_, len := b.length, unit := m.unit, epoch := epoch, seq := 0,
           crClass := 0, crCount := 0, payload := b }

/-- The 16-byte return body of R283: original CLASS, OPCODE of a command, original SEQ, the unit's epoch. -/
def returnBody (m : DieMsg) (epoch : Nat) : Bytes :=
  leBytes 1 m.cls ++ [0] ++ (if m.cls = 0 then leBytes 1 (fld m.payload 0 1) else [0]) ++ [0] ++ leBytes 4 m.seq ++
  leBytes 2 epoch ++ zpad 6

/-- Return a message unexecuted with a status (R21, R283, R506). -/
def Part.giveBack (p : Part) (at_ : Nat) (m : DieMsg) (epoch status : Nat) : Part :=
  p.answer at_ m epoch status (returnBody m epoch)

/-! ### Unit inboxes (R284) -/

/-- The key of a unit's inbox. -/
def unitKey (die unit : Nat) : Nat := die * 65536 + unit

/-- The messages waiting at a unit, first to be handled first. -/
def Part.inbox (p : Part) (die unit : Nat) : List Arrived := mget [] p.d2d.inbox (unitKey die unit)

/-- Replace a unit's inbox. -/
def Part.setInbox (p : Part) (die unit : Nat) (l : List Arrived) : Part :=
  { p with d2d := { p.d2d with inbox := mset [] p.d2d.inbox (unitKey die unit) l } }

/-- The opcode of a command-class message (R242). -/
def msgOpcode (m : DieMsg) : Nat := fld m.payload 0 1

/-- The message is epoch-changing by its opcode and destination unit alone (R284). -/
def msgEpochChanging (m : DieMsg) : Bool :=
  m.cls == 0 &&
  ((decide (12 ≤ m.dst ∧ m.unit ≤ 0x7FF) && decide (0xA0 ≤ (msgOpcode m) ∧ (msgOpcode m) ≤ 0xA4)) ||
   (decide (8 ≤ m.dst ∧ m.dst ≤ 11 ∧ m.unit ≤ 0x3FFF) && ((msgOpcode m) == 0xC3 || (msgOpcode m) == 0xC4)))

/-- `a` is handled after `b` among messages of the same cycle: not epoch-changing first, then the lower port (R284). -/
def Arrived.after (a b : Arrived) : Bool :=
  a.cycle == b.cycle &&
  ((msgEpochChanging a.m && !msgEpochChanging b.m) || (msgEpochChanging a.m == msgEpochChanging b.m && decide (b.port < a.port)))

/-- Put an arrival into its unit's order (R284): behind every message of an earlier cycle, and placed within its own. -/
def inboxInsert (x : Arrived) : List Arrived → List Arrived
  | [] => [x]
  | a :: as => if a.after x then x :: a :: as else a :: inboxInsert x as

/-- The next message of a unit, when it is a command with the opcode asked for. -/
def Part.headCmd (p : Part) (die unit op : Nat) : Option DieMsg :=
  match p.inbox die unit with
  | [] => none
  | a :: _ => if a.m.cls = 0 ∧ msgOpcode a.m = op then some a.m else none

/-- Take the next message of a unit. -/
def Part.popInbox (p : Part) (die unit : Nat) : Part := p.setInbox die unit ((p.inbox die unit).drop 1)

/-! ### Module events -/

/-- MODULE_TRAINED (R16, R19, R23): the module is active at the rate it trained at, with PEER_DIE, PEER_MOD and the initial
credits that the sideband exchanged. -/
def Part.moduleTrained (p : Part) (d q : Nat) (credits : List Nat) : Part :=
  if (p.port d q).st ≠ 1 then p
  else
    let load (s : Part) (d q : Nat) : Part :=
      match (portTable d)[q]? with
      | none => s
      | some (e, i) =>
        let r := s.port d q
        s.setPort d q { r with st := if r.slow then 3 else 2, peerDie := e, peerMod := i, credits := credits, owed := [], full := credits }
    match farEnd d q with
    | none => p
    | some (e, r) => load (load p d q) e r

/-- Resend, over another path and in their order, the unacknowledged messages of a module that went down (R17). -/
def Part.reroute (p : Part) : List HeldMsg → Part
  | [] => p
  | h :: hs =>
    let h := if h.sent then { h with sent := false, inPort := 32 } else h
    (match p.nextPort h.holder h.m.src h.m.dst with
     | none => (p.hold h).dieFailed h.m.dst
     | some q => p.post { h with port := q }).reroute hs

/-- A module goes down (R16): both ends read 0, PEER_DIE, PEER_MOD and REPAIRED among them (DESIGN CHOICE, log entry 145), and its
unacknowledged messages take another path (R17). During bring-up a die left without a path to CTL stops bring-up with FAULT_CODE 5
(R390). -/
def Part.moduleDown (p : Part) (d q : Nat) : Part :=
  match farEnd d q with
  | none => p
  | some (e, r) =>
    let p := p.bothEnds d q fun _ => Port.reset
    let lost (h : HeldMsg) : Bool := (h.holder == d && h.port == q) || (h.holder == e && h.port == r)
    let moved := p.d2d.held.filter lost
    let p := { p with d2d := { p.d2d with held := p.d2d.held.filter fun h => !lost h } }
    let p := p.reroute moved
    if p.boot.stage < 3 then
      if p.domUp (dieDomain d) && !p.reachable d 0 then p.bringupFault 5 d
      else if p.domUp (dieDomain e) && !p.reachable e 0 then p.bringupFault 5 e
      else p
    else p

/-- A module fails to train (R16): from 32 GT/s it retrains at 16 GT/s, from 16 GT/s it is down. -/
def Part.moduleTrainFail (p : Part) (d q : Nat) : Part :=
  if (p.port d q).st ≠ 1 then p
  else if (p.port d q).slow then p.moduleDown d q
  else p.bothEnds d q fun r => { r with slow := true }

/-- A module needs more repair than its redundant lanes provide (R16). -/
def Part.moduleFail (p : Part) (d q : Nat) : Part :=
  if (p.port d q).st = 0 then p else p.moduleDown d q

/-- A UCIe lane is repaired onto a redundant lane (R15, R19): REPAIRED rises, up to 8. -/
def Part.laneRepair (p : Part) (d q : Nat) : Part :=
  if (p.port d q).st = 0 ∨ 8 ≤ (p.port d q).repaired then p
  else p.bothEnds d q fun r => { r with repaired := r.repaired + 1 }

/-- An adapter flit fails CRC: CRC_ERR and RETRY rise (R15, R19). -/
def Part.crcRetry (p : Part) (d q : Nat) : Part :=
  if p.active d q then (p.bump (aD2dPortStatus d q) 16 16 1).bump (aD2dPortStatus d q) 32 16 1 else p

/-- The receiving adapter acknowledges a message: the holder releases it (R17). -/
def Part.msgAck (p : Part) (holder src dst cls seq : Nat) : Part :=
  { p with d2d := { p.d2d with held := p.d2d.held.filter fun h =>
      !(h.sent && h.holder == holder && h.m.src == src && h.m.dst == dst && h.m.cls == cls && h.m.seq == seq) } }

/-- A message held for more than 100 ms cannot be delivered: its destination is treated as failed (R286). -/
def Part.deliveryTimeout (p : Part) (src dst cls seq : Nat) : Part :=
  match takeFirst (fun h : HeldMsg => h.m.src == src && h.m.dst == dst && h.m.cls == cls && h.m.seq == seq) p.d2d.held with
  | none => p
  | some (h, rest) =>
    if h.since + 100000000 < p.now then { p with d2d := { p.d2d with held := rest } }.dieFailed dst else p

/-! ### CTL's die commands (R288 to R290) -/

/-- A D2D_TIMEOUT field in ms; a field written as 0 acts as its reset value. -/
def Part.timeoutMs (p : Part) (lo reset : Nat) : Nat :=
  let v := p.regFld aD2dTimeout lo 8
  if v = 0 then reset else v

/-- The time limit of an opcode in ns (R288, CTL.D2D_TIMEOUT). -/
def Part.cmdLimit (p : Part) (op : Nat) : Nat :=
  1000000 *
  (if op = 0xA2 ∨ op = 0xA3 then p.timeoutMs 8 0x64
   else if op = 0xA0 ∨ op = 0xA1 ∨ op = 0xA4 ∨ op = 0xB0 ∨ op = 0xB8 then p.timeoutMs 0 0x05
   else if op = 0xCA then p.timeoutMs 32 0xC8
   else if op = 0xD0 ∨ op = 0xD1 then p.timeoutMs 24 0x32
   else p.timeoutMs 16 0x32)

/-- The command is a write or an erase whose timer waits for earlier ones on the same tile (R288). -/
def bankTimed (op : Nat) : Bool := decide (0xA0 ≤ op ∧ op ≤ 0xA3)

/-- Two outstanding commands go to the same tile. -/
def sameTile (a b : CtlCmd) : Bool := a.die == b.die && decide (a.unit ≤ 0x7FF) && decide (b.unit ≤ 0x7FF) && a.unit / 2 == b.unit / 2

/-- An outstanding command is the earliest write or erase of its tile, so its timer runs (R288). -/
def timerRuns (c : CtlCmd) : List CtlCmd → Bool
  | [] => true
  | d :: ds => if d = c then true else if bankTimed c.opcode && bankTimed d.opcode && sameTile c d then false else timerRuns c ds

/-- Restart, at `t`, the timers of the writes and erases that waited behind a command of their tile (R288). -/
def restartTimers (t : Nat) (c : CtlCmd) (l : List CtlCmd) : List CtlCmd :=
  l.map fun d => if bankTimed d.opcode && bankTimed c.opcode && sameTile c d then { d with start := t } else d

/-- CTL issues a command-class message: its timer starts (R288). -/
def Part.issue (p : Part) (c : CtlCmd) : Part :=
  { p with d2d := { p.d2d with outstanding := p.d2d.outstanding ++ [c] } }

/-- A reply leaves the synchroniser (R289): the timer of the command it matches by TAG and CMD_SEQ stops; a reply that
matches none is counted in LATE_REPLY and discarded (R290); a STALE_ROLE return is counted in STALE_RX. -/
def Part.replyArrive (p : Part) : Part :=
  match p.d2d.ctlReplies with
  | [] => p
  | m :: rest =>
    let p := { p with d2d := { p.d2d with ctlReplies := rest } }
    let p := if fld m.payload 12 2 = stStaleRole then p.bump aCmdCnt 32 16 1 else p
    match takeFirst (fun c : CtlCmd => c.tag == fld m.payload 4 4 && c.seq == fld m.payload 8 4) p.d2d.outstanding with
    | none => if fld m.payload 0 1 = 0 then p else p.bump aCmdCnt 16 16 1
    | some (c, l) => { p with d2d := { p.d2d with outstanding := restartTimers p.now c l } }

/-- A die command's timer expires once its last cycle has passed without the reply (R289, R290): counted in TIMEOUTS, the die treated as failed, and the host command that waited
completes with TIMEOUT. -/
def Part.cmdTimeout (p : Part) (tag seq : Nat) : Part :=
  match takeFirst (fun c : CtlCmd => c.tag == tag && c.seq == seq) p.d2d.outstanding with
  | none => p
  | some (c, rest) =>
    if timerRuns c p.d2d.outstanding && decide (c.start + p.cmdLimit c.opcode < p.now) then
      let p := ({ p with d2d := { p.d2d with outstanding := restartTimers p.now c rest } }.bump aCmdCnt 0 16 1).dieFailed c.die
      if c.sess < 64 then
        match takeFirst (fun a : ACmd => a.tag == c.tag) (p.ses c.sess).running with
        | none => p
        | some (a, l) =>
          (p.modSes c.sess fun s => { s with running := l }).produce c.sess
            { op := a.op, kind := 0, tag := a.tag, seq := a.seq, status := stTimeout, body := [], owner := 0, id := 0 }
      else p
    else p

/-! ### The commands -/

/-- A die and port that the part has. -/
def portOk (d q : Nat) : Bool := decide (d < 20) && decide (q < (portTable d).length)

/-- UCIE_LANE_REPAIR (R15). -/
def execUcieLaneRepair (d q : Nat) (s : State) : Out :=
  s.live (dieDomain d) (portOk d q) fun p => p.laneRepair d q

/-- ADAPTER_CRC_RETRY (R19). -/
def execAdapterCrcRetry (d q : Nat) (s : State) : Out :=
  s.live (dieDomain d) (portOk d q) fun p => p.crcRetry d q

/-- DIE_MESSAGE_ACK (R17). -/
def execDieMessageAck (holder src dst cls seq : Nat) (s : State) : Out :=
  s.live (dieDomain holder) (decide (holder < 20)) fun p => p.msgAck holder src dst cls seq

end Sys2Proof.Machine
end

