-- ==== Sys2Proof/Machine/Packets.lean ====
section
/-! DEFINITION. Packets: the header of R242, the opcode table of R259, the features of R256, and steps 2 to 7 of the checks of
R261: opcode, feature, stage, LEN, reserved fields and the field ranges that each opcode's chapter states. -/
namespace Sys2Proof.Machine

/-! ### Header fields (R242) -/

/-- OPCODE. -/
def pkOp (k : Bytes) : Nat := fld k 0 1
/-- FLAGS. -/
def pkFlags (k : Bytes) : Nat := fld k 1 1
/-- LEN. -/
def pkLen (k : Bytes) : Nat := fld k 2 2
/-- TAG. -/
def pkTag (k : Bytes) : Nat := fld k 4 4
/-- SEQ. -/
def pkSeq (k : Bytes) : Nat := fld k 8 4
/-- EPOCH. -/
def pkEpoch (k : Bytes) : Nat := fld k 12 2
/-- REPLY_CR. -/
def pkCr (k : Bytes) : Nat := fld k 14 2
/-- FLAGS.EPOCH_CHK. -/
def pkEpochChk (k : Bytes) : Bool := (pkFlags k).testBit 0
/-- FLAGS.QUIET. -/
def pkQuiet (k : Bytes) : Bool := (pkFlags k).testBit 1
/-- A parameter field: `off` counts from the end of the header. -/
def par (k : Bytes) (off n : Nat) : Nat := fld k (16 + off) n
/-- Reserved parameter bytes are zero. -/
def parZ (k : Bytes) (off n : Nat) : Bool := zeros k (16 + off) n
/-- The bits of a parameter field from `lo` on are zero. -/
def parHi (k : Bytes) (off n lo : Nat) : Bool := par k off n >>> lo == 0

/-! ### Opcodes (R259) -/

/-- What the opcode table says of a host opcode: mode A, the FEAT0 bit it needs, the FEAT2 bit it needs. -/
structure OpInfo where
  modeA : Bool
  feat0 : Option Nat
  feat2 : Option Nat
deriving DecidableEq, Repr

/-- The host opcodes of R259. -/
def opInfo (op : Nat) : Option OpInfo :=
  if [0x01, 0x02, 0x03, 0x04, 0x05, 0x06, 0x08, 0x0A, 0x0B, 0x0D, 0x21, 0x22, 0x23, 0x24, 0x25, 0x41, 0x42, 0x72, 0x73,
      0x74, 0x82, 0x83, 0x84, 0x85, 0xF3].contains op then some ⟨false, none, none⟩
  else if [0x20, 0x40, 0x70, 0x71, 0x80, 0x81].contains op then some ⟨true, none, none⟩
  else if op = 0x07 then some ⟨false, some 14, none⟩
  else if op = 0x09 then some ⟨false, some 7, none⟩
  else if op = 0x0C then some ⟨true, some 8, none⟩
  else if op = 0x26 then some ⟨false, some 11, none⟩
  else if op = 0x27 then some ⟨true, some 11, none⟩
  else if op = 0x28 then some ⟨true, some 6, none⟩
  else if op = 0x29 then some ⟨false, some 6, none⟩
  else if op = 0x48 then some ⟨true, some 4, none⟩
  else if op = 0x49 then some ⟨false, some 4, none⟩
  else if 0x60 ≤ op ∧ op ≤ 0x63 then some ⟨false, some 9, none⟩
  else if op = 0xF0 then some ⟨false, none, some 0⟩
  else if op = 0xF1 ∨ op = 0xF2 then some ⟨false, none, some 1⟩
  else if op = 0xF4 then some ⟨false, none, some 2⟩
  else none

/-- The minor version that introduced a FEAT0 bit (R256). -/
def featSince (b : Nat) : Nat := if b ≤ 8 then 0 else if b ≤ 11 then 1 else if b ≤ 14 then 2 else 3

/-- The FEAT0 bits that a minor version knows (R255). -/
def featOfMinor (m : Nat) : Nat := if m = 0 then 0x1FF else if m = 1 then 0xFFF else if m = 2 then 0x7FFF else 0xFFFF

/-- The FEAT0 bits the part supports: FEAT0_ALLOW of the certificate; POLICY only with a policy key (R449). -/
def Part.feat0Supported (p : Part) : Nat :=
  let allow := fld p.sec.cert 92 4 &&& 0xFFFF
  if zeros p.sec.cert 100 128 then allow &&& 0xFEFF else allow

/-- The granted FEAT0 (R255). -/
def Part.grantFeat0 (p : Part) (req minor : Nat) : Nat := req &&& p.feat0Supported &&& featOfMinor (min minor 3)

/-- The commands that a stage accepts (R385). -/
def stageOk (stage op : Nat) : Bool :=
  if stage = 3 ∨ stage = 4 then true
  else if stage = 2 then
    [0x01, 0x02, 0x03, 0x04, 0x05, 0x06, 0x08, 0x0A, 0x0B, 0x0D, 0xF3, 0x0C, 0x84, 0x85, 0x82, 0x83].contains op
  else if stage = 7 then [0x06, 0x0A, 0x84, 0x01, 0x05, 0x02, 0x03, 0x04].contains op
  else false

/-- The first status of a list of checks that fail. -/
def firstFail : List (Bool × Nat) → Option Nat
  | [] => none
  | (ok, st) :: r => if ok then firstFail r else some st

/-! ### LEN (R261 step 5) -/

/-- LEN of an ADMIT (R265). -/
def admitLen (k : Bytes) : Nat :=
  let allowed := if par k 46 2 ≠ 0 ∧ par k 104 8 = 0 then 16 * cdiv (4 * par k 46 2) 16 else 0
  let prompt := if par k 96 8 = 0 then 16 * cdiv (4 * par k 16 4) 16 else 0
  144 + allowed + prompt

/-- A LOAD takes its shards from sources this part names: LOCAL, PIPELINE at CHAIN_POS 0, BROADCAST at ROOT (R269). -/
def loadSources (partId : Nat) (k : Bytes) : Bool :=
  let mode := (par k 6 2 >>> 2) % 4
  if mode = 0 then true else if mode = 1 then par k 11 1 == 0 else par k 12 2 == partId

/-- LEN of a LOAD (R268). -/
def loadLen (partId : Nat) (k : Bytes) : Nat :=
  80 + 16 * cdiv (2 * par k 10 1) 16 + (if loadSources partId k && par k 24 8 == 0 then 32 * par k 8 2 else 0)

/-- The LEN that an opcode's parameters and declared inline data ask for. -/
def wantLen (partId : Nat) (k : Bytes) : Nat :=
  let op := pkOp k
  if [0x01, 0x03, 0x04, 0x05, 0x06, 0xF0].contains op then 16
  else if op = 0x02 then 80
  else if op = 0x09 then 32 + (if par k 0 1 = 2 then 16 * cdiv (8 * par k 4 2) 16 else 0)
  else if op = 0x0B then 80
  else if op = 0x20 then loadLen partId k
  else if op = 0x24 then 240
  else if op = 0x28 then 80 + 16 * cdiv (par k 28 2) 16
  else if op = 0x40 then admitLen k
  else if op = 0x70 then 48
  else if op = 0x73 then 64
  else if op = 0x74 then 80
  else if op = 0xF3 then (if par k 0 1 = 1 then 304 else 32)
  else if op = 0xF4 then 544
  else 32

/-! ### Source tables (R270) -/

/-- Entry `i` of a source table. -/
def sourceEntry (t : Bytes) (i : Nat) : Bytes := slice t (32 * i) 32

/-- The inline source table of a LOAD, and its entries that lie within the packet. -/
def inlineSources (partId : Nat) (k : Bytes) : List Bytes :=
  if loadSources partId k && par k 24 8 == 0 then
    let t := k.drop (80 + 16 * cdiv (2 * par k 10 1) 16)
    (List.range (min (par k 8 2) (t.length / 32))).map (sourceEntry t)
  else []

/-- A source of kind 0 needs NVME_TCP (R256). -/
def sourceNeeds (feat0 : Nat) (l : List Bytes) : Bool := feat0.testBit 6 || l.all fun x => fld x 0 1 != 0

/-- Reserved bytes of source entries. -/
def sourceReserved (l : List Bytes) : Bool := l.all fun x => zeros x 20 12

/-- The first field of a source entry out of range: SRC_KIND, CONN, PEER, LOCATION, BYTES. -/
def sourceField (x : Bytes) : Option Nat :=
  let kind := fld x 0 1
  let n := fld x 16 4
  firstFail [(decide (kind ≤ 2), stBadParam), (kind != 0 || decide (fld x 1 1 < 8), stBadParam), (kind != 2 || fld x 2 2 != 0xFFFF, stBadParam),
    (kind != 1 || fld x 8 8 % 4096 == 0, stBadParam), (decide (8192 ≤ n ∧ n ≤ 4096 + 2 ^ 28 ∧ n % 4096 = 0), stLenRange)]

/-! ### Reserved fields (R261 step 6) -/

/-- Reserved parameter fields of an opcode are zero. -/
def paramsReserved (k : Bytes) : Bool :=
  let op := pkOp k
  if op = 0x02 then
    parZ k 20 4 && parHi k 36 1 1 && parZ k 37 1 && parHi k 40 4 4 && parZ k 44 20
  else if op = 0x07 then parHi k 8 1 1 && parZ k 9 7
  else if op = 0x08 then parHi k 0 4 4 && parZ k 4 12
  else if op = 0x09 then parZ k 1 1 && parZ k 6 10 && zeros k (32 + 8 * par k 4 2) 8
  else if op = 0x0A then parHi k 0 1 2 && parZ k 1 15
  else if op = 0x0C then parHi k 12 1 1 && parZ k 13 3
  else if op = 0x0D then parZ k 1 15
  else if op = 0x20 then parHi k 6 2 4 && parZ k 20 4 && parZ k 32 32
  else if op = 0x21 ∨ op = 0x22 ∨ op = 0x23 then parHi k 6 1 1 && parZ k 7 9
  else if op = 0x24 then parZ k 4 12 && parZ k 149 3 && parZ k 196 12
  else if op = 0x25 then parZ k 4 12
  else if op = 0x26 then true
  else if op = 0x27 ∨ op = 0x29 ∨ op = 0x49 ∨ op = 0x80 ∨ op = 0x81 then parZ k 1 15
  else if op = 0x28 then parHi k 3 1 2 && parZ k 23 1 && parZ k 30 34
  else if op = 0x40 then parHi k 43 1 3 && parZ k 53 3 && parZ k 114 14
  else if op = 0x41 ∨ op = 0x42 ∨ op = 0x83 ∨ op = 0x85 then parZ k 4 12
  else if op = 0x48 then parZ k 1 3
  else if op = 0x60 ∨ op = 0x61 then parZ k 2 2 && parZ k 8 8
  else if op = 0x62 ∨ op = 0x63 ∨ op = 0x71 then parZ k 2 14
  else if op = 0x70 then parHi k 2 1 2 && parZ k 3 1 && parZ k 9 1 && parZ k 14 2 && parZ k 20 12
  else if op = 0x72 then parZ k 1 1 && parZ k 4 12
  else if op = 0x73 then parZ k 5 1 && parZ k 24 24
  else if op = 0x74 then parHi k 1 1 3 && parZ k 58 6
  else if op = 0x82 then parZ k 0 16
  else if op = 0x84 then parZ k 2 14
  else if op = 0xF1 then parHi k 1 1 1 && parZ k 2 2 && parZ k 8 8
  else if op = 0xF2 then parZ k 6 10
  else if op = 0xF3 then
    if par k 0 1 = 1 then parZ k 1 3 && parZ k 8 8 && parZ k 149 3 && parZ k 284 4 else parZ k 1 15
  else if op = 0xF4 then parZ k 5 11
  else true

/-- Reserved bits of the header and the parameters are zero: FLAGS bits 2 to 7, and EPOCH when EPOCH_CHK is 0 (R242). -/
def reservedOk (k : Bytes) : Bool :=
  decide (pkFlags k < 4) && (pkEpochChk k || pkEpoch k == 0) && paramsReserved k

/-! ### Field ranges (R261 step 7) -/

/-- A BF16 pattern is finite and not below zero (TEMPERATURE, R196). -/
def bf16NonNeg (v : Nat) : Bool := decide (v < 0x7F80) || v == 0x8000

/-- Token entries of a list are in range: bits [31:18] zero (R264). -/
def tokensOk (k : Bytes) (off : Nat) : Nat → Bool
  | 0 => true
  | n + 1 => decide (par k (off + 4 * n) 4 < 2 ^ 18) && tokensOk k off n

/-- The FEAT0 bits that fields of a packet ask for (R256, R264). -/
def featNeeds (k : Bytes) : List Nat :=
  let op := pkOp k
  let when_ (b : Bool) (n : Nat) : List Nat := if b then [n] else []
  if op = 0x20 then when_ ((par k 6 2 >>> 2) % 4 == 1) 10 ++ when_ ((par k 6 2 >>> 2) % 4 == 2) 12
  else if op = 0x40 then
    when_ (par k 12 4 != 0) 3 ++ when_ ((par k 43 1).testBit 1) 4 ++ when_ (par k 46 2 != 0) 5 ++ when_ ((par k 43 1).testBit 2) 9
  else if op = 0x70 then when_ ((par k 2 1).testBit 1) 13
  else []

/-- Field checks that need only the packet, in table order. -/
def fieldFail (partId : Nat) (k : Bytes) : Option Nat :=
  let op := pkOp k
  if op = 0x02 then
    firstFail [(par k 0 2 == 1, stBadVersion), (par k 16 4 == 0, stBadParam), (par k 24 8 % 4096 == 0, stBadParam),
      (decide (16384 ≤ par k 32 4 ∧ par k 32 4 ≤ 16777216) && par k 32 4 == 2 ^ Nat.log2 (par k 32 4), stLenRange)]
  else if op = 0x07 then firstFail [(par k 8 1 % 2 == 0 || par k 0 8 == 0, stBadParam)]
  else if op = 0x09 then
    firstFail [(decide (par k 0 1 ≤ 4), stBadParam), (par k 0 1 != 4 || par k 2 2 == 0, stBadParam),
      (par k 0 1 != 2 || decide (1 ≤ par k 4 2 ∧ par k 4 2 ≤ 2044), stLenRange),
      (par k 0 1 == 2 || par k 4 2 == 0, if par k 4 2 = 0xFFFF ∨ 2044 < par k 4 2 then stLenRange else stBadParam)]
  else if op = 0x0A then firstFail [(par k 0 1 % 2 == 1, stBadParam)]
  else if op = 0x0C then firstFail [(par k 0 8 % 4096 == 0, stBadParam)]
  else if op = 0x0D then firstFail [(decide (1 ≤ par k 0 1 ∧ par k 0 1 ≤ 4), stBadParam)]
  else if op = 0x20 then
    let mode := (par k 6 2 >>> 2) % 4
    let src := loadSources partId k
    firstFail [(par k 0 4 != 0 && par k 0 4 != 0xFFFFFFFF, stBadParam), (par k 4 2 != 0 && par k 4 2 != 0xFFFF, stBadParam), (mode != 3, stBadParam),
      (!((par k 6 2).testBit 1) || (par k 6 2).testBit 0, stBadParam),
      (par k 8 2 != 0, stLenRange),
      (if mode = 1 then decide (1 ≤ par k 10 1 ∧ par k 10 1 ≤ 64) else true, stLenRange),
      (mode == 1 || par k 10 1 == 0, if par k 10 1 = 0xFF then stLenRange else stBadParam),
      (if mode = 1 then decide (par k 11 1 < par k 10 1) else par k 11 1 == 0, stBadParam),
      (mode == 2 || par k 12 2 == 0, stBadParam), (mode == 2 || par k 14 2 == 0, stBadParam),
      (par k 24 8 % 16 == 0, stBadParam), (src || par k 24 8 == 0, stBadParam),
      (mode != 1 || fld k (80 + 2 * par k 11 1) 2 == partId, stBadParam)]
  else if op = 0x22 ∨ op = 0x21 ∨ op = 0x23 then none
  else if op = 0x24 ∨ op = 0x25 then firstFail [(par k 0 4 != 0 && par k 0 4 != 0xFFFFFFFF, stBadParam)]
  else if op = 0x26 then
    firstFail [(par k 0 8 % 0x200000 == 0, stBadParam), (par k 8 8 != 0 && par k 8 8 != 2 ^ 64 - 1, stLenRange),
      (par k 8 8 % 0x200000 == 0, stLenRange)]
  else if op = 0x27 then firstFail [(decide (par k 0 1 < 16), stBadParam)]
  else if op = 0x28 then
    firstFail [(decide (par k 0 1 < 8), stBadParam), (decide (12 ≤ par k 1 1 ∧ par k 1 1 ≤ 15), stBadParam),
      (par k 2 1 == 4 || par k 2 1 == 6, stBadParam), (par k 2 1 == 6 || parZ k 8 12, stBadParam),
      (decide (1 ≤ par k 22 1 ∧ par k 22 1 ≤ 8), stLenRange), (decide (2 ≤ par k 24 2 ∧ par k 24 2 ≤ 128), stLenRange),
      (decide (1 ≤ par k 28 2 ∧ par k 28 2 ≤ 223), stLenRange)]
  else if op = 0x29 then firstFail [(decide (par k 0 1 < 8), stBadParam)]
  else if op = 0x48 then
    firstFail [(decide (128 ≤ par k 4 4 ∧ par k 4 4 ≤ 67108864), stLenRange), (par k 8 8 % 64 == 0, stBadParam)]
  else if op = 0x60 then firstFail [(decide (par k 0 2 < 16384), stBadParam), (decide (1 ≤ par k 4 4 ∧ par k 4 4 ≤ 131072), stLenRange)]
  else if op = 0x61 then firstFail [(decide (par k 0 2 < 16384), stBadParam), (decide (par k 4 4 ≤ 131072), stLenRange)]
  else if op = 0x62 ∨ op = 0x63 then firstFail [(decide (par k 0 2 < 16384), stBadParam)]
  else if op = 0x70 then
    firstFail [(par k 0 2 != 0xFFFF, stBadParam),
      (par k 6 1 != 0 && par k 7 1 != 0 && par k 8 1 != 0, stLenRange),
      (if (par k 2 1).testBit 1 then decide (128 ≤ par k 16 4 ∧ par k 16 4 ≤ 786432 ∧ par k 16 4 % 128 = 0)
       else par k 16 4 == 0, stLenRange)]
  else if op = 0x72 then firstFail [(decide (par k 0 1 ≤ 2), stBadParam), (par k 0 1 != 2 || decide (par k 2 2 < 16), stBadParam)]
  else if op = 0x73 then
    firstFail [(decide (1 ≤ par k 2 1 ∧ par k 2 1 ≤ 64), stLenRange), (decide (1 ≤ par k 3 1 ∧ par k 3 1 ≤ 32), stLenRange),
      (decide (1 ≤ par k 4 1 ∧ par k 4 1 ≤ 32), stLenRange), (decide (par k 6 2 ≤ 2047), stBadParam)]
  else if op = 0x74 then
    firstFail [(decide (12 ≤ par k 0 1 ∧ par k 0 1 ≤ 15), stBadParam), (decide (1500 ≤ par k 2 2 ∧ par k 2 2 ≤ 9000), stLenRange),
      (decide (par k 4 2 ≤ 4094), stBadParam), (par k 8 1 % 2 == 0, stBadParam),
      (decide (par k 14 1 ≤ 32), stBadParam), (decide (par k 15 1 ≤ 128), stBadParam),
      (!((par k 1 1).testBit 2) || decide (1 ≤ par k 57 1 ∧ par k 57 1 ≤ 64), stLenRange),
      (!((par k 1 1).testBit 2) || decide (par k 56 1 + par k 57 1 ≤ 64), stBadParam)]
  else if op = 0x80 then
    firstFail [(decide (par k 0 1 ≤ 19), stBadParam),
      (!(par k 0 1 == 0 || par k 0 1 == 2 || decide (11 ≤ par k 0 1 ∧ par k 0 1 ≤ 14)), stBadParam)]
  else if op = 0x81 then firstFail [(decide (par k 0 1 ≤ 19), stBadParam)]
  else if op = 0x83 then
    let pl := if par k 0 2 = 0 then 1800 else par k 0 2
    let pk := if par k 2 2 = 0 then 2100 else par k 2 2
    firstFail [(decide (600 ≤ pl ∧ pl ≤ 1800), stBadParam), (decide (pl ≤ pk ∧ pk ≤ 2100), stBadParam)]
  else if op = 0x84 then
    firstFail [(decide (par k 0 1 ≤ 2), stBadParam),
      (if par k 0 1 = 1 then decide (par k 1 1 ≤ 19) else par k 1 1 == 0, stBadParam)]
  else if op = 0xF1 then firstFail [(decide (par k 0 1 ≤ 2), stBadParam), (decide (par k 4 4 < 16), stBadParam)]
  else if op = 0xF2 then firstFail [(decide (1 ≤ par k 4 2 ∧ par k 4 2 ≤ 511), stLenRange)]
  else if op = 0xF3 then firstFail [(decide (par k 0 1 ≤ 1), stBadParam)]
  else if op = 0xF4 then
    firstFail [(decide (par k 0 1 ≤ 7), stBadParam), (decide (par k 1 1 ≤ 1), stBadParam),
      (decide (par k 2 2 ≤ 1023), stBadParam), (decide (par k 4 1 ≤ 1), stBadParam),
      (par k 4 1 == 0 || (slice k 32 512).all fun b => decide (b.toNat < 16), stBadParam)]
  else none

/-- The opcodes on which EPOCH_CHK is allowed (R287). -/
def epochOps (op : Nat) : Bool := [0x41, 0x42, 0x60, 0x61, 0x62, 0x63].contains op

/-- Steps 2 to 7 of R261 for a packet of an OPEN session, stopping at the first failure. QUIET has no effect on the session
commands (R242), so they need no grant of it (R256). `feat0`, `feat2` and `minor` are
the session's. -/
def checkFail (partId stage feat0 feat2 minor : Nat) (k : Bytes) : Option Nat :=
  match opInfo (pkOp k) with
  | none => some stBadOpcode
  | some i =>
    if (match i.feat0 with | none => 0 | some b => featSince b) > minor then some stBadOpcode
    else firstFail [
      (match i.feat0 with | none => true | some b => feat0.testBit b, stNotNegotiated),
      (match i.feat2 with | none => true | some b => feat2.testBit b, stNotNegotiated),
      (!pkQuiet k || feat0.testBit 0 || [0x02, 0x03, 0x04].contains (pkOp k), stNotNegotiated),
      (!pkEpochChk k || feat0.testBit 2, stNotNegotiated),
      ((featNeeds k).all feat0.testBit, stNotNegotiated),
      (pkOp k != 0x20 || sourceNeeds feat0 (inlineSources partId k), stNotNegotiated),
      (stageOk stage (pkOp k), stNotReady),
      (pkLen k == wantLen partId k, stLenRange),
      (reservedOk k, stBadParam),
      (pkOp k != 0x20 || sourceReserved (inlineSources partId k), stBadParam),
      (!pkEpochChk k || epochOps (pkOp k), stBadParam)] <|> fieldFail partId k <|>
      if pkOp k = 0x20 then (inlineSources partId k).findSome? sourceField else none

end Sys2Proof.Machine
end

