-- ==== Sys2Proof/Machine/Shared.lean ====
section
/-! DEFINITION. Shared: what several chapters ask of another: fabric messages and journal records to send, stripes of the stacks,
requests by session and by slot, the order of work, wake requests, and what the reset of a die loses. -/
namespace Sys2Proof.Machine

/-! ### Fabric (R298, R303, R305) -/

/-- A link's record. -/
def Part.link (p : Part) (l : Nat) : Link := mget Link.reset p.fab.links l

/-- Replace a link's record. -/
def Part.setLink (p : Part) (l : Nat) (v : Link) : Part := { p with fab := { p.fab with links := mset Link.reset p.fab.links l v } }

/-- A torus port's record. -/
def Part.fport (p : Part) (q : Nat) : FPort := mget FPort.reset p.fab.ports q

/-- Replace a torus port's record. -/
def Part.setFPort (p : Part) (q : Nat) (v : FPort) : Part := { p with fab := { p.fab with ports := mset FPort.reset p.fab.ports q v } }

/-- The link is an ACTIVE Efylink link. -/
def Link.isActive (k : Link) : Bool := k.mode == 1 && k.st == 2

/-- Nothing of a port's receive buffers is owed any more. -/
def Owe.unless (q : Nat) (o : Option Owe) : Option Owe := o.filter fun x => x.port != q

/-- A port that is down (R300): it loses its unacknowledged flits and what it has received and not handed on, and packets that wait there look
for another route. -/
def Part.portDown (p : Part) (q : Nat) : Part :=
  let f := p.fport q
  let p := p.setFPort q FPort.reset
  let held := p.fab.held ++ f.wait.map fun w => ({ k := w.k, port := 6, since := p.now, tried := p.now, owe := w.owe } : HeldPkt)
  { p with fab := { p.fab with
      held := held.map fun h => { h with owe := Owe.unless q h.owe },
      ports := p.fab.ports.map fun x => (x.1, { x.2 with wait := x.2.wait.map fun w => { w with owe := Owe.unless q w.owe } }) } }

/-- The torus ports none of whose links is ACTIVE or RESIZING go down. -/
def Part.portsSwept (p : Part) : Part :=
  (List.range 6).foldl (fun q n =>
    let held := q.fab.links.any fun l => l.2.mode == 1 && l.2.port == n && (l.2.st == 2 || l.2.st == 3)
    if held || q.fport n == FPort.reset then q else q.portDown n) p

/-- The LINK_CHANGE notice of a link (R325). -/
def Part.linkChange (p : Part) (l : Nat) : Part :=
  let k := p.link l
  p.notice 0x100 [BitVec.ofNat 8 l, BitVec.ofNat 8 k.st, BitVec.ofNat 8 k.width, BitVec.ofNat 8 k.cause]

/-- Some torus port is up (R298, FEAT1). -/
def Part.fabricUp (p : Part) : Bool := p.fab.links.any fun l => l.2.isActive

/-- Some Ethernet link is up (R317, FEAT1). -/
def Part.ethUp (p : Part) : Bool := p.fab.eth.any fun e => e.2.up

/-- The key of a PSEQ counter or flow: part and class. -/
def psKey (part cls : Nat) : Nat := part * 8 + cls

/-- Send a message over the fabric (R303, R305): it takes the next PSEQ of its destination and class, and the source keeps it in
classes 0 to 2. End-to-end acknowledgements take no PSEQ and are not kept (log entry 30). LEN of a message whose layout the manual
does not give is a free value. In part fault nothing is sent (R331). -/
def Part.fabSend (p : Part) (dst cls slice : Nat) (msg : FabMsg) : Part :=
  if p.faulted then p
  else
    let isAck := match msg with
      | .ack _ _ => true
      | _ => false
    let (w, p) := p.free
    let len := match msg with
      | .die m => 16 + m.len
      | _ => 16 * (1 + w.toNat % 257)
    let n := if isAck then 0 else mget 0 p.fab.psTx (psKey dst cls)
    let k : FabPkt :=
      { dst := dst, src := p.fabCfg.partId, cls := cls, bcast := false, vc := 0, hops := 0, len := len, pseq := n, slice := slice,
        detour := 0, long := 0, msg := msg }
    let f := p.fab
    if isAck then { p with fab := { f with out := f.out ++ [k] } }
    else
      { p with fab := { f with
          out := f.out ++ [k], psTx := mset 0 f.psTx (psKey dst cls) ((n + 1) % 2 ^ 32),
          kept := if cls ≤ 2 then f.kept ++ [⟨k, p.now, p.now⟩] else f.kept,
          lastAck := if 2 < cls || (mfind f.lastAck dst).isSome then f.lastAck else minsert f.lastAck dst p.now } }

/-! ### Journal records (R334) -/

/-- The 16-byte header of a journal record. -/
def recHeader (kind id bodyLen : Nat) : Bytes := leBytes 1 kind ++ zpad 3 ++ leBytes 4 id ++ leBytes 4 bodyLen ++ zpad 4

/-- Consecutive pieces of up to 4,080 bytes; `n` bounds their number. -/
def journalPieces : Nat → Bytes → List Bytes
  | 0, _ => []
  | n + 1, b => if b.isEmpty then [] else b.take 4080 :: journalPieces n (b.drop 4080)

/-- Send a journal record to a part in class 2. -/
def Part.journalSend (p : Part) (dst kind id : Nat) (body : Bytes) : Part :=
  (journalPieces (cdiv (16 + body.length) 4080) (recHeader kind id body.length ++ body)).foldl
    (fun q b => q.fabSend dst 2 0xFFFF (.journal b)) p

/-- The final token record of request `owner - 1` is covered by returned reply units: its FREE record is sent to the partner that
holds the request (R334). -/
def Part.journalFree (p : Part) (owner : Nat) : Part :=
  match takeFirst (fun f : Nat × Nat => f.1 + 1 == owner) p.serv.frees with
  | none => p
  | some (f, l) => { p with serv := { p.serv with frees := l } }.journalSend f.2 3 f.1 []

/-! ### Requests and held slots (R202, R258, R275) -/

/-- The request in a sequence slot. -/
def Part.req (p : Part) (s : Nat) : Option Req := mfind p.serv.reqs s

/-- Replace the request in a sequence slot. -/
def Part.setReq (p : Part) (s : Nat) (r : Req) : Part := { p with serv := { p.serv with reqs := minsert p.serv.reqs s r } }

/-- The slot and request with a REQUEST_ID. -/
def Part.reqOf (p : Part) (id : Nat) : Option (Nat × Req) := p.serv.reqs.find? fun r => r.2.id == id

/-- The entry of an ENDING request is freed once its final record is delivered and its slots are released (R202). A protected request
awaits the return of the record's reply units for its FREE record (R334). -/
def Part.entryFree (p : Part) (s : Nat) : Part :=
  let held (x : Nat) : Bool := (mget KvSlot.reset p.kv.slots x).assigned
  match p.req s with
  | none => p
  | some r =>
    if r.st = .ending ∧ r.finalDone ∧ !held s ∧ !(r.companion.any held) then
      { p with serv := { p.serv with reqs := merase p.serv.reqs s, order := p.serv.order.filter (· != s) } }
    else p

/-- The final token record of the request with this identifier is delivered. -/
def Part.requestFreed (p : Part) (id : Nat) : Part :=
  match p.reqOf id with
  | none => p
  | some (s, r) =>
    if r.st = .ending ∧ r.finalSent then
      let frees := match p.jrn.partner with
        | some q => if r.isProtected then p.serv.frees ++ [(id, q)] else p.serv.frees
        | none => p.serv.frees
      let p := p.setReq s { r with finalDone := true }
      { p with serv := { p.serv with frees := frees } }.entryFree s
    else p

/-- A session owns a live request or a held slot (R258). -/
def Part.sessionBusy (p : Part) (i : Nat) : Bool := p.serv.reqs.any (fun r => r.2.sess == i) || p.serv.heldSlots.any fun h => h.2.sess == i

/-- A slot holds a request that has not ended (R357). -/
def Part.slotLive (p : Part) (s : Nat) : Bool :=
  match p.req s with
  | none => false
  | some r => r.st != .ending

/-! ### The order of work (R201, R357) -/

/-- The place of an element in a list. -/
def indexIn (x : Nat) : List Nat → Nat
  | [] => 0
  | y :: ys => if x = y then 0 else indexIn x ys + 1

/-- A deadline in ns; a request without a target sorts after every request with one, in admission order. -/
def Part.deadline (p : Part) (s : Nat) (r : Req) : Nat :=
  let gen := r.st == .decode || r.refill
  let target := if gen then fld r.params 28 4 else fld r.params 24 4
  if target = 0 then 2 ^ 70 + indexIn s p.serv.order else (if gen then r.lastCommit else r.admitAt) + 1000 * target

/-- The key by which work is ordered within a class: rank, then deadline. -/
def Part.workKey (p : Part) (s : Nat) : Nat × Nat :=
  (if p.ctl.loaded then mget 0x8000 p.ctl.ranks s else 0x8000, match p.req s with
    | none => 2 ^ 71
    | some r => p.deadline s r)

/-! ### Slot units, slabs and stripes (R175, R178, R179) -/

/-- The key of a slot unit. -/
def slotKey (cxd s : Nat) : Nat := cxd * 16384 + s

/-- The role epoch of a slot unit. -/
def Part.slotEpoch (p : Part) (cxd s : Nat) : Nat := mget 0 p.kv.epochs (slotKey cxd s)

/-- The key of a slab. -/
def slabKey (cxd n : Nat) : Nat := cxd * 5722 + n

/-- What a slab is used for. -/
def Part.slab (p : Part) (cxd n : Nat) : SlabUse := mget .free p.kv.slabs (slabKey cxd n)

/-- Change a slab's use. -/
def Part.setSlab (p : Part) (cxd n : Nat) (u : SlabUse) : Part := { p with kv := { p.kv with slabs := mset .free p.kv.slabs (slabKey cxd n) u } }

/-- Weight slabs on a CXD. -/
def Part.weightSlabs (p : Part) (cxd : Nat) : Nat := (p.kv.slabs.filter fun x => x.1 / 5722 == cxd && x.2 == .weight).length

/-- Slabs outside page tables. -/
def usableSlabs : Nat := 5714

/-- MIN_KV_SLABS in force (CTL.KV_CFG). -/
def Part.minKv (p : Part) : Nat := min (p.regFld aKvCfg 0 13) usableSlabs

/-- Stripe `n` is free: its slab is free on every CXD. -/
def Part.stripeFree (p : Part) (n : Nat) : Bool := decide (n < usableSlabs) && (List.range 4).all fun c => p.slab c n == .free

/-- `k` more stripes leave MIN_KV_SLABS slabs free or KV on every CXD (R179). -/
def Part.stripesLeft (p : Part) (k : Nat) : Bool :=
  (List.range 4).all fun c => decide (p.weightSlabs c + k + p.minKv ≤ usableSlabs)

/-- Free plus KV slabs on some CXD are below MIN_KV_SLABS + 64 (R359). -/
def Part.slabsLow (p : Part) : Bool := (List.range 4).any fun c => decide (usableSlabs - p.weightSlabs c < p.minKv + 64)

/-- Line 268 has an occurrence when the slabs fall below that bound. -/
def Part.slabEvent (p : Part) (before : Bool) : Part := if p.slabsLow && !before then p.event 268 [] else p

/-- Mark stripe `n` as weight or free. -/
def Part.setStripe (p : Part) (n : Nat) (u : SlabUse) : Part := ((List.range 4).foldl (fun q c => q.setSlab c n u) p).slabEvent p.slabsLow

/-- Take the lowest-numbered free stripe. -/
def Part.takeStripe (p : Part) : Option (Nat × Part) :=
  match (List.range usableSlabs).find? p.stripeFree with
  | none => none
  | some n => if p.stripesLeft 1 then some (n, p.setStripe n .weight) else none

/-- Bytes of a stripe. -/
def stripeBytes : Nat := 2 ^ 27

/-- The control-space address of stripe `n` (log entry 21). -/
def stripeAddr (n : Nat) : Nat := 0x5000000000 + n * stripeBytes

/-! ### Sections of a version (R147, R148) -/

/-- A section entry (R147). -/
structure Section where
  kind : Nat
  fmt : Nat
  layer : Nat
  first : Nat
  count : Nat
  off : Nat
  len : Nat
deriving DecidableEq, Repr

/-- Section entry `i` of a header. -/
def sectionAt (h : Bytes) (i : Nat) : Section :=
  let o := 256 + 16 * i
  { kind := fld h o 1, fmt := fld h (o + 1) 1, layer := fld h (o + 2) 2, first := fld h (o + 4) 2, count := fld h (o + 6) 2,
    off := fld h (o + 8) 4, len := fld h (o + 12) 4 }

/-- The sections in use. -/
def sectionsOf (h : Bytes) : List Section := (List.range (fld h 10 2)).map (sectionAt h)

/-- Every section of a version with the base of its shard. -/
def Version.sections (v : Version) : List (Nat × Section) :=
  v.shards.flatMap fun x => (sectionsOf x.2.header).map fun s => (x.2.base, s)

/-- A per-slot section of a kind covers a slot. -/
def coversSlot (kind slot : Nat) (x : Nat × Section) : Bool :=
  x.2.kind == kind && decide (x.2.first ≤ slot ∧ slot < x.2.first + x.2.count)

/-- Sections that meet a test. -/
def countSections (l : List (Nat × Section)) (q : Nat × Section → Bool) : Nat := (l.filter q).length

/-- A per-slot section of a kind covers a slot. -/
def Section.ofSlot (s : Section) (kind slot : Nat) : Bool := s.kind == kind && decide (s.first ≤ slot ∧ slot < s.first + s.count)

/-- RESID_COUNT of a SLOT_PARAMS record. -/
def SlotRec.resid (r : SlotRec) : Nat := fld r.bytes 90 2
/-- COL_BLOCK. -/
def SlotRec.block (r : SlotRec) : Nat := fld r.bytes 88 2
/-- CHAIN_POS. -/
def SlotRec.pos (r : SlotRec) : Nat := fld r.bytes 86 2

/-- Every SLOT_PARAMS record of a version. -/
def Version.recs (v : Version) : List SlotRec := v.shards.flatMap fun x => x.2.recs

/-- RESID_COUNT of a slot. -/
def Version.residCount (v : Version) (slot : Nat) : Nat := ((v.recs.find? fun r => r.slot == slot).map SlotRec.resid).getD 0

/-- Where the sections of a slot lie: CELL_ROWS, SLOT_PARAMS, RESIDUALS and OUTLIER_WEIGHTS (R148). -/
def Version.slotSource (v : Version) (slot : Nat) : SlotSrc :=
  let l := v.sections
  let at_ (kind size : Nat) : Nat := ((l.find? (coversSlot kind slot)).map fun x => x.1 + x.2.off + size * (slot - x.2.first)).getD 0
  let resid := match l.find? (coversSlot 2 slot) with
    | none => 0
    | some x => x.1 + x.2.off + 4 * sumNat ((List.range (slot - x.2.first)).map fun i => v.residCount (x.2.first + i))
  ⟨at_ 0 65536, at_ 1 128, resid, at_ 3 4096⟩

/-- The weight format of a slot's CELL_ROWS. -/
def Version.slotFmt (v : Version) (slot : Nat) : Nat := ((v.sections.find? (coversSlot 0 slot)).map fun x => x.2.fmt).getD 0

/-! ### Shards (R151, R163, R171, R172) -/

/-- PAYLOAD_LEN of a shard's header. -/
def Shard.payload (s : Shard) : Nat := fld s.header 24 4

/-- An address lies in a shard's stack copy. -/
def Shard.covers (s : Shard) (a : Nat) : Bool := s.held && decide (s.base ≤ a ∧ a < s.base + s.room)

/-- A shard holds a section that meets a test. -/
def Shard.has (s : Shard) (q : Section → Bool) : Bool := (sectionsOf s.header).any q

/-- A shard's stack copy is there and verified: it may be read (R151). -/
def Shard.there (s : Shard) : Bool := s.st == .verified && s.held

/-- Some shard with a property covers an address. -/
def Part.shardAt (p : Part) (a : Nat) (q : Shard → Bool) : Bool :=
  p.models.table.any fun v => v.2.shards.any fun s => s.2.covers a && q s.2

/-- Some shard of a version with sections that meet a test is gone everywhere (R172). -/
def Version.lost (v : Version) (q : Section → Bool) : Bool := v.shards.any fun x => x.2.has q && x.2.st == .failed

/-- Some shard of a version with sections that meet a test is not there to be read, nor gone: who needs it waits (R151, R171). -/
def Version.waits (v : Version) (q : Section → Bool) : Bool := v.shards.any fun x => x.2.has q && !x.2.there && x.2.st != .failed

/-- The version whose weights a bank holds or takes. -/
def Part.ownerVer (p : Part) (b : Bank) : Option Version :=
  (p.models.table.find? fun v => v.2.model == b.model && v.2.version == b.version).map Prod.snd

/-- A section of a kind of a bank's slot lies in the stacks elsewhere than at an address. -/
def Version.movedFrom (v : Version) (slot kind a : Nat) : Bool :=
  v.shards.any fun x => x.2.has (fun s => s.ofSlot kind slot) && !(x.2.held && decide (x.2.base ≤ a ∧ a < x.2.base + x.2.room))

/-- The sections of a bank's slot: where the bank's operation says, and where the version's shards lie now if they have moved since, as
after a retry or a read-back. DESIGN CHOICE (log entry 164). -/
def Part.srcNow (p : Part) (b : Bank) (src : SlotSrc) : SlotSrc :=
  match p.ownerVer b with
  | none => src
  | some v =>
    if v.movedFrom b.slot 0 src.rows || v.movedFrom b.slot 1 src.params || v.movedFrom b.slot 2 src.resid || v.movedFrom b.slot 3 src.outw then
      v.slotSource b.slot
    else src

/-- A section of a bank's slot, of kind `kind`, belongs to a shard that is gone everywhere (R172). -/
def Part.slotLost (p : Part) (b : Bank) (kind : Nat) : Bool := (p.ownerVer b).any fun v => v.lost fun s => s.ofSlot kind b.slot

/-- A section of a bank's slot, of kind `kind`, or what lies at its address `a`, is not verified in the stacks: who needs it waits
(R151, R171). -/
def Part.slotWaits (p : Part) (b : Bank) (kind a : Nat) : Bool :=
  ((p.ownerVer b).any fun v => v.waits fun s => s.ofSlot kind b.slot) || p.shardAt a fun s => !s.there

/-- The bytes of a section of a bank's slot: zeros where the shard is gone everywhere. -/
def Part.slotBytes (p : Part) (mem : Memory) (b : Bank) (kind a n : Nat) : Bytes :=
  if p.slotLost b kind then zpad n else memReadN mem a n

/-- CELL_ROWS of a bank belong to a shard that is gone everywhere (R172). -/
def Part.rowsLost (p : Part) (k : Nat) : Bool := p.slotLost (mget Bank.reset p.an.banks k) 0

/-- CELL_ROWS of a bank are not verified in the stacks: a row read waits (R151, R171). -/
def Part.rowsWait (p : Part) (k : Nat) : Bool :=
  let b := mget Bank.reset p.an.banks k
  p.slotWaits b 0 (p.srcNow b b.src).rows

/-- The shards that cover an address have been read now (R163). -/
def Part.touchShards (p : Part) (a : Nat) : Part :=
  let put (s : Shard) : Shard := if s.covers a then { s with readAt := p.now } else s
  { p with models := { p.models with table := p.models.table.map fun v => (v.1, { v.2 with shards := v.2.shards.map fun s => (s.1, put s.2) }) } }

/-! ### Bank operations that CTL sends (R168, R172) -/

/-- CTL sends a bank operation with its parameters: a command that names the bank's present epoch (R278, R288). -/
def Part.bankMessage (p : Part) (op k : Nat) (params : Bytes) : Part :=
  let die := 12 + k / 2048
  let unit := k % 2048
  let tag := die * 65536 + unit
  let seq := mget 0 p.d2d.txSeq (seqKey 0 die 0)
  let m : DieMsg :=
    { dst := die, cls := 0, src := 0, len := 16 + params.length, unit := unit, epoch := (mget Bank.reset p.an.banks k).epoch, seq := 0, crClass := 0,
      crCount := 0, payload := leBytes 1 op ++ [0] ++ leBytes 2 (16 + params.length) ++ leBytes 4 tag ++ leBytes 4 seq ++ zpad 4 ++ params }
  (p.issue { tag := tag, seq := seq, die := die, unit := unit, opcode := op, start := p.now, sess := 64 }).send m

/-- ERASE or RELEASE, which have no parameters. -/
def Part.bankCommand (p : Part) (op k : Nat) : Part := p.bankMessage op k []

/-! ### Wakes (R400, R407, R411) -/

/-- A wake request for a domain in SLEEP queues it in the wake governor (R400, R411); in any other state it is already being
driven or ON. -/
def Part.requestWake (p : Part) (d : Nat) : Part :=
  if p.domSt d = .sleep ∧ 0 < d ∧ d < 20 then
    let p := p.setDom d { p.dom d with st := .queued, queuedAt := p.now }
    { p with pwr := { p.pwr with queue := p.pwr.queue ++ [d] } }
  else p

/-- A host wake or an event wake of domain 1 (R407); during a maintenance wake it turns that into a full wake (R408). -/
def Part.wakeCtl (p : Part) : Part :=
  ({ p with pwr := { p.pwr with maint := false } }.setDom 1 { p.dom 1 with sleepReq := false }).requestWake 1

/-- The order in which bring-up requests the domains after FIRMWARE (R382, R383). -/
def bringupOrder : List Nat := [11, 12, 13, 14, 19, 15, 16, 17, 18, 3, 4, 5, 6, 7, 8, 9, 10]

/-- Request every domain of bring-up after FIRMWARE. -/
def Part.wakeAll (p : Part) : Part := bringupOrder.foldl (fun q d => q.requestWake d) p

/-! ### The anneal's schedule (R117, R118, R424) -/

/-- The band of a temperature (R424): 0 T0, 1 T1, 2 T2, 3 T3. -/
def bandOf (t : Int) : Nat := if t < 180 then 0 else if t < 280 then 1 else if t < 360 then 2 else 3

/-- Above 100 °C: 100.25 °C or more (R424). -/
def isHot (t : Int) : Bool := decide (401 ≤ t)

/-- Column check interval in ns, at a cluster temperature (R117). -/
def checkInterval (t : Int) : Nat :=
  1000000000 * (if isHot t then 4 else match bandOf t with
    | 0 => 120
    | 1 => 60
    | 2 => 20
    | _ => 8)

/-- Deep probe interval in ns, at a cluster temperature (R117). -/
def probeInterval (t : Int) : Nat :=
  1000000000 * (if isHot t then 15 else match bandOf t with
    | 0 => 1200
    | 1 => 600
    | 2 => 120
    | _ => 30)

/-- The banks of cluster `c`, changed by `f`. -/
def Part.modBanks (p : Part) (c : Nat) (f : Bank → Bank) : Part :=
  let put (m : List (Nat × Bank)) (x : Nat × Bank) : List (Nat × Bank) :=
    if x.1 / 128 = c then mset Bank.reset m x.1 (f x.2) else m
  { p with an := { p.an with banks := p.an.banks.foldl put p.an.banks } }

/-- A cluster's tiles as its band becomes `band` (R49, R55, R72): MVMs and a calibration command whose first phase is still to come, and a
shallow row that has not started, take the new band. -/
def Tile.reband (tl : Tile) (band now : Nat) : Tile :=
  { tl with
    runs := tl.runs.map fun r => if now < r.start then { r with band := band } else r,
    cal := tl.cal.map fun c => if now < c.start then { c with band := band } else c,
    wr := tl.wr.map fun w => if (w.kind == .shallow || w.kind == .refresh) && decide (now + 96 < tl.rowAt) then { w with band := band } else w }

/-- Every tile of cluster `c` takes the new band. -/
def Part.rebandTiles (p : Part) (c band : Nat) : Part :=
  { p with an := { p.an with tiles := p.an.tiles.map fun x => (x.1, if x.1 / 64 = c then x.2.reband band p.now else x.2) } }

/-- A cluster changes band: each task falls due at the earlier of its old due time and the last task plus the new interval
(R118), and the waveforms and trims of what has not begun follow. -/
def Part.bandChange (p : Part) (c : Nat) (t : Int) : Part :=
  (p.rebandTiles c (bandOf t)).modBanks c fun b => { b with
    dueCheck := min b.dueCheck (b.lastCheck + checkInterval t), dueProbe := min b.dueProbe (b.lastProbe + probeInterval t) }

/-- A drift coefficient has moved by more than 0.03 (R117): a SHALLOW bank's refresh and a DEEP bank's probe fall due now. -/
def Part.annealResched (p : Part) (k : Nat) : Part :=
  let b := mget Bank.reset p.an.banks k
  let v := if b.st = .shallow ∧ 491 < b.a.natAbs then { b with refreshDue := true }
    else if b.st = .deep ∧ 491 < b.a.natAbs then { b with dueProbe := p.now } else b
  { p with an := { p.an with banks := mset Bank.reset p.an.banks k v } }

/-! ### Readiness (R386) -/

/-- A cluster in service has a tile that is out of service. -/
def Part.tileLost (p : Part) : Bool :=
  p.clusters.any fun c => c.2.service && c.2.calDone &&
    decide ((p.an.tiles.filter fun t => t.1 / 64 == c.1 && t.2.ready).length < 64)

/-! ### What resets lose (R10, R66, R374) -/

/-- What a bank keeps when its ACD loses power (R63, R64, R66): the map rows in digital mode and the rows written deep. -/
def Bank.powerLost (b : Bank) : Bank :=
  { Bank.reset with copy6 := b.copy6, copy7 := b.copy7, cells := b.cells.filter fun x => x.2.deep }

/-- The reset of an ACD's domain. -/
def Part.resetAcd (p : Part) (i : Nat) : Part :=
  let a := p.an
  { p with
    an := { a with
      tiles := a.tiles.filter fun x => x.1 / 1024 != i,
      banks := a.banks.foldl (fun m x => if x.1 / 2048 = i then mset Bank.reset m x.1 x.2.powerLost else m) a.banks,
      slices := a.slices.filter fun x => x.1 / 16 != i,
      acds := mset Acd.reset a.acds i { Acd.reset with resetAt := p.now },
      jobs := a.jobs.filter fun j => !j.job.homes.any fun h => h.1 / 16 == i,
      flying := a.flying.filter fun f => f.home / 16 != i },
    clusters := p.clusters.filter fun x => x.1 / 16 != i }

/-- The reset of a CXD's domain: slots homed there, role epochs, slabs, attention and stacks. -/
def Part.resetCxd (p : Part) (i : Nat) : Part :=
  let v := p.kv
  { p with
    kv := { v with
      slots := v.slots.filter fun x => x.2.home != i,
      epochs := v.epochs.filter fun x => x.1 / 16384 != i,
      epochAt := v.epochAt.filter fun x => x.1 / 16384 != i,
      slabs := v.slabs.filter fun x => x.1 / 5722 != i,
      copies := v.copies.filter fun x => x.cxd != i,
      atts := v.atts.filter fun x => x.cxd != i,
      passes := v.passes.filter fun x => x.1 != i,
      marks := v.marks.filter fun x => (mget KvSlot.reset v.slots x.1).home != i },
    hbm := p.hbm.filter fun x => x.1 / 8 != i }

/-- A link that goes DOWN without a cause of its own keeps its assignment. -/
def Link.down (k : Link) : Link := { Link.reset with mode := k.mode, port := k.port }

/-- The reset of an LKD's domain: its links go DOWN (R294), which each link that was not reports (R325). -/
def Part.resetLkd (p : Part) (i : Nat) : Part :=
  let were := (p.fab.links.filter fun x => x.1 / 4 == i && x.2.st != 0).map Prod.fst
  let q : Part := { p with fab := { p.fab with
      links := p.fab.links.foldl (fun m x => if x.1 / 4 = i then mset Link.reset m x.1 x.2.down else m) p.fab.links,
      eth := p.fab.eth.foldl (fun m x => if x.1 / 4 = i then mset EthLink.reset m x.1 { x.2 with up := false } else m) p.fab.eth } }
  were.foldl Part.linkChange q.portsSwept

/-- The reset of domain 19: shards on a staging engine wait again and the NVMe controllers are unused. -/
def Part.resetWsd (p : Part) : Part :=
  let put (s : Shard) : Shard := if s.st = .staging then { s with st := .waiting, engine := 96, got := [], key := none } else s
  { p with
    fab := { p.fab with nvme := [] },
    models := { p.models with table := p.models.table.map fun v =>
      (v.1, { v.2 with shards := v.2.shards.map fun s => (s.1, put s.2) }) } }

end Sys2Proof.Machine
end

