-- ==== Sys2Proof/Machine/Readiness.lean ====
section
/-! DEFINITION. Readiness: the readiness count and the FEAT1 bits (R257, R386), and the READINESS reply of each change (R387). -/
namespace Sys2Proof.Machine

/-- A cluster's record; clusters are numbered 16 * acd + c. -/
def Part.cluster (p : Part) (c : Nat) : Cluster := mget Cluster.reset p.clusters c

/-- Replace a cluster's record. -/
def Part.setCluster (p : Part) (c : Nat) (v : Cluster) : Part :=
  { p with clusters := mset Cluster.reset p.clusters c v }

/-- READY_CLUSTERS (R386). -/
def Part.readyClusters (p : Part) : Nat := (p.clusters.filter fun c => c.2.service).length

/-- Clusters whose calibration has finished, failed ones included (CAL_DONE). -/
def Part.calDone (p : Part) : Nat := (p.clusters.filter fun c => c.2.calDone).length

/-- A module between two dies in service is at 16 GT/s or down (R16, R386). -/
def Part.meshDegraded (p : Part) : Bool :=
  (List.range 20).any fun d =>
    p.domSt (dieDomain d) == .on &&
    (List.range (portTable d).length).any fun q =>
      match (portTable d)[q]? with
      | none => false
      | some (e, _) => p.domSt (dieDomain e) == .on && ((p.port d q).st == 0 || (p.port d q).st == 3)

/-- FEAT1 (R386). -/
def Part.feat1 (p : Part) : Nat :=
  let serving := p.boot.stage == 3 || p.boot.stage == 4
  let some_ := decide (0 < p.readyClusters)
  let all := p.calDone == 128
  bit serving + 2 * bit (some_ && !all) + 4 * bit (some_ && all) + 8 * bit p.fabricUp + 16 * bit p.ethUp +
  32 * bit (p.clusters.any (fun c => c.2.calFailed) || p.tileLost || p.meshDegraded)

/-- A change of FEAT1 or READY_CLUSTERS sends one READINESS reply to each session with NOTICE_MASK bit 2 (R257, R387). -/
def Part.readiness (p : Part) : Part :=
  let f := p.feat1
  let r := p.readyClusters
  if f = p.boot.feat1Seen ∧ r = p.boot.readySeen then p
  else
    { p with boot := { p.boot with feat1Seen := f, readySeen := r } }.toMasked 2
      (freeReply 4 (leBytes 2 r ++ [0, 0] ++ leBytes 4 f ++ leBytes 8 p.now)) allSessions

end Sys2Proof.Machine
end

