-- ==== Sys2Proof/Machine/Sessions.lean ====
section
/-! DEFINITION. Sessions: submission windows, taking and starting commands, credits, the reply ring, MSI-X, and the session
commands (R236 to R259, R261, R277, R505). -/
namespace Sys2Proof.Machine

/-! ### The submission side -/

/-- Units of a submission window (R238). -/
def subUnits : Nat := 1024

/-- The units the host holds, counted from the take pointer (R246): 16 until the reply that leaves CLOSED or FAULTED is
written, then 1,024, less the units taken and not reported. -/
def Session.heldUnits (s : Session) : Nat := (if s.granted then subUnits else 16) - s.unreported

/-- The reset of the submission side on entry to CLOSED or FAULTED (R241). -/
def Session.resetSub (s : Session) : Session :=
  { s with takePtr := 0, seqExpect := 0, gran := [], unreported := 0, granted := false }

/-- A granule that has been written, or none. -/
def Session.granule (s : Session) (g : Nat) : Option Bytes := mfind s.gran g

/-- The `n` granules from granule `g` on, round the window, have all been written. -/
def Session.granules (s : Session) (g : Nat) : Nat → Bool
  | 0 => true
  | n + 1 => (s.granule (g % 4096)).isSome && s.granules (g + 1) n

/-- The bytes of `n` granules from granule `g` on. -/
def Session.granuleBytes (s : Session) (g : Nat) : Nat → Bytes
  | 0 => []
  | n + 1 => (s.granule (g % 4096)).getD [] ++ s.granuleBytes (g + 1) n

/-- Clear `n` granules from granule `g` on. -/
def clearGranules (l : List (Nat × Bytes)) (g : Nat) : Nat → List (Nat × Bytes)
  | 0 => l
  | n + 1 => clearGranules (merase l (g % 4096)) (g + 1) n

/-- A framing fault of an OPEN session (R240, R241): FAULTED with its CAUSE, the submission side reset, and the fault reply
with CMD_SEQ the SEQ expected. -/
def Part.framingFault (p : Part) (i cause status : Nat) : Part :=
  let s := p.ses i
  match s.st with
  | .opened =>
    let r : Reply := { op := 0, kind := 0, tag := 0, seq := s.seqExpect, status := status, body := [], owner := 0, id := 0 }
    let p := p.setSes i { s.resetSub with st := .faulted, cause := cause }
    p.produce i r
  | _ => p

/-- The opcode that CLOSED and FAULTED allow (R505). -/
def allowedOp (st : SessState) : Nat :=
  match st with
  | .closed => 0x02
  | _ => 0x04

/-- R505: in CLOSED or FAULTED, a packet at unit 0 that the state does not allow is discarded once its whole extent has been
written; the discard is counted in CLOSED_DROP. -/
def Part.closedDrop (p : Part) (i : Nat) : Part :=
  let s := p.ses i
  match s.st with
  | .opened => p
  | _ =>
    if s.takePtr ≠ 0 then p
    else
      match s.granule 0 with
      | none => p
      | some h =>
        let good := decide (pkLen h % 16 = 0 ∧ 16 ≤ pkLen h ∧ pkLen h ≤ 1024)
        let n := if good then pkLen h / 16 else 64
        if good && pkOp h == allowedOp s.st && pkSeq h == 0 then p
        else if s.granules 0 n then
          (p.setSes i { s with gran := clearGranules s.gran 0 n }).bump (aSessCnt i) 48 16 1
        else p

/-- Store a granule. A second write before the packet is taken is an undefined case of R348: either value may stay. -/
def Part.putGranule (p : Part) (i g : Nat) (b : Bytes) : Part :=
  match (p.ses i).granule g with
  | none => p.modSes i fun s => { s with gran := minsert s.gran g b }
  | some old =>
    let (v, p) := p.free
    p.modSes i fun s => { s with gran := minsert s.gran g (if v.toNat % 2 = 0 then old else b) }

/-- Store `n` whole granules of a write from granule `g` on. -/
def Part.putGranules (p : Part) (i g : Nat) (b : Bytes) : Nat → Part
  | 0 => p
  | n + 1 => (p.putGranule i g (b.take 16)).putGranules i (g + 1) (b.drop 16) n

/-- A write of `b` at offset `o` of a session's window (R237, R246): partial granules are discarded and the write counted in
BAD_WRITE; a write to a unit the host does not hold, of part of a granule too, is discarded and faults an OPEN session. -/
def Part.windowWrite (p : Part) (i o : Nat) (b : Bytes) : Part :=
  let g0 := (o + 15) / 16
  let g1 := (o + b.length) / 16
  let p := if 16 * g0 = o ∧ 16 * g1 = o + b.length then p else p.bump (aSessCnt i) 0 16 1
  let s := p.ses i
  let away (u : Nat) : Bool := decide (s.heldUnits ≤ (u + subUnits - s.takePtr) % subUnits)
  if b.isEmpty then p
  else if (List.range ((o + b.length - 1) / 64 + 1 - o / 64)).any fun k => away (o / 64 + k) then p.framingFault i 3 stCreditOverrun
  else if g1 ≤ g0 then p
  else (p.putGranules i g0 (b.drop (16 * g0 - o)) (g1 - g0)).closedDrop i

/-- BAR0 accepts writes: stage FIRMWARE reached, not HALTED, domain 1 powered (R379, R384, R406). -/
def Part.bar0Open (p : Part) : Bool := decide (2 ≤ p.boot.stage) && p.boot.stage != 6

/-- A host write to BAR0 (R236): below offset 0x40_0000 it reaches a session's window, unless ingress owns it (R318). -/
def Part.bar0Write (p : Part) (off : Nat) (b : Bytes) : Part :=
  if !p.bar0Open then p
  else if 0x400000 ≤ off then p
  else if (p.ses (off / 65536)).ingress then p
  else p.windowWrite (off / 65536) (off % 65536) (b.take (65536 - off % 65536))

/-! ### Reply credits and the FREE of a final record (R247, R334) -/

/-- Return units of the oldest replies; lists the owners of final records that are then covered (R334). -/
def returnUnits : List (Nat × Nat) → Nat → List (Nat × Nat) × List Nat
  | [], _ => ([], [])
  | (u, o) :: r, n =>
    if u ≤ n then
      let (l, fs) := returnUnits r (n - u)
      (l, if o = 0 then fs else o :: fs)
    else ((u - n, o) :: r, [])

/-- REPLY_CR of a packet (R247): the part's holding rises, capped at the ring size with the return counted in REPLY_CR_ERR;
final records that are covered send their FREE record (R334). -/
def Part.returnCredits (p : Part) (i n : Nat) : Part :=
  let s := p.ses i
  let (l, fs) := returnUnits s.unret n
  let p := p.setSes i { s with replyHeld := min (s.replyHeld + n) s.ringUnits, unret := l }
  let p := if s.ringUnits < s.replyHeld + n then p.bump (aSessCnt i) 32 16 1 else p
  fs.foldl (fun q r => q.journalFree r) p

/-! ### Taking packets -/

/-- Copy the packet at the take pointer into the session queue, with the state it was taken in (R258), and clear its units (R239). PART_RESET on an OPEN session
stops all taking from this instant (R379). -/
def Part.takePacket (p : Part) (i : Nat) (len : Nat) : Part :=
  let s := p.ses i
  let units := cdiv len 64
  let k := s.granuleBytes (4 * s.takePtr) (len / 16)
  let p := p.setSes i { s with
    queue := s.queue ++ [(k, s.st)], gran := clearGranules s.gran (4 * s.takePtr) (4 * units),
    takePtr := (s.takePtr + units) % subUnits, unreported := s.unreported + units,
    seqExpect := (s.seqExpect + 1) % 2 ^ 32 }
  let p := p.returnCredits i (pkCr k)
  let p := if pkOp k = 0x0A ∧ s.st = .opened then { p with boot := { p.boot with noTake := true } } else p
  p.traceAdd 3 0 i (k.take 16)

/-- PACKET_TAKE (R239, R240, R505): the packet at the take pointer is taken once it is complete and the queue has room; a bad
LEN or SEQ faults an OPEN session as soon as its first granule is seen. -/
def Part.packetTake (p : Part) (i : Nat) : Part :=
  let s := p.ses i
  if p.boot.noTake then p
  else
    match s.granule (4 * s.takePtr) with
    | none => p
    | some h =>
      match s.st with
      | .opened =>
        if pkLen h % 16 ≠ 0 ∨ pkLen h < 16 ∨ 16384 < pkLen h then p.framingFault i 2 stLenRange
        else if pkSeq h ≠ s.seqExpect then p.framingFault i 1 stSeqErr
        else if s.granules (4 * s.takePtr) (pkLen h / 16) && decide (s.queue.length < 64) then p.takePacket i (pkLen h)
        else p
      | _ =>
        if s.takePtr = 0 ∧ pkOp h = allowedOp s.st ∧ pkSeq h = 0 ∧ pkLen h % 16 = 0 ∧ 16 ≤ pkLen h ∧ pkLen h ≤ 1024 then
          if s.granules 0 (pkLen h / 16) && decide (s.queue.length < 64) then p.takePacket i (pkLen h) else p
        else p.closedDrop i

/-! ### Outcomes of commands -/

/-- A reply to the packet `k`. -/
def replyTo (k : Bytes) (status : Nat) (body : Bytes) : Reply :=
  { op := pkOp k, kind := 0, tag := pkTag k, seq := pkSeq k, status := status, body := body, owner := 0, id := 0 }

/-- The reply of an opcode is left out by QUIET (R242): status OK, no body, and not a session command. -/
def quieted (op flags status : Nat) (body : Bytes) : Bool :=
  flags.testBit 1 && status == 0 && body == [] && op != 0x02 && op != 0x03 && op != 0x04

/-- The command being executed on a session completes with a status and a body (R244, R249): it holds the next command back
until its reply is written. A status other than OK and ALREADY_DONE rejects it and is counted in REJECTED (R261). -/
def Part.finish (p : Part) (i status : Nat) (body : Bytes) : Part :=
  let s := p.ses i
  match s.cur with
  | none => p
  | some k =>
    let p := if status = stOk ∨ status = stAlreadyDone then p else p.bump aCmdCnt 48 16 1
    if quieted (pkOp k) (pkFlags k) status body then p.setSes i { s with cur := none, hold := none }
    else (p.setSes i { s with cur := none, hold := some s.serial }).produce i { replyTo k status body with id := s.serial }

/-- An A command reaches its start point (R244): it runs on, and the next command may start. `key` names its object. -/
def Part.startA (p : Part) (i key : Nat) : Part :=
  let s := p.ses i
  match s.cur with
  | none => p
  | some k =>
    p.setSes i { s with
      cur := none, hold := none,
      running := s.running ++ [{ op := pkOp k, tag := pkTag k, seq := pkSeq k, flags := pkFlags k, key := key, id := s.serial }] }

/-- A running A command, by its number, completes: exactly one reply (R244). -/
def Part.completeA (p : Part) (i id status : Nat) (body : Bytes) : Part :=
  let s := p.ses i
  match takeFirst (fun a : ACmd => a.id == id) s.running with
  | none => p
  | some (a, l) =>
    let p := p.setSes i { s with running := l }
    if quieted a.op a.flags status body then p
    else p.produce i { op := a.op, kind := 0, tag := a.tag, seq := a.seq, status := status, body := body, owner := 0, id := 0 }

/-- Complete every running A command of an opcode and object, on every session. -/
def Part.completeKey (p : Part) (op key status : Nat) (body : Bytes) : Part :=
  allSessions.foldl (fun q i =>
    (q.ses i).running.foldl (fun r a => if a.op = op ∧ a.key = key then r.completeA i a.id status body else r) q) p

/-- The command in execution on session `i` has opcode `op`: run its effect on the packet, else nothing happens. -/
def Part.onCmd (p : Part) (i op : Nat) (f : Bytes → Part → Part) : Part :=
  match (p.ses i).cur with
  | none => p
  | some k => if pkOp k = op then f k p else p

/-- A host command row: it acts on CTL when that command is in execution on the session named. -/
def State.cmd (s : State) (i op : Nat) (f : Bytes → Part → Part) : Out :=
  s.live 1 (decide (i < 64)) fun p => p.onCmd i op f

/-! ### Starting commands -/

/-- COMMAND_START (R244, R261): the next packet of the session starts once no command holds it back, and is checked in order.
SESSION_OPEN taken in CLOSED is judged whole by its own row. DEDUCED (log entry 179): a SESSION_RESYNC taken in FAULTED that fails resets the
submission side, as a failed open does. -/
def Part.commandStart (p : Part) (i : Nat) : Part :=
  let s := p.ses i
  match s.cur, s.hold, s.queue with
  | none, none, (k, st) :: rest =>
    let s1 := { s with queue := rest, cur := some k, curIn := st, serial := s.serial + 1 }
    let p1 := p.setSes i s1
    if st ≠ .opened ∧ pkOp k = 0x02 then p1
    else
      match checkFail p.fabCfg.partId p.boot.stage s.feat0 s.feat2 s.ifMinor k with
      | none => p1
      | some e =>
        let s1 := if st ≠ .opened then s1.resetSub else s1
        let p1 := p.setSes i s1
        let p1 := if pkOp k = 0x0A then { p1 with boot := { p1.boot with noTake := false } } else p1
        if pkOp k = 0xF0 ∨ pkOp k = 0x05 then
          (p1.setSes i { s1 with cur := none }).bump aCmdCnt 48 16 1
        else p1.finish i e []
  | _, _, _ => p

/-! ### The reply ring -/

/-- A reply's header as written (R249). -/
def replyHeader (r : Reply) (phase : Bool) (subCr : Nat) : Bytes :=
  leBytes 1 r.op ++ leBytes 1 (r.kind + 128 * bit phase) ++ leBytes 2 (16 + (pad16 r.body).length) ++ leBytes 4 r.tag ++
  leBytes 4 r.seq ++ leBytes 2 r.status ++ leBytes 2 subCr

/-- The writes that put a reply at a ring offset (R250): its body, where it has one, and then the 16-byte header by itself. -/
def replyWrites (off : Nat) (r : Reply) (phase : Bool) (subCr : Nat) : List (Nat × Bytes) :=
  (if r.body.isEmpty then [] else [(off + 16, pad16 r.body)]) ++ [(off, replyHeader r phase subCr)]

/-- Reply units of a reply (R247). -/
def replyUnits (r : Reply) : Nat := cdiv (16 + (pad16 r.body).length) 64

/-- Signal a session's MSI-X vector for a written reply, at most once per holdoff (R252). -/
def Part.signalReply (p : Part) (i : Nat) : Part :=
  let s := p.ses i
  if !s.intEn then p
  else
    match s.msixLast with
    | some t =>
      if p.now < t + 1000 * s.holdoff then p.setSes i { s with msixDue := true }
      else (p.setSes i { s with msixLast := some p.now, msixDue := false }).msix i
    | none => (p.setSes i { s with msixLast := some p.now, msixDue := false }).msix i

/-- Replies of a session can leave: its ring may be written, or an ingress session has its connection (R318). -/
def Part.canReply (p : Part) (i : Nat) : Bool := if (p.ses i).ingress then (p.ses i).claimed else p.canWrite

/-- Write one reply at the ring pointer; `report` makes its SUB_CR return the units taken (R245, R250). On an ingress connection it goes out in
one piece (R318). -/
def Part.emit (p : Part) (i : Nat) (r : Reply) (units : Nat) (report : Bool) (more : Nat) : Part :=
  let s := p.ses i
  let subCr := if report then s.unreported + more else 0
  let ph := if s.ingress then true else s.phase
  let wrap := decide (s.ringUnits ≤ s.replyPtr + units)
  (p.setSes i { s with
    out := s.out ++ (if s.ingress then [(64 * s.replyPtr, replyHeader r ph subCr ++ pad16 r.body)] else replyWrites (64 * s.replyPtr) r ph subCr),
    replyHeld := s.replyHeld - units,
    replyPtr := if wrap then 0 else s.replyPtr + units,
    phase := if wrap then !s.phase else s.phase,
    unreported := if report then 0 else s.unreported,
    granted := s.granted || decide (0 < more),
    unret := s.unret ++ [(units, r.owner)],
    lastReply := p.now }).signalReply i

/-- The session becomes CLOSED (R241, R258): the submission side is reset and its FEAT2 grant ends (R463). -/
def Part.closeSession (p : Part) (i : Nat) : Part :=
  let s := p.ses i
  p.setSes i { Session.reset with cause := s.cause, ingress := s.ingress, out := s.out, serial := s.serial }

/-- A successful phase 1 of DEBUG_AUTH grants its FEAT2 word to the session from its reply onwards; the first grant of a bit sets
DEBUG_SEEN (R463). -/
def Part.debugGrant (p : Part) (i g : Nat) : Part :=
  let p := p.setSes i { p.ses i with feat2 := (p.ses i).feat2 ||| g }
  if g = 0 then p else { p with sec := { p.sec with debugSeen := true } }

/-- What a written reply sets off: it releases the next command (R244), starts the 100 µs of PART_RESET (R379), starts a
challenge's 60 s (R462), grants what DEBUG_AUTH granted (R463), closes the session after SESSION_CLOSE (R258), and frees a request whose final record it is (R202). -/
def Part.replyWritten (p : Part) (i : Nat) (r : Reply) : Part :=
  let s := p.ses i
  let p := if r.kind = 0 ∧ s.hold = some r.id then p.setSes i { s with hold := none } else p
  let p := if r.kind = 0 ∧ r.op = 0x0A ∧ r.status = stOk ∧ p.boot.halt = none ∧ p.boot.stage ≠ 6 then
      { p with boot := { p.boot with resetDue := some (p.now + 100000) } } else p
  let p := if r.kind = 0 ∧ r.op = 0xF3 ∧ r.body.length = 64 then
      { p with sec := { p.sec with challenge := p.sec.challenge.map fun c => if c.bytes = r.body then { c with replied := some p.now } else c } } else p
  let p := if r.kind = 0 ∧ r.op = 0xF3 ∧ r.status = stOk ∧ r.body.length = 16 then p.debugGrant i (fld r.body 0 4) else p
  let p := if r.owner = 0 then p else p.requestFreed (r.owner - 1)
  if s.closing && r.kind == 0 && r.status == stOk && (r.op == 0x03 || r.op == 0x80) then p.closeSession i else p

/-- REPLY_WRITE (R247, R250, R251, R377): the oldest waiting reply is written once the part may write to the host and holds its
units with one to spare; a PAD fills the ring's end first. -/
def Part.replyWrite (p : Part) (i : Nat) : Part :=
  let s := p.ses i
  match s.waiting with
  | [] => p
  | r :: rest =>
    let u := replyUnits r
    let pad := if !s.ingress && decide (s.ringUnits < s.replyPtr + u) then s.ringUnits - s.replyPtr else 0
    if !p.canReply i || decide (s.replyHeld < pad + u + 1) then p
    else
      let p := p.setSes i { s with waiting := rest }
      let p := if pad = 0 then p
        else p.emit i (freeReply 7 (zpad (64 * pad - 16))) pad false 0
      let grant := if r.kind = 0 ∧ r.status = stOk ∧ (r.op = 0x02 ∨ r.op = 0x04) ∧ !s.granted then 1008 else 0
      (p.emit i r u true grant).replyWritten i r

/-- CREDIT_REPLY (R248): units have been taken and not reported, and 10 µs passed without a reply or 256 units are unreported.
The CREDIT reply may use the last reply unit. -/
def Part.creditReply (p : Part) (i : Nat) : Part :=
  let s := p.ses i
  if s.unreported = 0 ∨ s.replyHeld = 0 ∨ s.ringUnits = 0 then p
  else if !p.canReply i then p
  else if s.lastReply + 10000 ≤ p.now ∨ 256 ≤ s.unreported then p.emit i (freeReply 6 []) 1 true 0
  else p

/-- MSIX_HOLDOFF_EXPIRE (R252): the holdoff ends and one signal is sent if a reply was written in the meantime. -/
def Part.holdoffExpire (p : Part) (i : Nat) : Part :=
  let s := p.ses i
  match s.msixLast with
  | none => p
  | some t =>
    if s.msixDue && decide (t + 1000 * s.holdoff ≤ p.now) then
      (p.setSes i { s with msixDue := false, msixLast := some p.now }).msix i
    else p

/-! ### Session commands -/

/-- The 64-byte body of SESSION_OPEN and PART_INFO (R254). -/
def Part.infoBody (p : Part) (feat0 feat2 : Nat) : Bytes :=
  leBytes 2 1 ++ leBytes 2 3 ++ leBytes 4 feat0 ++ leBytes 4 p.feat1 ++ leBytes 4 feat2 ++ zpad 4 ++
  leBytes 2 p.fabCfg.partId ++ leBytes 1 p.sec.stepping ++ leBytes 1 p.sec.order ++ leBytes 2 p.readyClusters ++
  leBytes 2 (p.sess.filter fun s => s.2.st == .opened).length ++ leBytes 2 16384 ++ leBytes 2 1024 ++ leBytes 8 p.now ++
  zpad 24

/-- RING_ADDR and RING_BYTES obey R253; an ingress session's RING_ADDR is 0 (R318). -/
def ringOk (k : Bytes) : Bool :=
  par k 24 8 % 4096 == 0 && decide (16384 ≤ par k 32 4 ∧ par k 32 4 ≤ 16777216) && par k 32 4 == 2 ^ Nat.log2 (par k 32 4)

/-- The first failure of a SESSION_OPEN of a CLOSED session, after its ring was found good (R253, R255, R261). -/
def Part.openFail (p : Part) (ingress : Bool) (k : Bytes) : Option Nat :=
  let grant := p.grantFeat0 (par k 4 4) (par k 2 2)
  firstFail [(!((par k 36 1).testBit 0) || grant.testBit 1, stNotNegotiated), (!pkEpochChk k || grant.testBit 2, stNotNegotiated),
    (stageOk p.boot.stage 0x02, stNotReady), (pkLen k == 80, stLenRange), (reservedOk k, stBadParam), (!pkEpochChk k, stBadParam),
    (par k 0 2 == 1, stBadVersion), (par k 16 4 == 0, stBadParam), (!ingress || (par k 24 8 == 0 && par k 36 1 == 0), stBadParam)]

/-- SESSION_OPEN (R253 to R256): a bad ring leaves the session CLOSED with CAUSE 4; any other failure is replied at ring offset
0 with PHASE 1 and SUB_CR 0, once the part may write to the host (R377); success opens the session. Taken on an OPEN
session it is rejected (R258). -/
def Part.sessionOpen (p : Part) (i : Nat) (k : Bytes) : Part :=
  let s := p.ses i
  match s.curIn with
  | .opened => p.finish i stBadParam []
  | _ =>
    if !ringOk k then (p.setSes i { s.resetSub with cause := 4, cur := none, hold := none }).bump aCmdCnt 48 16 1
    else
      match p.openFail s.ingress k with
      | some st =>
        if !p.canReply i then p
        else
          (p.setSes i { s.resetSub with
            cur := none, hold := none,
            out := s.out ++ replyWrites 0 (replyTo k st []) true 0 }).bump aCmdCnt 48 16 1
      | none =>
        let f0 := p.grantFeat0 (par k 4 4) (par k 2 2)
        let p := p.setSes i { s with
          st := .opened, ifMinor := min (par k 2 2) 3, cause := 0, ringAddr := par k 24 8, ringUnits := par k 32 4 / 64,
          replyPtr := 0, replyHeld := par k 32 4 / 64, phase := true, intEn := (par k 36 1).testBit 0,
          holdoff := par k 38 2, noticeMask := par k 40 4, feat0 := f0, feat2 := 0, waiting := [], unret := [],
          msixLast := none, msixDue := false }
        p.finish i stOk (p.infoBody f0 0)

/-- SESSION_CLOSE (R258): BUSY while the session owns a live request, a held slot or an uncompleted A command; otherwise its
reply is the last one written. -/
def Part.sessionClose (p : Part) (i : Nat) : Part :=
  if p.sessionBusy i || !(p.ses i).running.isEmpty then p.finish i stBusy []
  else (p.modSes i fun s => { s with closing := true }).finish i stOk []

/-- SESSION_RESYNC (R258): FAULTED becomes OPEN; taken on an OPEN session, ALREADY_DONE. -/
def Part.sessionResync (p : Part) (i : Nat) : Part :=
  match (p.ses i).curIn with
  | .opened => p.finish i stAlreadyDone []
  | _ => (p.modSes i fun s => { s with st := .opened }).finish i stOk []

/-! ### The commands -/

/-- SUBMISSION_WRITE (R237). -/
def execSubmissionWrite (off : Nat) (b : Bytes) (s : State) : Out := s.live 1 true fun p => p.bar0Write off b

/-- PACKET_TAKE (R239). -/
def execPacketTake (i : Nat) (s : State) : Out := s.live 1 (decide (i < 64)) fun p => p.packetTake i

/-- COMMAND_START (R244). -/
def execCommandStart (i : Nat) (s : State) : Out := s.live 1 (decide (i < 64)) fun p => p.commandStart i

/-- REPLY_WRITE (R250). -/
def execReplyWrite (i : Nat) (s : State) : Out := s.live 1 (decide (i < 64)) fun p => p.replyWrite i

/-- CREDIT_REPLY (R248). -/
def execCreditReply (i : Nat) (s : State) : Out := s.live 1 (decide (i < 64)) fun p => p.creditReply i

/-- MSIX_HOLDOFF_EXPIRE (R252). -/
def execMsixHoldoffExpire (i : Nat) (s : State) : Out := s.live 1 (decide (i < 64)) fun p => p.holdoffExpire i

/-- NOP (R259). -/
def execNop (i : Nat) (s : State) : Out := s.cmd i 0x01 fun _ p => p.finish i stOk []

/-- SESSION_OPEN (R253). -/
def execSessionOpen (i : Nat) (s : State) : Out := s.cmd i 0x02 fun k p => p.sessionOpen i k

/-- SESSION_CLOSE (R258). -/
def execSessionClose (i : Nat) (s : State) : Out := s.cmd i 0x03 fun _ p => p.sessionClose i

/-- SESSION_RESYNC (R258). -/
def execSessionResync (i : Nat) (s : State) : Out := s.cmd i 0x04 fun _ p => p.sessionResync i

/-- CREDIT (R245, R259): its units were returned when it was taken; it writes no reply. -/
def execCredit (i : Nat) (s : State) : Out := s.cmd i 0x05 fun _ p => p.modSes i fun t => { t with cur := none }

/-- PART_INFO (R254). -/
def execPartInfo (i : Nat) (s : State) : Out :=
  s.cmd i 0x06 fun _ p => p.finish i stOk (p.infoBody (p.ses i).feat0 (p.ses i).feat2)

/-- NOTICE_MASK (R277). -/
def execNoticeMask (i : Nat) (s : State) : Out :=
  s.cmd i 0x08 fun k p => (p.modSes i fun t => { t with noticeMask := par k 0 4 }).finish i stOk []

end Sys2Proof.Machine
end

