-- ==== Sys2Proof/Machine/Control.lean ====
section
/-! DEFINITION. Control: mailboxes, the event controller, the notice ring and policy firmware's rows (R351 to R366). -/
namespace Sys2Proof.Machine

/-- A control core's record. -/
def Part.core (p : Part) (c : Nat) : CtlCore := mget CtlCore.reset p.ctl.cores c

/-- Replace a control core's record. -/
def Part.setCore (p : Part) (c : Nat) (v : CtlCore) : Part :=
  { p with ctl := { p.ctl with cores := mset CtlCore.reset p.ctl.cores c v } }

/-- An event line's record. -/
def Part.line (p : Part) (i : Nat) : Line := mget Line.reset p.ctl.lines i

/-- Replace an event line's record. -/
def Part.setLine (p : Part) (i : Nat) (v : Line) : Part :=
  { p with ctl := { p.ctl with lines := mset Line.reset p.ctl.lines i v } }

/-! ### The notice ring (R358) -/

/-- Append an entry to the notice ring, or drop and count it when the ring holds 8,192 (R358); lines 264 and 265 (R359). -/
def Part.ringAdd (p : Part) (code slot req arg : Nat) : Part :=
  if 8192 ≤ p.ctl.ring.length then (p.bump aPolCnt 48 16 1).event 265 []
  else
    let e := leBytes 2 code ++ leBytes 2 slot ++ leBytes 4 req ++ leBytes 4 arg ++ leBytes 4 (p.now / 1000)
    { p with ctl := { p.ctl with ring := p.ctl.ring ++ [e] } }.event 264 []

/-- A core's read of POL_RING_POP returns an entry; an empty ring returns zero and leaves POL_RING_HI (R358). -/
def Part.ringGives (p : Part) (x : Nat × Bytes) : Part :=
  let k := p.core x.1
  if x.2.isEmpty then p.setCore x.1 { k with rd := 0 }
  else p.setCore x.1 { k with rd := BitVec.ofNat 64 (fld x.2 0 8), ringHi := BitVec.ofNat 64 (fld x.2 8 8) }

/-- The cores in ascending number, with a further one. -/
def coreInsert (c : Nat) : List Nat → List Nat
  | [] => [c]
  | d :: ds => if c < d then c :: d :: ds else d :: coreInsert c ds

/-- POL_RING_POP (R358): core `c` removes the oldest entry; an empty ring returns zero and removes nothing. Reads of one cycle are served in
ascending core number. -/
def Part.ringPop (p : Part) (c : Nat) : Part :=
  let before := if p.ctl.popsAt = p.clk.cycles then p.ctl.pops else []
  let pops := (coreInsert c (before.map Prod.fst)).zip (before.map Prod.snd ++ [p.ctl.ring.head?.getD []])
  let q : Part := { p with ctl := { p.ctl with ring := p.ctl.ring.drop 1, pops := pops, popsAt := p.clk.cycles } }
  pops.foldl Part.ringGives q

/-- A write of POL_RANK (R357): discarded when the slot's request has ended. -/
def Part.setRank (p : Part) (slot rank : Nat) : Part :=
  if p.slotLive slot then { p with ctl := { p.ctl with ranks := mset 0x8000 p.ctl.ranks slot (rank % 65536) } } else p

/-! ### Occurrences (R359, R360, R364) -/

/-- The line exists: not reserved and not above 511 (R359, R360). -/
def lineOk (i : Nat) : Bool := decide (i ≤ 268) || decide (272 ≤ i ∧ i ≤ 303)

/-- A core of the line's target mask; lines below 256 never target policy cores (R359, R361). -/
def lineTargets (i : Nat) (l : Line) (c : Nat) : Bool := l.target.testBit c && (decide (256 ≤ i) || decide (c < 16))

/-- Some core has claimed the line and not completed it (R362). -/
def Part.lineClaimed (p : Part) (i : Nat) : Bool := p.ctl.cores.any fun c => c.2.claimed.any fun x => x.1 == i

/-- GATE as it counts in this cycle: a write takes effect from the next one (R365). -/
def Part.gateNow (p : Part) : Bool := if p.ctl.gateAt = p.clk.cycles then p.ctl.gateWas else p.ctl.gate

/-- Line `i` can be delivered to core `c` (R361, R363, R365). -/
def Part.canTake (p : Part) (i c : Nat) : Bool :=
  let l := p.line i
  let k := p.core c
  lineTargets i l c && decide (k.prio < l.prio) && !k.delivered.contains i && !(k.claimed.any fun x => x.1 == i) &&
  !(k.fastActive && k.fastLine == i) && !(p.gateNow && decide (16 ≤ c)) && !(l.fast && k.fastActive)

/-- A core is idle: it executes WFI (bit `c` of the free value `w`, log entry 2), with nothing claimed and no fast handler
(R361). -/
def Part.idle (p : Part) (w : Word64) (c : Nat) : Bool :=
  w.getLsbD c && (p.core c).claimed.isEmpty && !(p.core c).fastActive

/-- `c` is preferred to `d`: lower CORE_PRIO, then idle, then the lower number (R361). -/
def Part.prefer (p : Part) (w : Word64) (c d : Nat) : Bool :=
  let a := (p.core c).prio
  let b := (p.core d).prio
  decide (a < b) || (a == b && ((p.idle w c && !p.idle w d) || (p.idle w c == p.idle w d && decide (c < d))))

/-- The core that R361 chooses for a line, among the first `n` cores. -/
def Part.chooseCore (p : Part) (w : Word64) (i : Nat) : Nat → Option Nat
  | 0 => none
  | n + 1 =>
    match p.chooseCore w i n with
    | none => if p.canTake i n then some n else none
    | some c => if p.canTake i n && p.prefer w n c then some n else some c

/-- Deliver line `i` to core `c` (R362, R363, R364). -/
def Part.deliverTo (p : Part) (i c : Nat) : Part :=
  let l := p.line i
  let k := p.core c
  let p := if 16 ≤ c then p.bump aEvcCnt 0 32 1 else p
  if l.fast then
    (p.setCore c { k with
      fastActive := true, fastLine := i, fastCount := l.count, bank1 := true, shadow := k.csr,
      csr := setNth k.csr 1 (BitVec.ofNat 64 (2 ^ 63 + 16)) }).setLine i { l with count := 0, armed := false }
  else
    (p.setCore c { k with delivered := k.delivered ++ [i] }).setLine i { l with
      armed := false, timer := if 0 < l.modUs then some (p.now + 1000 * l.modUs) else none }

/-- Add `n` occurrences to a line: the count saturates at 4,095 and the excess is counted in SATURATED (R365). A moderated
line whose chosen core is idle is delivered at once, the idle bypass (R364). -/
def Part.occur (p : Part) (i n : Nat) : Part :=
  if n = 0 then p
  else
    let l := p.line i
    let p := p.setLine i { l with count := min (l.count + n) 4095, armed := true }
    let p := if 4095 < l.count + n then p.bump aEvcCnt 48 8 (l.count + n - 4095) else p
    let moderated := match l.timer with
      | none => false
      | some t => decide (p.now < t)
    if !l.fast && decide (0 < l.modUs) && moderated && !p.lineClaimed i && decide (0 < l.prio) then
      let (w, p) := p.free
      match p.chooseCore w i 24 with
      | none => p
      | some c => if p.idle w c then (p.deliverTo i c).bump aEvcCnt 32 16 1 else p
    else p

/-- An occurrence while domain 1 sleeps goes to the retained copy; a line with WAKE set requests the wake (R366). -/
def Part.occurAsleep (p : Part) (i : Nat) : Part :=
  match p.evcCopy with
  | none => p
  | some e =>
    let l := mget Line.reset e.lines i
    let p := { p with evcCopy := some { e with
      lines := mset Line.reset e.lines i { l with count := min (l.count + 1) 4095, armed := true } } }
    if l.wake then p.wakeCtl else p

/-- EVENT_MESSAGE (R360): the oldest event message adds one occurrence to its line, or is discarded and counted in BAD_LINE. Those of the
ACDs (the lines of Staolmette firmware and BAND) are traced as they reach unit 0x0100 (R476). -/
def Part.eventMessage (p : Part) : Part :=
  match p.ctl.events with
  | [] => p
  | e :: es =>
    let p := { p with ctl := { p.ctl with events := es } }
    if !lineOk (fld e 0 2) then p.bump aEvcCnt 56 8 1
    else if p.domUp 1 then (if fld e 0 2 < 256 ∨ fld e 0 2 = 266 then p.traceAdd 1 0 0 e else p).occur (fld e 0 2) 1
    else p.occurAsleep (fld e 0 2)

/-! ### Delivery (R361 to R365) -/

/-- The line waits to be routed: armed, not claimed, of priority above 0, its moderation timer not running. -/
def Part.lineWaits (p : Part) (i : Nat) : Bool :=
  let l := p.line i
  l.armed && decide (0 < l.count) && decide (0 < l.prio) && !p.lineClaimed i &&
  match l.timer with
  | none => true
  | some t => l.fast || decide (t ≤ p.now)

/-- The line to deliver next: highest LINE_PRIO, then lowest number, among lines that some core can take (R361). -/
def Part.nextLine (p : Part) (w : Word64) : List (Nat × Line) → Option Nat
  | [] => none
  | (i, l) :: r =>
    match p.nextLine w r with
    | none => if p.lineWaits i && (p.chooseCore w i 24).isSome then some i else none
    | some j =>
      if p.lineWaits i && (p.chooseCore w i 24).isSome && decide ((p.line j).prio ≤ l.prio) then some i else some j

/-- EVC_DELIVER (R361). -/
def Part.evcDeliver (p : Part) : Part :=
  let (w, p) := p.free
  match p.nextLine w p.ctl.lines with
  | none => p
  | some i =>
    match p.chooseCore w i 24 with
    | none => p
    | some c => p.deliverTo i c

/-- The line that a claim of core `c` returns: the highest priority among those delivered to it and not claimed elsewhere. -/
def Part.claimLine (p : Part) : List Nat → Option Nat
  | [] => none
  | i :: is =>
    match p.claimLine is with
    | none => if p.lineClaimed i then none else some i
    | some j =>
      if p.lineClaimed i then some j
      else if (p.line j).prio < (p.line i).prio ∨ ((p.line j).prio = (p.line i).prio ∧ i < j) then some i else some j

/-- EVC_CLAIM (R362): the read returns the line and its occurrences and clears its count; no line reads 0x3FF. -/
def Part.evcClaim (p : Part) (c : Nat) : Part :=
  let k := p.core c
  match p.claimLine k.delivered with
  | none => p.setCore c { k with rd := 0x3FF }
  | some i =>
    let l := p.line i
    (p.setCore c { k with
      delivered := k.delivered.filter (· != i), claimed := k.claimed ++ [(i, l.count)],
      rd := BitVec.ofNat 64 (i + l.count * 65536) }).setLine i { l with count := 0, armed := false }

/-- EVC_COMPLETE (R362): completes a line that the core has claimed; any other is discarded. -/
def Part.evcComplete (p : Part) (c i : Nat) : Part :=
  let k := p.core c
  p.setCore c { k with claimed := k.claimed.filter fun x => x.1 != i }

/-- FAST_SRET (R363): an sret from the fast trap restores the shadow set and the first bank and completes the line. -/
def Part.fastSret (p : Part) (c : Nat) : Part :=
  let k := p.core c
  if k.fastActive then p.setCore c { k with fastActive := false, bank1 := false, csr := k.shadow } else p

/-- MOD_TIMER_EXPIRE (R364): the moderation timer of a line expires, and the line may be routed once. -/
def Part.modExpire (p : Part) (i : Nat) : Part :=
  let l := p.line i
  match l.timer with
  | none => p
  | some t => if t ≤ p.now then p.setLine i { l with timer := none } else p

/-- EVC_GATE (R365): a core sets or clears GATE; host writes are discarded. -/
def Part.setGate (p : Part) (by_ : Accessor) (v : Bool) : Part :=
  match by_ with
  | .host => p
  | .core _ => { p with ctl := { p.ctl with gate := v, gateWas := p.gateNow, gateAt := p.clk.cycles } }

/-- EVC_SOFT_SET (R359): bit k adds one occurrence to line 272 + k. -/
def Part.softSet (p : Part) (mask : Nat) : Part :=
  (List.range 32).foldl (fun q k => if mask.testBit k then q.occur (272 + k) 1 else q) p

/-! ### Mailboxes (R353, R354) -/

/-- A message arrives in a mailbox: an occurrence of a policy core's mailbox line (R354). -/
def Part.mailIn (p : Part) (dest : Nat) (m : MboxMsg) : Part :=
  let d := p.core dest
  let p := p.setCore dest { d with mbox := d.mbox ++ [m] }
  if 16 ≤ dest then p.event (240 + dest) [] else p

/-- MBOX_SEND (R353): the staged message of core `c` goes to core `dest`, or is refused: an own or absent destination, or a full mailbox. -/
def Part.mboxSend (p : Part) (c dest : Nat) : Part :=
  let k := p.core c
  let m : MboxMsg := { src := c, words := k.staged }
  if 23 < dest ∨ dest = c then p.setCore c { k with last := 2 }
  else if 64 ≤ (p.core dest).mbox.length then
    let d := p.core dest
    let old := if d.refusedAt = p.clk.cycles then d.refused else []
    (p.setCore c { k with last := 1 }).setCore dest { d with refused := old ++ [m], refusedAt := p.clk.cycles }
  else (p.setCore c { k with last := 0 }).mailIn dest m

/-- MBOX_POP (R354): the core removes its oldest message. A pop applies before a send of the same cycle, so that the first send which this cycle
found the mailbox full is delivered: that message is returned with the part. -/
def Part.mboxPop (p : Part) (c : Nat) : Part × Option MboxMsg :=
  let k := p.core c
  let q := p.setCore c { k with mbox := k.mbox.drop 1 }
  if k.refusedAt ≠ p.clk.cycles then (q, none)
  else match k.refused with
  | [] => (q, none)
  | m :: rest =>
    let q := q.setCore c { q.core c with refused := rest }
    ((q.setCore m.src { q.core m.src with last := 0 }).mailIn c m, some m)

/-! ### Policy faults (R352) -/

/-- Stop or start every policy core. -/
def Part.policyCores (p : Part) (stop : Bool) : Part :=
  (List.range 8).foldl (fun q k => q.setCore (16 + k) { q.core (16 + k) with stopped := stop }) p

/-- A policy fault (R352): every policy core stops, FAULT is recorded and a POLICY_FAULT notice sent; CTL runs on as if no policy
firmware were loaded. -/
def Part.policyFault (p : Part) (c cause : Nat) : Part :=
  if p.ctl.loaded && !(p.core c).stopped then
    (({ p with ctl := { p.ctl with loaded := false, fault := true, faultCore := c, faultCause := cause % 256 } }.policyCores
      true).notice 0x300 [])
  else p

/-! ### The commands -/

/-- POL_RING_POP (R358). -/
def execPolRingPop (c : Nat) (s : State) : Out := s.live 1 (decide (c < 24)) fun p => p.ringPop c

/-- POL_RANK (R357). -/
def execPolRank (slot rank : Nat) (s : State) : Out := s.live 1 (decide (slot < 16384)) fun p => p.setRank slot rank

/-- EVENT_MESSAGE (R360): also while domain 1 sleeps (R366). -/
def execEventMessage (s : State) : Out := s.live 0 true Part.eventMessage

/-- EVC_DELIVER (R361). -/
def execEvcDeliver (s : State) : Out := s.live 1 true Part.evcDeliver

/-- EVC_CLAIM (R362). -/
def execEvcClaim (c : Nat) (s : State) : Out := s.live 1 (decide (c < 24)) fun p => p.evcClaim c

/-- EVC_COMPLETE (R362). -/
def execEvcComplete (c i : Nat) (s : State) : Out := s.live 1 (decide (c < 24)) fun p => p.evcComplete c i

/-- FAST_SRET (R363). -/
def execFastSret (c : Nat) (s : State) : Out := s.live 1 (decide (c < 24)) fun p => p.fastSret c

/-- MOD_TIMER_EXPIRE (R364). -/
def execModTimerExpire (i : Nat) (s : State) : Out := s.live 1 (decide (i < 512)) fun p => p.modExpire i

/-- EVC_GATE (R365). -/
def execEvcGate (by_ : Accessor) (v : Bool) (s : State) : Out := s.live 1 true fun p => p.setGate by_ v

/-- EVC_SOFT_SET (R359). -/
def execEvcSoftSet (mask : Nat) (s : State) : Out := s.live 1 true fun p => p.softSet mask

/-- POLICY_FAULT (R352). -/
def execPolicyFault (c cause : Nat) (s : State) : Out :=
  s.live 1 (decide (16 ≤ c ∧ c < 24)) fun p => p.policyFault c cause

end Sys2Proof.Machine
end

