-- ==== Sys2Proof/Machine/Security.lean ====
section
/-! DEFINITION. Security: log rows, image and certificate checks, the key chain, model keys, policy images, attestation and debug
authorisation (R438 to R463). -/
namespace Sys2Proof.Machine

/-! ### Digests and keys (R450, R451) -/

/-- SHA-512 as 64 bytes, in the standard's order. -/
def sha (b : Bytes) : Bytes := beBytes 64 (Config.sha512 b).toNat

/-- The order of the P-521 group (FIPS 186-5), from which R451 derives secret keys. -/
def p521Order : Nat :=
  0x01FFFFFFFFFFFFFFFFFFFFFFFFFFFFFFFFFFFFFFFFFFFFFFFFFFFFFFFFFFFFFFFFFFFA51868783BF2F966B7FCC0148F709A5D03BB5C9B8899C47AEBB6FB71E91386409

/-- A P-521 secret key from key material (R451): 80 bytes c, d = (c mod (n - 1)) + 1. -/
def deriveP521 (key salt : Bytes) (info : String) : BitVec 528 :=
  BitVec.ofNat 528 ((Config.hkdf key salt (ascii info)).toNat % (p521Order - 1) + 1)

/-- An AES-256 key from key material (R451): the first 32 bytes of output. -/
def deriveAes (key salt : Bytes) (info : String) : BitVec 256 :=
  BitVec.ofNat 256 ((Config.hkdf key salt (ascii info)).toNat >>> 384)

/-- CDI_1 from the UDS and M1 (R450): the first 64 bytes of output. -/
def deriveCdi (uds : BitVec 256) (m1 : BitVec 512) : BitVec 512 :=
  BitVec.ofNat 512 ((Config.hkdf (beBytes 32 uds.toNat) (beBytes 64 m1.toNat) (ascii "HNL cdi1 v1")).toNat >>> 128)

/-- The public key of a secret key in the SIGNER_KEY form (R444). -/
def publicKey (d : BitVec 528) : Bytes := beBytes 133 (Config.p521Public d).toNat

/-- An ECDSA signature, r then s, 66 bytes each (R444). -/
def signBytes (d : BitVec 528) (m : Bytes) : Bytes := beBytes 132 (Config.ecdsaSign d m).toNat

/-- The Alias secret key (R450). -/
def Part.aliasPrivate (p : Part) : BitVec 528 := deriveP521 (beBytes 64 p.sec.cdi1.toNat) [] "HNL alias v1"

/-- The Install secret key (R450). -/
def Part.installKey (p : Part) : BitVec 528 := deriveP521 (beBytes 64 p.sec.cdi1.toNat) [] "HNL install v1"

/-- The tier key (R450). -/
def Part.tierKey (p : Part) : BitVec 256 := deriveAes (beBytes 64 p.sec.cdi1.toNat) p.sec.bootNonce "HNL tier v1"

/-- `n` free bytes drawn from the entropy source (R451, R462), eight at a time. -/
def Part.entropy (p : Part) : Nat → Bytes × Part
  | 0 => ([], p)
  | n + 1 =>
    let (v, p) := p.free
    let (b, p) := p.entropy n
    (wordBytes v ++ b, p)

/-! ### Log rows (R440 to R442) -/

/-- An anti-rollback counter: 0 FW_SVN, 1 POLICY_SVN, 2 CONFIG_SVN, 3 KEY_REVOKE (R440). -/
def Part.counter (p : Part) (i : Nat) : Nat := nth 0 p.log.counters i

/-- Raise a counter: it never falls (R441), and KEY_REVOKE is limited to 3, the others to 512. -/
def Part.raiseCounter (p : Part) (i v : Nat) : Part :=
  let w := max (p.counter i) (min v (if i = 3 then 3 else 512))
  { p with log := { p.log with counters := setNth p.log.counters i w } }

/-- BOOT_COUNT of a boot record. -/
def recCount (b : Bytes) : Nat := fld b 0 4

/-- A boot record is valid: BOOT_COUNT not 0 and its CRC matches (R442). -/
def recValid (b : Bytes) : Bool :=
  recCount b != 0 && beNat (slice b 12 2) == crc16 (slice b 0 5 ++ slice b 6 6)

/-- The valid boot records, as (row, record). -/
def Part.validBoots (p : Part) : List (Nat × Bytes) := p.log.boots.filter fun r => recValid r.2

/-- The record with the highest BOOT_COUNT of a list. -/
def latestRec : List (Nat × Bytes) → Option (Nat × Bytes)
  | [] => none
  | r :: rs =>
    match latestRec rs with
    | none => some r
    | some t => if recCount t.2 < recCount r.2 then some r else some t

/-- The boot counter of the log rows: BOOT_COUNT of the latest record, 0 without one (R433, R442). -/
def Part.bootCounter (p : Part) : Nat :=
  match latestRec p.validBoots with
  | none => 0
  | some r => recCount r.2

/-- fails(s) of R445: records from the latest backwards that booted `s` without SERVICE, stopping at the first that reached
SERVICE or booted the other slot; `n` bounds the scan. -/
def failsOf (slot : Nat) : Nat → List (Nat × Bytes) → Nat
  | 0, _ => 0
  | n + 1, l =>
    match latestRec l with
    | none => 0
    | some (row, b) =>
      if fld b 4 1 = slot ∧ !(fld b 5 1).testBit 0 then 1 + failsOf slot n (l.filter fun r => r.1 != row) else 0

/-- The boot record of R442. -/
def bootRecord (count slot flags svn : Nat) : Bytes :=
  let a := leBytes 4 count ++ leBytes 1 slot
  let c := leBytes 4 svn
  a ++ leBytes 1 flags ++ [0, 0] ++ c ++ beBytes 2 (crc16 (a ++ [0, 0] ++ c)) ++ [0, 0]

/-- The lowest-numbered empty row of the ring, or the row of the oldest record (R442). -/
def Part.bootRowFor (p : Part) : Nat :=
  match (List.range 64).find? fun r => !recValid (mget [] p.log.boots r) with
  | some r => r
  | none =>
    (List.range 64).foldl (fun best r =>
      if recCount (mget [] p.log.boots r) < recCount (mget [] p.log.boots best) then r else best) 0

/-- Write the boot record of this bring-up (R442). -/
def Part.writeBootRecord (p : Part) : Part :=
  let count := p.bootCounter + 1
  let row := p.bootRowFor
  { p with
    log := { p.log with boots := mset [] p.log.boots row (bootRecord count p.sec.slot 0 p.sec.svn) },
    boot := { p.boot with bootRow := row }, sec := { p.sec with bootCount := count } }

/-- Set a BFLAGS bit of the current boot record by programming alone (R442). -/
def Part.markBoot (p : Part) (b : Nat) : Part :=
  let r := mget [] p.log.boots p.boot.bootRow
  let v := if r = [] then r else setNth r 5 (BitVec.ofNat 8 (fld r 5 1 ||| 2 ^ b))
  { p with log := { p.log with boots := mset [] p.log.boots p.boot.bootRow v } }

/-! ### Boot flash (R443 to R446) -/

/-- The start of a boot slot (R443). -/
def slotBase (s : Nat) : Nat := if s = 0 then 0 else 0x01800000

/-- The header of a boot slot. -/
def Part.slotHeader (p : Part) (s : Nat) : Bytes := memReadN p.flash (slotBase s) 4096

/-- The body of a boot slot. -/
def Part.slotBody (p : Part) (s : Nat) : Bytes := memReadN p.flash (slotBase s + 4096) (fld (p.slotHeader s) 20 4)

/-- A key's digest equals a root digest of index i with `lo <= i <= 3` (R445). -/
def rootOk (key : Bytes) (lo : Nat) : Bool := (List.range 4).any fun i => decide (lo ≤ i) && Config.rootDigest i == Config.sha512 key

/-- A signed header obeys R444: `magic`, `policy` or boot limits, reserved bytes. -/
def headerOk (policy : Bool) (h : Bytes) : Bool :=
  slice h 0 8 == ascii (if policy then "HNLPOLF1" else "HNLBOOT1") && fld h 8 2 == 1 &&
  (if policy then fld h 10 1 == 0 else decide (fld h 10 1 ≤ 3)) && zeros h 11 1 && decide (fld h 12 4 ≤ 512) &&
  fld h 20 4 % 4096 == 0 && decide (4096 ≤ fld h 20 4 ∧ fld h 20 4 ≤ (if policy then 393216 else 25161728)) &&
  zeros h 221 3 && zeros h 356 3740

/-- A boot slot is valid (R445). -/
def Part.slotValid (p : Part) (s : Nat) : Bool :=
  let h := p.slotHeader s
  headerOk false h && decide (p.counter 0 ≤ fld h 12 4) &&
  rootOk (slice h 88 133) (max (p.counter 3) (fld h 10 1)) &&
  Config.ecdsaVerify (slice h 88 133) (slice h 0 224) (slice h 224 132) &&
  sha (p.slotBody s) == slice h 24 64

/-- The slot that the boot ROM chooses (R445), or none. -/
def Part.chooseSlot (p : Part) : Option Nat :=
  let v0 := p.slotValid 0
  let v1 := p.slotValid 1
  if !v0 && !v1 then none
  else
    let pick := if v0 && v1 then (if fld (p.slotHeader 0) 12 4 < fld (p.slotHeader 1) 12 4 then 1 else 0)
      else if v0 then 0 else 1
    let other := 1 - pick
    if 3 ≤ failsOf pick 64 p.validBoots ∧ (if other = 0 then v0 else v1) then some other else some pick

/-- The configuration certificate in the flash (R443). -/
def Part.flashCert (p : Part) : Bytes := memReadN p.flash 0x03000000 1024

/-- The DeviceID record in the flash (R443). -/
def Part.flashDevRecord (p : Part) : Bytes := memReadN p.flash 0x03001000 512

/-- The certificate is accepted (R447, R448). -/
def Part.certOk (p : Part) (c : Bytes) : Bool :=
  slice c 0 8 == ascii "HNLCONF1" && fld c 8 2 == 1 && zeros c 10 2 && decide (fld c 12 4 ≤ 512) &&
  decide (fld c 88 1 ≤ 1) && zeros c 89 1 && decide (1 ≤ fld c 90 2 ∧ fld c 90 2 ≤ 16384) &&
  decide (1 ≤ fld c 292 2 ∧ fld c 292 2 ≤ 223) && zeros c (294 + fld c 292 2) (223 - fld c 292 2) && zeros c 517 7 && zeros c 657 7 && zeros c 796 228 &&
  decide (p.counter 2 ≤ fld c 12 4) && rootOk (slice c 524 133) (p.counter 3) &&
  Config.ecdsaVerify (slice c 524 133) (slice c 0 664) (slice c 664 132) &&
  slice c 24 64 == sha (publicKey p.sec.deviceKey) && fld c 16 8 == p.log.serial &&
  slice p.flashDevRecord 16 133 == publicKey p.sec.deviceKey

/-- PUF_READ (R438, R439): the identity macro is read and corrected, the UDS recovered, the DeviceID key derived. A failed
correction leaves PUF_OK 0. -/
def Part.readPuf (p : Part) : Part :=
  match Config.bchCorrect p.log.puf p.log.helper with
  | none => { p with sec := { p.sec with pufOk := false, uds := none, deviceKey := 0, serial := p.log.serial, stepping := p.log.stepping } }
  | some b =>
    let uds := BitVec.ofNat 256 ((Config.sha512 b).toNat >>> 256)
    { p with sec := { p.sec with
        pufOk := true, uds := some uds, udsLocked := false, serial := p.log.serial, stepping := p.log.stepping,
        deviceKey := deriveP521 (beBytes 32 uds.toNat) [] "HNL devid v1" } }

/-- SLOT_SELECT (R445, R446): the boot ROM chooses a slot; M1 and CDI_1 are derived and the UDS locked. None: no valid slot. -/
def Part.bootFirmware (p : Part) : Option Part :=
  match p.chooseSlot with
  | none => none
  | some s =>
    let h := p.slotHeader s
    let m1 := Config.sha512 (h ++ p.slotBody s)
    let cdi := match p.sec.uds with
      | none => 0
      | some u => deriveCdi u m1
    some { p with sec := { p.sec with
      slot := s, fwVersion := fld h 16 4, svn := fld h 12 4, revoke := fld h 10 1, slotFails := min 15 (failsOf s 64 p.validBoots),
      m1 := m1, cdi1 := cdi, udsLocked := true } }

/-- The certificate governs from its acceptance (R448, R449); a certificate that fails leaves CONFIG_OK 0. -/
def Part.takeCert (p : Part) : Part :=
  let c := p.flashCert
  if p.sec.pufOk && p.certOk c then
    { p with sec := { p.sec with configOk := true, cert := c, order := fld c 88 1, devRecord := p.flashDevRecord } }
  else { p with sec := { p.sec with configOk := false } }

/-- COUNTER_RAISE (R446): at stage SERVICE the boot record is marked and the counters rise. -/
def Part.raiseCounters (p : Part) : Part :=
  (((p.markBoot 0).raiseCounter 0 p.sec.svn).raiseCounter 2 (fld p.sec.cert 12 4)).raiseCounter 3 p.sec.revoke

/-! ### Model keys (R453 to R455) -/

/-- Count an UNAUTHORISED answer in AUTH_FAIL (R463) and give it. -/
def Part.unauthorised (p : Part) (i : Nat) : Part := (p.bump aSecStatus 32 16 1).finish i stUnauthorised []

/-- The model key that a KEY_INSTALL carries (R454), or none when the curve or tag check fails. -/
def Part.unwrapKey (p : Part) (k : Bytes) : Option (BitVec 256) :=
  match Config.ecdhX p.installKey (slice k 32 133) with
  | none => none
  | some z =>
    let wk := deriveAes (beBytes 66 z.toNat) (leBytes 8 p.sec.serial ++ slice k 16 4) "HNL install v1"
    (Config.gcmOpen wk (slice k 168 12) (slice k 16 4 ++ slice k 32 133) (slice k 180 32) (slice k 224 16)).map fun b =>
      BitVec.ofNat 256 (beNat b)

/-- KEY_INSTALL (R454). -/
def Part.keyInstall (p : Part) (i : Nat) (k : Bytes) : Part :=
  match p.unwrapKey k with
  | none => p.unauthorised i
  | some key =>
    match mfind p.sec.keys (par k 0 4) with
    | some old => if old = key then p.finish i stAlreadyDone [] else p.finish i stBadParam []
    | none =>
      if 4096 ≤ p.sec.keys.length then p.finish i stNoSpace []
      else { p with sec := { p.sec with keys := minsert p.sec.keys (par k 0 4) key } }.finish i stOk []

/-- KEY_REMOVE (R455). -/
def Part.keyRemove (p : Part) (i : Nat) (k : Bytes) : Part :=
  match mfind p.sec.keys (par k 0 4) with
  | none => p.finish i stAlreadyDone []
  | some _ => { p with sec := { p.sec with keys := merase p.sec.keys (par k 0 4) } }.finish i stOk []

/-! ### Policy firmware (R456, R457) -/

/-- A policy image is valid (R456). -/
def Part.policyValid (p : Part) (img : Bytes) : Bool :=
  let h := img.take 4096
  let d := sha (slice h 88 133)
  headerOk true h && ((!zeros p.sec.cert 100 64 && d == slice p.sec.cert 100 64) ||
    (!zeros p.sec.cert 164 64 && d == slice p.sec.cert 164 64)) &&
  decide (p.counter 1 ≤ fld h 12 4) && Config.ecdsaVerify (slice h 88 133) (slice h 0 224) (slice h 224 132) &&
  sha (img.drop 4096) == slice h 24 64

/-- POLICY_START (R457): every policy core stops, its SRAM is cleared and takes the body, and all eight start. -/
def Part.policyStart (p : Part) (img : Bytes) : Part :=
  let p := (List.range 8).foldl (fun q k =>
    q.setCore (16 + k) { CtlCore.reset with sram := img.drop 4096, mbox := (q.core (16 + k)).mbox }) p
  { p with ctl := { p.ctl with loaded := true, fault := false, image := img } }

/-- POLICY_LOAD (R456): BUSY while another load runs; otherwise the part reads the image from host memory. -/
def Part.policyLoad (p : Part) (i : Nat) (k : Bytes) : Part :=
  match p.ctl.load with
  | some _ => p.finish i stBusy []
  | none =>
    if par k 8 4 < 8192 ∨ 397312 < par k 8 4 then p.finish i stLenRange []
    else
      { p with
        ctl := { p.ctl with load := some {
          sess := i, tag := pkTag k, seq := (p.ses i).serial, addr := par k 0 8, len := par k 8 4, commit := (par k 12 1).testBit 0 } },
        host := { p.host with reads := p.host.reads ++ [{ kind := 4, sess := i, key := 0, addr := par k 0 8, len := par k 8 4 }] } }

/-- The image of a POLICY_LOAD has been read (R456, R457): LEN_RANGE or UNAUTHORISED leave any running firmware unchanged; a
valid image is the start point, the cores restart with it, POLICY_SVN rises with COMMIT, and the command completes. -/
def Part.policyImage (p : Part) (img : Bytes) : Part :=
  match p.ctl.load with
  | none => p
  | some l =>
    let p := { p with ctl := { p.ctl with load := none } }
    if l.len ≠ 4096 + fld img 20 4 then p.finish l.sess stLenRange []
    else if !p.policyValid img then p.finish l.sess stUnauthorised []
    else
      let p := p.startA l.sess 0
      let p := p.policyStart img
      let p := if l.commit then p.raiseCounter 1 (fld img 12 4) else p
      p.completeA l.sess l.seq stOk []

/-! ### Attestation (R458 to R461) -/

/-- An identity record signed by its issuer (R458). -/
def Part.idRecord (p : Part) (kind : Nat) (subject meas : Bytes) (svn count : Nat) (issuer : BitVec 528) : Bytes :=
  let b := leBytes 1 kind ++ [1] ++ zpad 6 ++ leBytes 8 p.sec.serial ++ padTo 133 subject ++ zpad 3 ++ padTo 64 meas ++
    leBytes 4 svn ++ leBytes 4 count
  b ++ signBytes issuer b ++ zpad 156

/-- The Alias record (R458). -/
def Part.aliasRecord (p : Part) : Bytes :=
  p.idRecord 2 (publicKey p.aliasPrivate) (beBytes 64 p.sec.m1.toNat) p.sec.svn p.sec.bootCount p.sec.deviceKey

/-- The Install record (R458). -/
def Part.installRecord (p : Part) : Bytes :=
  p.idRecord 3 (publicKey p.installKey) [] 0 p.sec.bootCount p.aliasPrivate

/-- CERT_READ (R459). -/
def Part.certRead (p : Part) (i : Nat) (k : Bytes) : Part :=
  p.finish i stOk (if par k 0 1 = 1 then p.sec.devRecord else if par k 0 1 = 2 then p.aliasRecord
    else if par k 0 1 = 3 then p.installRecord else p.sec.cert)

/-- The attestation report up to its signature (R460). -/
def Part.report (p : Part) (nonce : Bytes) : Bytes :=
  nonce ++ leBytes 8 p.sec.serial ++ leBytes 2 p.fabCfg.partId ++ leBytes 1 p.sec.stepping ++ leBytes 1 p.sec.order ++
  leBytes 4 p.sec.bootCount ++ beBytes 64 p.sec.m1.toNat ++ sha p.sec.cert ++
  (if p.ctl.loaded then sha p.ctl.image else zpad 64) ++
  leBytes 4 (p.counter 0) ++ leBytes 4 (p.counter 1) ++ leBytes 4 (p.counter 2) ++
  leBytes 1 (p.counter 3 + 4 * bit p.sec.debugSeen + 8 * bit p.sec.pufOk) ++ zpad 3 ++ leBytes 8 p.now ++
  leBytes 2 p.sec.keys.length ++ zpad 6

/-- ATTEST (R460, R461): a report signed by the Alias key. -/
def Part.attest (p : Part) (i : Nat) (k : Bytes) : Part :=
  let r := p.report (slice k 16 64)
  p.finish i stOk (r ++ signBytes p.aliasPrivate r ++ zpad 12)

/-! ### Debug authorisation (R462, R463) -/

/-- DEBUG_AUTH phase 0 (R462): a new challenge replaces any held one. -/
def Part.debugPhase0 (p : Part) (i : Nat) : Part :=
  let (b, p) := p.entropy 8
  { p with sec := { p.sec with challenge := some { bytes := b, replied := none } } }.finish i stOk b

/-- The held challenge has not expired: it has no reply yet, or less than 60 s have passed since it (R462). -/
def Challenge.fresh (c : Challenge) (now : Nat) : Bool :=
  match c.replied with
  | none => true
  | some t => decide (now < t + 60000000000)

/-- DEBUG_AUTH phase 1 (R462, R463): verifies the signed response, consuming the challenge either way; what it grants counts from its
reply (`Part.debugGrant`). -/
def Part.debugPhase1 (p : Part) (i : Nat) (k : Bytes) : Part :=
  let good := match p.sec.challenge with
    | none => false
    | some c =>
      !zeros p.sec.cert 228 64 && sha (slice k 32 133) == slice p.sec.cert 228 64 && c.fresh p.now &&
      Config.ecdsaVerify (slice k 32 133) (c.bytes ++ leBytes 8 p.sec.serial ++ slice k 20 4) (slice k 168 132)
  let p := { p with sec := { p.sec with challenge := none } }
  if good then
    p.finish i stOk (padTo 16 (leBytes 4 (par k 4 4 &&& fld p.sec.cert 96 4)))
  else p.unauthorised i

/-- DEBUG_CHALLENGE_EXPIRE (R462): 60 s after its reply the held challenge is gone. -/
def Part.challengeExpire (p : Part) : Part :=
  match p.sec.challenge with
  | none => p
  | some c =>
    match c.replied with
    | none => p
    | some t => if t + 60000000000 ≤ p.now then { p with sec := { p.sec with challenge := none } } else p

/-! ### The commands -/

/-- ATTEST (R460). -/
def execAttest (i : Nat) (s : State) : Out := s.cmd i 0x0B fun k p => p.attest i k

/-- CERT_READ (R459). -/
def execCertRead (i : Nat) (s : State) : Out := s.cmd i 0x0D fun k p => p.certRead i k

/-- KEY_INSTALL (R454). -/
def execKeyInstall (i : Nat) (s : State) : Out := s.cmd i 0x24 fun k p => p.keyInstall i k

/-- KEY_REMOVE (R455). -/
def execKeyRemove (i : Nat) (s : State) : Out := s.cmd i 0x25 fun k p => p.keyRemove i k

/-- POLICY_LOAD (R456). -/
def execPolicyLoad (i : Nat) (s : State) : Out := s.cmd i 0x0C fun k p => p.policyLoad i k

/-- DEBUG_AUTH phase 0 (R462). -/
def execDebugAuthPhase0 (i : Nat) (s : State) : Out :=
  s.cmd i 0xF3 fun k p => if par k 0 1 = 0 then p.debugPhase0 i else p

/-- DEBUG_AUTH phase 1 (R462, R463). -/
def execDebugAuthPhase1 (i : Nat) (s : State) : Out :=
  s.cmd i 0xF3 fun k p => if par k 0 1 = 1 then p.debugPhase1 i k else p

/-- DEBUG_CHALLENGE_EXPIRE (R462). -/
def execDebugChallengeExpire (s : State) : Out := s.live 1 true Part.challengeExpire

end Sys2Proof.Machine
end

