-- ==== Sys2Proof/Machine/Reset.lean ====
section
/-! DEFINITION. Reset: what the reset or switching off of a power domain loses (R10, R66, R332, R374, R375), and the resets of all
domains except AON. -/
namespace Sys2Proof.Machine

/-- The dies of a domain (R13). -/
def domainDies (d : Nat) : List Nat :=
  if d = 1 then [0] else if d = 2 then [1] else if d = 19 then [2, 3] else if 15 ≤ d then [d - 11]
  else if 11 ≤ d then [d - 3] else if 3 ≤ d then [d + 9] else []

/-- The registers of a die return to their reset values (R10). -/
def Part.resetRegs (p : Part) (die : Nat) : Part :=
  { p with regs := { p.regs with
      words := p.regs.words.filter fun r => r.1 / windowBytes != die,
      hits := p.regs.hits.filter fun r => r.1 / windowBytes != die } }

/-- The modules, messages, inboxes and SEQ counters of a die are lost (R16, R20), and with them the unacknowledged messages of other dies
for it (log entry 147); what others had sent over its modules for further dies takes another path (R17). -/
def Part.resetD2d (p : Part) (die : Nat) : Part :=
  let mine (k : Nat) : Bool := k / 8 / 32 == die || k / 8 % 32 == die
  let crosses (h : HeldMsg) : Bool := (farEnd h.holder h.port).any fun e => e.1 == die
  let kept := p.d2d.held.filter fun h => h.holder != die && h.m.src != die && h.m.dst != die
  let p := (List.range (portTable die).length).foldl (fun q i => q.bothEnds die i fun _ => Port.reset) p
  let p : Part := { p with d2d := { p.d2d with
      txSeq := p.d2d.txSeq.filter fun x => !mine x.1,
      rxSeq := p.d2d.rxSeq.filter fun x => !mine x.1,
      held := kept.filter fun h => !crosses h,
      early := (merase p.d2d.early die).foldl (fun l x => mset [] l x.1 (x.2.filter fun a => a.m.src != die)) [],
      inbox := p.d2d.inbox.filter fun x => x.1 / 65536 != die } }
  p.reroute (kept.filter crosses)

/-- A die's state at its reset, whatever its kind. -/
def Part.resetDie (p : Part) (die : Nat) : Part :=
  let p := (p.resetRegs die).resetD2d die
  let up := if p.boot.dieUp.testBit die then p.boot.dieUp - 2 ^ die else p.boot.dieUp
  { p with
    therm := { p.therm with sensors := p.therm.sensors.filter fun x => x.1 / 64 != die },
    boot := { p.boot with dieUp := up },
    clk := { p.clk with lock := if p.clk.lock.testBit die then p.clk.lock - 2 ^ die else p.clk.lock } }

/-- The reset of CTL_MAIN loses keys and secrets; what the IOD identity registers hold belongs to domain 2 and stays (R10). -/
def Sec.resetCtl (s : Sec) : Sec :=
  { Sec.reset with
    serial := s.serial, stepping := s.stepping, order := s.order, pufOk := s.pufOk, configOk := s.configOk, slot := s.slot,
    fwVersion := s.fwVersion, slotFails := s.slotFails, bootCount := s.bootCount }

/-- The reset of IOD: the link, the reads of host memory, and the IOD registers of identity, supplies and temperatures (R10). The
throttle step is the AON island's (R429). -/
def Part.resetIod (p : Part) : Part :=
  { p with
    host := { p.host with linkUp := false, bme := false, table := [], reads := [] },
    sec := { p.sec with
      serial := 0, stepping := 0, order := 0, pufOk := false, configOk := false, slot := 0, fwVersion := 0, slotFails := 0,
      bootCount := 0 },
    pwr := { p.pwr with vinMv := 0, iinCa := 0, pW := 0, meanW := 0 },
    therm := { p.therm with pairs := [], throt := 0, srcKind := 0, srcUnit := 0 } }

/-- The reset of CTL_MAIN: sessions CLOSED, commands, control cores, keys and the trace buffer lost (R241, R332, R452). What was written to
host memory stands. -/
def Part.resetCtl (p : Part) : Part :=
  let sess := p.sess.foldl (fun m x => mset Session.reset m x.1 { Session.reset with out := x.2.out }) p.sess
  { p with
    sess := sess, ctl := Ctl.reset, sec := p.sec.resetCtl, trace := Trace.reset, fabCfg := FabCfg.reset,
    fab := Fab.reset, models := Models.reset, serv := Serv.reset, jrn := Jrn.reset, kv := { p.kv with slabs := [] },
    d2d := { p.d2d with outstanding := [], ctlReplies := [] },
    host := { p.host with reads := [], msixPend := [] } }

/-- The state that belongs to one kind of domain is lost. -/
def Part.resetKind (p : Part) (d : Nat) : Part :=
  if d = 1 then p.resetCtl
  else if d = 2 then p.resetIod
  else if 3 ≤ d ∧ d ≤ 10 then p.resetAcd (d - 3)
  else if 11 ≤ d ∧ d ≤ 14 then p.resetCxd (d - 11)
  else if 15 ≤ d ∧ d ≤ 18 then p.resetLkd (d - 15)
  else if d = 19 then p.resetWsd
  else p

/-- A domain's dies and units at reset, or as it is switched off. -/
def Part.resetDomain (p : Part) (d : Nat) : Part :=
  ((domainDies d).foldl (fun q die => q.resetDie die) p).resetKind d

/-- Domains 1 to 19 return to SLEEP with their state lost, the governor's queue empty and the limits at their defaults
(R374, R400, R414). -/
def Part.allOff (p : Part) : Part :=
  let p := (List.range 19).foldl (fun q k => q.resetDomain (k + 1)) { p with d2d := D2d.reset }
  { p with pwr := { p.pwr with dom := [], queue := [], plim := 1800, peak := 2100, maint := false, nextMaint := none } }

/-- A reset of all domains except AON (R374, R375): part fault ends, bring-up returns to stage POWER, and the cause and the retained
event state stay in the AON island. The flash's pins are driven until stage FIRMWARE (R383). -/
def Part.resetAll (p : Part) (cause : Nat) : Part :=
  let p := p.allOff
  { p with
    failedDie := none, image := none,
    frz := { p.frz with active := false, frozenLow := false, arrayOp := none },
    pins := { p.pins with frozenN := true, xspi := true },
    boot := { Boot.reset with cause := cause, held := p.boot.held, perstHeld := p.boot.perstHeld, haltedBy := p.boot.haltedBy } }

/-- Bring-up starts: the AON island requests domains 2 and 1 together (R382). -/
def Part.startBringup (p : Part) : Part :=
  if p.boot.held || p.boot.perstHeld then p else (p.requestWake 2).requestWake 1

end Sys2Proof.Machine
end

