-- ==== Sys2Proof/Machine/Power.lean ====
section
/-! DEFINITION. Power: the wake governor's ramps, faults, the input power limits and the power commands (R400, R407 to R414). -/
namespace Sys2Proof.Machine

/-- The nominal di/dt of a domain's ramp in A/ms (R410). -/
def domDidt (d : Nat) : Nat :=
  if d = 1 then 100 else if d = 2 then 60 else if d ≤ 10 then 180 else if d ≤ 14 then 240 else 120

/-- The ramp time of a domain in ns (R410). -/
def domRampNs (d : Nat) : Nat := if 11 ≤ d ∧ d ≤ 14 then 40000 else 20000

/-- The domains that are ramping. -/
def Part.ramping (p : Part) : List Nat := (List.range 20).filter fun d => p.domSt d == .ramping

/-- The summed di/dt of the running ramps (R410). -/
def Part.rampDidt (p : Part) : Nat := sumNat (p.ramping.map domDidt)

/-- RAMP_START (R410): the governor starts the head of its queue within three ramps and 400 A/ms. -/
def Part.rampStart (p : Part) : Part :=
  match p.pwr.queue with
  | [] => p
  | d :: rest =>
    if p.ramping.length < 3 ∧ p.rampDidt + domDidt d ≤ 400 then
      let r := p.dom d
      let p := { p with pwr := { p.pwr with queue := rest } }
      { p with pins := { p.pins with xspi := p.pins.xspi || d == 1 } }.setDom d { r with st := .ramping, rampAt := p.now, lastQueueUs := (p.now - r.queuedAt) / 1000 }
    else p

/-- `ns` have passed since `t`. The AON oscillator times ramps while REFCLK_156 is absent and part time stands still (R369, R372). -/
def Part.passed (p : Part) (t ns : Nat) : Bool := !p.clk.ref156 || decide (t + ns ≤ p.now)

/-- RAMP_END (R400): the ramp ends with every rail in regulation, and the domain enters STARTING. In a freeze the domain
completes its ramp and is held in reset (R466). -/
def Part.rampEnd (p : Part) (d : Nat) : Part :=
  let r := p.dom d
  if r.st = .ramping ∧ p.passed r.rampAt (domRampNs d) ∧ !p.therm.quenched then
    p.setDom d { r with st := .starting, startAt := p.now, lastRampUs := (p.now - r.rampAt) / 1000, held := p.frz.active }
  else p

/-- RAMP_TIMEOUT (R400, R390): not in regulation 1 ms after the ramp started, so the domain is FAILED. -/
def Part.rampTimeout (p : Part) (d : Nat) : Part :=
  let r := p.dom d
  if r.st = .ramping ∧ p.passed r.rampAt 1000000 then
    (p.setDom d { r with st := .failed }).bringupFault 7 (domainDie d)
  else p

/-- REGULATOR_FAULT (R400): a domain that is ON becomes FAILED. -/
def Part.regulatorFault (p : Part) (d : Nat) : Part :=
  let r := p.dom d
  if r.st = .on then (p.setDom d { r with st := .failed }).bringupFault 7 (domainDie d) else p

/-- PWR_WAKE (R407): KEY 0xC0DE wakes domain 1; other values are discarded. -/
def Part.pwrWake (p : Part) (key : Nat) : Part := if key = 0xC0DE then p.wakeCtl else p

/-- MAINTENANCE_WAKE (R408): 60 s before the earliest scrub deadline the AON island wakes domain 1. -/
def Part.maintWake (p : Part) : Part :=
  match p.pwr.nextMaint with
  | none => p
  | some t =>
    if p.domSt 1 = .sleep ∧ t ≤ p.now + 60000000000 then
      { p with pwr := { p.pwr with maint := true, nextMaint := none } }.requestWake 1
    else p

/-! ### Input power (R398, R412, R413) -/

/-- The limit of an interval in units of 1/2,560 W (R412), from the energies of past intervals in µJ. -/
def powerLimit (plim peak step run : Nat) (energy : List Nat) : Int :=
  let window := sumNat (energy.take 99999)
  let l : Int := min (2560 * (peak : Int)) (256 * ((plim : Int) * 1000000 - (window : Int)))
  let l := if 10000000 ≤ run * 10000 then min l (2560 * (plim : Int)) else l
  l * (16 - step) / 16

/-- The most energy in µJ that an interval with this limit takes (R28, R412): pacing and the regulators hold it. -/
def intervalCeiling (limit : Int) : Nat := (max 0 limit).toNat / 256

/-- POWER_INTERVAL (R28, R398, R412, R413): the converter's samples and the energy of the interval that ended are taken, no more than its
limit lets it draw (log entry 148), and the new interval gets its limit. `pace` says that projected power will reach the limit in it; the
clamp flags are the regulators'. -/
def Part.powerInterval (p : Part) (uj vinMv iinCa : Nat) (pace clamp domClamp : Bool) : Part :=
  if p.now / 10000 ≤ p.pwr.intervalAt then p
  else
    let uj := min uj (intervalCeiling p.pwr.limit)
    let en := uj :: p.pwr.energy.take 99999
    let run := if 10 * p.pwr.plim < uj then p.pwr.run + 1 else 0
    let p := { p with pwr := { p.pwr with
      energy := en, run := run, intervalAt := p.now / 10000, vinMv := vinMv, iinCa := iinCa, pW := uj / 10,
      meanW := sumNat en / 1000000, paced := pace, clamped := clamp,
      limit := powerLimit p.pwr.plim p.pwr.peak p.therm.step run en } }
    let p := if pace then p.bump aPwrCnt 0 32 1 else p
    let p := if clamp then p.bump aPwrCnt 32 16 1 else p
    if domClamp then p.bump aPwrCnt 48 16 1 else p

/-! ### Register views (14) -/

/-- The STATE encoding of IOD.PWR_DOMAIN. -/
def domCode (s : DomState) : Nat :=
  match s with
  | .on => 0 | .closing => 1 | .sleep => 2 | .queued => 3 | .ramping => 4 | .starting => 5 | .failed => 6

/-- The place of a domain in the governor's queue, 1 for the head, 0 when not queued. -/
def queuePos (d : Nat) : List Nat → Nat → Nat
  | [], _ => 0
  | x :: xs, n => if x = d then n else queuePos d xs (n + 1)

/-- IOD.VIN_MON. -/
def Part.vinMon (p : Part) : Word64 :=
  packBits [(0, 16, p.pwr.vinMv), (16, 16, p.pwr.iinCa), (32, 16, p.pwr.pW), (48, 16, p.pwr.meanW)]

/-- IOD.PWR_LIMIT. -/
def Part.pwrLimit (p : Part) : Word64 :=
  packBits [(0, 16, p.pwr.plim), (16, 16, p.pwr.peak), (32, 16, (max 0 p.pwr.limit).toNat / 2560), (48, 4, p.therm.step)]

/-- IOD.PWR_GOV. -/
def Part.pwrGov (p : Part) : Word64 :=
  let next := match p.pwr.nextMaint with
    | none => 0
    | some t => if p.domSt 1 = .on then 0 else (t - 60000000000 - p.now) / 1000000000
  packBits [(0, 2, p.ramping.length), (4, 9, p.rampDidt), (16, 5, p.pwr.queue.length), (24, 1, bit p.pwr.maint), (32, 32, next)]

/-- IOD.PWR_DOMAIN[d]; WAKES is stored. -/
def Part.pwrDomain (p : Part) (d : Nat) : Word64 :=
  let r := p.dom d
  packBits [(0, 3, domCode (p.domSt d)), (3, 1, bit r.sleepReq), (4, 5, queuePos d p.pwr.queue 1),
    (16, 16, min r.lastQueueUs 0xFFFF), (32, 8, r.lastRampUs), (48, 16, p.regFld (aPwrDomain d) 48 16)]

/-- The domain states of POWER_QUERY: domain d at bits [3d + 2:3d] (R414). -/
def Part.domStates (p : Part) : Word64 := packBits ((List.range 20).map fun d => (3 * d, 3, domCode (p.domSt d)))

/-- POWER_LIMIT (R414). -/
def Part.setLimits (p : Part) (i : Nat) (k : Bytes) : Part :=
  let pl := if par k 0 2 = 0 then 1800 else par k 0 2
  let pk := if par k 2 2 = 0 then 2100 else par k 2 2
  { p with pwr := { p.pwr with plim := pl, peak := pk } }.finish i stOk []

/-! ### The commands -/

/-- A domain that the governor wakes. -/
def domOk (d : Nat) : Bool := decide (1 ≤ d ∧ d ≤ 19)

/-- RAMP_START (R410). -/
def execRampStart (s : State) : Out := s.live 0 true Part.rampStart

/-- RAMP_END (R400, R466): also during a freeze. -/
def execRampEnd (d : Nat) (s : State) : Out := if domOk d then s.on fun p => p.rampEnd d else .fault .noSuchObject

/-- RAMP_TIMEOUT (R400). -/
def execRampTimeout (d : Nat) (s : State) : Out := s.live 0 (domOk d) fun p => (p.rampTimeout d).readiness

/-- REGULATOR_FAULT (R400). -/
def execRegulatorFault (d : Nat) (s : State) : Out := s.live 0 (domOk d) fun p => (p.regulatorFault d).readiness

/-- PWR_WAKE (R407). -/
def execPwrWake (key : Nat) (s : State) : Out := s.live 2 true fun p => p.pwrWake key

/-- MAINTENANCE_WAKE (R408). -/
def execMaintenanceWake (s : State) : Out := s.live 0 true Part.maintWake

/-- POWER_INTERVAL (R412). -/
def execPowerInterval (uj vinMv iinCa : Nat) (pace clamp domClamp : Bool) (s : State) : Out :=
  s.live 0 true fun p => p.powerInterval uj vinMv iinCa pace clamp domClamp

/-- POWER_QUERY (R414). -/
def execPowerQuery (i : Nat) (s : State) : Out :=
  s.cmd i 0x82 fun _ p => p.finish i stOk (wordBytes p.vinMon ++ wordBytes p.pwrLimit ++ wordBytes p.pwrGov ++ wordBytes p.domStates)

/-- POWER_LIMIT (R414). -/
def execPowerLimit (i : Nat) (s : State) : Out := s.cmd i 0x83 fun k p => p.setLimits i k

end Sys2Proof.Machine
end

