-- ==== Sys2Proof/Machine/Thermal.lean ====
section
/-! DEFINITION. Thermal: sensors, bands, throttling, remote sensing, the quench and the thermal commands (R416 to R437).
Temperatures are in units of 0.25 °C. -/
namespace Sys2Proof.Machine

/-! ### Sensors (R416 to R420) -/

/-- Sensors of a die (R416). -/
def sensorCount (die : Nat) : Nat := if 12 ≤ die then 64 else 16

/-- Grid row and column of a sensor (R418). -/
def sensorGrid (die i : Nat) : Nat × Nat :=
  if 12 ≤ die then (2 * (i / 4 / 4) + i % 4 / 2, 2 * (i / 4 % 4) + i % 4 % 2) else (i / 4, i % 4)

/-- Two grid coordinates differ by at most 1. -/
def near (a b : Nat) : Bool := decide (a ≤ b + 1 ∧ b ≤ a + 1)

/-- The neighbours of a sensor (R418). -/
def neighbours (die i : Nat) : List Nat :=
  (List.range (sensorCount die)).filter fun j =>
    j != i && near (sensorGrid die i).1 (sensorGrid die j).1 && near (sensorGrid die i).2 (sensorGrid die j).2

/-- A sensor's record. -/
def Part.sensor (p : Part) (die i : Nat) : Sensor := mget Sensor.reset p.therm.sensors (die * 64 + i)

/-- Replace a sensor's record. -/
def Part.setSensor (p : Part) (die i : Nat) (v : Sensor) : Part :=
  { p with therm := { p.therm with sensors := mset Sensor.reset p.therm.sensors (die * 64 + i) v } }

/-- The mean of eight samples rounded down to 0.25 °C, or the previous reading before eight samples exist (R417). -/
def meanReading (prev : Int) (samples : List Int) : Int :=
  if samples.length = 8 then sumInt samples / 8 else prev

/-- Insert into a rising list. -/
def insertInt (x : Int) : List Int → List Int
  | [] => [x]
  | y :: ys => if x ≤ y then x :: y :: ys else y :: insertInt x ys

/-- A rising list of the same numbers. -/
def sortInt : List Int → List Int
  | [] => []
  | x :: xs => insertInt x (sortInt xs)

/-- Twice the median of a list; the median of an even number is the mean of the middle two (R419). -/
def median2 (l : List Int) : Int :=
  let s := sortInt l
  nth 0 s ((s.length - 1) / 2) + nth 0 s (s.length / 2)

/-- The first pass of a sample: each raw sample and the readings before substitution (R416, R417). -/
def samplePass (v : Option Int) (s : Sensor) : Sensor :=
  match v with
  | none => s
  | some x =>
    let l := (x :: s.samples).take 8
    { s with samples := l, raw := x, reading := if s.failed then s.reading else meanReading s.reading l }

/-- The good neighbours of a sensor as of the previous sample: their new readings (R419). -/
def goodNear (die i : Nat) (old new : Nat → Sensor) : List Int :=
  ((neighbours die i).filter fun j => !(old j).failed).map fun j => (new j).reading

/-- The judgement of one sensor in a sample (R419): failed at once, or after ten deviating samples. -/
def judgeSensor (die i : Nat) (v : Option Int) (old new : Nat → Sensor) : Sensor :=
  let s := new i
  if s.failed then s
  else
    let out := match v with
      | none => true
      | some x => decide (x < -160) || decide (600 < x)
    let g := goodNear die i old new
    let dev := if s.samples.length = 8 ∧ 3 ≤ g.length ∧ (48 < 2 * s.reading - median2 g ∨ 48 < median2 g - 2 * s.reading)
      then s.dev + 1 else 0
    { s with dev := min dev 10, failed := out || decide (10 ≤ dev) }

/-- The largest of a list of integers. -/
def maxInt : List Int → Option Int
  | [] => none
  | x :: xs =>
    match maxInt xs with
    | none => some x
    | some y => some (if y < x then x else y)

/-- The replacement reading of a failed sensor (R420): the mean of its good neighbours' readings rounded down, else the highest
good reading on the die, else its own. -/
def replacement (die i : Nat) (old new : Nat → Sensor) : Int :=
  let g := goodNear die i old new
  if g.isEmpty then
    (maxInt (((List.range (sensorCount die)).filter fun j => !(old j).failed && j != i).map fun j => (new j).reading)).getD (new i).reading
  else sumInt g / g.length

/-- The temperature of a die: its highest reading after substitution (R421). -/
def Part.dieTemp (p : Part) (die : Nat) : Int :=
  (maxInt ((List.range (sensorCount die)).map fun i => (p.sensor die i).reading)).getD 0

/-- The sensor that gives the die temperature; the lowest-numbered on a tie. -/
def Part.hottest (p : Part) (die : Nat) : Nat :=
  ((List.range (sensorCount die)).find? fun i => (p.sensor die i).reading == p.dieTemp die).getD 0

/-! ### Quench (R430 to R434) -/

/-- QSEQ of a quench record. -/
def qSeq (b : Bytes) : Nat := fld b 0 4

/-- A quench record is in use. -/
def qUsed (b : Bytes) : Bool := qSeq b != 0

/-- A quench record is uncleared. -/
def qUncleared (b : Bytes) : Bool := qUsed b && !(fld b 4 1).testBit 0

/-- The highest QSEQ in the log rows. -/
def Part.lastQseq (p : Part) : Nat := p.log.quench.foldl (fun m r => max m (qSeq r.2)) 0

/-- Uncleared quench records. -/
def Part.uncleared (p : Part) : Nat := (p.log.quench.filter fun r => qUncleared r.2).length

/-- The row of the lowest QSEQ among rows that meet a test. -/
def oldestRow (q : Bytes → Bool) (m : List (Nat × Bytes)) : Option Nat :=
  m.foldl (fun best r =>
    if q r.2 then
      match best with
      | none => some r.1
      | some b => if qSeq r.2 < qSeq (mget [] m b) then some r.1 else some b
    else best) none

/-- The row that a new quench record takes (R433): an unused row, else the oldest cleared record, else the oldest. -/
def Part.quenchRow (p : Part) : Nat :=
  match (List.range 16).find? fun r => !qUsed (mget [] p.log.quench r) with
  | some r => r
  | none =>
    match oldestRow (fun b => !qUncleared b) p.log.quench with
    | some r => r
    | none => (oldestRow qUsed p.log.quench).getD 0

/-- A quench starts (R431): QUENCH_N low, domains 1 to 19 switched off, and a record written (R433). -/
def Part.quench (p : Part) (source unit sensor : Nat) (temp : Int) : Part :=
  if p.therm.quenched then p
  else
    let b := leBytes 4 (p.lastQseq + 1) ++ [0] ++ leBytes 1 source ++ leBytes 1 unit ++ leBytes 1 sensor ++
      leBytes 2 (toBits 16 temp) ++ leBytes 1 p.therm.step ++ [0] ++ leBytes 4 p.bootCounter ++ leBytes 8 p.now ++
      leBytes 2 p.pwr.meanW ++ zpad 6
    let row := p.quenchRow
    let p := { p with log := { p.log with quench := mset [] p.log.quench row b } }
    let p := p.allOff
    { p with
      therm := { p.therm with quenched := true }, pins := { p.pins with quenchN := false, frozenN := true }, evcCopy := none, image := none,
      boot := { p.boot with orderly := false }, frz := { p.frz with active := false, frozenLow := false, arrayOp := none } }

/-- The first sensor whose sample starts a quench (R430): good as of the previous sample, 112 °C or more twice running. -/
def quenchSensor (n : Nat) (raws : List (Option Int)) (old : Nat → Sensor) : Option (Nat × Int) :=
  (List.range n).findSome? fun i =>
    match nth none raws i with
    | none => none
    | some x => if !(old i).failed && (old i).hot && decide (448 ≤ x) then some (i, x) else none

/-! ### The throttle temperature (R423) -/

/-- A remote pair's record. -/
def Part.pair (p : Part) (i : Nat) : Pair := mget Pair.reset p.therm.pairs i

/-- Replace a remote pair's record. -/
def Part.setPair (p : Part) (i : Nat) (v : Pair) : Part :=
  { p with therm := { p.therm with pairs := mset Pair.reset p.therm.pairs i v } }

/-- The sources of the throttle temperature (R423): (value, kind, unit), dies, then stacks, then pairs. -/
def Part.throttleSources (p : Part) : List (Int × Nat × Nat) :=
  ((List.range 20).filter fun d => p.domSt (dieDomain d) == .on || p.domSt (dieDomain d) == .starting).map
    (fun d => (p.dieTemp d, 0, d)) ++
  ((p.hbm.filter fun s => s.2.ready && !s.2.blind).map fun s => (s.2.temp, 1, s.1)) ++
  ((List.range 4).filter fun i => (p.regFld (aTsenseCfg i) 2 1 == 1) && !(p.pair i).fault).map
    (fun i => ((p.pair i).reading - (p.regFld (aTsenseCfg i) 32 12 : Int) + 400, 2, i))

/-- The highest source, the first on a tie. -/
def hottestSource : List (Int × Nat × Nat) → Option (Int × Nat × Nat)
  | [] => none
  | x :: xs =>
    match hottestSource xs with
    | none => some x
    | some y => some (if x.1 < y.1 then y else x)

/-- The throttle temperature follows each sample (R423, R427). -/
def Part.takeThrottle (p : Part) : Part :=
  match hottestSource p.throttleSources with
  | none => p
  | some (t, kind, unit) => { p with therm := { p.therm with throt := t, srcKind := kind, srcUnit := unit } }

/-! ### A sample of a die (R416 to R421, R424, R430) -/

/-- The band change of a cluster (R118, R424): event line 266 and the anneal's due times. -/
def Part.clusterTemp (p : Part) (c : Nat) (t : Int) : Part :=
  let k := p.cluster c
  let b := bandOf t
  let ms := p.now / 1000000
  let p :=
    if ms = k.ms then p.setCluster c { k with temp := t, band := b, msTemp := max k.msTemp t }
    else p.setCluster c { k with temp := t, band := b, ms := ms, msTemp := max k.temp t, prevTemp := if k.ms + 1 = ms then k.msTemp else k.temp }
  if k.band = b then p else (p.bandChange c t).event 266 []

/-- The clusters of an ACD take the highest reading of their four sensors (R56, R418). -/
def Part.clusterTemps (p : Part) (a : Nat) : Part :=
  (List.range 16).foldl (fun q c =>
    let t := (maxInt ((List.range 4).map fun k => (q.sensor (12 + a) (4 * c + k)).reading)).getD 0
    q.clusterTemp (16 * a + c) t) p

/-- The timers of deep writes and erases on a hot cluster stand still (R288): for each sample at which HOT is 1 they start
100 µs later. -/
def Part.holdHotTimers (p : Part) (a : Nat) : Part :=
  { p with d2d := { p.d2d with outstanding := p.d2d.outstanding.map fun c =>
      if c.die = 12 + a ∧ (c.opcode = 0xA2 ∨ c.opcode = 0xA3) ∧ isHot (p.cluster (16 * a + c.unit / 128)).temp
      then { c with start := c.start + 100000 } else c } }

/-- SENSOR_SAMPLE (R416): one raw sample of every sensor of a die, none where the oscillator gives no count. -/
def Part.sensorSample (p : Part) (die : Nat) (raws : List (Option Int)) : Part :=
  let n := sensorCount die
  let old (i : Nat) : Sensor := p.sensor die i
  let new (i : Nat) : Sensor := samplePass (nth none raws i) (old i)
  let judged (i : Nat) : Sensor := judgeSensor die i (nth none raws i) old new
  let final (i : Nat) : Sensor :=
    let s := judged i
    let hot := !(old i).failed && (match nth none raws i with
      | none => false
      | some x => decide (448 ≤ x))
    { s with reading := if s.failed then replacement die i old new else s.reading, hot := hot }
  let q := (List.range n).foldl (fun q i => q.setSensor die i (final i)) p
  let q := (List.range n).foldl (fun q i =>
    if (judged i).failed && !(old i).failed then
      q.notice 0x401 (leBytes 1 die ++ leBytes 1 i ++ leBytes 2 (toBits 16 (final i).reading)) else q) q
  let q := if (List.range n).all fun i => (judged i).failed then q.dieFailed die else q
  let q := (if 12 ≤ die then (q.clusterTemps (die - 12)).holdHotTimers (die - 12) else q).takeThrottle
  match quenchSensor n raws old with
  | none => q
  | some (i, x) => q.quench 0 die i x

/-! ### Stacks (R194, R422, R430) -/

/-- A stack's record. -/
def Part.stack (p : Part) (k : Nat) : Stack := mget Stack.reset p.hbm k

/-- Replace a stack's record. -/
def Part.setStack (p : Part) (k : Nat) (v : Stack) : Part := { p with hbm := mset Stack.reset p.hbm k v }

/-- The refresh class of a band: 0 for T0 and T1, 1 for T2, 2 for T3 and above (R194). -/
def refreshClass (b : Nat) : Nat := if b ≤ 1 then 0 else if b = 2 then 1 else 2

/-- A valid readout of a stack (R194): a higher band waits for the next refresh command; for each band below the one in force, `lower` has the
instant since which every readout has been in that band or below it. -/
def Stack.readBand (s : Stack) (t : Int) (now : Nat) : Stack :=
  let b := bandOf t
  let since (j : Nat) : Nat := ((s.lower.find? fun x => x.1 == j).map Prod.snd).getD now
  { s with
    rise := if s.band < b then some b else none,
    lower := ((List.range s.band).filter fun j => decide (b ≤ j)).map fun j => (j, since j) }

/-- STACK_TEMP_READOUT (R422): the 1 ms readout of a stack, none where it gives no answer. -/
def Part.stackReadout (p : Part) (k : Nat) (v : Option Int) : Part :=
  let s := p.stack k
  let good := match v with
    | none => none
    | some t => if 0 ≤ t ∧ t ≤ 600 then some t else none
  match good with
  | none =>
    let n := min (s.invalid + 1) 10
    let p := (p.setStack k { s with invalid := n, blind := s.blind || decide (10 ≤ n), hot := false }).takeThrottle
    if !s.blind && decide (10 ≤ n) then (p.bump aThermCnt 48 16 1).notice 0x403 (leBytes 1 k) else p
  | some t =>
    let p := (p.setStack k { (s.readBand t p.now) with temp := t, invalid := 0, blind := false, hot := decide (420 ≤ t) }).takeThrottle
    if s.hot && !s.blind && decide (420 ≤ t) then p.quench 1 k 0 t else p

/-- The per-bank refresh interval of a stack in ns times 1,000 (R194, R422). -/
def Stack.refreshPs (s : Stack) : Nat :=
  if s.blind then 975000 else
    match refreshClass s.band with
    | 0 => 3900000
    | 1 => 1950000
    | _ => 975000

/-- STACK_REFRESH (R194): a refresh interval expires and the stack controller issues a refresh, at which a rise in band takes effect. -/
def Part.stackRefresh (p : Part) (k : Nat) : Part :=
  let s := p.stack k
  if s.ready && decide (1000 * s.refreshAt + s.refreshPs ≤ 1000 * p.now) then
    p.setStack k { s with refreshAt := p.now, band := s.rise.getD s.band, rise := none }
  else p

/-- STACK_BAND_FALL (R194): the refresh band falls to the lowest band in which the stack has read for 1 s without a break. -/
def Part.stackBandFall (p : Part) (k : Nat) : Part :=
  let s := p.stack k
  match s.lower.find? fun x => decide (x.2 + 1000000000 ≤ p.now) with
  | none => p
  | some x => p.setStack k { s with band := x.1, lower := s.lower.filter fun y => decide (y.1 < x.1) }

/-! ### The throttle step (R427) -/

/-- The next throttle step (R427). -/
def nextStep (step : Nat) (t : Int) : Nat := if 401 ≤ t then min (step + 1) 8 else if t ≤ 392 then step - 1 else step

/-- THROTTLE_UPDATE (R427): at each multiple of 10 ms the step rises, falls or holds; THROT_N follows it, and a change sends a
THROTTLE notice. -/
def Part.throttleUpdate (p : Part) : Part :=
  if p.now % 10000000 ≥ 7 then p
  else
    let p := if 0 < p.therm.step then p.bump aThermCnt 0 32 1 else p
    match hottestSource p.throttleSources with
    | none => p
    | some (t, kind, unit) =>
      let step := nextStep p.therm.step t
      let old := p.therm.step
      let p := { p with
        therm := { p.therm with throt := t, srcKind := kind, srcUnit := unit, step := step },
        pins := { p.pins with throtN := step == 0 } }
      let p := if old < step then p.bump aThermCnt 32 16 1 else p
      if step = old then p else p.notice 0x400 (leBytes 1 step ++ leBytes 2 (toBits 16 t))

/-! ### Remote sensing (R425, R426) -/

/-- Modes 0 and 3 of a pair: it is not driven (R425). -/
def Part.pairOff (p : Part) (i : Nat) : Bool := p.regFld (aTsenseCfg i) 0 2 == 0 || p.regFld (aTsenseCfg i) 0 2 == 3

/-- REMOTE_SENSE_MEASURE (R425, R426): the temperature that a pair's voltages give in its mode, none for an open or a short
circuit. Modes 0 and 3 drive nothing and read zero. -/
def Part.remoteMeasure (p : Part) (i : Nat) (v : Option Int) : Part :=
  let s := p.pair i
  let limit : Int := p.regFld (aTsenseCfg i) 32 12
  if p.pairOff i then p.setPair i { s with reading := 0, fault := false, alarm := false }
  else
    match v with
    | none => p.setPair i { s with fault := true }
    | some t =>
      if t < -160 ∨ 600 < t then p.setPair i { s with fault := true }
      else if !s.alarm && decide (limit < t) then
        ((p.setPair i { reading := t, fault := false, alarm := true }).bump (aTsenseStatus i) 32 16 1).notice 0x402
          (leBytes 1 i ++ [0] ++ leBytes 2 (toBits 16 t))
      else p.setPair i { reading := t, fault := false, alarm := s.alarm && decide (limit - 8 < t) }

/-! ### Register views and commands (15) -/

/-- DIE.TS_SENSOR[i]. -/
def Part.tsSensor (p : Part) (die i : Nat) : Word64 :=
  if i < sensorCount die then
    let s := p.sensor die i
    packBits [(0, 12, toBits 12 s.reading), (16, 12, toBits 12 s.raw), (28, 1, bit s.failed), (32, 4, s.dev), (48, 16, s.trim)]
  else 0

/-- DIE.TS_STATUS. -/
def Part.tsStatus (p : Part) (die : Nat) : Word64 :=
  packBits [(0, 12, toBits 12 (p.dieTemp die)),
    (16, 7, ((List.range (sensorCount die)).filter fun i => (p.sensor die i).failed).length), (24, 6, p.hottest die)]

/-- IOD.THERM_STATUS. -/
def Part.thermStatus (p : Part) : Word64 :=
  packBits [(0, 12, toBits 12 p.therm.throt), (12, 4, p.therm.step), (16, 2, p.therm.srcKind), (18, 6, p.therm.srcUnit),
    (24, 5, p.uncleared), (32, 32, p.lastQseq)]

/-- IOD.TSENSE_STATUS[i]; ALARMS is stored. -/
def Part.tsenseStatus (p : Part) (i : Nat) : Word64 :=
  packBits [(0, 12, toBits 12 (p.pair i).reading), (12, 1, bit (p.pair i).fault), (13, 1, bit (p.pair i).alarm),
    (32, 16, p.regFld (aTsenseStatus i) 32 16)]

/-- The sensors of the die work: its domain is in STARTING or ON (R416). -/
def Part.sensing (p : Part) (die : Nat) : Bool := p.domSt (dieDomain die) == .on || p.domSt (dieDomain die) == .starting

/-- A temperature in whole °C rounded down, 0 below 0 °C (R435). -/
def wholeDeg (t : Int) : Nat := (max 0 (t / 4)).toNat

/-- Used quench records, oldest first. -/
def Part.quenchList (p : Part) : Nat → List (Nat × Bytes) → List Bytes
  | 0, _ => []
  | n + 1, l =>
    match oldestRow qUsed l with
    | none => []
    | some r => mget [] l r :: p.quenchList n (merase l r)

/-- The reply body of THERMAL_QUERY (R435). -/
def Part.thermalBody (p : Part) (kind die : Nat) : Bytes :=
  if kind = 0 then
    wordBytes p.thermStatus ++ wordBytes (p.regGet aThermCnt) ++
    ((List.range 20).flatMap fun d => leBytes 1 (if p.sensing d then wholeDeg (p.dieTemp d) else 0)) ++
    ((List.range 4).flatMap fun i =>
      leBytes 1 (if p.pairOff i ∨ (p.pair i).fault then 0 else toBits 8 ((p.pair i).reading / 4))) ++ zpad 8
  else if kind = 1 then
    (List.range (sensorCount die)).flatMap fun i => wordBytes (if p.sensing die then p.tsSensor die i else 0)
  else padTo 512 (p.quenchList 16 p.log.quench).flatten

/-- QUENCH_CLEAR (R434, R436): QSEQ must be the highest uncleared; every uncleared record up to it is marked cleared. When none
remains, bring-up goes on from stage FIRMWARE. -/
def Part.quenchClear (p : Part) (i : Nat) (k : Bytes) : Part :=
  let top := p.log.quench.foldl (fun m r => if qUncleared r.2 then max m (qSeq r.2) else m) 0
  if top = 0 then p.finish i stAlreadyDone []
  else if par k 0 4 ≠ top then p.finish i stBadParam []
  else
    let mark (b : Bytes) : Bytes := if qUncleared b ∧ qSeq b ≤ top then setNth b 4 (BitVec.ofNat 8 (fld b 4 1 ||| 1)) else b
    let p := { p with log := { p.log with quench := p.log.quench.map fun (r : Nat × Bytes) => (r.1, mark r.2) } }
    let p := if p.boot.quenchHold then { p with boot := { p.boot with quenchHold := false } }.wakeAll else p
    p.finish i stOk []

/-- SENSOR_SAMPLE (R416): also during a freeze (R468). -/
def execSensorSample (die : Nat) (raws : List (Option Int)) (s : State) : Out :=
  if die < 20 then s.on fun p => if p.sensing die && !p.therm.quenched then (p.sensorSample die raws).readiness else p
  else .fault .noSuchObject

/-- STACK_TEMP_READOUT (R422). -/
def execStackTempReadout (k : Nat) (v : Option Int) (s : State) : Out :=
  s.live (11 + k / 8) (decide (k < 32)) fun p => p.stackReadout k v

/-- STACK_REFRESH (R194). -/
def execStackRefresh (k : Nat) (s : State) : Out := s.live (11 + k / 8) (decide (k < 32)) fun p => p.stackRefresh k

/-- STACK_BAND_FALL (R194). -/
def execStackBandFall (k : Nat) (s : State) : Out := s.live (11 + k / 8) (decide (k < 32)) fun p => p.stackBandFall k

/-- THROTTLE_UPDATE (R427). -/
def execThrottleUpdate (s : State) : Out := s.live 0 true Part.throttleUpdate

/-- REMOTE_SENSE_MEASURE (R425). -/
def execRemoteSenseMeasure (i : Nat) (v : Option Int) (s : State) : Out :=
  s.live 2 (decide (i < 4)) fun p => (p.remoteMeasure i v).takeThrottle

/-- THERMAL_QUERY (R435). -/
def execThermalQuery (i : Nat) (s : State) : Out :=
  s.cmd i 0x84 fun k p => p.finish i stOk (p.thermalBody (par k 0 1) (par k 1 1))

/-- QUENCH_CLEAR (R436). -/
def execQuenchClear (i : Nat) (s : State) : Out := s.cmd i 0x85 fun k p => p.quenchClear i k

end Sys2Proof.Machine
end

