-- ==== Sys2Proof/Machine/Tiles.lean ====
section
/-! DEFINITION. Tiles: banks, their states and maps, and the writes, erases and map updates of a tile's program drivers
(R31 to R66, R278, R285, R503, R507). -/
namespace Sys2Proof.Machine

/-! ### Records -/

/-- A tile's record. -/
def Part.tile (p : Part) (t : Nat) : Tile := mget Tile.reset p.an.tiles t

/-- Replace a tile's record. -/
def Part.setTile (p : Part) (t : Nat) (v : Tile) : Part := { p with an := { p.an with tiles := mset Tile.reset p.an.tiles t v } }

/-- A bank's record; bank k is bank k mod 2 of tile k / 2. -/
def Part.bank (p : Part) (k : Nat) : Bank := mget Bank.reset p.an.banks k

/-- Replace a bank's record. -/
def Part.setBank (p : Part) (k : Nat) (v : Bank) : Part := { p with an := { p.an with banks := mset Bank.reset p.an.banks k v } }

/-- A slice's record; slice 16 a + s serves cluster 16 a + s. -/
def Part.slice (p : Part) (c : Nat) : Slice := mget Slice.reset p.an.slices c

/-- Replace a slice's record. -/
def Part.setSlice (p : Part) (c : Nat) (v : Slice) : Part :=
  { p with an := { p.an with slices := mset Slice.reset p.an.slices c v } }

/-- An ACD's record. -/
def Part.acd (p : Part) (a : Nat) : Acd := mget Acd.reset p.an.acds a

/-- Replace an ACD's record. -/
def Part.setAcd (p : Part) (a : Nat) (v : Acd) : Part := { p with an := { p.an with acds := mset Acd.reset p.an.acds a v } }

/-- The cluster of a tile (R34). -/
def tileCluster (t : Nat) : Nat := t / 64
/-- The die of a tile. -/
def tileDie (t : Nat) : Nat := 12 + t / 1024
/-- The TILE_STATUS register of a tile. -/
def tileStatusAddr (t : Nat) : Nat := aTileStatus (tileDie t) (t % 1024)
/-- The bank that a unit of an ACD addresses (R34). -/
def bankOf (die unit : Nat) : Nat := (die - 12) * 2048 + unit

/-- Count a message or MVM returned with STALE_ROLE (TILE_STATUS.STALE). -/
def Part.countStale (p : Part) (t : Nat) : Part := p.bump (tileStatusAddr t) 32 16 1

/-! ### Map rows (R61 to R65) -/

/-- A map row that an update has erased (R62). -/
def erasedCopy : Bytes := zpad 67

/-- A map copy is valid: LAYOUT 0x0002 and a good CRC (R63). The factory's row, written as the empty list, is valid. -/
def copyOk (b : Bytes) : Bool := b.isEmpty || (fld b 0 2 == 2 && beNat (slice b 64 2) == crc16 (b.take 64))

/-- GENERATION of a copy. -/
def copyGen (b : Bytes) : Nat := fld b 2 2

/-- GENERATION `a` is higher than `b`, modulo 2^16 (R62). DESIGN CHOICE (log entry 149): of two that are exactly 32,768 apart the manual
calls neither higher, and here neither is, so that row 7 is in force as it is on a tie. -/
def genHigher (a b : Nat) : Bool := decide (0 < (a + 65536 - b) % 65536 ∧ (a + 65536 - b) % 65536 < 32768)

/-- The map copy in force is the one in row 7 (R63): row 6 counts when only it is valid or its GENERATION is higher. -/
def Bank.row7 (b : Bank) : Bool := !copyOk b.copy6 || (copyOk b.copy7 && !genHigher (copyGen b.copy6) (copyGen b.copy7))

/-- The 67 bytes of a map row with its CRC (R61). -/
def mapRow (gen depth fmt cycles model version slot hours : Nat) (rows cols : List Nat) : Bytes :=
  let body := leBytes 2 2 ++ leBytes 2 gen ++ leBytes 1 depth ++ leBytes 1 fmt ++ leBytes 2 cycles ++ leBytes 4 model ++ leBytes 2 version ++
    leBytes 2 slot ++ leBytes 4 hours ++ ((List.range 6).flatMap fun i => leBytes 2 (nth 0 rows i)) ++
    ((List.range 16).flatMap fun i => leBytes 2 (nth 0 cols i))
  body ++ beBytes 2 (crc16 body) ++ [0]

/-- The map row that the factory left (log entry 7): erased, no cycle, no repair. -/
def factoryMap : Bytes := mapRow 0 0 0 0 0 0 0 0 [] []

/-- The map copy in force. -/
def Bank.mapCopy (b : Bank) : Bytes :=
  let m := if b.row7 then b.copy7 else b.copy6
  if m.isEmpty then factoryMap else m

/-- The row that the next update writes (R62): the copy that is not valid, else the one with the lower GENERATION, row 6 on a
tie. -/
def Bank.updateRow (b : Bank) : Nat := if b.row7 then 6 else 7

/-- DEEP_AGE units in one hour: 1/20 h for each hour of milliseconds (R58). -/
def ageHour : Nat := 20 * 3600000

/-- DEEP_AGE in whole hours, rounded down. -/
def Bank.ageHours (b : Bank) : Nat := b.age / ageHour

/-- The deep contents that a map update records: those of a DEEP bank, and of an ERASING one that a write has not begun to erase (log
entry 151). `begun` says that the erase has begun. -/
def Bank.holdsDeep (b : Bank) (begun : Bool) : Bool := b.st == .deep || (b.st == .erasing && b.loaded && !begun)

/-- The bytes of a map row (R61). DEEP_AGE is recorded in every state (R58). DESIGN CHOICE (log entry 151): DEPTH of a bank that is
WRITING_DEEP, or ERASING once its erase has begun, is erased; while an accepted erase waits, the deep contents are still recorded. -/
def Bank.mapBytes (b : Bank) (begun : Bool) (gen : Nat) : Bytes :=
  let own (x : Nat) : Nat := if b.holdsDeep begun then x else 0
  mapRow gen (if b.st = .retired then 0x0F else own 2) (own b.wfmt) b.cycles (own b.model) (own b.version) (own b.slot) (cdiv b.age ageHour)
    b.rowMap b.colMap

/-- A bank after a map update into row `row` (R62); DEEP_AGE goes on from the hours recorded (R58). -/
def Bank.mapped (b : Bank) (begun : Bool) (row : Nat) : Bank :=
  let gen := (copyGen (if row = 6 then b.copy7 else b.copy6) + 1) % 65536
  let m := b.mapBytes begun gen
  { b with
    copy6 := if row = 6 then m else b.copy6, copy7 := if row = 6 then b.copy7 else m,
    age := cdiv b.age ageHour * ageHour }

/-- A bank as it loads its map at bring-up or at the wake of its ACD (R63 to R66). `orderly` is false after a power-down that
was not orderly (R65). DESIGN CHOICE (log entry 152): until its blank check, and the erase that a failed one brings, have ended, a bank
whose DEPTH is erased is ERASING, the state of R42 that becomes EMPTY by itself. The event of R59 counts as raised when the recorded
age has reached its limit. -/
def Bank.load (b : Bank) (orderly : Bool) : Bank :=
  if !copyOk b.copy6 && !copyOk b.copy7 then { b with st := .retired, mapFault := true, loaded := true }
  else
    let m := b.mapCopy
    let depth := fld m 4 1
    let hours := fld m 16 4
    let b := { b with
      cycles := fld m 6 2
      age := hours * ageHour
      alerted := decide (87600 ≤ hours)
      rowMap := (List.range 6).map fun i => fld m (20 + 2 * i) 2
      colMap := (List.range 16).map fun i => fld m (32 + 2 * i) 2 }
    if depth = 2 then
      { b with
        st := .deep, wfmt := fld m 5 1, model := fld m 8 4, version := fld m 12 2, slot := fld m 14 2,
        age := (hours + (if orderly then 0 else 1000)) * ageHour, loaded := true }
    else if depth = 0x0F then { b with st := .retired, loaded := true }
    else { b with st := .erasing }

/-! ### Repair (R50, R84, R503) -/

/-- Bit 15: the entry is valid. -/
def entryValid (e : Nat) : Bool := e.testBit 15
/-- Bit 14: the repair takes effect at the bank's next write. -/
def entryPending (e : Nat) : Bool := e.testBit 14

/-- The physical row of a logical row: 512 + i for spare row i; the highest-numbered valid entry is in force (R50). -/
def Bank.physRow (b : Bank) (r : Nat) : Nat :=
  (List.range 6).foldl (fun a i => if entryValid (nth 0 b.rowMap i) && nth 0 b.rowMap i % 512 == r then 512 + i else a) r

/-- The lowest-numbered free spare row. -/
def Bank.freeRow (b : Bank) : Option Nat := (List.range 6).find? fun i => !entryValid (nth 0 b.rowMap i)

/-- Entries of a repair map, padded. -/
def mapEntries (n : Nat) (l : List Nat) : List Nat := l ++ List.replicate (n - l.length) 0

/-- Spare rows in use. -/
def Bank.spareRows (b : Bank) : Nat := (b.rowMap.filter entryValid).length
/-- Spare columns in use, pending ones included. -/
def Bank.spareCols (b : Bank) : Nat := (b.colMap.filter entryValid).length

/-- The bank's map holds a repair of a column that is pending. -/
def Bank.colPending (b : Bank) (j : Nat) : Bool := b.colMap.any fun e => entryValid e && entryPending e && e % 1024 == j

/-- A pending column repair (R503): none is added to a pending one; the lowest-numbered free spare column takes it; with no
free spare column no entry is recorded. -/
def Bank.repairCol (b : Bank) (j : Nat) : Bank :=
  if b.colPending j then b
  else
    match (List.range 16).find? fun i => !entryValid (nth 0 b.colMap i) with
    | none => b
    | some i => { b with colMap := setNth (mapEntries 16 b.colMap) i (0xC000 + j) }

/-- Pending column repairs become active at a write (R61). -/
def Bank.activateCols (b : Bank) : Bank :=
  { b with colMap := b.colMap.map fun e => if entryValid e && entryPending e then e - 0x4000 else e }

/-! ### Weights in cells (R31, R121 to R123) -/

/-- The value of a 2-bit weight code in a format; an invalid code is programmed as 0 (R123). -/
def cellValue (fmt c : Nat) : Int :=
  if c = 1 then 1 else if c = 3 then -1 else if c = 2 ∧ fmt = 2 then -2 else 0

/-- The code is invalid in its format (R121). -/
def badCode (fmt c : Nat) : Bool := (c == 2 && fmt != 2) || (c == 0 && fmt == 1)

/-- The code of column j in a row of 128 bytes (R122). -/
def rowCode (row : Bytes) (j : Nat) : Nat := (nth 0 row (j / 4)).toNat / 4 ^ (j % 4) % 4

/-- The levels of the plus and the minus device for a weight (R31): a positive weight on the plus device, a negative one on the minus
device. -/
def levelsOf (w : Int) : Nat × Nat := (w.toNat, (-w).toNat)

/-- The weight of reference column REF0 to REF7 in a logical row (R33). -/
def refWeight (q r : Nat) : Int :=
  let even := decide (r / 64 % 2 = 0)
  if q < 2 then 0 else if q = 2 then 1 else if q = 3 then -1 else if q = 4 then (if even then -2 else 0)
  else if q = 5 then (if even then 0 else -2) else if q = 6 then (if even then 1 else -1) else (if even then -1 else 1)

/-- The physical column of a column 0 to 519: 520 + i for spare column i; of the active entries the highest-numbered is in force (R61,
R503). -/
def Bank.physCol (b : Bank) (j : Nat) : Nat :=
  (List.range 16).foldl (fun a i =>
    let e := nth 0 b.colMap i
    if entryValid e && !entryPending e && e % 1024 == j then 520 + i else a) j

/-- What a row's physical columns are programmed with (R31 to R33): every weight or reference column at its place after repair. A place
that no column uses is left at L0. -/
def Bank.rowLevels (b : Bank) (r : Nat) (row : Bytes) : Bytes :=
  (List.range 520).foldl (fun l j =>
    let v := levelsOf (if j < 512 then cellValue b.wfmt (rowCode row j) else refWeight (j - 512) r)
    setNth l (b.physCol j) (BitVec.ofNat 8 (v.1 + 4 * v.2))) (zpad 536)

/-- Plus level minus minus level of a logical row and a column 0 to 519, in unit currents (R31). -/
def Bank.weight (b : Bank) (r j : Nat) : Int :=
  let v := (nth 0 (mget CellRow.blank b.cells (b.physRow r)).levels (b.physCol j)).toNat
  (v % 4 : Nat) - (v / 4 % 4 : Nat)

/-- Invalid codes in a row. -/
def badCodes (fmt : Nat) (row : Bytes) : Nat := ((List.range 512).filter fun j => badCode fmt (rowCode row j)).length

/-- Program a logical row into its physical row with the waveform of a band (R33, R49, R55), and count its invalid codes in the slice
(R123). -/
def Part.programRow (p : Part) (k r : Nat) (deep : Bool) (band : Nat) (row : Bytes) : Part :=
  let b := p.bank k
  let t := k / 2
  (p.setBank k { b with cells := minsert b.cells (b.physRow r) { levels := b.rowLevels r row, deep := deep, band := band } }).bump
    (aNumSliceCnt (tileDie t) (t / 64 % 16)) 48 16 (badCodes b.wfmt row)

/-- The value of probe vector k at row i (R96). -/
def probeAct (k i : Nat) : Int := sext 8 ((mix64 (BitVec.ofNat 64 (k * 512 + i))).toNat % 256)

/-- The probe sums e_k of 512 columns (R96), by 512 k + j, from the weights of the rows that pass the slice. -/
def probeSumsOf (w : Nat → Nat → Int) : List (Nat × Int) :=
  ((List.range 4096).map fun n =>
    (n, sumInt ((List.range 512).map fun r => probeAct (n / 512) r * w r (n % 512)))).filter fun x => x.2 != 0

/-- The probe sums (R96) with the row that passes the slice added: sum e_k of column j is kept under 512 k + j. -/
def addProbeRow (fmt r : Nat) (row : Bytes) (sums : List (Nat × Int)) : List (Nat × Int) :=
  (List.range 4096).foldl (fun l n =>
    let w := cellValue fmt (rowCode row (n % 512))
    if w = 0 then l else mset 0 l n (mget 0 l n + probeAct (n / 512) r * w)) sums

/-! ### Replies of bank operations (R278) -/

/-- STATE of TILE_BANK_INFO. -/
def stateCode (s : BankState) : Nat :=
  match s with
  | .empty => 0
  | .writingShallow => 1
  | .writingDeep => 2
  | .shallow => 3
  | .deep => 4
  | .expired => 5
  | .erasing => 6
  | .retired => 7

/-- The reply of a bank operation: status, and STATE in a body of 16 bytes (R278). -/
def Part.bankReply (p : Part) (k : Nat) (m : DieMsg) (status : Nat) : Part :=
  p.answer (tileDie (k / 2)) m (p.bank k).epoch status (padTo 16 (leBytes 1 (stateCode (p.bank k).st)))

/-- The reply of a bank operation whose message the tile still holds. -/
def Part.bankReplyOpt (p : Part) (k : Nat) (m : Option DieMsg) (status : Nat) : Part :=
  match m with
  | none => p
  | some m => p.bankReply k m status

/-! ### MVMs that wait (R44, R46) -/

/-- Return the MVMs of a bank that meet a test to the slice, with a status (R43, R44); a DIAG_MVM that is
returned completes its command (R479). Work that comes back from an EXPIRED bank is asked for again and waits for its refresh (R215).
DEDUCED (log entry 175). -/
def Part.returnMvms (p : Part) (k : Nat) (q : Mvm → Bool) (status : Nat) : Part :=
  let t := k / 2
  let mine (m : Mvm) : Bool := m.req.bank == k % 2 && q m
  let gone := (p.tile t).queue.filter mine
  let p := p.setTile t { p.tile t with queue := (p.tile t).queue.filter fun m => !mine m }
  let c := tileCluster t
  let s := p.slice c
  let p := if status = stBankExpired then
      let work := (gone.filterMap fun m => if m.kind == .layer then some m.req else none).eraseDups
      (p.setSlice c { s with want := s.want ++ work.map fun r => (r, p.now) }).setTile t
        { p.tile t with halfSums := (p.tile t).halfSums.filter fun x => !work.contains x.1 }
    else p.setSlice c { s with back := s.back ++ (gone.map fun m => (m.req, status)) }
  let p := if status = stStaleRole then p.bump (tileStatusAddr t) 32 16 gone.length else p
  gone.foldl (fun q m => match m.kind with
    | .diag i => q.finish i (if status = stStaleRole then stStaleRole else stBadParam) []
    | _ => q) p

/-- What the queue does when a bank settles in a state (R44). -/
def Part.settleMvms (p : Part) (k : Nat) : Part :=
  let b := p.bank k
  match b.st with
  | .empty => p.returnMvms k (fun _ => true) stBankState
  | .retired => p.returnMvms k (fun _ => true) stBankState
  | .expired => p.returnMvms k (fun _ => true) stBankExpired
  | .shallow => p.returnMvms k (fun m => m.req.epoch != b.epoch) stStaleRole
  | .deep => p.returnMvms k (fun m => m.req.epoch != b.epoch) stStaleRole
  | _ => p

/-- The tile has work of an accepted MVM for the bank that must come before a write (R46). -/
def Tile.mvmPending (t : Tile) (b : Nat) : Bool :=
  (t.queue.any fun m => m.req.bank == b && m.due) || t.runs.any fun r => r.m.req.bank == b

/-- The class of the work whose weights a write of a bank brings (R97): that of the work which waits for the bank, else the class last
granted. DESIGN CHOICE (log entry 174). -/
def Part.writeCls (p : Part) (k : Nat) : WorkClass :=
  let s := p.slice (tileCluster (k / 2))
  match s.want.find? fun r => r.1.tile == k / 2 && r.1.bank == k % 2 with
  | some r => r.1.cls
  | none => s.lastCls

/-- Tile-time of a class is used in a cluster (R214). -/
def Part.useTime (p : Part) (c : Nat) (k : WorkClass) (ns : Nat) : Part :=
  let v := p.cluster c
  match k with
  | .prompt => p.setCluster c { v with promptUsed := v.promptUsed + ns }
  | .generation => p.setCluster c { v with genBusy := v.genBusy + ns }

/-- A write that makes a bank unavailable for the weights of request work, its closing map update included: its time is tile-time (R214). -/
def Wr.forWork (w : Wr) : Bool := w.kind == .shallow || w.kind == .deep || (w.kind == .map && w.completes == some .deep)

/-- The tile-time of the write that runs on a tile is counted up to now (R214). -/
def Part.chargeWrite (p : Part) (t : Nat) : Part :=
  match (p.tile t).wr with
  | none => p
  | some w =>
    if w.forWork then (p.setTile t { p.tile t with wr := some { w with since := p.now } }).useTime (tileCluster t) w.cls (p.now - w.since)
    else p

/-- Queue a map update of a bank (R62). -/
def Part.pushMap (p : Part) (k : Nat) : Part :=
  let t := k / 2
  p.setTile t { p.tile t with
    wq := (p.tile t).wq ++ [{ kind := .map, bank := k % 2, msg := none, row := 0, band := 0, due := 0, clearing := false, completes := none, copy := 6, cls := p.writeCls k, since := 0 }] }

/-- A column of a bank joins the column shadow (R99); the 17th of the slice takes its tile out of service. -/
def Part.shadowColumn (p : Part) (k j : Nat) : Part :=
  let b := p.bank k
  if b.oor.contains j then p
  else
    let t := k / 2
    let s := p.slice (tileCluster t)
    let p := (p.setBank k { b with oor := b.oor ++ [j] }).setSlice (tileCluster t) { s with shadow := s.shadow ++ [(k, j)] }
    if s.shadow.length < 16 then p else p.setTile t { p.tile t with ready := false, shadowFull := true }

/-- A column repair is recorded as pending, with the map update that it causes (R62, R503): none in a RETIRED bank, and none beside
one that waits already. -/
def Part.recordRepair (p : Part) (k j : Nat) : Part :=
  let b := p.bank k
  let q := p.setBank k (b.repairCol j)
  if (b.repairCol j).colMap = b.colMap ∨ b.st = .retired ∨ (p.tile (k / 2)).wq.any (fun w => w.kind == .map && w.bank == k % 2) then q
  else q.pushMap k

/-- A column becomes out of range (R99, R503, R504): a pending repair and a place in the slice's column shadow. Without a free spare
column it stays in the shadow for good. -/
def Part.outOfRange (p : Part) (k j : Nat) : Part :=
  let p := p.recordRepair k j
  let b := p.bank k
  (p.setBank k (if b.colPending j then b else { b with calOor := b.calOor.filter (· != j) })).shadowColumn k j

/-! ### Accepting bank operations (R42, R43, R47, R278, R285) -/

/-- The SLOT_PARAMS record at an address (R148). -/
def slotParams (mem : Memory) (a : Nat) : Bytes := memReadN mem a 128

/-- OUTLIER_ROW entry i of a record. -/
def outlierRow (s : Bytes) (i : Nat) : Nat := fld s (68 + 2 * i) 2

/-- The outlier rows of a record. -/
def outlierRows (s : Bytes) : List Nat := (List.range (min (fld s 65 1) 8)).map (outlierRow s)

/-- The failure of a SLOT_PARAMS record, in the order of R278. -/
def paramsFail (s : Bytes) : Option Nat :=
  let n := fld s 65 1
  firstFail [
    (decide (fld s 64 1 ≤ 8 ∧ fld s 90 2 ≤ 3932 ∧ n ≤ 8), stLenRange),
    ((List.range 8).all (fun i => if i < n then decide (outlierRow s i ≤ 511 ∧ (i = 0 ∨ outlierRow s (i - 1) < outlierRow s i)) else true),
      stBadParam),
    ((List.range 8).all (fun i => decide (i < n) || outlierRow s i == 0), stBadParam),
    (zeros s 66 2 && zeros s 92 36, stBadParam)]

/-- R42: the operation is listed for the state. -/
def opAllowed (s : BankState) (op : Nat) : Bool :=
  match s with
  | .empty => op == 0xA0 || op == 0xA2 || op == 0xA4
  | .shallow => op == 0xA0 || op == 0xA1 || op == 0xA2 || op == 0xA4
  | .expired => op == 0xA0 || op == 0xA1 || op == 0xA2 || op == 0xA4
  | .deep => op == 0xA3
  | _ => false

/-- The owner that a write names, as a bank has it (R278). -/
def Bank.named (b : Bank) (m : DieMsg) : Bank := { b with model := par m.payload 0 4, version := par m.payload 4 2, slot := par m.payload 6 2 }

/-- The sections of the slot that a write names (R278), at their present addresses. -/
def Part.opSource (p : Part) (b : Bank) (m : DieMsg) : SlotSrc :=
  p.srcNow (b.named m) ⟨par m.payload 16 8, par m.payload 24 8, par m.payload 32 8, par m.payload 40 8⟩

/-- The SLOT_PARAMS record of the slot that a write names. -/
def Part.opParams (p : Part) (mem : Memory) (b : Bank) (m : DieMsg) : Bytes :=
  p.slotBytes mem (b.named m) 1 (p.opSource b m).params 128

/-- A write (R278): WRITE_SHALLOW, REFRESH or WRITE_DEEP. -/
def isWriteOp (op : Nat) : Bool := op == 0xA0 || op == 0xA1 || op == 0xA2

/-- The SLOT_PARAMS record that the checks of a write read is not verified in the stacks yet: the write waits (R151). -/
def Part.bankOpWaits (p : Part) (b : Bank) (m : DieMsg) : Bool :=
  isWriteOp (msgOpcode m) && p.slotWaits (b.named m) 1 (p.opSource b m).params

/-- The checks of R278 on a bank operation, in order; `params` is the SLOT_PARAMS record that a write names. -/
def bankOpFail (params : Bytes) (b : Bank) (m : DieMsg) : Option Nat :=
  let op := msgOpcode m
  let k := m.payload
  firstFail [
    (opAllowed b.st op, stBankState),
    (op != 0xA1 || (par k 0 4 == b.model && par k 4 2 == b.version && par k 6 2 == b.slot), stBadParam),
    (op != 0xA2 || decide (b.cycles < 10000), stWearLimit)] <|>
  (if isWriteOp op then paramsFail params else none)

/-- The kind of write that an operation starts. -/
def opKind (op : Nat) : WrKind := if op = 0xA0 then .shallow else if op = 0xA1 then .refresh else if op = 0xA2 then .deep else .erase

/-- A bank that has accepted an operation other than RELEASE: next state, epoch and owner (R42, R43); `epochAt` is the instant. -/
def Bank.accepted (b : Bank) (m : DieMsg) (now : Nat) : Bank :=
  let op := msgOpcode m
  let k := m.payload
  let b := { b with
    clear := decide (b.st ≠ .empty), st := if op = 0xA3 then .erasing else if op = 0xA2 then .writingDeep else .writingShallow }
  let b := if op = 0xA1 then b else { b with epoch := (b.epoch + 1) % 65536, epochAt := some now }
  if op = 0xA3 then b else { b with model := par k 0 4, version := par k 4 2, slot := par k 6 2, refreshDue := false }

/-- A RELEASE takes effect (R47): the bank is EMPTY, its range table reads zero, and MVMs that wait are returned. -/
def Part.releaseBank (p : Part) (k : Nat) (m : DieMsg) : Part :=
  let b := p.bank k
  let p := p.setBank k { b with
    st := .empty, model := 0, version := 0, slot := 0, life := 0, ranges := [], releasing := none, cells := [] }
  (p.settleMvms k).bankReply k m stOk

/-- A bank operation at the head of its unit's inbox is taken (R278): returned at once when a check fails, else accepted. -/
def Part.takeBankOp (p : Part) (mem : Memory) (k : Nat) (m : DieMsg) : Part :=
  let t := k / 2
  let b := p.bank k
  let p := p.popInbox (tileDie t) (k % 2048)
  match bankOpFail (p.opParams mem b m) b m with
  | some st => p.bankReply k m st
  | none =>
    let tl := p.tile t
    let mark (x : Mvm) : Mvm := if x.req.bank = k % 2 then { x with due := true } else x
    let p := p.setTile t { tl with queue := tl.queue.map mark }
    if msgOpcode m = 0xA4 then
      let p := p.setBank k { b with epoch := (b.epoch + 1) % 65536, epochAt := some p.now }
      if (p.tile t).mvmPending (k % 2) then p.setBank k { p.bank k with releasing := some m } else p.releaseBank k m
    else
      let w : Wr := { kind := opKind (msgOpcode m), bank := k % 2, msg := some m, row := 0, band := 0, due := 0, clearing := false, completes := none, copy := 6, cls := p.writeCls k, since := 0 }
      let p := p.setBank k (b.accepted m p.now)
      p.setTile t { p.tile t with wq := (p.tile t).wq ++ [w] }

/-- An epoch change of the bank less than 2 µs ago holds back an epoch-changing operation (R285). -/
def Bank.tooSoon (b : Bank) (now : Nat) : Bool :=
  match b.epochAt with
  | none => false
  | some t => decide (now < t + 2000)

/-- WRITE_SHALLOW, REFRESH, WRITE_DEEP, ERASE and RELEASE reach a bank: the operation is taken, or waits under R285, behind
a RELEASE that has not taken effect, or for the shard that its checks read (R151). -/
def Part.bankOp (p : Part) (mem : Memory) (op die unit : Nat) : Part :=
  match p.headCmd die unit op with
  | none => p
  | some m =>
    let b := p.bank (bankOf die unit)
    if b.releasing.isSome || (op != 0xA1 && b.tooSoon p.now) || p.bankOpWaits b m then p else p.takeBankOp mem (bankOf die unit) m

/-- EPOCH_WAIT_END (R285): the operation at the head, held within 2 µs of the previous epoch change, is taken. -/
def Part.epochWaitEnd (p : Part) (mem : Memory) (die unit : Nat) : Part :=
  match p.inbox die unit with
  | [] => p
  | a :: _ =>
    if a.m.cls = 0 ∧ 0xA0 ≤ msgOpcode a.m ∧ msgOpcode a.m ≤ 0xA4 then p.bankOp mem (msgOpcode a.m) die unit else p

/-- RELEASE_TAKE_EFFECT (R47): after the last earlier MVM. -/
def Part.releaseEffect (p : Part) (k : Nat) : Part :=
  match (p.bank k).releasing with
  | none => p
  | some m => if (p.tile (k / 2)).mvmPending (k % 2) then p else p.releaseBank k m

/-! ### Writes of the program drivers -/

/-- Times of the program drivers in ns (R48, R51, R62, R507). -/
def deepRowNs : Nat := 40000
/-- A clearing pass. -/
def clearPassNs : Nat := 16384
/-- Nine erase groups. -/
def eraseNs : Nat := 2250000
/-- A map update. -/
def mapNs : Nat := 290000

/-- The cluster's temperature is above 100 °C (R52). -/
def Part.tileHot (p : Part) (t : Nat) : Bool := isHot (p.cluster (tileCluster t)).temp
/-- The band of a tile's cluster (R49, R55, R56). -/
def Part.tileBand (p : Part) (t : Nat) : Nat := (p.cluster (tileCluster t)).band

/-- Some row of the deep write that the bank holds was programmed in band T3 (R60). -/
def Bank.t3 (b : Bank) : Bool := b.cells.any fun x => x.2.deep && x.2.band == 3

/-- The kind of write waits above 100 °C (R52). -/
def WrKind.defers (w : WrKind) : Bool := w == .deep || w == .erase || w == .blankErase

/-- A bank as a shallow or deep write begins (R70, R99, R101): weight format, residual table and outlier rows of the new
contents; pending column repairs become active; columns with a repair return to the converters. DESIGN CHOICE (log entry 165): sections of a
shard that is gone everywhere read as zeros, as its rows do (R172). -/
def Part.bankBegin (p : Part) (mem : Memory) (b : Bank) (m : DieMsg) : Bank :=
  let src := p.opSource b m
  let s := p.opParams mem b m
  let kept := b.oor.filter fun j => !b.colPending j
  let b := b.activateCols
  let b := { b with
    oor := kept, probed := false, rsh := fld s 64 1, outRows := outlierRows s, sums := [], meas := [],
    src := src, wfmt := par m.payload 8 1, outW := p.slotBytes mem (b.named m) 3 src.outw 4096,
    resid := (List.range (fld s 90 2)).map fun i => leNat (p.slotBytes mem (b.named m) 2 (src.resid + 4 * i) 4) }
  if msgOpcode m = 0xA1 then b else { b with nextRanges := s.take 64 }

/-- A write that is next cannot begin: a parameter, residual table or outlier weight that it loads is not verified in the stacks (R151). -/
def Part.beginWaits (p : Part) (k : Nat) (w : Wr) : Bool :=
  match w.msg with
  | none => false
  | some m =>
    let b := p.bank k
    let src := p.opSource b m
    isWriteOp (msgOpcode m) &&
      (p.slotWaits (b.named m) 1 src.params || p.slotWaits (b.named m) 2 src.resid || p.slotWaits (b.named m) 3 src.outw)

/-- The slice's shadow keeps a bank's columns that are still out of range (R99, R503); a tile that the 17th such column took out of
service returns once a write of the bank has brought the count back to 16. -/
def Part.trimShadow (p : Part) (k : Nat) : Part :=
  let t := k / 2
  let c := tileCluster t
  let s := p.slice c
  let l := s.shadow.filter fun x => x.1 != k || (p.bank k).oor.contains x.2
  let p := p.setSlice c { s with shadow := l }
  let tl := p.tile t
  if tl.shadowFull && decide (l.length ≤ 16) then p.setTile t { tl with shadowFull := false, ready := !tl.convFault } else p

/-- Columns that bring-up could not calibrate are out of range from the bank's next write on (R504). -/
def Part.calRepairs (p : Part) (k : Nat) : Part := (p.bank k).calOor.foldl (fun q j => q.shadowColumn k j) p

/-- The head of the tile's queue of writes starts (R46, R48, R51, R53, R57, R62, R507). -/
def Part.beginWrite (p : Part) (mem : Memory) (t : Nat) (w : Wr) (rest : List Wr) : Part :=
  let k := 2 * t + w.bank
  let b := p.bank k
  let now := p.now
  let put (p : Part) (w : Wr) (at_ : Nat) : Part :=
    p.setTile t { p.tile t with wr := some { w with band := p.tileBand t, since := p.now }, wq := rest, buf := [], rowAt := at_ }
  match w.kind, w.msg with
  | .map, _ =>
    let row := b.updateRow
    let p := p.setBank k (if row = 6 then { b with copy6 := erasedCopy } else { b with copy7 := erasedCopy })
    put p { w with due := now + mapNs, copy := row } now
  | .deep, some m =>
    let p := ((p.setBank k (p.bankBegin mem b m)).trimShadow k).calRepairs k
    put p { w with clearing := b.clear, due := now + (if b.clear then clearPassNs else deepRowNs) } now
  | .shallow, some m =>
    let p := ((p.setBank k { p.bankBegin mem b m with life := 600000 }).trimShadow k).calRepairs k
    put p w now
  | .refresh, some m =>
    let p := ((p.setBank k { p.bankBegin mem b m with life := 600000 }).trimShadow k).calRepairs k
    put p w now
  | _, _ => put p { w with due := now + eraseNs } now

/-- The entry of a tile's queue of writes that is next: the head, or the first map update behind a head that heat defers or a halt
holds, since neither delays a map update (R45, R52, R379). -/
def Part.nextWrite (p : Part) (t : Nat) : Option (Wr × List Wr) :=
  match (p.tile t).wq with
  | [] => none
  | w :: rest =>
    if (w.kind.defers && p.tileHot t) || (p.boot.halt.isSome && w.kind != .map) then takeFirst (fun x => x.kind == .map) (w :: rest)
    else some (w, rest)

/-- TILE_WRITE_START and HOT_DEFER_END (R45, R46, R52, R379): the next entry of the queue starts when no other runs and no earlier MVM
of its bank is left. -/
def Part.writeStart (p : Part) (mem : Memory) (deferredOnly : Bool) (t : Nat) : Part :=
  match (p.tile t).wr, p.nextWrite t with
  | none, some (w, rest) =>
    if deferredOnly && !w.kind.defers then p
    else if w.kind != .map && ((p.tile t).mvmPending w.bank || p.beginWaits (2 * t + w.bank) w) then p
    else
      let q := p.beginWrite mem t w rest
      q.touchShards (q.bank (2 * t + w.bank)).src.params
  | _, _ => p

/-- Rows of a shard that is gone everywhere are written as zero codes (R172). -/
def Part.streamRow (p : Part) (mem : Memory) (k r : Nat) : Bytes :=
  p.slotBytes mem (p.bank k) 0 ((p.srcNow (p.bank k) (p.bank k).src).rows + 128 * r) 128

/-- The shard with a bank's CELL_ROWS has been read now (R163). -/
def Part.touchRows (p : Part) (k : Nat) : Part := p.touchShards (p.srcNow (p.bank k) (p.bank k).src).rows

/-- The shallow row that was last taken from the buffer is in the cells, with the waveform of the band at its start (R53, R55); the probe
sums have its weights (R96). `w.row` is the next row. -/
def Part.rowProgrammed (p : Part) (t : Nat) (w : Wr) (row : Bytes) : Part :=
  let k := 2 * t + w.bank
  let p := p.programRow k (w.row - 1) false w.band row
  p.setBank k { p.bank k with sums := addProbeRow (p.bank k).wfmt (w.row - 1) row (p.bank k).sums }

/-- SHALLOW_ROW_ARRIVE (R53 to R55): the next row reaches the row write buffer, which holds two rows: the row before it, which has begun,
has gone into the cells. A row that is late idles the drivers in 8 ns steps and is counted in WRITE_STALL. DESIGN CHOICE (log entry
153): row 0 begins when it arrives, and counts no stall however long the write has waited for it. -/
def Part.rowArrive (p : Part) (mem : Memory) (t : Nat) : Part :=
  let tl := p.tile t
  match tl.wr with
  | none => p
  | some w =>
    if (w.kind != .shallow && w.kind != .refresh) || decide (512 ≤ w.row) || decide (p.now + 96 < tl.rowAt) ||
        p.rowsWait (2 * t + w.bank) then p
    else
      let k := 2 * t + w.bank
      let late := decide (0 < w.row) && decide (tl.rowAt < p.now)
      let start := if w.row = 0 then max tl.rowAt p.now else if late then tl.rowAt + 8 * cdiv (p.now - tl.rowAt) 8 else tl.rowAt
      let row := p.streamRow mem k w.row
      let p := p.touchRows k
      let p := if 0 < w.row then p.rowProgrammed t w (nth [] tl.buf (tl.buf.length - 1)) else p
      let p := if late then p.bump (tileStatusAddr t) 56 8 1 else p
      p.setTile t { p.tile t with
        wr := some { w with row := w.row + 1, band := p.tileBand t }, rowAt := start + 96, buf := (tl.buf ++ [row]).drop (tl.buf.length - 1) }

/-- The probe MVMs of R97, with the bank's epoch, no outlier rows, and zero detection in force; `wake` says that the cluster was
clock-gated, which delays the first (R38). -/
def Part.probeMvm (p : Part) (k : Nat) (wake : Bool) (n : Nat) : Mvm :=
  let b := p.bank k
  { req := { tile := k / 2, bank := k % 2, epoch := b.epoch, width := .a8, mask := [], job := 0, block := 0, pos := 0,
             cls := (p.slice (tileCluster (k / 2))).lastCls, split := 0x0F, src := b.src,
             fmt := b.wfmt, fb := false, await := false },
    kind := .probe n, blocks := 0xFF, half := 0, due := false, wake := wake && n == 0,
    acts := (List.range 512).map (probeAct n), side := [] }

/-- Issue the eight probe MVMs of a load probe with the probe sums given: they queue behind the MVMs that wait (R97). -/
def Part.issueProbes (p : Part) (k : Nat) (wake : Bool) (sums : List (Nat × Int)) : Part :=
  let p := p.setBank k { p.bank k with sums := sums, meas := [], probing := true, probeD := (p.bank k).d }
  let t := k / 2
  p.setTile t { p.tile t with queue := (p.tile t).queue ++ (List.range 8).map (p.probeMvm k wake) }

/-- A write completes: D is 1.0 and A is 0.0, the range table takes effect, MVMs that waited are settled, the operation is
answered, and a load probe is issued, in a cluster that the write kept awake (R37, R42, R70, R95, R97). -/
def Part.writeDone (p : Part) (k : Nat) (st : BankState) (msg : Option DieMsg) (newRanges : Bool) : Part :=
  let b := p.bank k
  let p := p.setBank k { b with st := st, d := 0x4000, a := 0, probed := false, writtenAt := p.now, ranges := if newRanges then b.nextRanges else b.ranges }
  ((p.settleMvms k).bankReplyOpt k msg stOk).issueProbes k false (p.bank k).sums

/-- SHALLOW_WRITE_COMPLETE (R53). A bank written from a shard that is gone everywhere is sent RELEASE (R172). -/
def Part.shallowDone (p : Part) (t : Nat) : Part :=
  let tl := p.tile t
  match tl.wr with
  | none => p
  | some w =>
    if (w.kind == .shallow || w.kind == .refresh) && decide (w.row = 512) && decide (tl.rowAt ≤ p.now) then
      let k := 2 * t + w.bank
      let p := (p.chargeWrite t).rowProgrammed t w (nth [] tl.buf (tl.buf.length - 1))
      let p := (p.setTile t { p.tile t with wr := none, buf := [] }).writeDone k .shallow w.msg (w.kind == .shallow)
      if p.rowsLost k then p.bankCommand 0xA4 k else p
    else p

/-- DEEP_CLEAR_PASS_END (R507): row 0 programming begins. -/
def Part.clearPassEnd (p : Part) (t : Nat) : Part :=
  let tl := p.tile t
  match tl.wr with
  | none => p
  | some w =>
    if w.kind == .deep && w.clearing && decide (w.due ≤ p.now) then
      let k := 2 * t + w.bank
      let p := p.setBank k { p.bank k with cells := [] }
      p.setTile t { tl with wr := some { w with clearing := false, band := p.tileBand t, due := w.due + deepRowNs } }
    else p

/-- The map update that follows a deep write, an erase or a retirement begins (R50, R51, R62). -/
def Part.thenMap (p : Part) (t : Nat) (w : Wr) (done : Option WrKind) : Part :=
  let k := 2 * t + w.bank
  let p := p.chargeWrite t
  let b := p.bank k
  let row := b.updateRow
  let p := p.setBank k (if row = 6 then { b with copy6 := erasedCopy } else { b with copy7 := erasedCopy })
  p.setTile t { p.tile t with wr := some { w with kind := .map, due := p.now + mapNs, completes := done, copy := row, since := p.now } }

/-- A bank becomes RETIRED in a deep write (R50): epoch + 1, WRITE_FAILED, and a map update that records DEPTH 0x0F. -/
def Part.retireBank (p : Part) (t : Nat) (w : Wr) : Part :=
  let k := 2 * t + w.bank
  let b := p.bank k
  let p := p.setBank k { b with
    st := .retired, epoch := (b.epoch + 1) % 65536, epochAt := some p.now, model := 0, version := 0, slot := 0, ranges := [] }
  ((p.settleMvms k).bankReplyOpt k w.msg stWriteFailed).thenMap t { w with msg := none } none

/-- DEEP_ROW_VERIFY (R48 to R50, R60, R96): the row's 16 iterations end; the next row or the rewrite takes the band at its start, and the
probe sums take in a row once. A row that fails is written again into the lowest-numbered
free spare row; with none free the bank retires. -/
def Part.deepRow (p : Part) (mem : Memory) (t : Nat) (pass : Bool) : Part :=
  let tl := p.tile t
  match tl.wr with
  | none => p
  | some w =>
    if w.kind == .deep && !w.clearing && decide (w.due ≤ p.now) &&
        !p.rowsWait (2 * t + w.bank) then
      let k := 2 * t + w.bank
      let row := p.streamRow mem k w.row
      let p := (p.touchRows k).programRow k w.row true w.band row
      let next : Wr := { w with band := p.tileBand t, due := w.due + deepRowNs }
      if pass then
        let p := p.setBank k { p.bank k with sums := addProbeRow (p.bank k).wfmt w.row row (p.bank k).sums }
        if w.row < 511 then p.setTile t { tl with wr := some { next with row := w.row + 1 } } else p.thenMap t w (some .deep)
      else
        match (p.bank k).freeRow with
        | none => p.retireBank t w
        | some i =>
          let b := p.bank k
          let p := p.setBank k { b with rowMap := setNth (mapEntries 6 b.rowMap) i (0x8000 + w.row) }
          (p.bump (tileStatusAddr t) 48 8 1).setTile t { tl with wr := some next }
    else p

/-- ERASE_DONE (R51): the nine groups are clear and the map update follows. -/
def Part.eraseDone (p : Part) (t : Nat) : Part :=
  match (p.tile t).wr with
  | none => p
  | some w =>
    if (w.kind == .erase || w.kind == .blankErase) && decide (w.due ≤ p.now) then
      let k := 2 * t + w.bank
      (p.setBank k { p.bank k with cells := [] }).thenMap t w (some w.kind)
    else p

/-- MAP_LOADED: both banks have loaded their maps and finished their blank checks (R64). -/
def Part.checkMapLoaded (p : Part) (t : Nat) : Part :=
  if (p.bank (2 * t)).loaded && (p.bank (2 * t + 1)).loaded then p.setTile t { p.tile t with mapLoaded := true } else p

/-- MAP_UPDATE_COMPLETE: a map update records the bank (R62) and completes what needed it. DESIGN CHOICE (log entry 150): the values
recorded are those that the bank holds when the update completes, not when it began. -/
def Part.mapDone (p : Part) (t : Nat) : Part :=
  let tl := p.tile t
  match tl.wr with
  | none => p
  | some w =>
    if w.kind == .map && decide (w.due ≤ p.now) then
      let k := 2 * t + w.bank
      let p := p.chargeWrite t
      let p := p.setTile t { tl with wr := none }
      let b := p.bank k
      let begun := !(p.tile t).wq.any fun x => x.kind == .erase && x.bank == w.bank
      match w.completes with
      | some .deep =>
        let p := p.setBank k ({ b with
          st := .deep, cycles := min (b.cycles + (if b.t3 then 2 else 1)) 65535, age := 0, alerted := false, life := 0 }.mapped begun w.copy)
        p.writeDone k .deep w.msg true
      | some .erase =>
        let p := p.setBank k ({ b with st := .empty, model := 0, version := 0, slot := 0, ranges := [] }.mapped begun w.copy)
        (p.settleMvms k).bankReplyOpt k w.msg stOk
      | some .blankErase =>
        let p := p.setBank k ({ b with st := .empty, loaded := true }.mapped begun w.copy)
        (p.settleMvms k).checkMapLoaded t
      | _ => p.setBank k (b.mapped begun w.copy)
    else p

/-! ### Retention (R57 to R59, R62) -/

/-- The highest temperature that a cluster held in a millisecond of part time. -/
def Cluster.tempOf (c : Cluster) (ms : Nat) : Int :=
  if c.ms = ms then c.msTemp else if c.ms = ms + 1 then c.prevTemp else c.temp

/-- LIFE lost per millisecond (R57). -/
def lifeRate (t : Int) : Nat :=
  if isHot t then 24 else match bandOf t with
    | 0 => 1
    | 1 => 2
    | 2 => 5
    | _ => 12

/-- DEEP_AGE added per hour, in 1/20 h (R58): band T2 is divided at 85.00 °C. -/
def ageRate (t : Int) : Nat :=
  if isHot t then 160 else match bandOf t with
    | 0 => 1
    | 1 => 4
    | 2 => if t ≤ 340 then 20 else 30
    | _ => 80

/-- Change every listed bank of a cluster. -/
def Part.mapBanks (p : Part) (c : Nat) (f : Bank → Bank) : Part :=
  p.an.banks.foldl (fun q x => if x.1 / 128 = c then q.setBank x.1 (f (q.bank x.1)) else q) p

/-- LIFE_TICK (R57): once at each whole millisecond of part time, for the banks of a cluster. -/
def Part.lifeTick (p : Part) (c : Nat) : Part :=
  let ms := p.now / 1000000
  let k := p.cluster c
  if ms ≤ k.lifeMs then p
  else
    (p.setCluster c { k with lifeMs := ms }).mapBanks c fun b =>
      if b.st = .shallow ∨ b.st = .writingShallow then { b with life := b.life - lifeRate (k.tempOf (ms - 1)) } else b

/-- BANK_EXPIRE (R57): LIFE is 0 and the bank is SHALLOW. -/
def Part.bankExpire (p : Part) (k : Nat) : Part :=
  let b := p.bank k
  if b.st = .shallow ∧ b.life = 0 then (p.setBank k { b with st := .expired }).settleMvms k else p

/-- DEEP_AGE_TICK (R58): once at each whole millisecond of part time, for the DEEP banks of a cluster. -/
def Part.ageTick (p : Part) (c : Nat) : Part :=
  let ms := p.now / 1000000
  let k := p.cluster c
  if ms ≤ k.ageMs then p
  else
    (p.setCluster c { k with ageMs := ms }).mapBanks c fun b =>
      if b.st = .deep then { b with age := b.age + ageRate (k.tempOf (ms - 1)) } else b

/-- AGE_ALERT reads 1 (R59). -/
def Bank.ageAlert (b : Bank) : Bool := decide (87600 ≤ b.ageHours)

/-- AGE_ALERT (R59): an event is raised once, on a firmware line that the manual does not number. DESIGN CHOICE (log entry 154): its data
are the bank's number in the part, in 4 bytes. -/
def Part.ageAlert (p : Part) (k : Nat) : Part :=
  if (p.bank k).st = .deep ∧ (p.bank k).ageAlert ∧ !(p.bank k).alerted then
    let (w, p) := (p.setBank k { p.bank k with alerted := true }).free
    p.eventFrom (12 + k / 2048) (w.toNat % 256) (leBytes 4 k)
  else p

/-- DEEP_AGE_MILESTONE (R62): DEEP_AGE reaches a whole multiple of 1,000 h that the map does not record yet. -/
def Part.ageMilestone (p : Part) (k : Nat) : Part :=
  let b := p.bank k
  if b.st = .deep ∧ fld b.mapCopy 16 4 / 1000 < b.ageHours / 1000 ∧
      !(p.tile (k / 2)).wq.any (fun w => w.kind == .map && w.bank == k % 2) then p.pushMap k else p

/-! ### Blank checks (R64) -/

/-- BLANK_CHECK_COMPLETE (R64): 52 µs after the maps loaded, a bank whose DEPTH is erased is EMPTY, or is erased first when its
cells are not blank. -/
def Part.blankCheck (p : Part) (k : Nat) : Part :=
  let b := p.bank k
  let t := k / 2
  match (p.acd (t / 1024)).mapAt with
  | none => p
  | some at_ =>
    if b.loaded || b.st != .erasing || decide (p.now < at_ + 52000) ||
        (p.tile t).wq.any (fun w => w.kind == .blankErase && w.bank == k % 2) ||
        (match (p.tile t).wr with | none => false | some w => w.bank == k % 2) then p
    else if b.cells.isEmpty then ((p.setBank k { b with st := .empty, loaded := true }).settleMvms k).checkMapLoaded t
    else
      p.setTile t { p.tile t with wq := (p.tile t).wq ++
        [{ kind := .blankErase, bank := k % 2, msg := none, row := 0, band := 0, due := 0, clearing := false, completes := none, copy := 6, cls := p.writeCls k, since := 0 }] }

/-! ### The commands -/

/-- A tile and a bank that the part has. -/
def tileOk (t : Nat) : Bool := decide (t < 8192)
/-- A bank of the part. -/
def bankOk (k : Nat) : Bool := decide (k < 16384)
/-- A tile-bank unit of an ACD. -/
def bankUnit (die unit : Nat) : Bool := decide (12 ≤ die ∧ die < 20 ∧ unit < 2048)

/-- A command that acts on a unit of an ACD and reads the stacks. -/
def State.acdMem (s : State) (t : Nat) (ok : Bool) (f : Memory → Part → Part) : Out := s.live (3 + t / 1024) ok (f s.mem)

/-- WRITE_SHALLOW (R42). -/
def execWriteShallow (die unit : Nat) (s : State) : Out :=
  s.live (dieDomain die) (bankUnit die unit) fun p => p.bankOp s.mem 0xA0 die unit

/-- REFRESH (R42). -/
def execRefresh (die unit : Nat) (s : State) : Out :=
  s.live (dieDomain die) (bankUnit die unit) fun p => p.bankOp s.mem 0xA1 die unit

/-- WRITE_DEEP (R42). -/
def execWriteDeep (die unit : Nat) (s : State) : Out :=
  s.live (dieDomain die) (bankUnit die unit) fun p => p.bankOp s.mem 0xA2 die unit

/-- ERASE (R42). -/
def execErase (die unit : Nat) (s : State) : Out :=
  s.live (dieDomain die) (bankUnit die unit) fun p => p.bankOp s.mem 0xA3 die unit

/-- RELEASE (R47). -/
def execRelease (die unit : Nat) (s : State) : Out :=
  s.live (dieDomain die) (bankUnit die unit) fun p => p.bankOp s.mem 0xA4 die unit

/-- RELEASE_TAKE_EFFECT (R47). -/
def execReleaseTakeEffect (k : Nat) (s : State) : Out := s.live (3 + k / 2048) (bankOk k) fun p => p.releaseEffect k

/-- EPOCH_WAIT_END (R285). -/
def execEpochWaitEnd (die unit : Nat) (s : State) : Out :=
  s.live (dieDomain die) (bankUnit die unit) fun p => p.epochWaitEnd s.mem die unit

/-- TILE_WRITE_START (R46). -/
def execTileWriteStart (t : Nat) (s : State) : Out := s.acdMem t (tileOk t) fun m p => (p.writeStart m false t).readiness

/-- HOT_DEFER_END (R52). -/
def execHotDeferEnd (t : Nat) (s : State) : Out := s.acdMem t (tileOk t) fun m p => (p.writeStart m true t).readiness

/-- SHALLOW_ROW_ARRIVE (R54). -/
def execShallowRowArrive (t : Nat) (s : State) : Out := s.acdMem t (tileOk t) fun m p => p.rowArrive m t

/-- SHALLOW_WRITE_COMPLETE (R53). -/
def execShallowWriteComplete (t : Nat) (s : State) : Out := s.acdMem t (tileOk t) fun _ p => p.shallowDone t

/-- DEEP_CLEAR_PASS_END (R507). -/
def execDeepClearPassEnd (t : Nat) (s : State) : Out := s.acdMem t (tileOk t) fun _ p => p.clearPassEnd t

/-- DEEP_ROW_VERIFY (R48). -/
def execDeepRowVerify (t : Nat) (pass : Bool) (s : State) : Out := s.acdMem t (tileOk t) fun m p => p.deepRow m t pass

/-- ERASE_DONE (R51). -/
def execEraseDone (t : Nat) (s : State) : Out := s.acdMem t (tileOk t) fun _ p => p.eraseDone t

/-- MAP_UPDATE_COMPLETE (R62). -/
def execMapUpdateComplete (t : Nat) (s : State) : Out := s.acdMem t (tileOk t) fun _ p => p.mapDone t

/-- LIFE_TICK (R57). -/
def execLifeTick (c : Nat) (s : State) : Out := s.live (3 + c / 16) (decide (c < 128)) fun p => p.lifeTick c

/-- BANK_EXPIRE (R57). -/
def execBankExpire (k : Nat) (s : State) : Out := s.live (3 + k / 2048) (bankOk k) fun p => p.bankExpire k

/-- DEEP_AGE_TICK (R58). -/
def execDeepAgeTick (c : Nat) (s : State) : Out := s.live (3 + c / 16) (decide (c < 128)) fun p => p.ageTick c

/-- AGE_ALERT (R59). -/
def execAgeAlert (k : Nat) (s : State) : Out := s.live (3 + k / 2048) (bankOk k) fun p => p.ageAlert k

/-- DEEP_AGE_MILESTONE (R62). -/
def execDeepAgeMilestone (k : Nat) (s : State) : Out := s.live (3 + k / 2048) (bankOk k) fun p => p.ageMilestone k

/-- BLANK_CHECK_COMPLETE (R64). -/
def execBlankCheckComplete (k : Nat) (s : State) : Out := s.live (3 + k / 2048) (bankOk k) fun p => p.blankCheck k

end Sys2Proof.Machine
end

