-- ==== Sys2Proof/Machine/Converters.lean ====
section
/-! DEFINITION. Converters: codes and clipping, calibration commands, and capture memory (R67 to R88, R501, R502).
Analogue inputs are integers in units of 2^-16 unit currents: every boundary of R69 and R76 is a multiple of it. -/
namespace Sys2Proof.Machine

/-! ### Codes (R69, R76, R501) -/

/-- Full range N of a range code, in unit currents (R69). -/
def rangeN (r : Nat) : Nat := 64 * 2 ^ r

/-- The code and the clip bit of an input at a range. An input of exactly zero gives 0 or -1: the free bit `z` decides (R501). -/
def convert (r : Nat) (x : Int) (z : Bool) : Int × Bool :=
  let top : Int := rangeN r * 65536
  if top < x then (127, true)
  else if x < -top then (-128, true)
  else if x = top then (127, false)
  else if x = 0 then (if z then -1 else 0, false)
  else (x * 128 / top, false)

/-- The value of a code at a range, in unit currents: (c + 0.5) * N / 128. -/
def codeValue (r : Nat) (c : Int) : Q := Q.of ((2 * c + 1) * rangeN r) 256

/-! ### Capture memory (R85 to R88, R502) -/

/-- CAP_MODE as the part takes it: 3 is off. -/
def capMode (v : Nat) : Nat := if v = 3 then 0 else v

/-- An empty ACC word. -/
def accEmpty : Nat := 0x7F * 2 ^ 36 + 0x80 * 2 ^ 44

/-- An ACC word with one more code (R85); none when its COUNT is 4,095. -/
def accAdd (w : Nat) (code : Int) (clip : Bool) : Option Nat :=
  let count := w / 2 ^ 24 % 4096
  if count = 4095 then none
  else
    let mn := min (sext 8 (w / 2 ^ 36)) code
    let mx := max (sext 8 (w / 2 ^ 44)) code
    some (toBits 24 (sext 24 w + code) + (count + 1) * 2 ^ 24 + toBits 8 mn * 2 ^ 36 + toBits 8 mx * 2 ^ 44 +
      satAdd 8 (w / 2 ^ 52 % 256) (bit clip) * 2 ^ 52)

/-- One conversion that may be captured: converter, parity of its column, calibration or MVM, code, clip, its queue entry's
further bits, the start of its slot (R86), and the instant at which its column was sampled, 5.6 ns into the phase, rounded down (R35,
R87). -/
structure Conversion where
  conv : Nat
  parity : Nat
  cal : Bool
  code : Int
  clip : Bool
  extra : Nat
  at_ : Nat
  sampled : Nat
deriving DecidableEq, Repr

/-- Bits of a QUEUE entry that do not depend on its kind (R86). -/
def Conversion.entry (c : Conversion) : Nat :=
  toBits 8 c.code + 2 ^ 8 * bit c.clip + 2 ^ 9 * bit c.cal + 2 ^ 16 * c.conv + c.extra

/-- CONV_STATUS of a tile. -/
def convStatusAddr (t : Nat) : Nat := aConvStatus (tileDie t) (t % 1024)
/-- CONV_CFG of a tile. -/
def convCfgAddr (t : Nat) : Nat := aConvCfg (tileDie t) (t % 1024)

/-- The conversion is selected by CAP_SRC, CAP_PAR and, in QUEUE mode, CAP_SEL (R85, R86, R502). -/
def Part.selected (p : Part) (t : Nat) (c : Conversion) : Bool :=
  let src := p.regFld (convCfgAddr t) 2 2
  let cp := p.regFld (convCfgAddr t) 4 2
  (if c.cal then src.testBit 0 else src.testBit 1) && (cp == 0 || cp == 3 || cp == c.parity + 1) &&
  ((p.tile t).cap.mode == 1 || c.cal || c.conv == p.regFld (convCfgAddr t) 6 9)

/-- Capture one conversion (R85, R86): codes sampled before the last emptying are discarded (R87). -/
def Part.capture (p : Part) (t : Nat) (c : Conversion) : Part :=
  let tl := p.tile t
  let k := tl.cap
  if k.mode = 0 ∨ c.sampled < k.since ∨ !p.selected t c then p
  else if k.mode = 1 then
    match accAdd (mget accEmpty k.acc c.conv) c.code c.clip with
    | none => p.bump (convStatusAddr t) 48 16 1
    | some w => p.setTile t { tl with cap := { k with acc := mset accEmpty k.acc c.conv w } }
  else if k.count = 512 then p.bump (convStatusAddr t) 32 16 1
  else
    let slot := (c.at_ - (p.acd (t / 1024)).resetAt) / 4 % 2 ^ 21
    p.setTile t { tl with cap := { k with ring := mset 0 k.ring k.wr (c.entry + slot * 2 ^ 43), wr := (k.wr + 1) % 512, count := k.count + 1 } }

/-- Capture a list of conversions in order. -/
def Part.captureAll (p : Part) (t : Nat) : List Conversion → Part
  | [] => p
  | c :: cs => (p.capture t c).captureAll t cs

/-- The next array phase boundary after an instant. -/
def nextPhase (t : Nat) : Nat := (t / 8 + 1) * 8

/-- CAP_CLEAR (R87): emptying takes effect at the next array phase boundary. -/
def Part.capClear (p : Part) (t : Nat) : Part :=
  p.setTile t { p.tile t with cap := { (p.tile t).cap with emptyAt := some (nextPhase p.now) } }

/-- CONV_CFG (R87): the capture fields are set; a change of CAP_MODE empties the memory. -/
def Part.convCfg (p : Part) (t v : Nat) : Part :=
  let old := p.regFld (convCfgAddr t) 0 2
  let p := p.regSet (convCfgAddr t) (BitVec.ofNat 64 (v % 2 ^ 15))
  if old = v % 4 then p else p.capClear t

/-- CAPTURE_EMPTY (R87): at the boundary the memory is empty in its new mode. -/
def Part.captureEmpty (p : Part) (t : Nat) : Part :=
  match (p.tile t).cap.emptyAt with
  | none => p
  | some b =>
    if b ≤ p.now then
      p.setTile t { p.tile t with cap := { Cap.reset with mode := capMode (p.regFld (convCfgAddr t) 0 2), since := b } }
    else p

/-- Set CONV_STATUS.CMD_ERR. -/
def Part.cmdErr (p : Part) (t : Nat) : Part := p.bump (convStatusAddr t) 1 1 1

/-- CONV_QUEUE (R88): a write of RD_PTR frees entries, or is discarded with CMD_ERR. -/
def Part.convQueue (p : Part) (t rd : Nat) : Part :=
  let tl := p.tile t
  let f := (rd % 512 + 512 - tl.cap.rd) % 512
  if tl.cap.count < f then p.cmdErr t
  else p.setTile t { tl with cap := { tl.cap with rd := rd % 512, count := tl.cap.count - f } }

/-! ### Calibration commands (R79 to R83, R279) -/

/-- DAC_CODE. -/
def calDac (w : Nat) : Int := sext 10 w
/-- RANGE. -/
def calRange (w : Nat) : Nat := w / 2 ^ 10 % 4
/-- POINT: the integrator point. -/
def calInteg (w : Nat) : Bool := w.testBit 12
/-- TARGET: all 260 converters. -/
def calAll (w : Nat) : Bool := w.testBit 13
/-- PARITY, which a converter-point calibration does not have (R502). -/
def calParity (w : Nat) : Nat := if calInteg w then w / 2 ^ 14 % 2 else 0
/-- OVR. -/
def calOvr (w : Nat) : Bool := w.testBit 15
/-- CONV_IDX. -/
def calIdx (w : Nat) : Nat := w / 2 ^ 16 % 512
/-- BANK, zero at the converter point. -/
def calBank (w : Nat) : Nat := if calInteg w then w / 2 ^ 25 % 2 else 0
/-- REPEAT. -/
def calRepeat (w : Nat) : Nat := w / 2 ^ 32 % 65536

/-- The injection of R79 in units of 2^-16 unit currents. -/
def calInject (w : Nat) : Int := calDac w * (rangeN (calRange w) * 128) * (if calOvr w then 2 else 1)

/-- The first failure of a calibration command (R80), or none. -/
def calFail (w : Nat) (busy : Bool) : Option Nat :=
  firstFail [(calRepeat w != 0xFFFF, stLenRange), (calAll w || decide (calIdx w ≤ 259), stBadParam), (!busy, stBusy)]

/-- Phases of an MVM (R35). -/
def widthPhases (w : Width) : Nat :=
  match w with
  | .a8 => 8
  | .a4 => 4

/-- Phases that an MVM occupies: a half of a split repeat with every block zero costs none (R111). -/
def MvmRun.phases (r : MvmRun) : Nat := if r.m.half ≠ 0 ∧ r.driven = 0 then 0 else widthPhases r.m.req.width

/-- The phases of a calibration command from `start` that collide with an MVM (R81). -/
def collisions (start phases : Nat) (r : MvmRun) : List Nat :=
  (List.range phases).filter fun j => decide (r.start ≤ start + 8 * j ∧ start + 8 * j < r.start + 8 * r.phases)

/-- A calibration command that passed its checks starts at the next phase boundary (R80); a repeat count of 0 performs
nothing. -/
def Part.calStart (p : Part) (t w : Nat) (msg : Option DieMsg) : Part :=
  let s := nextPhase p.now
  let drops := (p.tile t).runs.flatMap (collisions s (calRepeat w))
  p.setTile t { p.tile t with
    cal := some { word := w, start := s, band := p.tileBand t, phases := calRepeat w, drops := drops, counted := 0, msg := msg } }

/-- Drops of phases that have begun and that CONV_DROP does not count yet (R81). -/
def CalRun.uncounted (c : CalRun) (now : Nat) : Nat := (c.drops.filter fun j => decide (c.start + 8 * j ≤ now)).length - c.counted

/-- Count the drops up to now in CONV_DROP (R81, R82): a phase that an abort keeps from running is never counted. -/
def Part.countDrops (p : Part) (t : Nat) : Part :=
  match (p.tile t).cal with
  | none => p
  | some c =>
    let n := c.uncounted p.now
    let w := p.regGet (convStatusAddr t)
    (p.setTile t { p.tile t with cal := some { c with counted := c.counted + n } }).regSet (convStatusAddr t)
      (setBits w 16 16 (satAdd 16 (getBits w 16 16) n))

/-- CAL_BUSY. -/
def Tile.calBusy (t : Tile) : Bool := t.cal.isSome

/-- CAL_CMD (R279): the calibration unit of a tile takes the message at its head. -/
def Part.calCmd (p : Part) (die unit : Nat) : Part :=
  match p.headCmd die unit 0xB0 with
  | none => p
  | some m =>
    let t := (die - 12) * 1024 + (unit - 0x800)
    let w := par m.payload 0 8
    let p := p.popInbox die unit
    match calFail w (p.tile t).calBusy with
    | some st => p.answer die m 0 st []
    | none => if calRepeat w = 0 then p.answer die m 0 stOk [] else p.calStart t w (some m)

/-- SERVICE of a tile's cluster. -/
def Part.tileService (p : Part) (t : Nat) : Bool := (p.cluster (tileCluster t)).service

/-- A write by the host is discarded while the tile's cluster is in service (R83). -/
def Part.tileWritable (p : Part) (by_ : Accessor) (t : Nat) : Bool := !(by_ == .host && p.tileService t)

/-- CONV_CAL_CMD (R80): a register write starts a calibration command or is discarded with CMD_ERR. -/
def Part.convCalCmd (p : Part) (t w : Nat) : Part :=
  match calFail w (p.tile t).calBusy with
  | some _ => p.cmdErr t
  | none => if calRepeat w = 0 then p else p.calStart t w none

/-- CAL_ABORT (R82): the command ends at the end of its current phase; phases that are not run are not drops. -/
def Part.calAbort (p : Part) (t : Nat) : Part :=
  match (p.tile t).cal with
  | none => p
  | some c =>
    let n := min c.phases (if p.now < c.start then 0 else (p.now - c.start) / 8 + 1)
    p.setTile t { p.tile t with cal := some { c with phases := n, drops := c.drops.filter fun j => decide (j < n) } }

/-- The conversions of one calibration phase: every targeted converter converts the injection plus the deviation of its input
path, in its even slot (R79, R80); reference converters 256 to 259 stand at range ±512 (R71). `tick` numbers the free values. -/
def calPhase (c : CalRun) (j tick : Nat) (dev : List Int) : List Conversion :=
  let w := c.word
  let ks := if calAll w then List.range 260 else [calIdx w]
  ks.map fun k =>
    let range := if 256 ≤ k then 3 else calRange w
    let (code, clip) := convert range (calInject w + nth 0 dev k) ((Config.freeValue (tick + k)).getLsbD 0)
    { conv := k, parity := calParity w, cal := true, code := code, clip := clip,
      extra := 2 ^ 10 * bit (calInteg w) + 2 ^ 11 * range + 2 ^ 25 * calParity w + 2 ^ 26 * calBank w +
        2 ^ 32 * (w % 1024) + 2 ^ 42 * bit (calOvr w),
      at_ := c.start + 8 * j + 6, sampled := c.start + 8 * j + 5 }

/-- The conversions of a calibration command, dropped phases left out (R81). -/
def calConversions (c : CalRun) (tick : Nat) (devs : List (List Int)) : List Conversion :=
  (List.range c.phases).flatMap fun j => if c.drops.contains j then [] else calPhase c j (tick + 260 * j) (nth [] devs j)

/-! ### The commands -/

/-- CAL_CMD (R279). -/
def execCalCmd (die unit : Nat) (s : State) : Out :=
  s.live (dieDomain die) (decide (12 ≤ die ∧ die < 20 ∧ 0x800 ≤ unit ∧ unit < 0xC00)) fun p => p.calCmd die unit

/-- CONV_CAL_CMD (R80, R83). -/
def execConvCalCmd (by_ : Accessor) (t w : Nat) (s : State) : Out :=
  s.live (3 + t / 1024) (tileOk t) fun p => if p.tileWritable by_ t then p.convCalCmd t w else p

/-- CAL_ABORT (R82, R83). -/
def execCalAbort (by_ : Accessor) (t : Nat) (s : State) : Out :=
  s.live (3 + t / 1024) (tileOk t) fun p => if p.tileWritable by_ t then p.calAbort t else p

/-- CAP_CLEAR (R83, R87). -/
def execCapClear (by_ : Accessor) (t : Nat) (s : State) : Out :=
  s.live (3 + t / 1024) (tileOk t) fun p => if p.tileWritable by_ t then p.capClear t else p

/-- CONV_CFG (R83, R87). -/
def execConvCfg (by_ : Accessor) (t v : Nat) (s : State) : Out :=
  s.live (3 + t / 1024) (tileOk t) fun p => if p.tileWritable by_ t then p.convCfg t v else p

/-- CAPTURE_EMPTY (R87). -/
def execCaptureEmpty (t : Nat) (s : State) : Out := s.live (3 + t / 1024) (tileOk t) fun p => p.captureEmpty t

/-- CONV_QUEUE (R83, R88). -/
def execConvQueue (by_ : Accessor) (t rd : Nat) (s : State) : Out :=
  s.live (3 + t / 1024) (tileOk t) fun p => if p.tileWritable by_ t then p.convQueue t rd else p

end Sys2Proof.Machine
end

