-- ==== Sys2Proof/Machine/Temper.lean ====
section
/-! DEFINITION. Temper: MVMs on tiles, drift and per-column correction, residual and outlier parts, split repeats, the format
ladder, load probes and DIAG_MVM (R35 to R46, R89 to R115, R201, R214, R215, R392, R479, R480). -/
namespace Sys2Proof.Machine

/-! ### Layer jobs and their MVMs -/

/-- An activation vector, empty when it has not been computed. -/
def Part.vect (p : Part) (v : Nat) : Vect := mget ⟨[], 0, [], [], []⟩ p.an.vectors v

/-- A layer job in progress. -/
def Part.job (p : Part) (id : Nat) : Option JobRun := p.an.jobs.find? fun j => j.job.id == id

/-- Change a layer job. -/
def Part.modJob (p : Part) (id : Nat) (f : JobRun → JobRun) : Part :=
  { p with an := { p.an with jobs := p.an.jobs.map fun j => if j.job.id = id then f j else j } }

/-- Remove a layer job. -/
def Part.dropJob (p : Part) (id : Nat) : Part := { p with an := { p.an with jobs := p.an.jobs.filter fun j => j.job.id != id } }

/-- The slice of a request's tile asks for it, or its fallback array takes it (R392). -/
def Part.askMvm (p : Part) (r : MvmReq) : Part :=
  let c := tileCluster r.tile
  let s := p.slice c
  if r.fb then p.setSlice c { s with work := s.work ++ [.mvm r] } else p.setSlice c { s with want := s.want ++ [(r, p.now)] }

/-- Ask for the MVMs of every job whose input vector has arrived. -/
def Part.issueJobs (p : Part) (v : Nat) : Part :=
  p.an.jobs.foldl (fun q j =>
    if j.job.vec = v ∧ !j.issued then j.job.mvms.foldl Part.askMvm (q.modJob j.job.id fun j => { j with issued := true }) else q) p

/-- An activation vector arrives: it is stored and the jobs that wait for it go on. -/
def Part.putVect (p : Part) (v : Nat) (x : Vect) : Part :=
  let q : Part := { p with an := { p.an with vectors := mset ⟨[], 0, [], [], []⟩ p.an.vectors v x } }
  q.issueJobs v

/-! ### Output sets (R136 to R138) -/

/-- Column groups of a block of 512 columns. -/
def blockGroups (g : Nat) : List Nat := (List.range 8).map (g + ·)

/-- The set of a group that is bound to a job. -/
def Slice.setOf (s : Slice) (job g : Nat) : Option OutSet := s.sets.find? fun x => x.job == job && x.group == g

/-- A set of a group that is free, X before Y. -/
def Slice.freeSet (s : Slice) (g : Nat) : Option Bool :=
  if !s.sets.any (fun x => x.group == g && !x.y) then some false
  else if !s.sets.any (fun x => x.group == g && x.y) then some true
  else none

/-- Bind sets of the groups of a block to a job; none when some group has no set free or bound to it. -/
def Slice.bind (s : Slice) (job col : Nat) : List Nat → Option Slice
  | [] => some s
  | g :: gs =>
    match s.setOf job g with
    | some _ => s.bind job (col + 64) gs
    | none =>
      match s.freeSet g with
      | none => none
      | some y =>
        let x : OutSet := { group := g, y := y, job := job, col := col, got := [], acc := List.replicate 64 0, ladder := false, drain := false }
        Slice.bind { s with sets := s.sets ++ [x] } job (col + 64) gs

/-- Change the set of a group that is bound to a job. -/
def Slice.modSet (s : Slice) (job g : Nat) (f : OutSet → OutSet) : Slice :=
  { s with sets := s.sets.map fun x => if x.job = job ∧ x.group = g then f x else x }

/-- Tiles in the chain of a job's block of columns (R135): the slots of the layer with that COL_BLOCK, else what STEP_ISSUE named. -/
def Part.chainOf (p : Part) (j : LayerJob) (block : Nat) : Nat :=
  match ((mfind p.models.table j.placement).map fun v => (v.recs.filter fun r => r.layer == j.layer && r.block == block).length).getD 0 with
  | 0 => j.chain
  | n => n

/-- Add 64 values to a set (R134, R137): it is complete when it holds one result from every tile of the chain. -/
def OutSet.add (x : OutSet) (chain pos : Nat) (vals : List Int) : OutSet :=
  let got := x.got ++ [pos]
  { x with got := got, acc := (List.range 64).map (fun i => nth 0 x.acc i + nth 0 vals i), drain := decide (chain ≤ got.length) }

/-- A tile result reaches its home slice (R135, R138): it is added to the job's sets, or discarded and counted in LATE_DISCARD
once a ladder re-execution has cleared them, those that have drained since included. -/
def Part.addResult (p : Part) (f : Flying) : Part :=
  match p.job f.job with
  | none => p
  | some j =>
    let g := (nth (0, 0) j.job.homes f.block).2
    let s := p.slice f.home
    let n := p.chainOf j.job f.block
    if j.ladder then
      p.bump (aNumSliceCnt (12 + f.home / 16) (f.home % 16)) 32 16 1
    else
      p.setSlice f.home ((List.range 8).foldl (fun s i =>
        s.modSet f.job (g + i) fun x => x.add n f.pos ((f.vals.drop (64 * i)).take 64)) s)

/-- The die message that carries a tile result to a home slice on another ACD (R20, R135): 512 values of 32 bits. DESIGN CHOICE (log entry
162): they follow 16 bytes with the job, the block and the chain position. -/
def resultMsg (c : Nat) (f : Flying) : DieMsg :=
  let body := leBytes 8 f.job ++ leBytes 4 f.block ++ leBytes 4 f.pos ++ (List.range 512).flatMap fun i => leBytes 4 (toBits 32 (nth 0 f.vals i))
  { dst := 12 + f.home / 16, cls := 3, src := 12 + c / 16, len := body.length, unit := 0xC00 + f.home % 16, epoch := 0, seq := 0, crClass := 0,
    crCount := 0, payload := body }

/-- The tile result that a message carries to slice `c`. -/
def resultOf (c : Nat) (m : DieMsg) : Flying :=
  { home := c, job := fld m.payload 0 8, block := fld m.payload 8 4, pos := fld m.payload 12 4,
    vals := (List.range 512).map fun i => sext 32 (fld m.payload (16 + 4 * i) 4) }

/-- A slice delivers a tile result (R135): to its own accumulators, on its way to another slice of the ACD, or in an activation-class
message to another ACD. -/
def Part.deliverResult (p : Part) (c : Nat) (r : MvmReq) (vals : List Int) : Part :=
  match p.job r.job with
  | none => p
  | some j =>
    let f : Flying := { home := (nth (0, 0) j.job.homes r.block).1, job := r.job, block := r.block, pos := r.pos, vals := vals }
    if f.home = c then p.addResult f
    else if f.home / 16 = c / 16 then { p with an := { p.an with flying := p.an.flying ++ [f] } }
    else p.send (resultMsg c f)

/-- TILE_RESULT_ARRIVE (R135): the oldest tile result on its way to a home slice within its ACD, else the one that an activation-class
message at the head of the slice's unit carries. -/
def Part.resultArrive (p : Part) (c : Nat) : Part :=
  match takeFirst (fun f : Flying => f.home == c) p.an.flying with
  | some (f, rest) => { p with an := { p.an with flying := rest } }.addResult f
  | none =>
    match p.inbox (12 + c / 16) (0xC00 + c % 16) with
    | [] => p
    | a :: _ => if a.m.cls = 3 then (p.popInbox (12 + c / 16) (0xC00 + c % 16)).addResult (resultOf c a.m) else p

/-! ### Granting MVMs (R205, R214, R215) -/

/-- An earlier step of the placement has not issued its last MVM of the layer yet (R205). -/
def Part.layerBusy (p : Part) (id : Nat) : Bool :=
  match p.job id with
  | none => false
  | some j =>
    (p.an.jobs.takeWhile fun x => x.job.id != id).any fun x =>
      x.job.placement == j.job.placement && x.job.layer == j.job.layer && x.job.step != j.job.step &&
      (!x.issued || p.an.slices.any fun s => s.2.want.any fun r => r.1.job == x.job.id)

/-- The weights of a request's placement have been switched into its bank (R168). -/
def Part.switchedIn (p : Part) (r : MvmReq) : Bool :=
  let b := p.bank (2 * r.tile + r.bank)
  (b.st == .shallow || b.st == .deep) && b.probed && (p.job r.job).any fun j => match mfind p.models.table j.job.placement with
    | none => true
    | some v => b.model == v.model && b.version == v.version

/-- Work of a class that waits in a slice and may be granted; work on an EXPIRED bank waits for its refresh (R215). -/
def Part.waiting (p : Part) (c : Nat) (k : WorkClass) : List (MvmReq × Nat) :=
  (p.slice c).want.filter fun r => r.1.cls == k && !p.layerBusy r.1.job && (!r.1.await || p.switchedIn r.1) &&
    (p.bank (2 * r.1.tile + r.1.bank)).st != .expired

/-- The slot of a request's job. -/
def Part.reqSlot (p : Part) (r : MvmReq) : Nat :=
  match p.job r.job with
  | none => 0
  | some j => j.job.slot

/-- `a` comes before `b` in the order of work of a class: rank, then deadline (R201, R357). -/
def Part.before (p : Part) (a b : MvmReq × Nat) : Bool :=
  let x := p.workKey (p.reqSlot a.1)
  let y := p.workKey (p.reqSlot b.1)
  decide (x.1 < y.1) || (x.1 == y.1 && decide (x.2 < y.2))

/-- The first of a list in the order of work. -/
def Part.firstWork (p : Part) : List (MvmReq × Nat) → Option (MvmReq × Nat)
  | [] => none
  | a :: as =>
    match p.firstWork as with
    | none => some a
    | some b => if p.before b a then some b else some a

/-- LIFE at which a refresh is urgent (R117). -/
def urgentLife : Nat := 100000

/-- An urgent refresh of a bank of the cluster is due, or waits on its tile (R120, R215). -/
def Part.urgentRefresh (p : Part) (c : Nat) : Bool :=
  (p.an.banks.any fun b => b.1 / 128 == c && b.2.refreshDue && (b.2.st == .shallow || b.2.st == .expired) && decide (b.2.life ≤ urgentLife)) ||
  p.an.tiles.any fun t => tileCluster t.1 == c && t.2.wr.isNone && t.2.wq.any fun w =>
    w.kind == .refresh && decide ((p.bank (2 * t.1 + w.bank)).life ≤ urgentLife)

/-- Length of a balance window in ns. -/
def windowNs : Nat := 10000000

/-- Tile-time that prompt work has used in the window so far, writes that run included, in ns summed over the cluster's 64 tiles (R214). -/
def Part.promptTime (p : Part) (c : Nat) : Nat :=
  (p.cluster c).promptUsed + sumNat (p.an.tiles.map fun t => match t.2.wr with
    | none => 0
    | some w => if tileCluster t.1 == c && w.forWork && w.cls == .prompt then p.now - w.since else 0)

/-- Prompt work is below its share of the window (R214). -/
def Part.belowShare (p : Part) (c : Nat) : Bool :=
  decide (p.promptTime c * windowNs < (p.cluster c).share * (p.now - (p.cluster c).window) * 64)

/-- Generation work, or prompt work below its share, waits in the cluster: it comes before an urgent refresh (R215). -/
def Part.firstClaims (p : Part) (c : Nat) : Bool :=
  !(p.waiting c .generation).isEmpty || (!(p.waiting c .prompt).isEmpty && p.belowShare c)

/-- The work that the grant rule of R214 chooses, with an urgent refresh in its place (R215). -/
def Part.choose (p : Part) (c : Nat) : Option (MvmReq × Nat) :=
  let pr := p.waiting c .prompt
  let gen := p.waiting c .generation
  if !pr.isEmpty && p.belowShare c then p.firstWork pr
  else if !gen.isEmpty then p.firstWork gen
  else if p.urgentRefresh c then none
  else p.firstWork pr

/-- MVM_GRANT (R136, R201, R214): the next MVM of the cluster is granted when its vector can be bound to sets; otherwise it is
held, and counted once in ACC_WAIT. -/
def Part.grant (p : Part) (c : Nat) : Part :=
  match p.choose c with
  | none => p
  | some (r, at_) =>
    match p.job r.job with
    | none => p
    | some j =>
      let (h, g) := nth (0, 0) j.job.homes r.block
      match (p.slice h).bind r.job (512 * r.block) (blockGroups g) with
      | none =>
        let s := p.slice c
        if s.held.contains r then p
        else (p.setSlice c { s with held := s.held ++ [r] }).bump (aNumSliceCnt (12 + c / 16) (c % 16)) 16 16 1
      | some hs =>
        let p := p.setSlice h hs
        let s := p.slice c
        let p := p.setSlice c { s with
          want := s.want.filter (fun x => x.1 != r), held := s.held.filter (fun x => x != r), 
          granted := s.granted ++ [if r.await then { r with epoch := (p.bank (2 * r.tile + r.bank)).epoch, await := false } else r], lastCls := r.cls }
        let k := p.cluster c
        match r.cls with
        | .prompt => p
        | .generation => p.setCluster c { k with genWait := k.genWait + (p.now - max at_ k.window) }

/-- The share of a window from the window before it, in ns of 10 ms (R214). -/
def promptShare (busy wait : Nat) : Nat := max (windowNs / 8) (windowNs - min windowNs ((busy + wait) / 64))

/-- BALANCE_WINDOW (R214): at each whole 10 ms of part time every cluster's prompt share is computed from the window before. -/
def Part.balanceWindow (p : Part) : Part :=
  let w := p.now / windowNs * windowNs
  if w ≤ (p.cluster 0).window ∧ 0 < w then p
  else
    let p := p.an.tiles.foldl (fun q t => q.chargeWrite t.1) p
    ((List.range 128).foldl (fun q c =>
      let k := q.cluster c
      let waitNow := sumNat (((q.slice c).want.filter fun r => r.1.cls == .generation).map fun r => w - max r.2 k.window)
      q.setCluster c { k with
        share := promptShare k.genBusy (k.genWait + waitNow), genBusy := 0, genWait := 0, promptUsed := 0, window := w }) p).event 267 []

/-- PROMPT_SHARE_MIN in units of 1/256 (SRV_STATUS): the lowest share among the clusters in service. -/
def Part.promptShareMin (p : Part) : Nat :=
  p.clusters.foldl (fun m c => if c.2.service then min m (max 0x20 (c.2.share * 256 / windowNs)) else m)
    (if p.clusters.any fun c => c.2.service then 256 else 0x20)

/-! ### MVMs at a tile (R36 to R46) -/

/-- No MVM, write or erase is pending in any tile of a cluster, and gating is enabled (R37). -/
def Part.gated (p : Part) (c : Nat) : Bool :=
  p.regFld (aClusterCfg (12 + c / 16) (c % 16)) 0 1 == 1 &&
  !p.an.tiles.any fun t => tileCluster t.1 == c && !(t.2.queue.isEmpty && t.2.runs.isEmpty && t.2.wr.isNone && t.2.wq.isEmpty)

/-- No request work claims a tile's time: no MVM waits or runs there, is granted to it or asked of it (R120). -/
def Part.tileIdle (p : Part) (t : Nat) : Bool :=
  let s := p.slice (tileCluster t)
  (p.tile t).queue.isEmpty && (p.tile t).runs.isEmpty && s.want.all (fun r => r.1.tile != t) && s.granted.all fun r => r.tile != t

/-- An MVM of a layer as its tile accepts it: its 512 inputs and their outlier values. -/
def Part.layerMvm (p : Part) (r : MvmReq) (wake : Bool) : Mvm :=
  let v : Vect := match p.job r.job with
    | none => ⟨[], 0, [], [], []⟩
    | some j => p.vect j.job.vec
  { req := r, kind := .layer, blocks := 0xFF, half := 0, due := false, wake := wake,
    acts := (v.codes.drop (512 * r.pos)).take 512,
    side := (v.side.filter fun x => x.1 / 512 == r.pos).map fun x => (x.1 % 512, x.2) }

/-- An MVM with the old epoch may have come in the ACD digital cycle in which the bank accepted the operation that now waits (R43): the
same cycle of REFCLK_156, which is eight of them. -/
def Part.sameCycle (p : Part) (t : Nat) (m : Mvm) : Bool :=
  let b := p.bank (2 * t + m.req.bank)
  b.epochAt == some p.now && b.epoch == (m.req.epoch + 1) % 65536 &&
  (p.tile t).wq.any fun w => w.bank == m.req.bank && (w.kind == .shallow || w.kind == .deep || w.kind == .erase)

/-- An MVM reaches a tile (R43, R44): queued, or returned to the slice with STALE_ROLE, BANK_STATE or BANK_EXPIRED. Whether one that came
within 6.4 ns of an operation came in the same ACD cycle, and so counts as earlier, is a free value (log entry 163). -/
def Part.mvmArrive (p : Part) (t : Nat) (m : Mvm) : Part :=
  let k := 2 * t + m.req.bank
  let b := p.bank k
  let tl := p.tile t
  let same := p.sameCycle t m
  let early := same && (Config.freeValue p.freeTick).getLsbD 0
  let p := if same then { p with freeTick := p.freeTick + 1 } else p
  let p := p.setTile t { tl with queue := tl.queue ++ [if early then { m with due := true } else m] }
  if early then p
  else if m.req.epoch ≠ b.epoch then p.returnMvms k (fun x => x == m) stStaleRole
  else match b.st with
    | .empty => p.returnMvms k (fun x => x == m) stBankState
    | .retired => p.returnMvms k (fun x => x == m) stBankState
    | .expired => p.returnMvms k (fun x => x == m) stBankExpired
    | _ => p

/-- MVM (R43): the oldest MVM that has been granted for the tile arrives. -/
def Part.mvm (p : Part) (t : Nat) : Part :=
  let c := tileCluster t
  let s := p.slice c
  match takeFirst (fun r : MvmReq => r.tile == t) s.granted with
  | none => p
  | some (r, rest) => (p.setSlice c { s with granted := rest }).mvmArrive t (p.layerMvm r (p.gated c))

/-- The MVM may begin (R44, R46, R47). -/
def Part.startable (p : Part) (t : Nat) (m : Mvm) : Bool :=
  let b := p.bank (2 * t + m.req.bank)
  m.due || ((b.st == .shallow || b.st == .deep) && b.releasing.isNone && b.epoch == m.req.epoch)

/-- Activation of a row, zero in the outlier mask (R39). -/
def Mvm.act (m : Mvm) (r : Nat) : Int := if m.req.mask.contains r then 0 else nth 0 m.acts r

/-- A row block is zero (R39). -/
def Mvm.zeroBlock (m : Mvm) (b : Nat) : Bool := (List.range 64).all fun i => m.act (64 * b + i) == 0

/-- Row blocks that are skipped under R39. -/
def Mvm.skipped (m : Mvm) : List Nat := (List.range 8).filter fun b => m.blocks.testBit b && m.zeroBlock b

/-- The blocks driven, as a mask: all of the MVM's blocks with ZERO_SKIP_DIS set (R39). -/
def Mvm.driven (m : Mvm) (noSkip : Bool) : Nat :=
  sumNat (((List.range 8).filter fun b => m.blocks.testBit b && (noSkip || !m.zeroBlock b)).map fun b => 2 ^ b)

/-- The first phase boundary at or after an instant. DESIGN CHOICE (log entry 156): the array phase boundaries of every ACD lie at the
multiples of 8 ns of part time. -/
def phaseUp (t : Nat) : Nat := cdiv t 8 * 8

/-- MVM_START (R35, R36, R38, R39, R72, R81, R94, R103, R106): the first MVM of the queue that may begin starts its phase 0, unless the
rows are still driven or the power governor paces (R413). Its start is the end of the rows' use or the next phase boundary, later by a
wake and by residual or outlier work that is not done; a change of bank costs a phase only where no idle phase lies between (R36). A
layer MVM takes its outlier mask from the tile's list (R104). The halves of a split repeat add no residual or outlier work (R110). The time
in which it drives the rows is tile-time of its class (R214). DESIGN CHOICE (log entry 174). -/
def Part.mvmStart (p : Part) (t : Nat) : Part :=
  let tl := p.tile t
  match takeFirst (p.startable t) tl.queue with
  | none => p
  | some (m, rest) =>
    if p.pwr.paced || decide (p.now + 8 ≤ tl.freeAt) then p
    else
      let k := 2 * t + m.req.bank
      let b := p.bank k
      let m := if m.kind = .layer then { m with req := { m.req with mask := b.outRows } } else m
      let c := tileCluster t
      let die := tileDie t
      let noSkip := p.regFld (aTileCfg die (t % 1024)) 1 1 == 1
      let driven := m.driven noSkip
      let none_ := decide (m.half ≠ 0 ∧ driven = 0)
      let t0 := max (phaseUp p.now) tl.freeAt + (if m.wake then 16 else 0)
      let wait := decide (t0 < tl.residAt)
      let t1 := if wait then phaseUp tl.residAt else t0
      let switch := !none_ && decide (0 < tl.freeAt) && tl.lastBank != m.req.bank && decide (t1 < tl.freeAt + 8)
      let t2 := if switch then tl.freeAt + 8 else t1
      let p := if switch then p.bump (aClusterCnt die (c % 16)) 48 16 1 else p
      let p := if wait then p.bump (aTpSliceCnt2 die (c % 16)) 48 16 1 else p
      let p := p.bump (tileStatusAddr t) 16 16 (if noSkip then 0 else m.skipped.length)
      let p := if none_ then p else p.useTime c m.req.cls (8 * widthPhases m.req.width)
      let run : MvmRun := { m := m, start := t2, d := b.d, colcorr := b.colcorr, band := p.tileBand t, driven := driven }
      let s := p.slice c
      let once (x : Nat) : Nat := if m.half = 0 then x else 0
      let rf := max s.residFree (4096 * t2) + once b.resid.length
      let of := max s.outFree (4096 * t2) + once (512 * m.req.mask.length)
      let p := if m.half = 0 then p.setSlice c { s with residFree := rf, outFree := of } else p
      let drops := match tl.cal with
        | none => []
        | some x => (collisions x.start x.phases run).filter fun j => !x.drops.contains j
      p.setTile t { p.tile t with
        queue := rest, runs := tl.runs ++ [run], freeAt := if none_ then tl.freeAt else t2 + 8 * run.phases,
        lastBank := if none_ then tl.lastBank else m.req.bank,
        residAt := if m.half = 0 then max (cdiv rf 4096) (cdiv of 4096) else tl.residAt,
        cal := tl.cal.map fun x => { x with drops := x.drops ++ drops } }

/-- The bank's D and its gains and offsets have been written: MVMs of the bank whose phase 0 is still to come take them (R94). -/
def Part.relatch (p : Part) (k : Nat) : Part :=
  let tl := p.tile (k / 2)
  let b := p.bank k
  if tl.runs.any fun r => r.m.req.bank == k % 2 && decide (p.now < r.start) then
    p.setTile (k / 2) { tl with
      runs := tl.runs.map fun r => if r.m.req.bank = k % 2 ∧ p.now < r.start then { r with d := b.d, colcorr := b.colcorr } else r }
  else p

/-! ### Correction (R91 to R94) -/

/-- The codes of a driven MVM: for each phase, code and clip bit of columns 0 to 511 and REF0 to REF7. -/
abbrev Codes := List (List (Int × Bool))

/-- Range code of a column (R67, R70, R71). -/
def Bank.rangeOf (b : Bank) (col : Nat) : Nat := if 512 ≤ col then 3 else (nth 0 b.ranges (col / 2 / 4)).toNat / 4 ^ (col / 2 % 4) % 4

/-- A row is pulsed in a phase (R39, R93). -/
def MvmRun.pulsed (r : MvmRun) (p i : Nat) : Bool := r.driven.testBit (i / 64) && (toBits 8 (r.m.act i)).testBit p

/-- The current of a column in a phase with nominal cells, in unit currents (R31): plus levels minus minus levels over the rows pulsed. -/
def Bank.nominal (b : Bank) (r : MvmRun) (p c : Nat) : Int :=
  if b.cells.isEmpty then 0 else sumInt (((List.range 512).filter (r.pulsed p)).map fun i => b.weight i c)

/-- The codes of an MVM (R31, R69, R73, R76): each column's nominal sum with what its sampled input differs by (noise and drift, in units
of 2^-16 unit currents); `tick` numbers the free values. -/
def Bank.codes (b : Bank) (r : MvmRun) (tick : Nat) (xs : List (List Int)) : Codes :=
  (List.range (widthPhases r.m.req.width)).map fun p => (List.range 520).map fun c =>
    convert (b.rangeOf c) (65536 * b.nominal r p c + nth 0 (nth [] xs p) c) ((Config.freeValue (tick + 520 * p + c)).getLsbD 0)

/-- Code and clip bit of a column in a phase. -/
def Codes.at_ (cs : Codes) (c p : Nat) : Int × Bool := nth (0, false) (nth [] cs p) c
/-- The value of a column in a phase (R93). -/
def Bank.val (b : Bank) (cs : Codes) (c p : Nat) : Q := codeValue (b.rangeOf c) (Codes.at_ cs c p).1
/-- Clip bit of a column in a phase. -/
def Codes.clip (cs : Codes) (c p : Nat) : Bool := (Codes.at_ cs c p).2

/-- A column clipped in some phase (R77). -/
def Codes.clipped (cs : Codes) (c : Nat) : Bool := (List.range cs.length).any fun p => Codes.clip cs c p

/-- The rows pulsed in a phase (R93). -/
def MvmRun.rowsPulsed (r : MvmRun) (p : Nat) : Nat :=
  ((List.range 512).filter (r.pulsed p)).length

/-- The offset of a phase; none when REF0 and REF1 both clip (R93). -/
def Bank.offAt (b : Bank) (cs : Codes) (p : Nat) : Option Q :=
  match Codes.clip cs 512 p, Codes.clip cs 513 p with
  | true, true => none
  | true, false => some (b.val cs 513 p)
  | false, true => some (b.val cs 512 p)
  | false, false => some (fdiv (fadd (b.val cs 512 p) (b.val cs 513 p)) (Q.ofInt 2))

/-- Sums of the drift measurement: magnitude, asymmetry, rows, phases skipped, offsets so far. -/
structure DriftSum where
  mag : Q
  asym : Q
  rows : Nat
  skip : Nat
  off : List Q
deriving DecidableEq, Repr

/-- One phase of the drift measurement (R93). -/
def Bank.driftPhase (b : Bank) (cs : Codes) (rows : Nat) (p : Nat) (off : Q) (s : DriftSum) : DriftSum :=
  if 32 ≤ rows ∧ !((List.range 6).any fun i => Codes.clip cs (514 + i) p) then
    let m := fadd s.mag (b.val cs 514 p)
    let m := fsub (fsub (fsub m (b.val cs 515 p)) (b.val cs 516 p)) (b.val cs 517 p)
    let a := fadd (fadd s.asym (b.val cs 518 p)) (b.val cs 519 p)
    { s with
      mag := fadd m (fmul (Q.ofInt 2) off), asym := fsub a (fmul (Q.ofInt 2) off), rows := s.rows + rows, off := s.off ++ [off] }
  else { s with skip := s.skip + 1, off := s.off ++ [off] }

/-- All phases of the drift measurement: the sums, and false when a phase has no offset (split_repeat). -/
def Bank.driftSum (b : Bank) (cs : Codes) (r : MvmRun) : List Nat → DriftSum → DriftSum × Bool
  | [], s => (s, true)
  | p :: ps, s =>
    match b.offAt cs p with
    | none => (s, false)
    | some off => b.driftSum cs r ps (b.driftPhase cs (r.rowsPulsed p) p off s)

/-- round_q2_14 of R93. -/
def roundD (x : Q) : Nat := (clipInt 1 0xFFFF (x.scale 14).round).toNat
/-- round_q1_14 of R93. -/
def roundA (x : Q) : Int := clipInt (-0x8000) 0x7FFF (x.scale 14).round

/-- D of a bank as a rational. -/
def qD (d : Nat) : Q := Q.of d 16384

/-- The drift update of R93. -/
def Bank.driftUpdate (b : Bank) (s : DriftSum) : Bank :=
  let d := qD b.d
  let a : Q := Q.of b.a 16384
  let dn := fadd d (fdiv (fsub (fdiv s.mag (Q.ofInt (4 * s.rows))) d) (Q.ofInt 16))
  let an := fadd a (fdiv (fsub (fdiv s.asym (Q.ofInt s.rows)) a) (Q.ofInt 16))
  { b with d := roundD dn, a := roundA an }

/-- Weight of a phase (R93). -/
def phaseWeight (last p : Nat) : Q := Q.ofInt (if p = last then -(2 ^ p : Nat) else (2 ^ p : Nat))

/-- The sum t of one column (R93). -/
def Bank.column (b : Bank) (cs : Codes) (off : List Q) (d gain offset : Q) (last j : Nat) : Q :=
  (List.range (last + 1)).foldl (fun t p =>
    let x := fsub (fsub (b.val cs j p) (nth Q.zero off p)) offset
    fadd t (fdiv (fmul (fmul (phaseWeight last p) gain) x) d)) Q.zero

/-- Saturation at the signed 32-bit range (R91). -/
def sat32 (x : Int) : Int := clipInt (-0x80000000) 0x7FFFFFFF x
/-- to_q8_nearest_even of R93. -/
def toQ8 (t : Q) : Int := sat32 (t.scale 8).round

/-- GAIN of a column (15 fractional bits). -/
def qGain (l : List (Nat × Nat × Int)) (j : Nat) : Q := Q.of (mget (0, 0) l j).1 32768
/-- OFFSET of a column (8 fractional bits). -/
def qOffset (l : List (Nat × Nat × Int)) (j : Nat) : Q := Q.of (mget (0, 0) l j).2 256

/-- The exact analogue part of an out-of-range column on the fallback array (R99), over the MVM's row blocks. -/
def Bank.exactColumn (b : Bank) (m : Mvm) (j : Nat) : Int :=
  sat32 (256 * sumInt ((List.range 512).map fun r => if m.blocks.testBit (r / 64) then m.act r * b.weight r j else 0))

/-- The corrected analogue part of a driven MVM (R93, R99). -/
def Bank.analogue (b : Bank) (cs : Codes) (r : MvmRun) (off : List Q) (d : Q) : List Int :=
  let last := cs.length - 1
  (List.range 512).map fun j =>
    if b.oor.contains j then b.exactColumn r.m j
    else toQ8 (b.column cs off d (qGain r.colcorr j) (qOffset r.colcorr j) last j)

/-! ### Residual and outlier parts (R100 to R105) -/

/-- The residual part of a column in units of 2^-8 (R100, R102), exact. -/
def residPart (resid : List Nat) (rsh : Nat) (m : Mvm) (j : Nat) : Int :=
  sumInt (resid.map fun e => if e / 512 % 512 = j then m.act (e % 512) * sext 8 (e / 2 ^ 18) * 256 / (2 ^ rsh : Nat) else 0)

/-- A binary32 sum of products so far, and its results that saturated (R133). -/
abbrev SatSum := Q × Nat

/-- Add the product of two values in binary32 (R105, R133). -/
def SatSum.mac (s : SatSum) (x w : Q) : SatSum :=
  let pr := fmul x w
  (fadd s.1 pr, s.2 + bit (binary32.ovf (x.mul w)) + bit (binary32.ovf (s.1.add pr)))

/-- The outlier part of a column before its one conversion (R105): binary32 products summed in ascending row order. -/
def outlierSum (rows : List Nat) (weights : Bytes) (rsh : Nat) (m : Mvm) (j : Nat) : SatSum :=
  (List.range rows.length).foldl (fun t i =>
    if m.req.mask.contains (nth 0 rows i) then
      t.mac (ofBf16 (mget 0 m.side (nth 0 rows i))) (Q.of (sext 8 (nth 0 weights (512 * i + j)).toNat) (2 ^ rsh))
    else t) (Q.zero, 0)

/-- The outlier part beyond the 32-bit range saturates (R105). -/
def outlierOver (t : Q) : Bool := (t.scale 8).round != toQ8 t

/-! ### Split repeats, the ladder, and results (R97, R110 to R113) -/

/-- The two halves of a split repeat (R110). -/
def halves (m : Mvm) : List Mvm :=
  let s := m.req.split % 256
  [{ m with blocks := s, half := 1, due := true, wake := false }, { m with blocks := 0xFF - s, half := 2, due := true, wake := false }]

/-- The slices that hold a job's tiles (R112). -/
def jobSlices (j : LayerJob) : List Nat := (j.mvms.map fun r => tileCluster r.tile).eraseDups

/-- A ladder re-execution starts for a job, once (R112, R113, R138): its sets are cleared, its MVMs that have not reached a tile are
withdrawn, and the work waits for the fallback arrays of the slices that hold the layer's tiles; it is counted on the slice of the
clipping tile. -/
def Part.startLadder (p : Part) (c id : Nat) : Part :=
  match p.job id with
  | none => p
  | some r =>
    if r.ladder then p
    else
      let clear (x : OutSet) : OutSet :=
        if x.job = id then { x with ladder := true, drain := false, got := [], acc := List.replicate 64 0 } else x
      let p := p.an.slices.foldl (fun q s =>
        let v := q.slice s.1
        q.setSlice s.1 { v with
          sets := v.sets.map clear, want := v.want.filter (fun r => r.1.job != id), granted := v.granted.filter (fun r => r.job != id),
          held := v.held.filter (fun r => r.job != id),
          work := v.work.filter fun w => match w with
            | .mvm r => r.job != id
            | .ladder _ => true }) p
      let p := p.modJob id fun j => { j with ladder := true }
      let on := if (jobSlices r.job).contains c then jobSlices r.job else c :: jobSlices r.job
      (on.foldl (fun q x => q.setSlice x { q.slice x with work := (q.slice x).work ++ [.ladder id] }) p).bump
        (aTpSliceCnt (12 + c / 16) (c % 16)) 32 16 1

/-- The saturations of the outlier parts of columns: outside the 32-bit range (OUTLIER_SAT) and of binary32 results (FP_SAT). -/
def outlierSats (cols : Nat) (out : Nat → SatSum) : Nat × Nat :=
  (((List.range cols).filter fun j => outlierOver (out j).1).length, sumNat ((List.range cols).map fun j => (out j).2))

/-- Count the saturations of outlier parts in a slice (R105, R133, R143). -/
def Part.countOutliers (p : Part) (c : Nat) (n : Nat × Nat) : Part :=
  (p.bump (aTpSliceCnt2 (12 + c / 16) (c % 16)) 32 16 n.1).bump (aNumSliceCnt (12 + c / 16) (c % 16)) 0 16 n.2

/-- The tile result of a layer MVM (R91): analogue, residual and outlier parts, and the saturations of its outlier parts. -/
def tileResult (b : Bank) (m : Mvm) (analogue : List Int) : List Int × (Nat × Nat) :=
  let out (j : Nat) : SatSum := outlierSum b.outRows b.outW b.rsh m j
  ((List.range 512).map fun j => sat32 (nth 0 analogue j + residPart b.resid b.rsh m j + toQ8 (out j).1), outlierSats 512 out)

/-- The analogue part of a layer MVM is final: its tile result is formed and delivered. -/
def Part.finishResult (p : Part) (t : Nat) (m : Mvm) (analogue : List Int) : Part :=
  let c := tileCluster t
  let (vals, ovf) := tileResult (p.bank (2 * t + m.req.bank)) m analogue
  (p.countOutliers c ovf).deliverResult c m.req vals

/-- The measurement of a probe for a column: kept per half until both halves are in (R97). -/
def Bank.measure (b : Bank) (k half : Nat) (cs : Codes) (off : List Q) (d : Q) : Bank :=
  let last := cs.length - 1
  (List.range 512).foldl (fun b j =>
    let t := if cs.isEmpty then Q.zero else b.column cs off d (Q.ofInt 1) Q.zero last j
    if half ≠ 0 ∧ Codes.clipped cs j then { b with meas := merase b.meas (4096 + 512 * k + j) }
    else if half = 1 then { b with meas := minsert b.meas (4096 + 512 * k + j) (t.n, t.d) }
    else if half = 2 then
      match mfind b.meas (4096 + 512 * k + j) with
      | none => b
      | some (n, dd) =>
        let s := Q.add (Q.of n dd) t
        { b with meas := minsert (merase b.meas (4096 + 512 * k + j)) (512 * k + j) (s.n, s.d) }
    else { b with meas := minsert b.meas (512 * k + j) (t.n, t.d) }) b

/-- A probe half without an offset gives no measurement for any column (R97). -/
def Bank.unmeasure (b : Bank) (k : Nat) : Bank := { b with meas := b.meas.filter fun x => x.1 / 512 != 8 + k }

/-- The reply body of DIAG_MVM (R480). -/
def diagBody (cs : Codes) (vals : List Int) (lost : Bool) : Bytes :=
  ((List.range 64).flatMap fun i =>
    leBytes 1 (sumNat ((List.range 8).map fun k => if Codes.clipped cs (8 * i + k) then 2 ^ k else 0))) ++
  ((List.range 512).flatMap fun j => leBytes 4 (toBits 32 (nth 0 vals j))) ++ leBytes 1 (bit lost) ++ zpad 15

/-- Put the halves of an MVM ahead of every waiting MVM (R111). -/
def Part.splitRepeat (p : Part) (t : Nat) (m : Mvm) : Part :=
  let tl := p.tile t
  let p := p.setTile t { tl with queue := halves m ++ tl.queue }
  p.bump (aTpSliceCnt (tileDie t) (tileCluster t % 16)) 0 32 1

/-- What follows a layer MVM (R110 to R112, R137): `ok` says that no conversion clipped and no offset was lost. The parts of finished first
halves are kept by their MVM, so that halves of several clipped MVMs may wait at once; a half of an MVM whose other half has clipped
brings nothing. DESIGN CHOICE (log entry 157): the sum of the two halves' parts is a corrected analogue part and, as R91 says of that
part, saturates at 32 bits before the residual and outlier parts are added. -/
def Part.layerResult (p : Part) (t : Nat) (m : Mvm) (ok : Bool) (vals : List Int) : Part :=
  let tl := p.tile t
  let mine (x : Mvm) : Bool := x.half == 2 && x.req == m.req
  if m.half = 0 then (if ok then p.finishResult t m vals else p.splitRepeat t m)
  else if !ok then
    (p.setTile t { tl with queue := tl.queue.filter (fun x => !mine x), halfSums := tl.halfSums.filter (fun x => x.1 != m.req) }).startLadder
      (tileCluster t) m.req.job
  else if m.half = 1 then p.setTile t { tl with halfSums := tl.halfSums ++ [(m.req, vals)] }
  else
    match takeFirst (fun x : MvmReq × List Int => x.1 == m.req) tl.halfSums with
    | none => p
    | some (x, rest) =>
      (p.setTile t { tl with halfSums := rest }).finishResult t { m with blocks := 0xFF }
        ((List.range 512).map fun j => sat32 (nth 0 x.2 j + nth 0 vals j))

/-- What follows a probe MVM (R97); D as it stands after it is kept for the fit (R98). -/
def Part.probeResult (p : Part) (t k : Nat) (m : Mvm) (ok lost : Bool) (cs : Codes) (off : List Q) (d : Q) : Part :=
  let n := 2 * t + m.req.bank
  let p := p.setBank n { p.bank n with probeD := (p.bank n).d }
  if m.half = 0 ∧ !ok then p.splitRepeat t m
  else if lost then p.setBank n ((p.bank n).unmeasure k)
  else p.setBank n ((p.bank n).measure k m.half cs off d)

/-- The result of an MVM that was undriven (R40, R92): an analogue part of exactly zero. -/
def Part.undrivenResult (p : Part) (t : Nat) (m : Mvm) : Part :=
  match m.kind with
  | .layer => p.layerResult t m true (List.replicate 512 0)
  | .probe k => p.probeResult t k m true false [] [] (Q.ofInt 1)
  | .diag i => p.finish i stOk (diagBody [] [] false)

/-- Conversions of an MVM for the capture memory (R75, R85, R86): even columns, then odd columns of each phase. -/
def mvmConversions (r : MvmRun) (b : Bank) (cs : Codes) : List Conversion :=
  (List.range cs.length).flatMap fun p => [0, 1].flatMap fun par_ => (List.range 260).map fun k =>
    let c := Codes.at_ cs (2 * k + par_) p
    { conv := k, parity := par_, cal := false, code := c.1, clip := c.2,
      extra := 2 ^ 11 * b.rangeOf (2 * k + par_) + 2 ^ 13 * p + 2 ^ 25 * par_ + 2 ^ 26 * r.m.req.bank,
      at_ := r.start + 8 * p + 6 + 4 * par_, sampled := r.start + 8 * p + 5 }

/-- Count the clips of an MVM (R78). -/
def Part.countClips (p : Part) (t : Nat) (cs : Codes) : Part :=
  let a := aConvClip (tileDie t) (t % 1024)
  let n := sumNat (cs.map fun l => ((l.take 512).filter (·.2)).length)
  let r := sumNat (cs.map fun l => ((l.drop 512).filter (·.2)).length)
  ((p.bump a 0 32 n).bump a 32 16 (if 0 < n then 1 else 0)).bump a 48 16 r

/-- The result of a driven MVM from its codes (R75 to R78, R93, R94). -/
def Part.drivenResult (p : Part) (t : Nat) (r : MvmRun) (cs : Codes) : Part :=
  let m := r.m
  let n := 2 * t + m.req.bank
  let p := (p.countClips t cs).captureAll t (mvmConversions r (p.bank n) cs)
  let b := p.bank n
  let (s, offOk) := b.driftSum cs r (List.range cs.length) { mag := Q.zero, asym := Q.zero, rows := 0, skip := 0, off := [] }
  let p := p.bump (aTpSliceCnt2 (tileDie t) (tileCluster t % 16)) 0 32 s.skip
  let frozen := p.regFld (aTpCtl (tileDie t)) 1 1 == 1
  let update := offOk && decide (0 < s.rows) && !frozen
  let b' := if update then b.driftUpdate s else b
  let p := if update then ((p.setBank n b').relatch n).annealResched n else p
  let d := if update then qD b'.d else qD r.d
  let clip := (List.range 512).any fun j => Codes.clipped cs j
  match m.kind with
  | .layer => p.layerResult t m (offOk && !clip) (if offOk && !clip then b'.analogue cs r s.off d else [])
  | .probe k => p.probeResult t k m (offOk && !clip) (!offOk) cs s.off d
  | .diag i => p.finish i stOk (diagBody cs (if offOk then b'.analogue cs r s.off d else []) (!offOk))

/-- MVM_RESULT (R35, R93): the codes of the oldest MVM on its way reach the slice, 24 ns after its last phase. `xs` gives, for
each phase, by how much the sampled inputs of columns 0 to 511 and REF0 to REF7 differ from their nominal sums. -/
def Part.mvmResult (p : Part) (t : Nat) (xs : List (List Int)) : Part :=
  let tl := p.tile t
  match tl.runs with
  | [] => p
  | r :: rest =>
    if p.now < r.start + 8 * r.phases + 24 then p
    else
      let n := 2 * t + r.m.req.bank
      let c := tileCluster t
      let k := p.cluster c
      let p := (p.setTile t { tl with runs := rest }).setCluster c { k with mvmCount := (k.mvmCount + 1) % 2 ^ 48 }
      if r.driven = 0 then p.undrivenResult t r.m
      else
        let cs := (p.bank n).codes r p.freeTick xs
        { p with freeTick := p.freeTick + 520 * cs.length }.drivenResult t r cs

/-! ### The fallback array (R112, R114, R115, R392) -/

/-- The version whose placement a job belongs to. -/
def Part.jobVer (p : Part) (j : LayerJob) : Option Version := mfind p.models.table j.placement

/-- The section of a layer-wide kind of a version's layer, by address and format. -/
def Version.layerAt (v : Version) (kind layer : Nat) : Option (Nat × Nat) :=
  (v.sections.find? fun x => x.2.kind == kind && x.2.layer == layer).map fun x => (x.1 + x.2.off, x.2.fmt)

/-- The LADDER_WEIGHTS of a job's layer, by address and format (R112, R148): those of its placement, else those that STEP_ISSUE named. -/
def Part.ladderAt (p : Part) (j : LayerJob) : Nat × Nat := ((p.jobVer j).bind fun v => v.layerAt 5 j.layer).getD (j.ladder, j.ladderFmt)

/-- A section that a ladder re-execution of a layer reads. -/
def ladderNeed (j : LayerJob) (s : Section) : Bool := s.kind == 5 && s.layer == j.layer

/-- The slot of a version that a request of a job works on (R148): its layer, COL_BLOCK and CHAIN_POS. -/
def Version.slotOf (v : Version) (layer : Nat) (r : MvmReq) : Option Nat :=
  (v.recs.find? fun x => x.layer == layer && x.block == r.block && x.pos == r.pos).map fun x => x.slot

/-- Where the fallback array finds the weights of a request, and their format (R114, R392): DIGITAL_WEIGHTS of the layer, the sections of
the slot, else what STEP_ISSUE named. -/
def Part.fbSource (p : Part) (j : LayerJob) (r : MvmReq) : SlotSrc × Nat :=
  match p.jobVer j with
  | none => (r.src, r.fmt)
  | some v => match v.layerAt 6 j.layer with
    | some (a, f) => ({ r.src with rows := a }, f)
    | none => match v.slotOf j.layer r with
      | some s => (v.slotSource s, v.slotFmt s)
      | none => (r.src, r.fmt)

/-- A section that the fallback work of a request reads. -/
def Part.fbNeed (p : Part) (j : LayerJob) (r : MvmReq) (s : Section) : Bool :=
  match p.jobVer j with
  | none => false
  | some v =>
    (s.kind == 6 && s.layer == j.layer) || match v.slotOf j.layer r with
      | none => false
      | some n => decide (s.kind ≤ 3) && s.ofSlot s.kind n

/-- The work is a ladder re-execution. -/
def FbWork.isLadder (w : FbWork) : Bool :=
  match w with
  | .ladder _ => true
  | .mvm _ => false

/-- Work of a fallback array needs a shard that is not verified in the stacks: it waits (R151, R171). -/
def Part.workWaits (p : Part) (w : FbWork) : Bool :=
  match w with
  | .ladder id => (p.job id).any fun j => ((p.jobVer j.job).any fun v => v.waits (ladderNeed j.job)) || p.shardAt (p.ladderAt j.job).1 fun s => !s.there
  | .mvm r => (p.job r.job).any fun j =>
      ((p.jobVer j.job).any fun v => v.waits (p.fbNeed j.job r)) || p.shardAt (p.fbSource j.job r).1.rows fun s => !s.there

/-- Work of a fallback array needs a shard that is gone everywhere (R172). -/
def Part.workLost (p : Part) (w : FbWork) : Bool :=
  match w with
  | .ladder id => (p.job id).any fun j => (p.jobVer j.job).any fun v => v.lost (ladderNeed j.job)
  | .mvm r => (p.job r.job).any fun j => (p.jobVer j.job).any fun v => v.lost (p.fbNeed j.job r)

/-- A layer job is given up: its sets, its MVMs that have not started and its fallback work go. -/
def Part.abandonJob (p : Part) (id : Nat) : Part :=
  let p := p.an.slices.foldl (fun q s =>
    let v := q.slice s.1
    q.setSlice s.1 { v with
      sets := v.sets.filter (fun x => x.job != id), want := v.want.filter (fun r => r.1.job != id),
      granted := v.granted.filter (fun r => r.job != id), held := v.held.filter (fun r => r.job != id),
      work := v.work.filter fun w => match w with
        | .mvm r => r.job != id
        | .ladder j => j != id }) p
  let p : Part := { p with an := { p.an with tiles := p.an.tiles.map fun x => (x.1, { x.2 with
      queue := x.2.queue.filter fun m => !(m.kind == .layer && m.req.job == id), halfSums := x.2.halfSums.filter fun h => h.1.job != id }) } }
  p.dropJob id

/-- A weight of a layer held row-major in I2 (2), I4 (3) or I8 (4), `outputs` weights in a row (R124, R148). -/
def ladderWeight (mem : Memory) (base fmt outputs i j : Nat) : Int :=
  let per := if fmt = 4 then 1 else if fmt = 3 then 2 else 4
  let v := (memRead mem (base + i * cdiv outputs per + j / per)).toNat / 2 ^ (8 / per * (j % per))
  if fmt = 4 then sext 8 v else if fmt = 3 then sext 4 v else cellValue 2 (v % 4)

/-- The outlier part of an output column of a ladder re-execution, in binary32 (R105, R112). -/
def ladderOut (mem : Memory) (w : Nat × Nat) (j : LayerJob) (v : Vect) (col : Nat) : SatSum :=
  v.side.foldl (fun t x => t.mac (ofBf16 x.2) (Q.ofInt (ladderWeight mem w.1 w.2 j.outputs x.1 col))) (Q.zero, 0)

/-- The sum of an output column of a ladder re-execution, in units of 2^-8: exact products, with the outlier rows in binary32
(R105, R112, R114); `w` is where the ladder weights lie, and their format. -/
def ladderSum (mem : Memory) (w : Nat × Nat) (j : LayerJob) (v : Vect) (col : Nat) : Int :=
  256 * sumInt ((List.range j.inputs).map fun i => nth 0 v.codes i * ladderWeight mem w.1 w.2 j.outputs i col) + toQ8 (ladderOut mem w j v col).1

/-- Bind sets for every block of a job; none while some group has no set free. -/
def Part.bindAll (p : Part) (j : LayerJob) : List Nat → Option Part
  | [] => some p
  | b :: bs =>
    let (h, g) := nth (0, 0) j.homes b
    match (p.slice h).bind j.id (512 * b) (blockGroups g) with
    | none => none
    | some s => (p.setSlice h s).bindAll j bs

/-- A slice no longer works on a ladder re-execution. -/
def Slice.dropLadder (s : Slice) (id : Nat) : Slice := { s with work := s.work.filter fun w => w != .ladder id }

/-- The fallback arrays of a list of slices no longer work on a ladder re-execution. -/
def Part.dropLadder (p : Part) (id : Nat) (l : List Nat) : Part := l.foldl (fun q c => q.setSlice c ((q.slice c).dropLadder id)) p

/-- LADDER_EXEC_COMPLETE (R105, R112, R138, R171): the first ladder re-execution of the slice that waits for no shard has written every column of its sets, which may
then drain, and the slices that shared it are done with it; outlier parts that saturated count in OUTLIER_SAT. -/
def Part.ladderDone (p : Part) (mem : Memory) (c : Nat) : Part :=
  match takeFirst (fun w => w.isLadder && !p.workWaits w) (p.slice c).work with
  | some (.ladder id, rest) =>
    match p.job id with
    | none => p.setSlice c { p.slice c with work := rest }
    | some r =>
      match p.bindAll r.job (List.range r.job.homes.length) with
      | none => p
      | some p =>
        let w := p.ladderAt r.job
        let p := (p.touchShards w.1).dropLadder id (c :: jobSlices r.job)
        let v := p.vect r.job.vec
        let p := p.countOutliers c (outlierSats r.job.outputs (ladderOut mem w r.job v))
        (List.range r.job.homes.length).foldl (fun q b =>
          let (h, g) := nth (0, 0) r.job.homes b
          q.setSlice h ((blockGroups g).foldl (fun s x => s.modSet id x fun o =>
            { o with ladder := true, drain := true, acc := (List.range 64).map fun i => ladderSum mem w r.job v (o.col + i) }) (q.slice h))) p
  | _ => p

/-- A weight that the fallback array multiplies for a request: CELL_ROWS codes as I4 (R114, R392), or I4 and I8 rows; `rows` is where they
lie and `fmt` their format. -/
def fbWeight (mem : Memory) (rows fmt : Nat) (r : MvmReq) (outputs i j : Nat) : Int :=
  if fmt ≤ 2 then cellValue fmt ((memRead mem (rows + 128 * i + j / 4)).toNat / 4 ^ (j % 4) % 4)
  else ladderWeight mem rows fmt outputs (512 * r.pos + i) (512 * r.block + j)

/-- The tile result of fallback work: the exact product with the slot's residual and outlier parts (R392). -/
def fbResult (mem : Memory) (w : SlotSrc × Nat) (m : Mvm) (outputs : Nat) : List Int × (Nat × Nat) :=
  let s := slotParams mem w.1.params
  let cells := decide (w.2 ≤ 2)
  let m : Mvm := if cells then { m with req := { m.req with mask := outlierRows s } } else m
  let resid := if cells then (List.range (fld s 90 2)).map fun i => leNat (memReadN mem (w.1.resid + 4 * i) 4) else []
  let rows := if cells then outlierRows s else []
  let outw := if cells then memReadN mem w.1.outw 4096 else []
  let out (j : Nat) : SatSum := outlierSum rows outw (fld s 64 1) m j
  ((List.range 512).map fun j =>
    sat32 (256 * sumInt ((List.range 512).map fun i => m.act i * fbWeight mem w.1.rows w.2 m.req outputs i j) + residPart resid (fld s 64 1) m j +
      toQ8 (out j).1),
   outlierSats 512 out)

/-- FALLBACK_COMPLETE (R114, R115, R171, R392): the next layer MVM of the slice's fallback array is done; ladder re-executions come
before it. Work that waits for a shard lets other work pass. -/
def Part.fallbackDone (p : Part) (mem : Memory) (c : Nat) : Part :=
  match takeFirst (fun w => !p.workWaits w) ((p.slice c).work.filter FbWork.isLadder ++ (p.slice c).work.filter fun w => !w.isLadder) with
  | some (.mvm r, rest) =>
      match p.job r.job with
      | none => p.setSlice c { p.slice c with work := rest }
      | some j =>
        match (p.slice (nth (0, 0) j.job.homes r.block).1).bind r.job (512 * r.block) (blockGroups (nth (0, 0) j.job.homes r.block).2) with
        | none => p
        | some hs =>
          let p := p.setSlice (nth (0, 0) j.job.homes r.block).1 hs
          let p := p.setSlice c { p.slice c with work := rest }
          let w := p.fbSource j.job r
          let p := p.touchShards w.1.rows
          let (vals, ovf) := fbResult mem w (p.layerMvm r false) j.job.outputs
          (p.countOutliers c ovf).deliverResult c r vals
  | _ => p

/-! ### The load probe (R98, R99, R503, R504) -/

/-- binary64 sum, product and quotient (R504). -/
def dsum (l : List Q) : Q := l.foldl (fun a b => binary64.rnd (a.add b)) Q.zero
/-- binary64 product. -/
def dmul (a b : Q) : Q := binary64.rnd (a.mul b)
/-- binary64 difference. -/
def dsub (a b : Q) : Q := binary64.rnd (a.sub b)
/-- binary64 quotient; not finite when the divisor is zero. -/
def ddiv (a b : Q) : Q := if b.n = 0 then Q.of 0 0 else binary64.rnd (a.div b)

/-- The gain lies in 0.75 to 1.25 and the offset within ±16, before rounding (R99, R504). -/
def corrOk (gain offset : Q) : Bool :=
  !gain.bad && !offset.bad && Q.le (Q.of 3 4) gain && Q.le gain (Q.of 5 4) && Q.le (Q.ofInt (-16)) offset && Q.le offset (Q.ofInt 16)

/-- GAIN and OFFSET as their fields hold them (R504). -/
def corrField (gain offset : Q) : Nat × Int := ((gain.scale 15).round.toNat, (offset.scale 8).round)

/-- What the fit says of a column. -/
inductive Fit where
  | keep
  | value (g : Nat) (o : Int)
  | out
deriving DecidableEq, Repr

/-- The least-squares fit of a column over the probes that measured it (R98, R504): pairs (e_k, m_k). -/
def fitColumn (d : Q) (l : List (Int × Q)) : Fit :=
  if l.all fun x => x.1 == (nth (0, Q.zero) l 0).1 then .keep
  else
    let n := Q.ofInt l.length
    let se := dsum (l.map fun x => Q.ofInt x.1)
    let sm := dsum (l.map fun x => x.2)
    let sem := dsum (l.map fun x => dmul (Q.ofInt x.1) x.2)
    let see := dsum (l.map fun x => dmul (Q.ofInt x.1) (Q.ofInt x.1))
    let alpha := ddiv (dsub (dmul n sem) (dmul se sm)) (dsub (dmul n see) (dmul se se))
    if alpha.bad then .out
    else
      let beta := ddiv (dsub sm (dmul alpha se)) n
      let gain := ddiv d alpha
      if corrOk gain beta.neg then .value (corrField gain beta.neg).1 (corrField gain beta.neg).2 else .out

/-- A load probe or deep probe of a bank is still under way. -/
def Part.probesLeft (p : Part) (k : Nat) : Bool :=
  let tl := p.tile (k / 2)
  let mine (m : Mvm) : Bool := m.req.bank == k % 2 && (match m.kind with
    | .probe _ => true
    | _ => false)
  tl.queue.any mine || tl.runs.any fun r => mine r.m

/-- A deep probe that the anneal unit ran is complete: its task is answered (R117). -/
def Part.probeTaskDone (p : Part) (k : Nat) : Part :=
  let a := p.acd (k / 2048)
  match a.anneal with
  | none => p
  | some r =>
    if r.probe && r.bank == k then (p.setAcd (k / 2048) { a with anneal := none }).answer (12 + k / 2048) r.msg 0 stOk [] else p

/-- LOAD_PROBE_FIT (R98, R99): after the last probe result, gain and offset of every column are fitted; columns out of range
are repaired by a map update. -/
def Part.probeFit (p : Part) (k : Nat) : Part :=
  let b := p.bank k
  if !b.probing || p.probesLeft k then p
  else
    let d := qD b.probeD
    let pairs (j : Nat) : List (Int × Q) := (List.range 8).filterMap fun n =>
      match mfind b.meas (512 * n + j) with
      | none => none
      | some (x, y) => some (mget 0 b.sums (512 * n + j), Q.of x y)
    let fits := (List.range 512).map fun j => fitColumn d (pairs j)
    let fixed (j : Nat) : Bool := b.calOor.contains j && (match nth Fit.keep fits j with
      | .value _ _ => true
      | _ => false)
    let p := p.setBank k { b with
      probing := false, probed := true, lastProbe := p.now, meas := [], sums := [], calOor := b.calOor.filter (fun j => !fixed j),
      oor := b.oor.filter (fun j => !fixed j),
      fitted := (List.range 512).filter fun j => match nth Fit.keep fits j with
        | .value _ _ => true
        | _ => false,
      colcorr := (List.range 512).foldl (fun l j => match nth Fit.keep fits j with
        | .value g o => mset (0, 0) l j (g, o)
        | _ => l) b.colcorr }
    let bad := (List.range 512).filter fun j => nth Fit.keep fits j == Fit.out
    let p := (bad.foldl (fun q j => q.outOfRange k j) ((p.relatch k).trimShadow k)).readiness
    (if b.st = .deep ∨ 491 < b.a.natAbs then p.annealResched k else p).probeTaskDone k

/-! ### DIAG_MVM (R479) -/

/-- Bytes of a packet. -/
abbrev bytesAt (b : Bytes) (off n : Nat) : Bytes := Sys2Proof.Machine.slice b off n

/-- DIAG_MVM (R479): an MVM on a named bank that queues as generation work with the bank's epoch. -/
def Part.diagMvm (p : Part) (i : Nat) (k : Bytes) : Part :=
  let t := 1024 * par k 0 1 + par k 2 2
  let bn := 2 * t + par k 1 1
  let b := p.bank bn
  if !p.tileService t then p.finish i stNotReady []
  else if !(p.tile t).ready then p.finish i stNotReady []
  else if b.st ≠ .shallow ∧ b.st ≠ .deep then p.finish i stBadParam []
  else
    let a4 := decide (par k 4 1 = 1)
    let m : Mvm := {
      req := { tile := t, bank := par k 1 1, epoch := b.epoch, width := if a4 then .a4 else .a8, mask := [], job := 0, block := 0,
               pos := 0, cls := .generation, split := 0x0F, src := b.src, fmt := b.wfmt, fb := false, await := false },
      kind := .diag i, blocks := 0xFF, half := 0, due := false, wake := p.gated (tileCluster t),
      acts := (bytesAt k 32 512).map fun x => sext (if a4 then 4 else 8) x.toNat, side := [] }
    p.mvmArrive t m

/-! ### The commands -/

/-- A slice or cluster of the part. -/
def sliceOk (c : Nat) : Bool := decide (c < 128)

/-- MVM (R43). -/
def execMvm (t : Nat) (s : State) : Out := s.live (3 + t / 1024) (tileOk t) fun p => p.mvm t

/-- MVM_GRANT (R214). -/
def execMvmGrant (c : Nat) (s : State) : Out := s.live (3 + c / 16) (sliceOk c) fun p => p.grant c

/-- MVM_START (R35). -/
def execMvmStart (t : Nat) (s : State) : Out := s.live (3 + t / 1024) (tileOk t) fun p => p.mvmStart t

/-- MVM_RESULT (R93). -/
def execMvmResult (t : Nat) (xs : List (List Int)) (s : State) : Out :=
  s.live (3 + t / 1024) (tileOk t) fun p => p.mvmResult t xs

/-- TILE_RESULT_ARRIVE (R135). -/
def execTileResultArrive (c : Nat) (s : State) : Out := s.live (3 + c / 16) (sliceOk c) fun p => p.resultArrive c

/-- LOAD_PROBE_FIT (R98). -/
def execLoadProbeFit (k : Nat) (s : State) : Out := s.live (3 + k / 2048) (bankOk k) fun p => p.probeFit k

/-- BALANCE_WINDOW (R214). -/
def execBalanceWindow (s : State) : Out := s.live 1 true Part.balanceWindow

/-- DIAG_MVM (R479). -/
def execDiagMvm (i : Nat) (s : State) : Out := s.cmd i 0xF4 fun k p => p.diagMvm i k

end Sys2Proof.Machine
end

