-- ==== Sys2Proof/Machine/Output.lean ====
section
/-! DEFINITION. Output: from accumulators to the next layer: the output stage, activation steps, stochastic rounding and the
destinations of an output vector (R107 to R109, R125 to R129, R133, R139, R140). -/
namespace Sys2Proof.Machine

/-! ### The output stage (R139) -/

/-- The four binary32 operations of R139 before rounding limits: acc to binary32, times the step, times ASTEP, plus BIAS. Each
entry is an exact result that is then rounded; the last is y. -/
def outputSteps (acc : Int) (step astep bias : Q) : List Q :=
  let a := (binary32.rnd (Q.ofInt acc)).scale (-8)
  let y1 := a.mul step
  let y2 := (binary32.rnd y1).mul astep
  [y1, y2, (binary32.rnd y2).add bias]

/-- The output y of R139. -/
def outputOf (acc : Int) (step astep bias : Q) : Q := binary32.rnd (nth Q.zero (outputSteps acc step astep bias) 2)

/-- The saturations that R133 counts on the way to y. -/
def outputOver (acc : Int) (step astep bias : Q) : Nat := ((outputSteps acc step astep bias).filter binary32.ovf).length

/-- Field of a column's entry of LAYER_PARAMS (R148) in the bytes that the job took up with its step: WSCALE, LSCALE and BIAS. -/
def columnParam (params : Bytes) (col off n : Nat) : Nat := fld params (64 + 8 * col + off) n

/-- The step of a column: WSCALE, or LSCALE after a ladder re-execution (R126). -/
def columnStep (params : Bytes) (col : Nat) (ladder : Bool) : Q := ofBf16 (columnParam params col (if ladder then 2 else 0) 2)

/-- BIAS of a column. -/
def columnBias (params : Bytes) (col : Nat) : Q := ofF32 (columnParam params col 4 4)

/-- The outputs of the columns of a set that the layer has (R139), with their columns, and the saturations. -/
def drainSet (params : Bytes) (outputs : Nat) (astep : Q) (x : OutSet) : List (Nat × Nat) × Nat :=
  let cols := (List.range 64).filter fun i => decide (x.col + i < outputs)
  let step (i : Nat) : Q := columnStep params (x.col + i) x.ladder
  let bias (i : Nat) : Q := columnBias params (x.col + i)
  (cols.map fun i => (x.col + i, toF32 (outputOf (nth 0 x.acc i) (step i) astep (bias i))),
   sumNat (cols.map fun i => outputOver (nth 0 x.acc i) (step i) astep (bias i)))

/-- SET_DRAIN_END (R25, R136, R139): a complete set of a group finishes draining; its outputs belong to its job and the set is free. No
stack is read here: the steps and biases came with the step. -/
def Part.setDrainEnd (p : Part) (c g : Nat) (y : Bool) : Part :=
  let s := p.slice c
  match s.sets.find? fun x => x.group == g && x.y == y && x.drain with
  | none => p
  | some x =>
    let p := p.setSlice c { s with sets := s.sets.filter fun z => !(z.group == g && z.y == y) }
    match p.job x.job with
    | none => p
    | some j =>
      let (outs, ovf) := drainSet j.params j.job.outputs (ofBf16 (p.vect j.job.vec).step) x
      (p.modJob x.job fun j => { j with outs := outs.foldl (fun m o => minsert m o.1 o.2) j.outs }).bump
        (aNumSliceCnt (12 + c / 16) (c % 16)) 0 16 ovf

/-! ### Requantisation (R105, R108, R127 to R129) -/

/-- Largest code of a width, and the divisor of a dynamic step. -/
def codeMax (w : Width) : Int :=
  match w with
  | .a8 => 127
  | .a4 => 7

/-- The largest |z| over the elements that are not outlier rows (R128). -/
def largest (outliers : List Nat) : List Q → Nat → Q
  | [], _ => Q.zero
  | z :: zs, i =>
    let m := largest outliers zs (i + 1)
    if outliers.contains i then m else if m.lt z.abs then z.abs else m

/-- The least positive normal BF16 pattern. -/
def leastStep : Nat := 0x0080

/-- ASTEP of a vector (R128, R129). DEDUCED (log entry 159): where m / 127 or m / 7 is too small to be normal, ASTEP is the least
positive normal value, since R127 lets it be no other. -/
def activationStep (w : Width) (step : Option Nat) (outliers : List Nat) (zs : List Q) : Nat :=
  match step with
  | some v => v
  | none =>
    let m := largest outliers zs 0
    if m.n = 0 then 0x3F80 else max leastStep (toBf16Up (fdiv m (Q.ofInt (codeMax w))))

/-- A requantised element before saturation (R108); with `sr` false to nearest, ties to even (TP_CTL.SR_DIS). -/
def requant (sr : Bool) (r : Nat) (y : Q) : Int := if sr then (y.add (Q.of r 65536)).floor else y.round

/-- The code of an element, and whether it saturated. -/
def requantCode (w : Width) (sr : Bool) (r : Nat) (y : Q) : Int × Bool :=
  let q := requant sr r y
  (clipInt (-(codeMax w) - 1) (codeMax w) q, decide (q < -(codeMax w) - 1 ∨ codeMax w < q))

/-- What requantising a vector answers: the vector, the elements that saturated (REQ_SAT), and the quotients that saturated as binary32
results (FP_SAT). -/
structure Requant where
  vec : Vect
  sat : List Nat
  ovfs : List Nat
deriving DecidableEq, Repr

/-- An output vector requantised as the input of a layer (R105, R108, R133, R140): codes with zero at outlier rows and their BF16 side
values. `r i` is the stochastic rounding value of element i. -/
def requantVector (w : Width) (step : Option Nat) (outliers : List Nat) (sr : Bool) (r : Nat → Nat) (zs : List Q) : Requant :=
  let a := activationStep w step outliers zs
  let y (i : Nat) : Q := fdiv (nth Q.zero zs i) (ofBf16 a)
  let code (i : Nat) : Int × Bool := if outliers.contains i then (0, false) else requantCode w sr (r i) (y i)
  let side := outliers.filter fun i => decide (i < zs.length)
  { vec := { codes := (List.range zs.length).map fun i => (code i).1, step := a, side := side.map fun i => (i, toBf16 (y i)), val := [], raw := [] },
    sat := (List.range zs.length).filter fun i => (code i).2,
    ovfs := (List.range zs.length).filter fun i => binary32.ovf ((nth Q.zero zs i).div (ofBf16 a)) }

/-! ### Destinations (R140) -/

/-- An element in a key or value format (R130 to R133): its bytes. -/
def kvElement (fmt : Nat) (x : Q) : Bytes :=
  if fmt = 0 then leBytes 1 (e4m3.encode 4 (e4m3.rnd x))
  else if fmt = 1 then leBytes 1 (e5m2.encode 5 (e5m2.rnd x))
  else leBytes 2 (toBf16 x)

/-- The append message of R185 to a sequence slot of a context die, its elements divided in binary32 by the layer's scale (R177). -/
def appendMsg (die cxd slot epoch position layer head count kind fmt tag : Nat) (scale : Q) (zs : List Q) : DieMsg :=
  let header := leBytes 4 position ++ leBytes 2 layer ++ leBytes 1 head ++ leBytes 1 count ++ leBytes 1 kind ++ leBytes 1 fmt ++
    leBytes 2 tag ++ zpad 4
  let data := pad16 (zs.flatMap fun z => kvElement fmt (fdiv z scale))
  { dst := 8 + cxd, cls := 4, src := die, len := 16 + data.length, unit := slot, epoch := epoch, seq := 0,
    crClass := 0, crCount := 0, payload := header ++ data }

/-- All outputs of a job are in. -/
def JobRun.whole (j : JobRun) : Bool := j.outs.length == j.job.outputs && decide (0 < j.job.outputs)

/-- A vector on its way through the vector stage: its elements, the values after its last leading addition, and the binary32 results that
saturated. -/
structure Staged where
  zs : List Q
  val : List Q
  ovfs : Nat
deriving DecidableEq, Repr

/-- The functions of the vector stage in order (R140): residual addition adds an earlier vector in binary32; the placement's own functions
are those of its GRAPH section. DESIGN CHOICE (log entry 160): what a later residual addition takes from a vector is its value before the
first function that is not an addition. -/
def Part.stageFns (p : Part) (placement : Nat) : List VecFn → Bool → Staged → Staged
  | [], _, s => s
  | .fn c :: fs, _, s =>
    let out := (Config.vectorFn placement c (s.zs.map fun z => (toF32 z : Int))).map fun v => ofF32 v.toNat
    p.stageFns placement fs false { s with zs := out }
  | .add v :: fs, lead, s =>
    let xs := (p.vect v).val
    let exact := (List.range s.zs.length).map fun i => (nth Q.zero s.zs i).add (ofF32 (nth 0 xs i))
    let zs := exact.map binary32.rnd
    p.stageFns placement fs lead { zs := zs, val := if lead then zs else s.val, ovfs := s.ovfs + (exact.filter binary32.ovf).length }

/-- The output vector of a job after the vector stage (R140). -/
def Part.staged (p : Part) (placement : Nat) (fns : List VecFn) (outs : List (Nat × Nat)) : Staged :=
  let zs := outs.map fun o => ofF32 o.2
  p.stageFns placement fns true { zs := zs, val := zs, ovfs := 0 }

/-! ### What the placement fixes of a layer (R104, R127 to R129, R140, R177) -/

/-- What CTL read from the GRAPH section of a placement. -/
def Part.graphOf (p : Part) (e : Nat) : Option Graph := (mfind p.models.table e).bind fun v => v.graph

/-- A layer works on the temper path, with I4 or I8 weights (R140, R148): its placement has DIGITAL_WEIGHTS for it. -/
def Part.onTemper (p : Part) (j : LayerJob) : Bool :=
  ((p.jobVer j).any fun v => (v.layerAt 6 j.layer).isSome) || j.mvms.any fun r => decide (3 ≤ r.fmt)

/-- The input width of a layer: the placement's, and A8 on the temper path (R127, R140). -/
def layerWidth (g : Graph) (layer : Nat) (temper : Bool) : Width := if !temper && nth 8 g.widths layer == 4 then .a4 else .a8

/-- The outlier elements of a layer's input: the rows that the lists of the layer's slots name (R104, R148). -/
def Version.layerOutliers (v : Version) (layer : Nat) : List Nat :=
  ((v.recs.filter fun r => r.layer == layer).flatMap fun r => (outlierRows r.bytes).map fun i => 512 * r.pos + i).eraseDups

/-- Width, static step and outlier elements with which a vector is requantised: those that the placement fixes for the layer whose jobs
wait for the vector, else those of the command. -/
def Part.inputFormat (p : Part) (v : Nat) (w : Width) (step : Option Nat) (outliers : List Nat) :
    Width × Option Nat × List Nat :=
  match (p.an.jobs.find? fun k => k.job.vec == v).bind fun k => (p.jobVer k.job).bind fun e => e.graph.map fun g => (k.job, e, g) with
  | none => (w, step, outliers)
  | some (j, e, g) =>
    let x := nth 0 g.statics j.layer
    (layerWidth g j.layer (p.onTemper j), if x = 0 then none else some x, e.layerOutliers j.layer)

/-- K_SCALE or V_SCALE of a layer, and the format of keys and values (R177). -/
def Part.kvFormat (p : Part) (placement layer kind : Nat) : Q × Nat :=
  match p.graphOf placement with
  | none => (Q.ofInt 1, 0)
  | some g => (ofF32 (nth 0x3F800000 (if kind = 0 then g.kScale else g.vScale) layer), g.fmt)

/-- The slice that requantises an element of a job. -/
def jobHome (j : LayerJob) (i : Nat) : Nat := (nth (0, 0) j.homes (i / 512 % max 1 j.homes.length)).1

/-- Count saturated elements in REQ_SAT of their slices (R108). -/
def Part.countReqSat (p : Part) (j : LayerJob) (l : List Nat) : Part :=
  l.foldl (fun q i => q.bump (aTpSliceCnt (12 + jobHome j i / 16) (jobHome j i % 16)) 48 16 1) p

/-- Count binary32 results of a job's home slice that saturated (R133). -/
def Part.countFpSat (p : Part) (c n : Nat) : Part := p.bump (aNumSliceCnt (12 + c / 16) (c % 16)) 0 16 n

/-- The logits of the final projection, the job with as many outputs as the vocabulary, reach the sampling unit of the slot's step as
binary32 patterns (R25, R140; log entry 189). -/
def Part.keepLogits (p : Part) (j : LayerJob) (fp32 : Bool) (zs : List Q) : Part :=
  if (p.graphOf j.placement).any fun g => g.vocab == zs.length then
    let row := zs.map fun z => if fp32 then toF32 z else toBf16 z * 65536
    { p with kv := { p.kv with slots := mmod KvSlot.reset p.kv.slots j.slot fun v =>
        if v.inStep then { v with logits := mset [] v.logits j.position row } else v } }
  else p

/-- VECTOR_STAGE (R109, R140, R204): a job's whole output vector passes the vector stage and goes to its destination; its step's seed
rounds it, and an append carries the low 16 bits of the step's number. -/
def Part.vectorStage (p : Part) (id : Nat) (fns : List VecFn) (dest : Dest) : Part :=
  match p.job id with
  | none => p
  | some r =>
    if !r.whole then p
    else
      let j := r.job
      let c := jobHome j 0
      let s := p.staged j.placement fns r.outs
      let p := (p.dropJob id).countFpSat c s.ovfs
      match dest with
      | .layer w step outliers v =>
        let (w, step, outliers) := p.inputFormat v w step outliers
        let sr := p.regFld (aTpCtl (12 + c / 16)) 0 1 == 0
        let x := requantVector w step outliers sr (stochasticR r.seed j.layer j.slot j.position) s.zs
        ((p.countReqSat j x.sat).countFpSat c x.ovfs.length).putVect v { x.vec with val := s.val.map toF32 }
      | .append cxd slot epoch position layer head count kind =>
        let (scale, fmt) := p.kvFormat j.placement layer kind
        let ovfs := (s.zs.filter fun z => binary32.ovf (z.div scale)).length
        (p.countFpSat c ovfs).send
          (appendMsg (12 + c / 16) cxd slot epoch position layer head count kind fmt (j.step % 65536) scale s.zs)
      | .cxd fp32 v =>
        (p.keepLogits j fp32 s.zs).putVect v
          { codes := [], step := 0, side := [], val := s.val.map toF32, raw := s.zs.map fun z => if fp32 then toF32 z else toBf16 z }

/-! ### The commands -/

/-- SET_DRAIN_END (R139). -/
def execSetDrainEnd (c g : Nat) (y : Bool) (s : State) : Out :=
  s.live (3 + c / 16) (sliceOk c && decide (g < 512)) fun p => p.setDrainEnd c g y

/-- VECTOR_STAGE (R140). -/
def execVectorStage (job : Nat) (fns : List VecFn) (dest : Dest) (s : State) : Out :=
  match s.part.job job with
  | none => .next s
  | some j => s.live (3 + jobHome j.job 0 / 16) true fun p => p.vectorStage job fns dest

end Sys2Proof.Machine
end

