-- ==== Sys2Proof/Machine/Anneal.lean ====
section
/-! DEFINITION. Anneal: column checks, deep probes and their schedule, and the calibration rounds of an ACD (R84, R116 to R120,
R388 to R394, R503, R504). -/
namespace Sys2Proof.Machine

/-! ### The schedule (R117, R118) -/

/-- LIFE at which a refresh is due (R117). -/
def refreshLife : Nat := 300000

/-- The cluster temperature of a bank. -/
def Part.bankTemp (p : Part) (k : Nat) : Int := (p.cluster (tileCluster (k / 2))).temp

/-- A column check of a bank is due. -/
def Part.checkDueNow (p : Part) (k : Nat) : Bool :=
  decide (min (p.bank k).dueCheck ((p.bank k).lastCheck + checkInterval (p.bankTemp k)) ≤ p.now)

/-- A deep probe of a DEEP bank is due. -/
def Part.probeDueNow (p : Part) (k : Nat) : Bool :=
  (p.bank k).st == .deep && decide (min (p.bank k).dueProbe ((p.bank k).lastProbe + probeInterval (p.bankTemp k)) ≤ p.now)

/-- A refresh of a bank is due (R117, R118). -/
def Bank.refreshDueNow (b : Bank) : Bool :=
  (b.st == .shallow && (decide (b.life ≤ refreshLife) || decide (491 < b.a.natAbs))) || b.st == .expired

/-! ### The anneal unit (R116, R117, R119) -/

/-- The five commands of a column check (R116's list): converter point +300, then integrator point +300 and 0 at both parities, at
range ±128, 64 phases, all converters, for bank `b`. -/
def checkWord (b i : Nat) : Nat :=
  let dac := if i ≤ 2 then 300 else 0
  let integ := if i = 0 then 0 else 2 ^ 12 + 2 ^ 14 * ((i - 1) % 2) + 2 ^ 25 * b
  dac + 2 ^ 10 + integ + 2 ^ 13 + 2 ^ 32 * 64

/-- The anneal unit issues command `i` of a column check on a tile. -/
def Part.checkCommand (p : Part) (k i : Nat) : Part := p.calStart (k / 2) (checkWord (k % 2) i) none

/-- Probe sums of a DEEP bank from the rows of its ingot (R96, R116). -/
def Part.ingotSums (p : Part) (mem : Memory) (b : Bank) : List (Nat × Int) :=
  let rows := (List.range 512).map fun r => memReadN mem ((p.srcNow b b.src).rows + 128 * r) 128
  probeSumsOf fun r j => cellValue b.wfmt (rowCode (nth [] rows r) j)

/-- ANNEAL_TASK (R117): the anneal unit takes the message at its head when it is free. The manual gives the message no layout, so
the task and bank come with the command: a column check, or a deep probe of a DEEP bank. Both use only tile-time that no request work
claims: the message waits at the head until the tile is idle (R120, R215), and a deep probe until its rows are verified (R151). -/
def Part.annealTask (p : Part) (mem : Memory) (die k : Nat) (probe : Bool) : Part :=
  match p.headCmd die 0xC10 0xB8 with
  | none => p
  | some m =>
    let a := p.acd (die - 12)
    if a.anneal.isSome || (!probe && (p.tile (k / 2)).cal.isSome) || !p.tileIdle (k / 2) || (probe && (p.rowsWait k || p.rowsLost k)) then p
    else
      let p := p.popInbox die 0xC10
      let b := p.bank k
      if probe && b.st != .deep then p.answer die m 0 stBankState []
      else
        let p := p.setAcd (die - 12) { a with anneal := some { probe := probe, bank := k, msg := m, tries := 0, words := [] } }
        if probe then
          ((p.setBank k { b with probeDue := false, dueProbe := p.now + probeInterval (p.bankTemp k) }).touchRows k).issueProbes k
            (p.gated (tileCluster (k / 2))) (p.ingotSums mem b)
        else (p.setBank k { b with checkDue := false, lastCheck := p.now, dueCheck := p.now + checkInterval (p.bankTemp k) }).checkCommand k 0

/-- The check that the anneal unit of a tile's ACD runs on that tile, with commands left. -/
def Part.checkOn (p : Part) (t : Nat) : Option AnnealRun :=
  match (p.acd (t / 1024)).anneal with
  | none => none
  | some r => if !r.probe && r.bank / 2 == t && decide (r.words.length < 5) then some r else none

/-- The ACC words that a command's conversions make (R85). -/
def accWords (cs : List Conversion) : List Nat :=
  (List.range 260).map fun k =>
    (cs.filter fun c => c.conv == k).foldl (fun w c => (accAdd w c.code c.clip).getD w) accEmpty

/-- COUNT of an ACC word. -/
def accCount (w : Nat) : Nat := w / 2 ^ 24 % 4096

/-- A command of a column check has ended (R119): with a COUNT below 32 it is reissued up to four times, then the check is
deferred; otherwise the next command follows. -/
def Part.checkStep (p : Part) (t : Nat) (r : AnnealRun) (cs : List Conversion) : Part :=
  let a := p.acd (t / 1024)
  let words := accWords cs
  if words.any fun w => decide (accCount w < 32) then
    if r.tries < 4 then (p.setAcd (t / 1024) { a with anneal := some { r with tries := r.tries + 1 } }).checkCommand r.bank r.words.length
    else
      let p := (p.setAcd (t / 1024) { a with anneal := none }).bump (aAnnealStatus (tileDie t)) 48 16 1
      (p.setBank r.bank { p.bank r.bank with checkDue := true }).answer (tileDie t) r.msg 0 stOk []
  else
    let r := { r with tries := 0, words := r.words ++ [words] }
    let p := p.setAcd (t / 1024) { a with anneal := some r }
    if r.words.length < 5 then p.checkCommand r.bank r.words.length else p

/-- CAL_COMPLETE (R80): the command ends n * 8 ns after its first phase; its conversions are captured and CAL_BUSY clears.
`devs` gives, for each phase and converter, what the input path adds to the injection. DESIGN CHOICE (log entry 155): the codes of a
command reach the capture memory when it ends, in the order of its phases. -/
def Part.calComplete (p : Part) (t : Nat) (devs : List (List Int)) : Part :=
  match (p.tile t).cal with
  | none => p
  | some c =>
    if p.now < c.start + 8 * c.phases then p
    else
      let cs := calConversions c p.freeTick devs
      let p := p.countDrops t
      let p := { p with freeTick := p.freeTick + 260 * c.phases }
      let p := (p.setTile t { p.tile t with cal := none }).captureAll t cs
      match c.msg with
      | some m => p.answer (tileDie t) m 0 stOk []
      | none =>
        match p.checkOn t with
        | none => p
        | some r => p.checkStep t r cs

/-! ### Column checks (R84, R116) -/

/-- SUM of an ACC word. -/
def accSum (w : Nat) : Int := sext 24 w
/-- MAX - MIN of an ACC word. -/
def accSpread (w : Nat) : Int := sext 8 (w / 2 ^ 44) - sext 8 (w / 2 ^ 36)
/-- The mean code of an ACC word. -/
def accMean (w : Nat) : Q := Q.of (accSum w) (accCount w)

/-- |a - b| is at most `n` steps. -/
def within (a b : Q) (n : Int) : Bool := Q.le (Q.sub a b).abs (Q.ofInt n)

/-- The converter is good by its converter-point word (R84), at DAC code `d`. -/
def converterGood (d : Int) (w : Nat) : Bool := within (accMean w) (Q.ofInt (d / 4)) 1 && decide (accSpread w ≤ 6)

/-- The path of a column is good by its integrator-point word (R84). -/
def pathGood (conv w : Nat) : Bool := within (accMean w) (accMean conv) 2 && decide (accSpread w ≤ 8)

/-- The columns with a path fault by the words of a diagnosis (R84): converter k serves columns 2k and 2k + 1; the paths of a faulty
converter are not judged. -/
def faultyColumns (words : List (List Nat)) : List Nat :=
  (List.range 520).filter fun j =>
    converterGood 300 (nth 0 (nth [] words 0) (j / 2)) &&
    !pathGood (nth 0 (nth [] words 0) (j / 2)) (nth 0 (nth [] words (1 + j % 2)) (j / 2))

/-- Some converter is faulty by the words of a column check (R84). -/
def converterFault (words : List (List Nat)) : Bool := !(nth [] words 0).all (converterGood 300)

/-- A column with a faulty path is repaired in one bank's map (R84, R503). -/
def Part.pathRepair (p : Part) (k j : Nat) : Part :=
  let q := p.recordRepair k j
  if (q.bank k).colPending j || decide (512 ≤ j) then q else q.shadowColumn k j

/-- A tile leaves service with a converter fault (R84). -/
def Part.tileFault (p : Part) (t : Nat) : Part := p.setTile t { p.tile t with ready := false, convFault := true }

/-- Repair columns in both banks' maps. -/
def Part.repairTile (p : Part) (t : Nat) (cols : List Nat) : Part :=
  cols.foldl (fun q j => (q.pathRepair (2 * t) j).pathRepair (2 * t + 1) j) p

/-- A rational from its pair. -/
def qOf (x : Int × Nat) : Q := Q.of x.1 x.2

/-- The update of one column by a column check (R94, R116, R504): g and o measured now, and those of the check before. A column that
has no earlier g and o keeps its gain and offset, and so does one that a load probe fitted at the same instant: the probe's values stand.
DESIGN CHOICE (log entry 158): a column that is out of range is not in service and is left alone. -/
def Part.updateColumn (p : Part) (k : Nat) (x : ColMeas) : Part :=
  let b := p.bank k
  if b.oor.contains x.col then p
  else
    let put (b : Bank) : Bank := { b with prev := minsert b.prev x.col (x.g, x.o) }
    match mfind b.prev x.col with
    | none => p.setBank k (put b)
    | some (g, o) =>
      if b.probed && b.lastProbe == p.now && b.fitted.contains x.col then p.setBank k (put b)
      else
      let gain := ddiv (dmul (qGain b.colcorr x.col) (qOf g)) (qOf x.g)
      let offset := dsum [qOffset b.colcorr x.col, dsub (qOf x.o) (qOf o)]
      if corrOk gain offset then p.setBank k { put b with colcorr := mset (0, 0) b.colcorr x.col (corrField gain offset) }
      else (p.setBank k (put b)).outOfRange k x.col

/-- COLUMN_CHECK_COMPLETE (R84, R116): the five commands are done: a converter fault takes the tile out of service, path faults
take pending repairs, and the gains and offsets of the bank are updated from the g and o measured. -/
def Part.columnCheck (p : Part) (a : Nat) (meas : List ColMeas) : Part :=
  match (p.acd a).anneal with
  | none => p
  | some r =>
    if r.probe || decide (r.words.length < 5) then p
    else
      let t := r.bank / 2
      let p := p.setAcd a { p.acd a with anneal := none }
      let good (x : ColMeas) : Bool := decide (x.col < 512) && converterGood 300 (nth 0 (nth [] r.words 0) (x.col / 2)) &&
        !(faultyColumns r.words).contains x.col
      let p := p.repairTile t (faultyColumns r.words)
      let p := if converterFault r.words then p.tileFault t else p
      let p := ((meas.filter good).foldl (fun q x => q.updateColumn r.bank x) p).relatch r.bank
      p.readiness.answer (12 + a) r.msg 0 stOk []

/-! ### Calibration rounds (R388 to R391) -/

/-- Both banks of every tile of a cluster pair have their maps. -/
def Part.hotPair (p : Part) (a k : Nat) : Bool :=
  decide (380 < (p.cluster (16 * a + 2 * k)).temp) || decide (380 < (p.cluster (16 * a + 2 * k + 1)).temp)

/-- CAL_ROUND_START (R389): the next round starts once both of its clusters are at 95 °C or below; each second of waiting is
counted in HOT_WAIT. -/
def Part.calRoundStart (p : Part) (a : Nat) : Part :=
  let x := p.acd a
  if x.mapAt.isNone || x.calActive || decide (8 ≤ x.calRound) || decide (p.boot.stage < 2) then p
  else
    let s := if x.calWaiting then (p.now - x.hotSince) / 1000000000 else 0
    let p := p.bump (aCalStatus (12 + a)) 32 16 s
    let since := if x.calWaiting then x.hotSince + s * 1000000000 else p.now
    if p.hotPair a x.calRound then p.setAcd a { x with calWaiting := true, hotSince := since }
    else p.setAcd a { x with calWaiting := false, calActive := true }

/-- What calibration measured of a column gives its gain and offset (R388 step 4, R504). -/
def Bank.bringupColumn (b : Bank) (x : ColMeas) : Bank :=
  let gain := ddiv (Q.ofInt 1) (qOf x.g)
  let b := { b with prev := minsert b.prev x.col (x.g, x.o) }
  if corrOk gain (qOf x.o) then { b with colcorr := mset (0, 0) b.colcorr x.col (corrField gain (qOf x.o)) }
  else { b with colcorr := mset (0, 0) b.colcorr x.col (0x8000, 0), calOor := b.calOor ++ [x.col] }

/-- The words of step 2 of R388 at DAC code +300, and those at -300, in the order of a column check. -/
def calDiag (x : TileCal) (neg : Bool) : List (List Nat) :=
  let n := bit neg
  [nth [] x.words n, nth [] x.words (2 + 2 * n), nth [] x.words (3 + 2 * n)]

/-- Some converter is faulty in the diagnosis of step 2 (R84, R388). -/
def calFault (x : TileCal) : Bool :=
  !(nth [] x.words 0).all (converterGood 300) || !(nth [] x.words 1).all (converterGood (-300))

/-- The columns with a path fault in the diagnosis of step 2 (R84, R388), at either DAC code, on a converter that is good at both. -/
def calColumns (x : TileCal) : List Nat :=
  let bad (neg : Bool) (j : Nat) : Bool :=
    let w := calDiag x neg
    !pathGood (nth 0 (nth [] w 0) (j / 2)) (nth 0 (nth [] w (1 + j % 2)) (j / 2))
  let good (j : Nat) : Bool := converterGood 300 (nth 0 (nth [] x.words 0) (j / 2)) && converterGood (-300) (nth 0 (nth [] x.words 1) (j / 2))
  (List.range 520).filter fun j => good j && (bad false j || bad true j)

/-- The results of a round for one tile: trims, diagnosis, and the gain and offset of each column in both banks. -/
def Part.calTile (p : Part) (x : TileCal) : Part :=
  let t := x.tile
  let p := p.setTile t { p.tile t with trims := x.trims }
  let bring (b : Bank) (l : List ColMeas) : Bank := l.foldl Bank.bringupColumn { b with colcorr := [], prev := [], calOor := [] }
  let p := p.setBank (2 * t) (bring (p.bank (2 * t)) x.bankA)
  let p := p.setBank (2 * t + 1) (bring (p.bank (2 * t + 1)) x.bankB)
  let p := p.repairTile t (calColumns x)
  if calFault x then p.tileFault t else p.setTile t { p.tile t with ready := (p.tile t).mapLoaded }

/-- The anneal schedule of a bank starts (R391). -/
def Part.annealStart (p : Part) (k : Nat) : Part :=
  p.setBank k { p.bank k with
    lastCheck := p.now, dueCheck := p.now + checkInterval (p.bankTemp k),
    lastProbe := p.now, dueProbe := p.now + probeInterval (p.bankTemp k) }

/-- A cluster joins service (R391). -/
def Part.clusterJoin (p : Part) (c : Nat) : Part :=
  let p := p.setCluster c { p.cluster c with service := true, calDone := true }
  let p := (p.an.banks.filter fun x => x.1 / 128 == c).foldl (fun q x => q.annealStart x.1) p
  p.ringAdd 6 0 0 (c / 16 + 16 * (c % 16) + 256)

/-- A cluster fails calibration (R389). -/
def Part.clusterFail (p : Part) (c : Nat) : Part := p.setCluster c { p.cluster c with calDone := true, calFailed := true }

/-- Stage FULL is entered from SERVICE when calibration has finished for every cluster (R381). -/
def Part.stageFull (p : Part) : Part :=
  if p.boot.stage = 3 ∧ p.calDone = 128 then { p with boot := { p.boot with stage := 4, fullAt := p.now } } else p

/-- CAL_ROUND_COMPLETE (R389, R391): the round's clusters join service, or fail calibration where the reference generator cannot
be trimmed. -/
def Part.calRoundComplete (p : Part) (a : Nat) (fail : Bool) (tiles : List TileCal) : Part :=
  let x := p.acd a
  if !x.calActive then p
  else
    let c := 16 * a + 2 * x.calRound
    let p := p.setAcd a { x with
      calActive := false, calRound := x.calRound + 1,
      failedPairs := if fail && !x.failedPairs.testBit x.calRound then x.failedPairs + 2 ^ x.calRound else x.failedPairs }
    let p := if fail then (p.clusterFail c).clusterFail (c + 1)
      else (((tiles.filter fun y => tileCluster y.tile / 2 == c / 2).foldl Part.calTile p).clusterJoin c).clusterJoin (c + 1)
    p.stageFull.readiness

/-! ### SEED_SET (R109, R277) -/

/-- The next step of the part takes up the seed of ACD.TP_SEED (R109). -/
def Part.takeSeed (p : Part) : Part :=
  (List.range 8).foldl (fun q a => q.setAcd a { q.acd a with seed := (q.acd a).nextSeed }) p

/-- A seed in ACD.TP_SEED of all eight ACDs. -/
def Part.setSeed (p : Part) (v : Word64) : Part := (List.range 8).foldl (fun q a => q.setAcd a { q.acd a with nextSeed := v }) p

/-- SEED_SET (R277): with ENTROPY a new seed is drawn. -/
def Part.seedSet (p : Part) (i : Nat) (k : Bytes) : Part :=
  if (par k 8 1).testBit 0 then
    let (v, p) := p.free
    (p.setSeed v).finish i stOk []
  else (p.setSeed (BitVec.ofNat 64 (par k 0 8))).finish i stOk []

/-! ### The commands -/

/-- An ACD of the part. -/
def acdOk (a : Nat) : Bool := decide (a < 8)

/-- CAL_COMPLETE (R80). -/
def execCalComplete (t : Nat) (devs : List (List Int)) (s : State) : Out :=
  s.live (3 + t / 1024) (tileOk t) fun p => p.calComplete t devs

/-- ANNEAL_TASK (R117). -/
def execAnnealTask (k : Nat) (probe : Bool) (s : State) : Out :=
  s.live (3 + k / 2048) (bankOk k) fun p => p.annealTask s.mem (12 + k / 2048) k probe

/-- COLUMN_CHECK_COMPLETE (R116). -/
def execColumnCheckComplete (a : Nat) (meas : List ColMeas) (s : State) : Out :=
  s.live (3 + a) (acdOk a) fun p => p.columnCheck a meas

/-- CAL_ROUND_START (R389). -/
def execCalRoundStart (a : Nat) (s : State) : Out := s.live (3 + a) (acdOk a) fun p => p.calRoundStart a

/-- CAL_ROUND_COMPLETE (R391). -/
def execCalRoundComplete (a : Nat) (fail : Bool) (tiles : List TileCal) (s : State) : Out :=
  s.live (3 + a) (acdOk a) fun p => p.calRoundComplete a fail tiles

/-- SEED_SET (R277). -/
def execSeedSet (i : Nat) (s : State) : Out := s.cmd i 0x07 fun k p => p.seedSet i k

end Sys2Proof.Machine
end

