-- ==== Sys2Proof/Machine/Flt.lean ====
section
/-! DEFINITION. Flt: binary32 with infinities and NaN, as the context dies compute (R189, R225). -/
namespace Sys2Proof.Machine

/-- A binary32 value: finite, an infinity with its sign, or NaN. -/
inductive Flt where
  | fin (q : Q)
  | inf (neg : Bool)
  | nan
deriving DecidableEq, Repr

/-- An exact result rounded to nearest, ties to even; beyond the largest finite magnitude it is infinite. -/
def Flt.rnd (q : Q) : Flt := if binary32.ovf q then .inf (decide (q.n < 0)) else .fin (binary32.rnd q)

/-- Zero. -/
def Flt.zero : Flt := .fin Q.zero
/-- One. -/
def Flt.one : Flt := .fin (Q.ofInt 1)

/-- The value has a minus sign. -/
def Flt.neg (a : Flt) : Bool :=
  match a with
  | .fin q => q.minus
  | .inf n => n
  | .nan => false

/-- The value is zero. -/
def Flt.isZero (a : Flt) : Bool :=
  match a with
  | .fin q => q.n == 0
  | _ => false

/-- The value is NaN. -/
def Flt.isNan (a : Flt) : Bool :=
  match a with
  | .nan => true
  | _ => false

/-- Sum. -/
def Flt.add (a b : Flt) : Flt :=
  match a, b with
  | .nan, _ => .nan
  | _, .nan => .nan
  | .inf x, .inf y => if x = y then .inf x else .nan
  | .inf x, _ => .inf x
  | _, .inf y => .inf y
  | .fin x, .fin y => .rnd (x.add y)

/-- Negation. -/
def Flt.opp (a : Flt) : Flt :=
  match a with
  | .fin q => .fin q.neg
  | .inf n => .inf !n
  | .nan => .nan

/-- Difference. -/
def Flt.sub (a b : Flt) : Flt := a.add b.opp

/-- Product. -/
def Flt.mul (a b : Flt) : Flt :=
  match a, b with
  | .fin x, .fin y => .rnd (x.mul y)
  | .nan, _ => .nan
  | _, .nan => .nan
  | _, _ => if a.isZero || b.isZero then .nan else .inf (a.neg != b.neg)

/-- Quotient. -/
def Flt.div (a b : Flt) : Flt :=
  match a, b with
  | .fin x, .fin y => if y.n = 0 then (if x.n = 0 then .nan else .inf (x.minus != y.minus)) else .rnd (x.div y)
  | .nan, _ => .nan
  | _, .nan => .nan
  | .inf _, .inf _ => .nan
  | .inf n, y => .inf (n != y.neg)
  | .fin x, .inf n => .fin ⟨0, 1, x.minus != n⟩

/-- `a` is less than `b`. -/
def Flt.lt (a b : Flt) : Bool :=
  match a, b with
  | .nan, _ => false
  | _, .nan => false
  | .fin x, .fin y => x.lt y
  | .inf x, .inf y => x && !y
  | .inf x, _ => x
  | _, .inf y => !y

/-- The value of a bit pattern with `w` exponent bits; an exponent of all ones is an infinity or NaN. -/
def Fmt.value (f : Fmt) (w v : Nat) : Flt :=
  if v / 2 ^ (f.p - 1) % 2 ^ w = 2 ^ w - 1 then
    (if v % 2 ^ (f.p - 1) = 0 then .inf (decide (v / 2 ^ (w + f.p - 1) % 2 = 1)) else .nan)
  else .fin (f.decode w v)

/-- The value of a binary32 pattern. -/
def fltOf (v : Nat) : Flt := binary32.value 8 v

/-- The binary32 pattern of a value (R133 for NaN). -/
def Flt.bits (a : Flt) : Nat :=
  match a with
  | .fin q => toF32 q
  | .inf n => if n then 0xFF800000 else 0x7F800000
  | .nan => 0x7FC00000

/-- The BF16 pattern of a value (R133). -/
def Flt.bf16 (a : Flt) : Nat :=
  match a with
  | .fin q => toBf16 q
  | .inf n => if n then 0xFF80 else 0x7F80
  | .nan => 0x7FC0

/-- ln 2 in units of 2^-200. -/
def ln2 : Nat := 1113844574712631719546256151097547306333272293549090750737802

/-- The sum of the exponential series at r / 2^128, in units of 2^-128: `n` terms more, the next one being `term` with number `k`. -/
def expSeries (r : Nat) : Nat → Nat → Nat → Nat
  | 0, _, _ => 0
  | n + 1, k, term => term + expSeries r n (k + 1) (term * r / 2 ^ 128 / (k + 1))

/-- The exponential of a number between −105 and 89, to more bits than binary32 has: 2^e times a number from 1 to 2. -/
def expQ (q : Q) : Q :=
  let e : Int := q.n * (2 ^ 200 : Nat) / ((q.d * ln2 : Nat) : Int)
  let r : Int := q.n * (2 ^ 128 : Nat) / (q.d : Int) - e * ln2 / (2 ^ 72 : Nat)
  (Q.of (expSeries r.toNat 32 0 (2 ^ 128)) (2 ^ 128)).scale e

/-- The exponential (R189): exactly 0 at −∞ and 1 at 0 (R225), elsewhere within two units in the last place of the exact value: the
nearest binary32 pattern, changed by −2 to 2 as the free function of Config says (log entry 42). -/
def Flt.exp (a : Flt) : Flt :=
  match a with
  | .nan => .nan
  | .inf n => if n then .zero else .inf false
  | .fin q =>
    if q.n = 0 then .one
    else if Q.le (Q.ofInt 89) q then .inf false
    else
      let x := if Q.le q (Q.ofInt (-105)) then 0 else toF32 (expQ q)
      fltOf (x + (Config.exp32 (BitVec.ofNat 32 (toF32 q))).toNat % 5 - 2)

/-- A stored key or value element in a KV format: 0 E4M3, 1 E5M2, 2 BF16 (R130, R131). -/
def kvValue (fmt v : Nat) : Flt :=
  if fmt = 0 then (if v % 128 = 127 then .nan else .fin (e4m3.decode 4 v)) else if fmt = 1 then e5m2.value 5 v else bfloat16.value 8 v

end Sys2Proof.Machine
end

