-- ==== Sys2Proof/Machine/Links.lean ====
section
/-! DEFINITION. Links: lanes, the states of a link, ports, flits, replay and credits (R292 to R301). -/
namespace Sys2Proof.Machine

/-! ### Parts and ports (R297, R302) -/

/-- The coordinate of a PART_ID on an axis: 0 x, 1 y, 2 z (R302). -/
def coord (part axis : Nat) : Nat := if axis = 0 then part / 1024 % 64 else if axis = 1 then part / 32 % 32 else part % 32

/-- The PART_ID with the given coordinates. -/
def partAt (x y z : Nat) : Nat := x * 1024 + y * 32 + z

/-- PART_ID with the coordinate of one axis replaced. -/
def setCoord (part axis v : Nat) : Nat :=
  partAt (if axis = 0 then v else coord part 0) (if axis = 1 then v else coord part 1) (if axis = 2 then v else coord part 2)

/-- The torus dimension of an axis. -/
def FabCfg.dim (c : FabCfg) (axis : Nat) : Nat := if axis = 0 then c.dimX else if axis = 1 then c.dimY else c.dimZ

/-- The neighbour of a part on a torus port (R297). -/
def FabCfg.neighbourOf (c : FabCfg) (part port : Nat) : Nat :=
  let d := max 1 (c.dim (port / 2))
  setCoord part (port / 2) ((coord part (port / 2) + (if port % 2 = 0 then 1 else d - 1)) % d)

/-- The port of the opposite direction. -/
def oppositePort (port : Nat) : Nat := if port % 2 = 0 then port + 1 else port - 1

/-- The links assigned to a port. -/
def Part.portLinks (p : Part) (q : Nat) : List (Nat × Link) := p.fab.links.filter fun l => l.2.mode == 1 && l.2.port == q

/-- The port is up: at least one of its links is ACTIVE (R298). A link is ACTIVE only after its identity check, so the neighbour of a
port that is up is present. -/
def Part.portUp (p : Part) (q : Nat) : Bool := (p.portLinks q).any fun l => l.2.isActive

/-! ### Width (R295) -/

/-- The number of ones in the low eight bits. -/
def ones8 (m : Nat) : Nat := ((List.range 8).filter m.testBit).length

/-- The largest of 8, 4, 2 and 1 that does not exceed the number of common good lanes. -/
def widthOf (n : Nat) : Nat := if 8 ≤ n then 8 else if 4 ≤ n then 4 else if 2 ≤ n then 2 else n

/-- Lanes good at both ends. -/
def Link.common (k : Link) : Nat := k.good &&& k.peerGood

/-- The width that R295 gives. -/
def Link.wide (k : Link) : Nat := widthOf (ones8 k.common)

/-- The link uses lane `i`: one of the `width` lowest-numbered common good lanes. -/
def Link.uses (k : Link) (i : Nat) : Bool := (((List.range 8).filter k.common.testBit).take k.width).contains i

/-! ### Changes of state (R294, R325) -/

/-- The highest FSEQ that a port has received in order (R299). -/
def FPort.ackNow (f : FPort) : Nat := (f.rxNext + 2 ^ 32 - 1) % 2 ^ 32

/-- Flits go out again, with the ACK now in force (R300). -/
def FPort.resend (f : FPort) (l : List Flit) : FPort := { f with sent := f.sent ++ l.map fun x => { x with ack := f.ackNow } }

/-- The unacknowledged flits of a port are sent again over the links that remain (R300). -/
def Part.resendPort (p : Part) (q : Nat) : Part :=
  let f := p.fport q
  if p.faulted then p else p.setFPort q (f.resend f.replay)

/-- A link of a port has left: while another remains ACTIVE or RESIZING, the unacknowledged flits are resent over it, else the port is down
(R300). -/
def Part.portLost (p : Part) (q : Nat) : Part :=
  let p := p.portsSwept
  if p.portUp q then p.resendPort q else p

/-- A link changes state. -/
def Part.linkTo (p : Part) (l : Nat) (k : Link) : Part :=
  let old := p.link l
  let p := p.setLink l { k with since := p.now }
  let p := if old.mode == 1 && (old.st == 2 || old.st == 3) && k.st == 0 then p.portLost old.port else p
  (p.linkChange l).readiness

/-- A link goes DOWN with a cause (R294); `retry` when it trains again after 1 s. -/
def Part.linkDown (p : Part) (l cause : Nat) (retry : Bool) : Part :=
  let k := p.link l
  p.linkTo l { k with st := 0, width := 0, cause := cause, retry := retry, retrain := [] }

/-! ### Lanes (R293) -/

/-- A lane has failed at this end or, as its lane-state words say, at the far end (R293, R294). A used lane narrows the link or, when
no common lane remains, takes it DOWN; in Ethernet mode the link goes down (R317). -/
def Part.laneFail (p : Part) (l lane : Nat) (peer : Bool) : Part :=
  let k := p.link l
  let clear (m : Nat) : Nat := if m.testBit lane then m - 2 ^ lane else m
  let n := if peer then { k with peerGood := clear k.peerGood } else { k with good := clear k.good, retrain := k.retrain.filter (·.1 != lane) }
  let p1 := p.setLink l n
  if k.mode = 2 then
    if (mget EthLink.reset p.fab.eth l).up then
      { p1 with fab := { p1.fab with eth := mmod EthLink.reset p1.fab.eth l fun e => { e with up := false } } }.linkTo l { n with st := 0 }
    else p1
  else if k.st = 2 ∧ k.uses lane then
    if n.wide = 0 then p1.linkDown l 3 false else p1.linkTo l { n with st := 3 }
  else p1

/-- LANE_RETRAIN (R293): while a link runs, a failed lane is retrained, every 10 s. -/
def Part.laneRetrain (p : Part) (l lane : Nat) : Part :=
  let k := p.link l
  let due := match mfind k.retrain lane with
    | none => true
    | some t => decide (t + 10000000000 ≤ p.now)
  if (k.st == 2 || k.st == 3) && !k.good.testBit lane && due then
    p.setLink l { k with retrain := minsert k.retrain lane p.now }
  else p

/-- LANE_GOOD (R293, R294): a lane that has kept lock for 1 s after retraining is good again, here or at the far end; a wider
width makes the link RESIZING. -/
def Part.laneGood (p : Part) (l lane : Nat) (peer : Bool) : Part :=
  let k := p.link l
  let kept := match mfind k.retrain lane with
    | none => false
    | some t => decide (t + 1000000000 ≤ p.now)
  if peer || kept then
    let n := if peer then { k with peerGood := k.peerGood ||| 2 ^ lane }
      else { k with good := k.good ||| 2 ^ lane, retrain := merase k.retrain lane }
    if n.st = 2 ∧ n.mode = 1 ∧ n.width < n.wide then p.linkTo l { n with st := 3 } else p.setLink l n
  else p

/-! ### Training (R294, R296) -/

/-- LINK_SIGNAL (R294): a DOWN link in Efylink mode sees signal at both ends and trains, unless it waits 1 s for a retry. -/
def Part.linkSignal (p : Part) (l : Nat) : Part :=
  let k := p.link l
  if p.fabCfg.configured && k.mode == 1 && k.st == 0 && !k.retry && p.domSt (15 + l / 4) == .on then p.linkTo l { k with st := 1, retrain := [] } else p

/-- LINK_RETRY (R294): 1 s after a failed training the link trains again. -/
def Part.linkRetry (p : Part) (l : Nat) : Part :=
  let k := p.link l
  if k.st == 0 && k.retry && decide (k.since + 1000000000 ≤ p.now) && p.domSt (15 + l / 4) == .on then p.linkTo l { k with st := 1, retry := false } else p

/-- LINK_TRAINED (R295, R296): the ends have exchanged identity, lane state and credits. `peer` is the far part, its dimensions, the
port and number of its link. -/
def Part.linkTrained (p : Part) (l peerPart dx dy dz peerPort peerLink good peerGood : Nat) (credits : List (Nat × Nat)) : Part :=
  let k := p.link l
  if k.st ≠ 1 ∨ k.since + 100000000 < p.now then p
  else
    let c := p.fabCfg
    let n := { k with peerPart := peerPart % 65536, peerLink := peerLink % 16, good := good % 256, peerGood := peerGood % 256 }
    let pass := peerPart == c.neighbourOf c.partId k.port && dx == c.dimX && dy == c.dimY && dz == c.dimZ &&
      peerPort == oppositePort k.port
    if !pass then (p.setLink l n).linkDown l 1 true
    else if n.wide = 0 then p.setLink l n
    else
      let p := if p.portUp k.port then p else p.setFPort k.port { FPort.reset with credits := credits }
      p.linkTo l { n with st := 2, width := n.wide, cause := k.cause, lastRx := p.now }

/-- LINK_TRAINING_TIMEOUT (R294): not ACTIVE within 100 ms. -/
def Part.trainingTimeout (p : Part) (l : Nat) : Part :=
  let k := p.link l
  if k.st = 1 ∧ k.mode = 1 ∧ k.since + 100000000 < p.now then p.linkDown l 2 true else p

/-- LINK_SILENT (R294): no flit for 1 ms. -/
def Part.linkSilent (p : Part) (l : Nat) : Part :=
  let k := p.link l
  if k.isActive && decide (k.lastRx + 1000000 ≤ p.now) then p.linkDown l 4 false else p

/-- LINK_RESIZE_DONE (R294, R295, R300): both ends have relocked at the new width within 50 µs; unacknowledged flits are resent. -/
def Part.resizeDone (p : Part) (l : Nat) : Part :=
  let k := p.link l
  if k.st = 3 ∧ p.now ≤ k.since + 50000 then
    (p.linkTo l { k with st := 2, width := k.wide, lastRx := p.now }).resendPort k.port
  else p

/-- LINK_RESIZE_TIMEOUT (R294). -/
def Part.resizeTimeout (p : Part) (l : Nat) : Part :=
  let k := p.link l
  if k.st = 3 ∧ k.since + 50000 < p.now then p.linkDown l 2 false else p

/-! ### Credits and transmission (R299 to R301) -/

/-- The credits of a pair of class and VC. -/
def creditKey (cls vc : Nat) : Nat := 4 * cls + vc

/-- Flits that carry a packet. -/
def pktFlits (k : FabPkt) : Nat := cdiv (16 + k.len) 240

/-- The sender holds credits for the packet. -/
def FPort.canSend (f : FPort) (k : FabPkt) : Bool := decide (pktFlits k ≤ mget 0 f.credits (creditKey k.cls k.vc))

/-- A new flit leaves the port (R299, R300): it takes the next FSEQ, acknowledges what has come, carries NAK and the first credits to return, and
stays in the replay buffer. -/
def FPort.emit (f : FPort) (pkt : Option FabPkt) (piece : Nat) : FPort :=
  let cr := f.owed.head?.getD (0, 0)
  let x : Flit :=
    { fseq := f.txSeq, ack := f.ackNow, crPair := cr.1, crCount := cr.2, nak := f.nak, idle := pkt.isNone,
      start := if pkt.isSome && piece == 0 then 0 else 0xFF, pkt := pkt, piece := piece }
  { f with txSeq := (f.txSeq + 1) % 2 ^ 32, nak := false, owed := f.owed.drop 1, replay := f.replay ++ [x], sent := f.sent ++ [x] }

/-- An idle flit, when the replay buffer has room for it (R294, R299). -/
def FPort.emitIdle (f : FPort) : FPort := if f.replay.length < 1024 then f.emit none 0 else f

/-- What the port has to tell goes out at once in an idle flit (log entry 181). -/
def FPort.tell (f : FPort) : FPort := if f.nak || !f.owed.isEmpty then f.emitIdle else f

/-- Put a packet's flits on the port (R299). A packet begins a flit of its own (log entry 181). -/
def FPort.put (f : FPort) (k : FabPkt) : FPort :=
  (List.range (pktFlits k)).foldl (fun g i => g.emit (some k) i)
    { f with credits := mmod 0 f.credits (creditKey k.cls k.vc) (fun c => c - pktFlits k) }

/-- The port takes a packet now: it holds credits for it, none of its pair waits ahead of it, and the replay buffer has room. -/
def FPort.takes (f : FPort) (k : FabPkt) : Bool :=
  f.canSend k && !f.wait.any (fun w => w.k.cls == k.cls && w.k.vc == k.vc) && decide (f.replay.length + pktFlits k ≤ 1024)

/-- The order in which waiting packets go out: class 0, then class 1, then the others, each in order of arrival (R304). -/
def byPriority (cls : α → Nat) (l : List α) : List α :=
  l.filter (fun x => cls x == 0) ++ l.filter (fun x => cls x == 1) ++ l.filter fun x => decide (2 ≤ cls x)

/-- Receive buffers are free again (R301): the port that filled them returns the credits. -/
def Part.freeBuffer (p : Part) (o : Option Owe) : Part :=
  match o with
  | none => p
  | some o =>
    let f := p.fport o.port
    let f := { f with owed := mmod 0 f.owed o.pair (· + o.flits) }
    p.setFPort o.port (if p.faulted then f else f.tell)

/-- Send a packet on a port, or let it wait for the credits of its pair behind earlier packets of that pair. A packet that waits keeps the
receive buffer that it came into. In part fault nothing leaves (R331). -/
def Part.sendOn (p : Part) (q : Nat) (k : FabPkt) (since : Nat) (owe : Option Owe) : Part :=
  let f := p.fport q
  if f.takes k && !p.faulted then (p.setFPort q (f.put k)).freeBuffer owe
  else p.setFPort q { f with wait := f.wait ++ [{ k := k, since := since, owe := owe }] }

/-- A packet leaves on a port. -/
def Part.transmit (p : Part) (q : Nat) (k : FabPkt) (owe : Option Owe) : Part := p.sendOn q k p.now owe

/-- The packets that wait at a port are tried again, in order within each pair. -/
def Part.retryPort (p : Part) (q : Nat) : Part :=
  let f := p.fport q
  (byPriority (fun w : WaitPkt => w.k.cls) f.wait).foldl (fun a w => a.sendOn q w.k w.since w.owe) (p.setFPort q { f with wait := [] })

/-! ### Flits (R299, R300) -/

/-- One bit of CRC-32C, reflected. -/
def crc32Bit (c : Nat) : Nat := if c % 2 = 1 then (c / 2) ^^^ 0x82F63B78 else c / 2

/-- CRC-32C over a byte list (R299). -/
def crc32c (bs : Bytes) : Nat :=
  0xFFFFFFFF ^^^ bs.foldl (fun c b =>
    crc32Bit (crc32Bit (crc32Bit (crc32Bit (crc32Bit (crc32Bit (crc32Bit (crc32Bit (c ^^^ b.toNat))))))))) 0xFFFFFFFF

/-- Cut whole packets from the bytes received; the rest waits. A header with LEN out of range ends the flit's packets and is kept as
received, to be counted (R303); zero bytes after the last packet are fill. `n` bounds the packets. -/
def cutPackets : Nat → Bytes → List Bytes × Bytes
  | 0, b => ([], b)
  | n + 1, b =>
    if b.length < 16 then ([], b)
    else if zeros b 0 16 then ([], [])
    else
      let len := fld b 6 2
      if len < 16 ∨ 4112 < len ∨ len % 16 ≠ 0 then ([b.take 16], [])
      else if b.length < 16 + len then ([], b)
      else
        let (ps, r) := cutPackets n (b.drop (16 + len))
        (b.take (16 + len) :: ps, r)

/-- The packet bytes of an accepted flit join the port's reassembly. -/
def FPort.takePayload (f : FPort) (b : Bytes) : FPort :=
  if (fld b 8 1).testBit 6 then f
  else
    let start := fld b 9 1
    let pay := slice b 12 240
    let bytes := if f.rxBuf.isEmpty then (if start = 0xFF then [] else pay.drop (16 * start)) else f.rxBuf ++ pay
    let (ps, r) := cutPackets 16 bytes
    { f with rxBuf := r, rxPkts := f.rxPkts ++ ps }

/-- FLIT_RECEIVE (R299 to R301): a flit on a link, in the order that the port has restored over its links (R298, log entry 181), with the
codewords its lanes corrected and could not correct since the last. A flit that fails CRC or is not the next expected sets NAK in the next
flit out; an accepted one is acknowledged, returns credits, releases the replay buffer up to ACK, and a NAK has the rest resent. -/
def Part.flitReceive (p : Part) (l : Nat) (b : Bytes) (corr uncorr : Nat) : Part :=
  let k := p.link l
  if !k.isActive then p
  else
    let cnt := aLinkCnt (4 + l / 4) (l % 4)
    let p := ((p.setLink l { k with lastRx := p.now }).bump cnt 0 32 corr).bump cnt 32 16 uncorr
    let f := p.fport k.port
    if fld b 252 4 ≠ crc32c (b.take 252) ∨ b.length ≠ 256 ∨ fld b 0 4 ≠ f.rxNext then
      p.setFPort k.port (if p.faulted then { f with nak := true } else { f with nak := true }.tell)
    else
      let ack := fld b 4 4
      let flags := fld b 8 1
      let kept := f.replay.filter fun x => decide (2 ^ 31 ≤ (ack + 2 ^ 32 - x.fseq) % 2 ^ 32)
      let f := { f with
        rxNext := (f.rxNext + 1) % 2 ^ 32, nak := false, replay := kept,
        credits := mmod 0 f.credits (creditKey (flags % 8) (flags / 8 % 4)) (· + fld b 10 2) }
      let f := if flags.testBit 5 && !p.faulted then f.resend kept else f
      let p := if flags.testBit 5 then p.bump cnt 48 16 1 else p
      let f := f.takePayload b
      (p.setFPort k.port (if flags.testBit 6 || p.faulted then f else f.emitIdle)).retryPort k.port

/-! ### The commands -/

/-- The power domain of a link's LKD. -/
def linkDomain (l : Nat) : Nat := 15 + l / 4

/-- A command on a link. -/
def State.onLink (s : State) (l : Nat) (ok : Bool) (f : Part → Part) : Out := s.live (linkDomain l) (decide (l < 16) && ok) f

/-- LANE_FAIL (R293). -/
def execLaneFail (l lane : Nat) (peer : Bool) (s : State) : Out := s.onLink l (decide (lane < 8)) fun p => p.laneFail l lane peer

/-- LANE_RETRAIN (R293). -/
def execLaneRetrain (l lane : Nat) (s : State) : Out := s.onLink l (decide (lane < 8)) fun p => p.laneRetrain l lane

/-- LANE_GOOD (R293). -/
def execLaneGood (l lane : Nat) (peer : Bool) (s : State) : Out := s.onLink l (decide (lane < 8)) fun p => p.laneGood l lane peer

/-- LINK_SIGNAL (R294). -/
def execLinkSignal (l : Nat) (s : State) : Out := s.onLink l true fun p => p.linkSignal l

/-- LINK_TRAINED (R296). -/
def execLinkTrained (l peerPart dx dy dz peerPort peerLink good peerGood : Nat) (credits : List (Nat × Nat)) (s : State) : Out :=
  s.onLink l true fun p => p.linkTrained l peerPart dx dy dz peerPort peerLink good peerGood credits

/-- LINK_TRAINING_TIMEOUT (R294). -/
def execLinkTrainingTimeout (l : Nat) (s : State) : Out := s.onLink l true fun p => p.trainingTimeout l

/-- LINK_RETRY (R294). -/
def execLinkRetry (l : Nat) (s : State) : Out := s.onLink l true fun p => p.linkRetry l

/-- LINK_SILENT (R294). -/
def execLinkSilent (l : Nat) (s : State) : Out := s.onLink l true fun p => p.linkSilent l

/-- LINK_RESIZE_DONE (R295). -/
def execLinkResizeDone (l : Nat) (s : State) : Out := s.onLink l true fun p => p.resizeDone l

/-- LINK_RESIZE_TIMEOUT (R294). -/
def execLinkResizeTimeout (l : Nat) (s : State) : Out := s.onLink l true fun p => p.resizeTimeout l

/-- FLIT_RECEIVE (R300). -/
def execFlitReceive (l : Nat) (b : Bytes) (corr uncorr : Nat) (s : State) : Out :=
  s.onLink l true fun p => p.flitReceive l b corr uncorr

end Sys2Proof.Machine
end

