-- ==== Sys2Proof/Machine/Slices.lean ====
section
/-! DEFINITION. Slices: slice descriptors and members, joining and leaving, lost members, lending, racks and barrier rounds
(R308 to R316, R321, R322, R325). -/
namespace Sys2Proof.Machine

/-! ### Members (R308) -/

/-- The extent of a slice on an axis. -/
def sliceExt (d : SliceDesc) (axis : Nat) : Nat := if axis = 0 then d.ex else if axis = 1 then d.ey else d.ez

/-- A part's offset from ORIGIN on an axis, modulo the torus dimension. -/
def FabCfg.offset (c : FabCfg) (d : SliceDesc) (part axis : Nat) : Nat :=
  let n := max 1 (c.dim axis)
  (coord part axis + n - coord d.origin axis % n) % n

/-- A part is a member of a slice. -/
def FabCfg.member (c : FabCfg) (d : SliceDesc) (part : Nat) : Bool :=
  (List.range 3).all fun a => decide (c.offset d part a < sliceExt d a) && decide (coord part a < c.dim a)

/-- Members of a slice. -/
def sliceCount (d : SliceDesc) : Nat := d.ex * d.ey * d.ez

/-- Every member of a slice. -/
def FabCfg.members (c : FabCfg) (d : SliceDesc) : List Nat :=
  let at_ (a i : Nat) : Nat := (coord d.origin a + i) % max 1 (c.dim a)
  (List.range d.ex).flatMap fun i => (List.range d.ey).flatMap fun j => (List.range d.ez).map fun k => partAt (at_ 0 i) (at_ 1 j) (at_ 2 k)

/-- The record of a slice that the part is in. -/
def Part.sliceRec (p : Part) (id : Nat) : Option SliceRec := p.fab.slices.find? fun r => r.desc.slice == id

/-- Change the record of a slice. -/
def Part.modSlice (p : Part) (id : Nat) (f : SliceRec → SliceRec) : Part :=
  { p with fab := { p.fab with slices := p.fab.slices.map fun r => if r.desc.slice = id then f r else r } }

/-- The part is no longer in a slice. -/
def Part.dropSlice (p : Part) (id : Nat) : Part :=
  { p with fab := { p.fab with slices := p.fab.slices.filter fun r => r.desc.slice != id } }

/-- A control message to another part, over the whole torus (log entry 31). -/
def Part.control (p : Part) (dst : Nat) (m : FabMsg) : Part := p.fabSend dst 1 0xFFFF m

/-- Members that the root counts as present. -/
def SliceRec.present (r : SliceRec) : List Nat := (r.joined.map Prod.fst).filter fun m => !r.lost.contains m

/-- A slice notice (R325): at this part and, in a control message, at the members listed. -/
def Part.sliceNotice (p : Part) (code id part : Nat) (dests : List Nat) : Part :=
  let p := p.notice code (leBytes 2 id ++ leBytes 2 part)
  dests.foldl (fun q m => if m = q.fabCfg.partId then q else q.control m (.member code id part)) p

/-! ### Racks (R315) -/

/-- Members of a rack that are present. -/
def SliceRec.rackMembers (r : SliceRec) (rack : Nat) : List Nat :=
  (r.joined.filter fun m => m.2 == rack && !r.lost.contains m.1).map Prod.fst

/-- The lowest of a list. -/
def lowest : List Nat → Option Nat
  | [] => none
  | x :: xs => match lowest xs with
    | none => some x
    | some y => some (min x y)

/-- The rack table's leaders follow the members present: the lowest PART_ID of each rack. A rack without members leaves the table. -/
def SliceRec.reRack (r : SliceRec) : SliceRec :=
  if !r.tight then r
  else
    let keep (x : Nat × Nat × Option Int) : Option (Nat × Nat × Option Int) :=
      match lowest (r.rackMembers x.1) with
      | none => none
      | some m => some (x.1, m, if x.2.1 = m then x.2.2 else none)
    let fresh := (r.joined.map Prod.snd).eraseDups.filter fun k => !r.racks.any fun x => x.1 == k
    { r with racks := r.racks.filterMap keep ++ fresh.filterMap fun k => (lowest (r.rackMembers k)).map fun m => (k, m, none) }

/-- The rack of a member and its leader. -/
def SliceRec.leaderOf (r : SliceRec) (part : Nat) : Nat × List Nat :=
  match r.joined.find? fun m => m.1 == part with
  | none => (0, [])
  | some m => match r.racks.find? fun x => x.1 == m.2 with
    | none => (0, [])
    | some x => (x.2.1, r.rackMembers m.2)

/-- The leader of a rack measures the offset of each member's part time once (R315): its own is 0, one already measured is kept, and a new one
is a free value. -/
def Part.measureMates (p : Part) (known : List (Nat × Int)) : List Nat → List (Nat × Int) × Part
  | [] => ([], p)
  | m :: ms =>
    let (o, p) := match mfind known m with
      | some o => (o, p)
      | none => if m = p.fabCfg.partId then (0, p) else (p.free.1.toInt, p.free.2)
    let (l, p) := p.measureMates known ms
    ((m, o) :: l, p)

/-- A member learns that it is in the ACTIVE slice, with its rack's leader and members (R311, R315). -/
def Part.setActive (p : Part) (id leader : Nat) (mates : List Nat) : Part :=
  let (l, p) := p.measureMates (((p.sliceRec id).map fun r => r.mates).getD []) mates
  p.modSlice id fun r => { r with leader := leader, mates := l, st := if r.st = 1 then 2 else r.st }

/-! ### Barrier rounds (R316) -/

/-- A member sends ARRIVE for its next round to its leader. -/
def Part.sendArrive (p : Part) (r : SliceRec) : Part := p.fabSend r.leader 0 0xFFFF (.arrive r.desc.slice r.round false)

/-- The root has ARRIVE from every rack: it sends GO with T converted to each leader's part time; an offset that no exchange has measured yet
is a free value (log entry 120). -/
def Part.goOut (p : Part) (id : Nat) : Part :=
  match p.sliceRec id with
  | none => p
  | some r =>
    if r.root = p.fabCfg.partId ∧ !r.rackArrived.isEmpty ∧ r.racks.all (fun x => r.rackArrived.contains x.2.1) then
      let t : Int := p.now + 1000 * r.marginUs
      let p := p.modSlice id fun x => { x with rackArrived := [], rackFirstAt := none }
      let one (q : Part) (x : Nat × Nat × Option Int) : Part :=
        let (o, q) := match x.2.2 with
          | some o => (o, q)
          | none => if x.2.1 = q.fabCfg.partId then (0, q) else (q.free.1.toInt, q.free.2)
        q.fabSend x.2.1 0 0xFFFF (.go id r.round (t + o).toNat)
      r.racks.foldl one p
    else p

/-- The leader has ARRIVE from every present member of its rack: it reports to the root. -/
def Part.rackReady (p : Part) (id : Nat) : Part :=
  match p.sliceRec id with
  | none => p
  | some r =>
    if !r.arrived.isEmpty ∧ r.mates.all (fun m => r.arrived.contains m.1) then
      (p.modSlice id fun x => { x with arrived := [], firstAt := none }).fabSend r.root 0 0xFFFF (.arrive id r.round true)
    else p

/-! ### Lost members (R312) -/

/-- The root tells every present member of a TIGHT slice its rack's leader and members. -/
def Part.tellRacks (p : Part) (id : Nat) : Part :=
  match p.sliceRec id with
  | none => p
  | some r =>
    if !r.tight then p
    else r.present.foldl (fun q m => q.control m (.active id stOk (r.leaderOf m).1 (r.leaderOf m).2)) p

/-- The root marks a member lost and tells every member (R312). -/
def Part.markLost (p : Part) (id part : Nat) : Part :=
  match p.sliceRec id with
  | none => p
  | some r =>
    if r.st = 2 ∧ r.root = p.fabCfg.partId ∧ r.present.contains part then
      let v := { r with lost := r.lost ++ [part] }.reRack
      ((p.modSlice id fun _ => v).sliceNotice 0x101 id part v.present).tellRacks id |>.goOut id
    else p

/-- The root of a slice is lost: the present member with the lowest PART_ID becomes the root, and every member sends it its
descriptor again (R312). -/
def Part.rootLost (p : Part) (id : Nat) : Part :=
  match p.sliceRec id with
  | none => p
  | some r =>
    let gone := r.root :: r.lost
    match lowest ((p.fabCfg.members r.desc).filter fun m => !gone.contains m) with
    | none => p
    | some m =>
      let v : SliceRec := { r with
        root := m, lost := gone, joined := if m = p.fabCfg.partId then [(m, p.fabCfg.rackId)] else [], racks := [] }
      let p := (p.modSlice id fun _ => v.reRack).notice 0x103 (leBytes 2 id ++ leBytes 2 m)
      if m = p.fabCfg.partId then p else p.control m (.descriptor r.desc p.fabCfg.rackId)

/-- A slice message that a member or the root takes as it arrives: notices, a new root, members that leave or are dropped. -/
def Part.sliceTold (p : Part) (src : Nat) (m : FabMsg) : Part :=
  match m with
  | .member code id part =>
    let p := p.notice code (leBytes 2 id ++ leBytes 2 part)
    if code = 0x101 then p.modSlice id fun r => { r with lost := if r.lost.contains part then r.lost else r.lost ++ [part] }
    else if code = 0x102 then p.modSlice id fun r => { r with lost := r.lost.filter (· != part) }
    else p.modSlice id fun r => { r with root := part }
  | .left id => p.markLost id src
  | .dropped id part => p.markLost id part
  | _ => p

/-! ### Joining (R309, R311, R315, R321) -/

/-- The status with which the root answers a descriptor; none when it accepts it. -/
def SliceRec.joinFail (r : SliceRec) (d : SliceDesc) (part rack : Nat) : Option Nat :=
  firstFail [(d == r.desc, stBadParam),
    (!r.tight || decide (((r.rackMembers rack).filter (· != part)).length < 32), stLenRange),
    (!r.tight || r.racks.any (fun x => x.1 == rack) || decide (r.racks.length < 1536), stLenRange)]

/-- ACTIVE goes to a member, this part included. -/
def Part.sendActive (p : Part) (r : SliceRec) (m : Nat) : Part :=
  p.control m (.active r.desc.slice stOk (r.leaderOf m).1 (r.leaderOf m).2)

/-- The root takes a member's descriptor (R311, R312, R315): it refuses it, accepts a lost member back, or, once it holds every
member's, sends ACTIVE to all. -/
def Part.joinAt (p : Part) (r : SliceRec) (part rack : Nat) (d : SliceDesc) : Part :=
  let id := r.desc.slice
  match r.joinFail d part rack with
  | some st => p.control part (.active id st 0 [])
  | none =>
    let back := r.lost.contains part
    let v := { r with joined := minsert r.joined part rack, lost := r.lost.filter (· != part) }.reRack
    let p := p.modSlice id fun _ => v
    if r.st = 2 then
      let p := if back then p.sliceNotice 0x102 id part (v.present.filter (· != part)) else p
      if v.tight then p.tellRacks id else p.sendActive v part
    else if v.joined.length = sliceCount d then v.present.foldl (fun q m => q.sendActive v m) p
    else p

/-- Take the first message delivered to this part that meets a test. -/
def Part.takeMsg (p : Part) (q : Nat × FabMsg → Bool) : Option ((Nat × FabMsg) × Part) :=
  match takeFirst q p.fab.inbox with
  | none => none
  | some (x, l) => some (x, { p with fab := { p.fab with inbox := l } })

/-- The slice whose descriptor a message carries is held here with this part as root. -/
def Part.rootsHere (p : Part) (m : FabMsg) : Bool :=
  match m with
  | .descriptor d _ => match p.sliceRec d.slice with
    | none => false
    | some r => r.root == p.fabCfg.partId
  | _ => false

/-- SLICE_DESCRIPTOR (R311): the root handles the first descriptor for a slice it is root of. -/
def Part.sliceDescriptor (p : Part) : Part :=
  match p.takeMsg fun x => p.rootsHere x.2 with
  | some ((src, .descriptor d rack), p) => match p.sliceRec d.slice with
    | none => p
    | some r => p.joinAt r src rack d
  | _ => p

/-- SLICE_ACTIVE (R311): ACTIVE completes the SLICE_JOIN; a refusal completes it with its status and ends the entry. In a TIGHT slice
the member is then ready for its next round; a member that waits for GO tells a new leader of its rack so (R316). -/
def Part.sliceActive (p : Part) : Part :=
  match p.takeMsg fun x => match x.2 with
    | .active _ _ _ _ => true
    | _ => false with
  | some ((_, .active id st leader mates), p) =>
    match p.sliceRec id with
    | none => p
    | some r =>
      if st ≠ stOk then
        if r.st = 1 then (p.dropSlice id).completeA r.sess r.seq st [] else p
      else
        let mine := mates.filter fun _ => leader == p.fabCfg.partId
        let p := p.setActive id leader mine
        let p := if r.st = 1 then p.completeA r.sess r.seq stOk [] else p
        if r.tight && (r.st == 1 || (r.st == 2 && r.leader != leader && r.go.isNone)) then p.sendArrive { r with leader := leader } else p
  | _ => p

/-- The status of a SLICE_JOIN that is rejected; none for one that starts (R321). DESIGN CHOICE (log entry 182): the conditions on a slice that
the part holds already come before those on a further one. -/
def Part.joinRejected (p : Part) (d : SliceDesc) (tight : Bool) (root : Nat) : Option Nat :=
  let c := p.fabCfg
  let equal := match p.sliceRec d.slice with
    | none => false
    | some r => r.desc == d
  firstFail [(decide (d.ex ≤ c.dimX ∧ d.ey ≤ c.dimY ∧ d.ez ≤ c.dimZ), stLenRange),
    (c.member d root, stBadParam), (c.member d c.partId, stBadParam), (!equal, stAlreadyDone),
    ((p.sliceRec d.slice).isNone, stBadParam), (decide (p.fab.slices.length < 4), stNoSpace),
    (!(tight && p.fab.slices.any fun r => r.tight), stBusy), (!tight || decide (sliceCount d ≤ 49152), stLenRange)]

/-- SLICE_JOIN (R321): entry to JOINING sends the descriptor to the root. -/
def Part.sliceJoin (p : Part) (i : Nat) (k : Bytes) : Part :=
  let d : SliceDesc := { slice := par k 0 2, origin := par k 4 2, ex := par k 6 1, ey := par k 7 1, ez := par k 8 1 }
  let tight := (par k 2 1).testBit 0
  match p.joinRejected d tight (par k 10 2) with
  | some st => p.finish i st []
  | none =>
    let r : SliceRec :=
      { desc := d, index := ((List.range 4).find? fun n => !p.fab.slices.any fun r => r.index == n).getD 0, st := 1, tight := tight, lend := (par k 2 1).testBit 1, lendMib := par k 16 4, root := par k 10 2,
        marginUs := if par k 12 2 = 0 then 20 else par k 12 2, sess := i, seq := (p.ses i).serial,
        joined := [], lost := [], racks := [], offsetAt := 0, leader := 0, mates := [], lent := [], round := 0, started := false,
        arrived := [], rackArrived := [], firstAt := none, rackFirstAt := none, go := none }
    let p := { p with fab := { p.fab with slices := p.fab.slices ++ [r] } }.startA i d.slice
    let p := p.regSet (aFabSlice2 r.index) 0
    p.control r.root (.descriptor d p.fabCfg.rackId)

/-! ### Leaving and lending (R313, R322) -/

/-- Some pinned version's placement spans the slice (R322). -/
def Part.spanPinned (p : Part) (id : Nat) : Bool :=
  p.models.table.any fun v => decide (0 < v.2.pins) && (match v.2.graph with
    | none => false
    | some g => g.span == some id)

/-- A member in LEAVING leaves once nothing is pinned to the slice and nothing is lent (R322): it tells the root. -/
def Part.leaveCheck (p : Part) (id : Nat) : Part :=
  match p.sliceRec id with
  | none => p
  | some r =>
    if r.st = 3 ∧ !p.spanPinned id ∧ r.lent.isEmpty then
      let p := if r.root = p.fabCfg.partId then p else p.control r.root (.left id)
      let p := (p.dropSlice id).completeKey 0x71 id stOk []
      if r.root = p.fabCfg.partId then
        match lowest (r.present.filter (· != p.fabCfg.partId)) with
        | none => p
        | some m => r.present.foldl (fun q x => if x = q.fabCfg.partId then q else q.control x (.member 0x103 id m)) p
      else p
    else p

/-- Every slice that is being left is looked at again. -/
def Part.leaveChecks (p : Part) : Part := p.fab.slices.foldl (fun q r => q.leaveCheck r.desc.slice) p

/-- SLICE_LEAVE (R321, R322): a slice that the part does not hold is already done; a join that still runs completes with
ALREADY_DONE. -/
def Part.sliceLeave (p : Part) (i : Nat) (k : Bytes) : Part :=
  let id := par k 0 2
  match p.sliceRec id with
  | none => p.finish i stAlreadyDone []
  | some r =>
    let p := if r.st = 1 then p.completeA r.sess r.seq stAlreadyDone [] else p
    ((p.modSlice id fun x => { x with st := 3 }).startA i id).leaveCheck id

/-- The lowest `k` adjacent stripes that are free. -/
def Part.adjacentStripes (p : Part) (k : Nat) : Option Nat :=
  (List.range usableSlabs).find? fun n => (List.range k).all fun i => p.stripeFree (n + i)

/-- Stripes are marked for use or freed. -/
def Part.setStripes (p : Part) (n k : Nat) (u : SlabUse) : Part := (List.range k).foldl (fun q i => q.setStripe (n + i) u) p

/-- A member's request for lent space (R313): the lender takes adjacent stripes while LEND_MIB and R179 allow it. -/
def Part.lend (p : Part) (src id bytes : Nat) : Part :=
  let k := cdiv bytes stripeBytes
  match p.sliceRec id with
  | none => p.control src (.lendGrant id none)
  | some r =>
    if r.lend ∧ r.st = 2 ∧ 128 * (r.lent.length + k) ≤ r.lendMib ∧ p.stripesLeft k then
      match p.adjacentStripes k with
      | none => p.control src (.lendGrant id none)
      | some n =>
        ((p.setStripes n k .weight).modSlice id fun x => { x with lent := x.lent ++ (List.range k).map fun i => (n + i, src) }).control
          src (.lendGrant id (some (stripeAddr n)))
    else p.control src (.lendGrant id none)

/-- The slice in which an address is lent to a part, with its stripe. -/
def Part.lentTo (p : Part) (src a : Nat) : Option (Nat × Nat) :=
  let n := (a - stripeAddr 0) / stripeBytes
  (p.fab.slices.find? fun r => r.lent.contains (n, src)).map fun r => (r.desc.slice, n)

/-- A borrower gives back or discards what lies at an address: its stripes there are free. -/
def Part.lendFreed (p : Part) (src a k : Nat) : Part :=
  match p.lentTo src a with
  | none => p
  | some (id, n) =>
    ((p.setStripes n k .free).modSlice id fun r => { r with
      lent := r.lent.filter fun x => !(decide (n ≤ x.1 ∧ x.1 < n + k) && x.2 == src) }).leaveCheck id

/-- A message that a lender serves. -/
def lenderMsg (x : Nat × FabMsg) : Bool :=
  match x.2 with
  | .lendAsk _ _ => true
  | .lendFree _ _ => true
  | .tierPut _ _ => true
  | .tierAsk _ _ => true
  | _ => false

/-- LEND_REQUEST (R313, R162): a lender serves the next request: space, a copy to store, a copy to read back, or space given back. -/
def State.lendRequest (s : State) : State :=
  match s.part.takeMsg lenderMsg with
  | some ((src, .lendAsk id bytes), p) => { s with part := p.lend src id bytes }
  | some ((src, .lendFree a k), p) => { s with part := p.lendFreed src a k }
  | some ((src, .tierPut a d), p) => match p.lentTo src a with
    | none => { s with part := p }
    | some _ => { s with part := p, mem := memWriteN s.mem a d }
  | some ((src, .tierAsk a n), p) => match p.lentTo src a with
    | none => { s with part := p }
    | some _ => { s with part := p.fabSend src 4 0xFFFF (.tierData a (memReadN s.mem a n)) }
  | _ => s

/-! ### Rounds (R315, R316) -/

/-- An ARRIVE that this part can take: one for a round that this part has not started yet waits until then (R316). -/
def Part.arriveNow (p : Part) (m : FabMsg) : Bool :=
  match m with
  | .arrive id n _ => (p.sliceRec id).all fun r => decide (n ≤ r.round)
  | _ => false

/-- BARRIER_ARRIVE (R316): an ARRIVE reaches the leader or the root. -/
def Part.barrierArrive (p : Part) : Part :=
  match p.takeMsg fun x => p.arriveNow x.2 with
  | some ((src, .arrive id n rack), p) =>
    match p.sliceRec id with
    | none => p
    | some r =>
      if n ≠ r.round then p
      else if rack then
        (p.modSlice id fun x => { x with
          rackArrived := if x.rackArrived.contains src then x.rackArrived else x.rackArrived ++ [src],
          rackFirstAt := some (x.rackFirstAt.getD p.now) }).goOut id
      else
        (p.modSlice id fun x => { x with
          arrived := if x.arrived.contains src then x.arrived else x.arrived ++ [src],
          firstAt := some (x.firstAt.getD p.now) }).rackReady id
  | _ => p

/-- A member starts a round (R316): it is then ready for the next (log entry 32). -/
def Part.startRound (p : Part) (id n : Nat) : Part :=
  match p.sliceRec id with
  | none => p
  | some r =>
    let v := { r with round := n + 1, started := true, go := none }
    (p.modSlice id fun _ => v).sendArrive v

/-- BARRIER_GO (R316): a leader passes GO on to its members in their part time; a member that receives it at or after T starts
at once and counts BARRIER_LATE. -/
def Part.barrierGo (p : Part) : Part :=
  match p.takeMsg fun x => match x.2 with
    | .go _ _ _ => true
    | _ => false with
  | some ((_, .go id n t), p) =>
    match p.sliceRec id with
    | none => p
    | some r =>
      let p := (r.mates.filter fun m => m.1 != p.fabCfg.partId).foldl
        (fun q m => q.fabSend m.1 0 0xFFFF (.go id n ((t : Int) + m.2).toNat)) p
      if n ≠ r.round then p
      else if t ≤ p.now then (p.bump (aFabSlice2 r.index) 48 16 1).startRound id n
      else p.modSlice id fun x => { x with go := some (n, t) }
  | _ => p

/-- ROUND_START (R316): part time reaches T. -/
def Part.roundStart (p : Part) (id : Nat) : Part :=
  match p.sliceRec id with
  | none => p
  | some r => match r.go with
    | none => p
    | some (n, t) => if t ≤ p.now then p.startRound id n else p

/-- The instant lies 10 ms back or more. -/
def Part.tenMs (p : Part) (t : Option Nat) : Bool :=
  match t with
  | none => false
  | some t => decide (t + 10000000 ≤ p.now)

/-- The rack's next present member after its leader. -/
def SliceRec.nextLeader (r : SliceRec) (rack leader : Nat) : Nat :=
  (lowest ((r.rackMembers rack).filter fun m => decide (leader < m))).getD ((lowest (r.rackMembers rack)).getD leader)

/-- ARRIVE_TIMEOUT (R316): a leader drops the members that have not arrived; the root replaces the leaders that have not. -/
def Part.arriveTimeout (p : Part) (id : Nat) : Part :=
  match p.sliceRec id with
  | none => p
  | some r =>
    let p :=
      if p.tenMs r.firstAt then
        let late := (r.mates.map Prod.fst).filter fun m => !r.arrived.contains m
        let p := p.modSlice id fun x => { x with mates := x.mates.filter fun m => !late.contains m.1 }
        (late.foldl (fun q m =>
          if r.root = q.fabCfg.partId then q.markLost id m else q.control r.root (.dropped id m)) p).rackReady id
      else p
    if r.root = p.fabCfg.partId ∧ p.tenMs r.rackFirstAt then
      (p.modSlice id fun x => { x with
        racks := x.racks.map fun k => if x.rackArrived.contains k.2.1 then k else (k.1, x.nextLeader k.1 k.2.1, none) }).tellRacks id
    else p

/-- RACK_OFFSET_EXCHANGE (R315): the root has measured the offset of a rack leader's part time. -/
def Part.rackOffset (p : Part) (id rack : Nat) (offset : Int) : Part :=
  p.modSlice id fun r =>
    if r.tight ∧ r.root = p.fabCfg.partId then
      { r with racks := r.racks.map fun x => if x.1 = rack then (x.1, x.2.1, some offset) else x, offsetAt := p.now }
    else r

/-! ### The commands -/

/-- SLICE_JOIN (R321). -/
def execSliceJoin (i : Nat) (s : State) : Out := s.cmd i 0x70 fun k p => p.sliceJoin i k

/-- SLICE_LEAVE (R322). -/
def execSliceLeave (i : Nat) (s : State) : Out := s.cmd i 0x71 fun k p => p.sliceLeave i k

/-- SLICE_DESCRIPTOR (R311). -/
def execSliceDescriptor (s : State) : Out := s.live 1 true Part.sliceDescriptor

/-- SLICE_ACTIVE (R311). -/
def execSliceActive (s : State) : Out := s.live 1 true Part.sliceActive

/-- LEND_REQUEST (R313). -/
def execLendRequest (s : State) : Out := s.liveMem 1 true State.lendRequest

/-- RACK_OFFSET_EXCHANGE (R315). -/
def execRackOffsetExchange (id rack : Nat) (offset : Int) (s : State) : Out := s.live 1 true fun p => p.rackOffset id rack offset

/-- BARRIER_ARRIVE (R316). -/
def execBarrierArrive (s : State) : Out := s.live 1 true Part.barrierArrive

/-- BARRIER_GO (R316). -/
def execBarrierGo (s : State) : Out := s.live 1 true Part.barrierGo

/-- ROUND_START (R316). -/
def execRoundStart (id : Nat) (s : State) : Out := s.live 1 true fun p => p.roundStart id

/-- ARRIVE_TIMEOUT (R316). -/
def execArriveTimeout (id : Nat) (s : State) : Out := s.live 1 true fun p => p.arriveTimeout id

end Sys2Proof.Machine
end

