-- ==== Sys2Proof/Machine/Route.lean ====
section
/-! DEFINITION. Route: routing of fabric packets hop by hop, the broadcast tree, delivery in order, end-to-end acknowledgement and
resend, and PORT_CFG and FABRIC_QUERY (R302 to R307, R310, R319, R320). -/
namespace Sys2Proof.Machine

/-! ### Domains and directions (R306) -/

/-- The domain of a packet: the whole torus, the members of a slice, or nothing for a slice that this part does not know. -/
inductive Area where
  | torus
  | block (d : SliceDesc)
  | nothing
deriving DecidableEq, Repr

/-- The domain that a SLICE field names. -/
def Part.area (p : Part) (slice : Nat) : Area :=
  if slice = 0xFFFF then .torus
  else match p.sliceRec slice with
    | none => .nothing
    | some r => .block r.desc

/-- A part lies in the domain. -/
def FabCfg.inArea (c : FabCfg) (a : Area) (part : Nat) : Bool :=
  match a with
  | .torus => true
  | .block d => c.member d part
  | .nothing => false

/-- An axis wraps in the domain: the domain spans the full torus dimension on it. -/
def FabCfg.wraps (c : FabCfg) (a : Area) (axis : Nat) : Bool :=
  match a with
  | .torus => true
  | .block d => sliceExt d axis == c.dim axis
  | .nothing => false

/-- `directions(p, a)` of R306, true for +: the shorter way round, or + then − on a tie; inside a domain that does not wrap, towards the
destination; reversed on the axis that goes the long way. -/
def FabCfg.directions (c : FabCfg) (a : Area) (self dst long axis : Nat) : List Bool :=
  let n := max 1 (c.dim axis)
  let plus := (coord dst axis + n - coord self axis) % n
  let dirs :=
    if c.wraps a axis then
      (if 2 * plus < n then [true] else if n < 2 * plus then [false] else [true, false])
    else match a with
      | .block d => if c.offset d self axis < c.offset d dst axis then [true] else [false]
      | _ => []
  if long = axis + 1 then dirs.map (!·) else dirs

/-- The axis is resolved: the part matches the destination on it. -/
def resolved (self dst axis : Nat) : Bool := coord self axis == coord dst axis

/-- `detour_directions(p, b)` of R306. -/
def FabCfg.detourDirections (c : FabCfg) (a : Area) (self dst long axis : Nat) : List Bool :=
  if resolved self dst axis then [true, false]
  else
    let l := c.directions a self dst long axis
    l ++ [true, false].filter fun d => !l.contains d

/-- The port of an axis and direction. -/
def portOf (axis : Nat) (plus : Bool) : Nat := 2 * axis + (if plus then 0 else 1)

/-- `usable(p, a, d)` of R306: the port is up, its neighbour present and in the domain. -/
def Part.usable (p : Part) (a : Area) (axis : Nat) (plus : Bool) : Bool :=
  let q := portOf axis plus
  p.portUp q && p.fabCfg.inArea a (p.fabCfg.neighbourOf p.fabCfg.partId q)

/-- `only_axis_left(p, a)` of R306. -/
def onlyAxisLeft (self dst axis : Nat) : Bool := (List.range 3).all fun b => b == axis || resolved self dst b

/-- The hop crosses the dateline: from the last coordinate of the torus to 0 in direction +, or back in direction − (log entry 33). -/
def FabCfg.crosses (c : FabCfg) (self axis : Nat) (plus : Bool) : Bool :=
  if plus then coord self axis + 1 == c.dim axis else coord self axis == 0

/-- `send` of R306: HOPS rises, a change of axis sets VC 0 and a crossing of the dateline VC 1, unless VC is 2. -/
def FabCfg.hop (c : FabCfg) (k : FabPkt) (inPort axis : Nat) (plus : Bool) : FabPkt :=
  let vc := if k.vc = 2 then 2 else if c.crosses c.partId axis plus then 1 else if inPort < 6 ∧ inPort / 2 ≠ axis then 0 else k.vc
  { k with hops := k.hops + 1, vc := vc }

/-- What a part does with a packet that it does not deliver. -/
inductive Hop where
  | send (port : Nat) (k : FabPkt) (detour : Bool)
  | drop
  | hold (k : FabPkt)
deriving DecidableEq, Repr

/-- The first axis that R306 tries: the first unresolved one, a detoured axis last. -/
def firstAxis (self dst detour : Nat) : Option Nat :=
  (List.range 3).find? fun a => !resolved self dst a && !(detour == a + 1 && !onlyAxisLeft self dst a)

/-- The route of R306 for a packet that is not for this part; `n` bounds the turns the long way round. A held packet keeps the LONG_AXIS and VC
that the pseudocode has set. -/
def Part.routeHop (p : Part) (a : Area) (inPort : Nat) : Nat → FabPkt → Hop
  | 0, k => .hold k
  | n + 1, k =>
    let c := p.fabCfg
    let self := c.partId
    let k := if 0 < k.long ∧ resolved self k.dst (k.long - 1) then { k with long := 0 } else k
    if 128 ≤ k.hops then .drop
    else
      let blocked := firstAxis self k.dst k.detour
      let straight := match blocked with
        | none => none
        | some x => ((c.directions a self k.dst k.long x).find? (p.usable a x)).map fun d => (x, d)
      match straight with
      | some (x, d) =>
        .send (portOf x d) (c.hop (if k.detour = x + 1 then { k with detour := 0 } else k) inPort x d) false
      | none =>
        let tries := ((List.range 3).filter fun b => blocked != some b).flatMap fun b =>
          (c.detourDirections a self k.dst k.long b).map fun d => (b, d)
        match tries.find? fun x => portOf x.1 x.2 != inPort && p.usable a x.1 x.2 with
        | some (b, d) => .send (portOf b d) (c.hop { k with detour := b + 1, vc := 2 } inPort b d) true
        | none => match blocked with
          | none => .hold k
          | some x =>
            if c.wraps a x ∧ k.long ≠ x + 1 then p.routeHop a inPort n { k with long := x + 1, vc := 2 } else .hold k

/-! ### The broadcast tree (R310) -/

/-- How many offsets a direction of an axis covers from the source offset. -/
def FabCfg.reach (c : FabCfg) (a : Area) (src axis : Nat) (plus : Bool) : Nat :=
  match a with
  | .block d =>
    let n := sliceExt d axis
    if c.wraps a axis then (if plus then n / 2 else (n - 1) / 2)
    else if plus then n - 1 - c.offset d src axis else c.offset d src axis
  | _ => 0

/-- Distance travelled from the source in a direction. -/
def FabCfg.travelled (c : FabCfg) (src self axis : Nat) (plus : Bool) : Nat :=
  let n := max 1 (c.dim axis)
  if plus then (coord self axis + n - coord src axis) % n else (coord src axis + n - coord self axis) % n

/-- The ports on which a broadcast packet goes on from this part: the rest of the line it came along, and both ways on every later
axis. -/
def Part.treePorts (p : Part) (a : Area) (src inPort : Nat) : List (Nat × Bool) :=
  let c := p.fabCfg
  let first := if inPort < 6 then inPort / 2 else 0
  let all := (List.range 3).flatMap fun x => [(x, true), (x, false)]
  all.filter fun x =>
    let came := inPort < 6 && x.1 == first
    let onward := came && (inPort % 2 == 1) == x.2
    let t := if came then c.travelled src c.partId x.1 x.2 else 0
    (decide (first < x.1) || inPort == 6 || onward) && decide (t < c.reach a src x.1 x.2) && p.usable a x.1 x.2

/-- A broadcast packet goes on along the tree. -/
def Part.spread (p : Part) (k : FabPkt) (inPort : Nat) : Part :=
  (p.treePorts (p.area k.slice) k.dst inPort).foldl (fun q x => q.transmit (portOf x.1 x.2) (q.fabCfg.hop k inPort x.1 x.2) none) p

/-! ### Delivery (R303, R305) -/

/-- The LKD of the lowest-numbered ACTIVE link of a port; LKD0 for a packet of this part. -/
def Part.lkdOf (p : Part) (port : Nat) : Nat :=
  match (p.portLinks port).find? fun l => l.2.isActive with
  | none => 4
  | some l => 4 + l.1 / 4

/-- A message that a part takes as it arrives, without a row of its own. -/
def toldAtOnce (m : FabMsg) : Bool :=
  match m with
  | .member _ _ _ => true
  | .left _ => true
  | .dropped _ _ => true
  | _ => false

/-- A packet in order: a die message enters the package with a fresh SEQ and the LKD as its source (R303, log entry 34), slice news
takes effect, and any other message waits for its row. -/
def Part.accept (p : Part) (lkd : Nat) (k : FabPkt) : Part :=
  match k.msg with
  | .die m => p.send { m with src := lkd }
  | m => if toldAtOnce m then p.sliceTold k.src m else { p with fab := { p.fab with inbox := p.fab.inbox ++ [(k.src, m)] } }

/-- The early packet with a PSEQ. -/
def takeEarly (n : Nat) (l : List FabPkt) : Option (FabPkt × List FabPkt) := takeFirst (fun k => k.pseq == n) l

/-- Deliver the packets that are now in order; `n` bounds them. -/
def Part.deliverRun (p : Part) (key lkd : Nat) : Nat → Part
  | 0 => p
  | n + 1 =>
    let f := mget RxFlow.reset p.fab.psRx key
    match takeEarly f.next f.early with
    | none =>
      let v := { f with gap := if f.early.isEmpty then none else some (f.gap.getD p.now) }
      { p with fab := { p.fab with psRx := mset RxFlow.reset p.fab.psRx key v } }
    | some (k, l) =>
      let v := { f with next := (f.next + 1) % 2 ^ 32, early := l, gap := none }
      ({ p with fab := { p.fab with psRx := mset RxFlow.reset p.fab.psRx key v } }.accept lkd k).deliverRun key lkd n

/-- A packet reaches its destination (R305): an end-to-end acknowledgement is taken at once; classes 0 to 2 are acknowledged, and
duplicates discarded; each class is delivered in PSEQ order. A packet shows that its source is reachable. -/
def Part.deliver (p : Part) (port : Nat) (k : FabPkt) : Part :=
  let p := { p with fab := { p.fab with unreachable := p.fab.unreachable.filter (· != k.src) } }
  match k.msg with
  | .ack _ _ => { p with fab := { p.fab with inbox := p.fab.inbox ++ [(k.src, k.msg)] } }
  | _ =>
    let p := if k.cls ≤ 2 then p.fabSend k.src 0 0xFFFF (.ack k.cls k.pseq) else p
    let key := psKey k.src k.cls
    let f := mget RxFlow.reset p.fab.psRx key
    if 2 ^ 31 ≤ (k.pseq + 2 ^ 32 - f.next) % 2 ^ 32 ∨ f.early.any (fun x => x.pseq == k.pseq) then p
    else
      let v := { f with early := f.early ++ [k] }
      { p with fab := { p.fab with psRx := mset RxFlow.reset p.fab.psRx key v } }.deliverRun key (p.lkdOf port) (v.early.length + 1)

/-! ### A packet at this part -/

/-- CLASS and LEN are in range (R303). -/
def pktOk (k : FabPkt) : Bool := decide (k.cls ≤ 5 ∧ 16 ≤ k.len ∧ k.len ≤ 4112 ∧ k.len % 16 = 0)

/-- A packet is routed at this part (R303, R306, R310); `port` is 6 for a packet of this part, and `owe` the receive buffer that it fills until it
leaves. -/
def Part.routePkt (p : Part) (port : Nat) (k : FabPkt) (owe : Option Owe) : Part :=
  if !pktOk k then (p.bump aFabCnt2 32 16 1).freeBuffer owe
  else if k.bcast then
    let p := p.spread k port
    (if port = 6 then p else p.deliver port k).freeBuffer owe
  else if k.dst = p.fabCfg.partId then (p.deliver port k).freeBuffer owe
  else match p.routeHop (p.area k.slice) port 3 k with
    | .send q k' detour => (if detour then p.bump aFabCnt 32 16 1 else p).transmit q k' owe
    | .drop => (p.bump aFabCnt 0 16 1).freeBuffer owe
    | .hold k' => { p with fab := { p.fab with held := p.fab.held ++ [{ k := k', port := port, since := p.now, tried := p.now, owe := owe }] } }

/-- The packet whose header bytes are given (R303), with what it carries. -/
def pktOf (b : Bytes) (m : FabMsg) : FabPkt :=
  let c := fld b 4 1
  { dst := fld b 0 2, src := fld b 2 2, cls := c % 8, bcast := c.testBit 3, vc := c / 16 % 4, hops := fld b 5 1, len := fld b 6 2,
    pseq := fld b 8 4, slice := fld b 12 2, detour := fld b 14 1 % 4, long := fld b 14 1 / 4 % 4, msg := m }

/-- Received bytes are the packet: the header, and for a die message all of it; the manual gives no layout for the others. -/
def pktIs (b : Bytes) (k : FabPkt) : Bool :=
  k == pktOf b k.msg && (match k.msg with
    | .die m => b.drop 16 == envelope m ++ padTo (k.len - 16) m.payload
    | _ => true)

/-- The packet of this part that goes next: class 0 first, then class 1, then in order (R304). -/
def Fab.nextOut (f : Fab) : Option (FabPkt × List FabPkt) :=
  match byPriority (fun k : FabPkt => k.cls) f.out with
  | [] => none
  | k :: l => some (k, l)

/-- PACKET_ROUTE (R306): the oldest packet received on a port, or the next packet of this part, is routed. -/
def Part.packetRoute (p : Part) (port : Option Nat) (k : FabPkt) : Part :=
  if p.faulted then p
  else match port with
  | none => match p.fab.nextOut with
    | none => p
    | some (x, xs) => { p with fab := { p.fab with out := xs } }.routePkt 6 x none
  | some q =>
    let f := p.fport q
    match f.rxPkts with
    | [] => p
    | b :: bs => if pktIs b k then
        (p.setFPort q { f with rxPkts := bs }).routePkt q k (some { port := q, pair := creditKey k.cls k.vc, flits := pktFlits k })
      else p

/-- PACKET_HOLD_RETRY (R306): the first held packet last tried 10 µs ago is routed again. -/
def Part.holdRetry (p : Part) : Part :=
  match takeFirst (fun h : HeldPkt => decide (h.tried + 10000 ≤ p.now)) p.fab.held with
  | none => p
  | some (h, l) =>
    match p.routeHop (p.area h.k.slice) h.port 3 h.k with
    | .hold k => { p with fab := { p.fab with held := l ++ [{ h with k := k, tried := p.now }] } }
    | _ => { p with fab := { p.fab with held := l } }.routePkt h.port h.k h.owe

/-- A port with a packet that has waited 1 ms for VC2 credits. -/
def Part.vc2Stuck (p : Part) : Option Nat :=
  (List.range 6).find? fun q => (p.fport q).wait.any fun w => w.k.vc == 2 && decide (w.since + 1000000 ≤ p.now)

/-- NO_ROUTE (R306): a packet held for 1 ms, or one that has waited 1 ms for VC2 credits, is discarded and counted. -/
def Part.noRoute (p : Part) : Part :=
  match takeFirst (fun h : HeldPkt => decide (h.since + 1000000 ≤ p.now)) p.fab.held with
  | some (h, l) => ({ p with fab := { p.fab with held := l } }.bump aFabCnt 16 16 1).freeBuffer h.owe
  | none => match p.vc2Stuck with
    | none => p
    | some q =>
      let f := p.fport q
      match takeFirst (fun w : WaitPkt => w.k.vc == 2 && decide (w.since + 1000000 ≤ p.now)) f.wait with
      | none => p
      | some (w, l) => ((p.setFPort q { f with wait := l }).bump aFabCnt 16 16 1).freeBuffer w.owe

/-! ### End to end (R305) -/

/-- A destination still has packets that it has not acknowledged. -/
def Fab.awaits (f : Fab) (dst : Nat) : Bool := f.kept.any fun k => k.k.dst == dst

/-- E2E_ACK (R305): an acknowledgement releases the packet it names. -/
def Part.e2eAck (p : Part) : Part :=
  match p.takeMsg fun x => match x.2 with
    | .ack _ _ => true
    | _ => false with
  | some ((src, .ack cls n), p) =>
    let f := { p.fab with kept := p.fab.kept.filter fun k => !(k.k.dst == src && k.k.cls == cls && k.k.pseq == n) }
    { p with fab := { f with lastAck := if f.awaits src then minsert f.lastAck src p.now else merase f.lastAck src } }
  | _ => p

/-- E2E_RESEND (R305): a packet that is not acknowledged within 200 µs is sent again on the route then current. -/
def Part.e2eResend (p : Part) : Part :=
  match takeFirst (fun k : Kept => decide (k.last + 200000 ≤ p.now)) p.fab.kept with
  | none => p
  | some (k, l) =>
    if p.faulted then p
    else { p with fab := { p.fab with kept := l ++ [{ k with last := p.now }], out := p.fab.out ++ [k.k] } }.bump aFabCnt2 0 32 1

/-- GAP_SKIP (R305): a gap of class 3 to 5 that has lasted 1 ms is skipped. -/
def Part.gapSkip (p : Part) (src cls : Nat) : Part :=
  let key := psKey src cls
  let f := mget RxFlow.reset p.fab.psRx key
  match f.gap with
  | none => p
  | some t =>
    if 3 ≤ cls ∧ cls ≤ 5 ∧ t + 1000000 ≤ p.now then
      match lowest (f.early.map fun k => (k.pseq + 2 ^ 32 - f.next) % 2 ^ 32) with
      | none => p
      | some n =>
        let v := { f with next := (f.next + n) % 2 ^ 32, gap := none }
        ({ p with fab := { p.fab with psRx := mset RxFlow.reset p.fab.psRx key v } }.bump aFabCnt 48 16 1).deliverRun key 4
          (f.early.length + 1)
    else p

/-! ### PORT_CFG and FABRIC_QUERY (R319, R320) -/

/-- LINK_PORT of link `l` in a PORT_CFG. -/
def linkPort (k : Bytes) (l : Nat) : Nat := par k (8 + l) 1

/-- The mode and port that a LINK_PORT value gives. -/
def linkAssign (v : Nat) : Nat × Nat := if v < 6 then (1, v) else if v = 7 then (2, 0) else (0, 0)

/-- The links that a PORT_CFG gives to a port. -/
def portCount (k : Bytes) (q : Nat) : Nat := ((List.range 16).filter fun l => linkPort k l == q).length

/-- The checks of R319 on a PORT_CFG's fields. -/
def portCfgFail (k : Bytes) : Option Nat :=
  let dim (a : Nat) : Nat := par k (2 + a) 1
  firstFail [(decide (dim 0 ≤ 64 ∧ dim 1 ≤ 32 ∧ dim 2 ≤ 32), stLenRange),
    ((List.range 3).all fun a => decide (coord (par k 0 2) a < dim a), stBadParam),
    ((List.range 6).all fun q => [0, 1, 2, 4, 8].contains (portCount k q), stBadParam),
    ((List.range 6).all fun q => dim (q / 2) != 1 || portCount k q == 0, stBadParam),
    ((List.range 12).all fun l => linkPort k l != 7, stBadParam),
    ((List.range 16).all fun l => decide (linkPort k l ≤ 7), stBadParam)]

/-- An NVMe controller or ingress connection uses a link. -/
def Part.linkInUse (p : Part) (l : Nat) : Bool :=
  p.fab.nvme.any (fun c => (c.2.st == 1 || c.2.st == 2) && fld c.2.cfg 1 1 == l) || p.fab.ingress.any fun c => c.link == l

/-- A PORT_CFG changes a link's assignment. -/
def Part.assignChanges (p : Part) (k : Bytes) (l : Nat) : Bool :=
  ((p.link l).mode, (p.link l).port) != linkAssign (linkPort k l)

/-- A link takes its assignment of PORT_CFG; it goes DOWN where the assignment changes or every link does (R294, R319). -/
def Part.assignLink (p : Part) (k : Bytes) (all : Bool) (l : Nat) : Part :=
  if all || p.assignChanges k l then
    let x := linkAssign (linkPort k l)
    let old := p.link l
    let p := if old.st = 0 then p else p.linkTo l { old with st := 0, width := 0 }
    let p := p.setLink l { Link.reset with mode := x.1, port := x.2 }
    let eth := if x.1 = 2 then mmod EthLink.reset p.fab.eth l fun e => { e with up := false } else merase p.fab.eth l
    { p with fab := { p.fab with eth := eth } }
  else p

/-- PORT_CFG (R319). -/
def Part.portCfg (p : Part) (i : Nat) (k : Bytes) : Part :=
  match portCfgFail k with
  | some st => p.finish i st []
  | none =>
    if !p.fab.slices.isEmpty || (List.range 16).any (fun l => p.assignChanges k l && p.linkInUse l) then p.finish i stBusy []
    else
      let c : FabCfg := { partId := par k 0 2, dimX := par k 2 1, dimY := par k 3 1, dimZ := par k 4 1, rackId := par k 6 2, configured := true }
      let all := { p.fabCfg with configured := true } != c
      let q : Part := { p with fabCfg := c }
      (((List.range 16).foldl (fun q l => q.assignLink k all l) q).readiness).finish i stOk []

/-- LKD.LINK_STATUS (RO fields). -/
def Part.linkStatus (p : Part) (l : Nat) : Word64 :=
  let k := p.link l
  packBits [(0, 2, k.mode), (2, 3, if k.mode = 2 ∧ (mget EthLink.reset p.fab.eth l).up then 2 else k.st), (5, 4, k.width), (16, 8, k.good),
    (24, 4, k.cause), (32, 16, k.peerPart), (48, 4, k.peerLink)]

/-- CTL.FAB_CFG. -/
def Part.fabCfgReg (p : Part) : Word64 :=
  let c := p.fabCfg
  packBits [(0, 16, c.partId), (16, 6, c.dimX - 1), (22, 5, c.dimY - 1), (27, 5, c.dimZ - 1), (32, 11, c.rackId), (48, 1, bit c.configured)]

/-- CTL.FAB_PORT. -/
def Part.fabPortReg (p : Part) (q : Nat) : Word64 :=
  let ls := p.portLinks q
  let up := ls.filter fun l => l.2.isActive
  packBits [(0, 4, ls.length), (4, 4, up.length), (8, 7, sumNat (up.map fun l => l.2.width)),
    (16, 16, if p.fabCfg.configured then p.fabCfg.neighbourOf p.fabCfg.partId q else 0), (32, 1, bit (p.portUp q)),
    (33, 1, bit (ls.any fun l => l.2.st == 0 && l.2.cause == 1))]

/-- CTL.FAB_SLICE of a slice. -/
def Part.fabSliceReg (p : Part) (r : SliceRec) : Word64 :=
  packBits [(0, 16, r.desc.slice), (16, 2, r.st), (18, 1, bit r.tight), (19, 1, bit (r.root == p.fabCfg.partId)), (32, 16, r.desc.origin),
    (48, 16, r.root)]

/-- CTL.FAB_SLICE2 of a slice, with its BARRIER_LATE. -/
def Part.fabSlice2Reg (p : Part) (r : SliceRec) : Word64 :=
  packBits [(0, 6, r.desc.ex - 1), (6, 5, r.desc.ey - 1), (11, 5, r.desc.ez - 1), (16, 16, r.lost.length),
    (32, 11, if r.tight then r.racks.length else 0), (48, 16, p.regFld (aFabSlice2 r.index) 48 16)]

/-- The body of FABRIC_QUERY; none for a slice the part is not in (R320). -/
def Part.fabricBody (p : Part) (kind index : Nat) : Option Bytes :=
  if kind = 0 then
    some (wordBytes p.fabCfgReg ++ (List.range 6).flatMap (fun q => wordBytes (p.fabPortReg q)) ++ wordBytes (p.regGet aFabCnt))
  else if kind = 1 then
    (p.sliceRec index).map fun r => wordBytes (p.fabSliceReg r) ++ wordBytes (p.fabSlice2Reg r)
  else some (wordBytes (p.linkStatus index) ++ wordBytes (p.regGet (aLinkCnt (4 + index / 4) (index % 4))))

/-- FABRIC_QUERY (R320). -/
def Part.fabricQuery (p : Part) (i : Nat) (k : Bytes) : Part :=
  match p.fabricBody (par k 0 1) (par k 2 2) with
  | none => p.finish i stBadParam []
  | some b => p.finish i stOk b

/-! ### The commands -/

/-- PACKET_ROUTE (R306). -/
def execPacketRoute (port : Option Nat) (k : FabPkt) (s : State) : Out :=
  s.live 1 (match port with
    | none => true
    | some q => decide (q < 6)) fun p => p.packetRoute port k

/-- PACKET_HOLD_RETRY (R306). -/
def execPacketHoldRetry (s : State) : Out := s.live 1 true Part.holdRetry

/-- NO_ROUTE (R306). -/
def execNoRoute (s : State) : Out := s.live 1 true Part.noRoute

/-- E2E_ACK (R305). -/
def execE2eAck (s : State) : Out := s.live 1 true Part.e2eAck

/-- E2E_RESEND (R305). -/
def execE2eResend (s : State) : Out := s.live 1 true Part.e2eResend

/-- GAP_SKIP (R305). -/
def execGapSkip (src cls : Nat) (s : State) : Out := s.live 1 true fun p => p.gapSkip src cls

/-- PORT_CFG (R319). -/
def execPortCfg (i : Nat) (s : State) : Out := s.cmd i 0x73 fun k p => p.portCfg i k

/-- FABRIC_QUERY (R320). -/
def execFabricQuery (i : Nat) (s : State) : Out := s.cmd i 0x72 fun k p => p.fabricQuery i k

end Sys2Proof.Machine
end

