-- ==== Sys2Proof/Machine/Ether.lean ====
section
/-! DEFINITION. Ether: Ethernet links, ingress connections and NVMe/TCP controllers (R317, R318, R323, R324). -/
namespace Sys2Proof.Machine

/-! ### Ethernet links (R317, R323) -/

/-- An Ethernet link's record. -/
def Part.eth (p : Part) (l : Nat) : EthLink := mget EthLink.reset p.fab.eth l

/-- Replace an Ethernet link's record. -/
def Part.setEth (p : Part) (l : Nat) (v : EthLink) : Part := { p with fab := { p.fab with eth := mset EthLink.reset p.fab.eth l v } }

/-- INGRESS is set on an enabled link. -/
def EthLink.takesIngress (e : EthLink) : Bool := e.enabled && (fld e.cfg 1 1).testBit 2

/-- The link's ingress range holds a session (R318). -/
def EthLink.ingressHas (e : EthLink) (i : Nat) : Bool :=
  e.takesIngress && decide (fld e.cfg 56 1 ≤ i ∧ i < fld e.cfg 56 1 + fld e.cfg 57 1)

/-- Sessions follow the ingress ranges of the links. -/
def Part.ingressSessions (p : Part) : Part :=
  allSessions.foldl (fun q i =>
    let on := q.fab.eth.any fun e => e.2.ingressHas i
    if (q.ses i).ingress = on then q else q.modSes i fun s => { s with ingress := on }) p

/-- ETH_CFG (R323). -/
def Part.ethCfg (p : Part) (i : Nat) (k : Bytes) : Part :=
  let l := par k 0 1
  let flags := par k 1 1
  let first := par k 56 1
  let range := (List.range (par k 57 1)).map (first + ·)
  if (p.link l).mode ≠ 2 then p.finish i stBadParam []
  else if flags.testBit 2 && range.any (fun n => (p.ses n).st == .opened && !(p.ses n).ingress) then p.finish i stBusy []
  else if p.linkInUse l && bytesAt k 16 64 != (p.eth l).cfg then p.finish i stBusy []
  else
    let old := p.eth l
    let v : EthLink := { cfg := bytesAt k 16 64, enabled := flags.testBit 0, up := old.up && flags.testBit 0 && (fld old.cfg 1 1).testBit 1 == flags.testBit 1 }
    let p := p.setEth l v
    let p := if old.up && !v.up then p.linkTo l { p.link l with st := 0, width := 0 } else p
    p.ingressSessions.readiness.finish i stOk []

/-- ETH_LINK_UP (R317): auto-negotiation and training end, and an enabled link comes up on 8 or 4 lanes. -/
def Part.ethLinkUp (p : Part) (l : Nat) : Part :=
  let e := p.eth l
  if (p.link l).mode = 2 ∧ e.enabled ∧ !e.up ∧ p.domSt (15 + l / 4) = .on then
    (p.setEth l { e with up := true }).linkTo l { p.link l with st := 2, width := if (fld e.cfg 1 1).testBit 1 then 4 else 8 }
  else p

/-- The link's IPv4 address, when it has one. -/
def EthLink.ip4 (e : EthLink) : Option Bytes := if fld e.cfg 14 1 = 0 then none else some (slice e.cfg 16 4)

/-- The link's IPv6 address, when it has one. -/
def EthLink.ip6 (e : EthLink) : Option Bytes := if fld e.cfg 15 1 = 0 then none else some (slice e.cfg 24 16)

/-- The answer of the link to a frame: ARP, NDP and echo replies for its own addresses (R317). -/
def EthLink.reply (e : EthLink) (f : EthFrame) : Option EthFrame :=
  match f with
  | .arp t s => if e.ip4 = some t then some (.arp s t) else none
  | .ndp t s => if e.ip6 = some t then some (.ndp s t) else none
  | .echo d s b => if e.ip4 = some d ∨ e.ip6 = some d then some (.echo s d b) else none
  | .tcp _ _ _ => none

/-- ETH_FRAME_RECEIVE (R317): a frame of `len` bytes with the VLAN tag `vlan` (0 for none) on a link that is up. A frame above the MTU or of
another VLAN than the link's is not taken (log entry 183). A TCP segment carries bytes of a connection, which the rows of R318 and R324
take. -/
def Part.ethFrame (p : Part) (l vlan len : Nat) (f : EthFrame) : Part :=
  let e := p.eth l
  if !e.up || decide (fld e.cfg 2 2 < len) || vlan != fld e.cfg 4 2 then p
  else match e.reply f with
    | none => p
    | some r => { p with fab := { p.fab with ethOut := p.fab.ethOut ++ [(l, r)] } }

/-! ### Ingress sessions (R318) -/

/-- The session that a claim names: its four letters, the number, zeros. -/
def claimSession (b : Bytes) : Option Nat :=
  if b.take 4 = [0x48, 0x4E, 0x4C, 0x53] ∧ zeros b 6 10 ∧ b.length = 16 then some (fld b 4 2) else none

/-- TCP connections of the part (R317): of ingress sessions, and of each controller its admin queue and its I/O queues. -/
def Part.tcpCount (p : Part) : Nat :=
  p.fab.ingress.length + sumNat ((p.fab.nvme.filter fun c => c.2.st == 1 || c.2.st == 2).map fun c => 1 + fld c.2.cfg 22 1)

/-- INGRESS_CLAIM (R318): a connection claims a session of its link's range that is neither OPEN nor claimed; any other claim closes
the connection. Replies that the old connection lost are sent first. -/
def Part.ingressClaim (p : Part) (l conn : Nat) (b : Bytes) : Part :=
  if !(p.eth l).up || p.fab.ingress.any (fun c => c.conn == conn) || decide (256 ≤ p.tcpCount) then p
  else match claimSession b with
  | none => p
  | some i =>
    let s := p.ses i
    if !(p.eth l).ingressHas i || s.st == .opened || s.claimed then p
    else
      let p : Part := { p with fab := { p.fab with ingress := p.fab.ingress ++ [{ conn := conn, link := l, sess := i, carry := [] }] } }
      p.modSes i fun t => { t with claimed := true, out := t.out ++ t.resend, resend := [] }

/-- The unit after the packets that wait in a session's window; `n` bounds them. -/
def Session.nextUnit (s : Session) : Nat → Nat → Nat
  | 0, u => u
  | n + 1, u => match s.granule (4 * u) with
    | none => u
    | some h => s.nextUnit n ((u + max 1 (cdiv (pkLen h) 64)) % subUnits)

/-- A packet of the byte stream takes the next units of the window, round its end. -/
def Part.streamPacket (p : Part) (i : Nat) (b : Bytes) : Part :=
  let o := 64 * (p.ses i).nextUnit subUnits (p.ses i).takePtr
  let room := 65536 - o
  let p := p.windowWrite i o (b.take room)
  if room < b.length then p.windowWrite i 0 (b.drop room) else p

/-- Whole packets of a byte stream enter the window; a packet whose LEN is no packet's is entered as far as its first granule, which
faults the session. `n` bounds the packets. -/
def Part.streamPackets (p : Part) (i : Nat) : Nat → Bytes → Part × Bytes
  | 0, b => (p, b)
  | n + 1, b =>
    if b.length < 16 then (p, b)
    else if pkLen b % 16 ≠ 0 ∨ pkLen b < 16 ∨ 16384 < pkLen b then (p.streamPacket i (b.take 16), [])
    else if b.length < pkLen b then (p, b)
    else (p.streamPacket i (b.take (pkLen b))).streamPackets i n (b.drop (pkLen b))

/-- INGRESS_DATA (R318): bytes on a claimed connection stand in for the submission window. -/
def Part.ingressData (p : Part) (conn : Nat) (b : Bytes) : Part :=
  match p.fab.ingress.find? fun c => c.conn == conn with
  | none => p
  | some c =>
    let (p, r) := p.streamPackets c.sess (c.carry.length + b.length) (c.carry ++ b)
    { p with fab := { p.fab with ingress := p.fab.ingress.map fun x => if x.conn = conn then { x with carry := r } else x } }

/-- INGRESS_LOST (R318): the connection of a session is lost: an OPEN session is FAULTED with CAUSE 5, without a fault reply. TCP had not
acknowledged the last `unacked` replies, which a new connection sends first. -/
def Part.ingressLost (p : Part) (conn unacked : Nat) : Part :=
  match p.fab.ingress.find? fun c => c.conn == conn with
  | none => p
  | some c =>
    let p : Part := { p with fab := { p.fab with ingress := p.fab.ingress.filter fun x => x.conn != conn } }
    p.modSes c.sess fun s =>
      let s := { s with claimed := false, resend := s.out.drop (s.out.length - unacked) }
      if s.st = .opened then { s.resetSub with st := .faulted, cause := 5 } else s

/-! ### NVMe/TCP controllers (R152, R324) -/

/-- A controller's record. -/
def Part.nvme (p : Part) (c : Nat) : NvmeConn := mget NvmeConn.reset p.fab.nvme c

/-- Replace a controller's record. -/
def Part.setNvme (p : Part) (c : Nat) (v : NvmeConn) : Part := { p with fab := { p.fab with nvme := mset NvmeConn.reset p.fab.nvme c v } }

/-- NVME_CONNECT (R324): the controller starts to connect. A connect beyond the 256 connections of R317 fails, with BUSY. -/
def Part.nvmeConnect (p : Part) (i : Nat) (k : Bytes) : Part :=
  let c := par k 0 1
  if (p.nvme c).st ≠ 0 ∨ 256 < p.tcpCount + 1 + par k 22 1 then p.finish i stBusy []
  else if !(p.eth (par k 1 1)).enabled then p.finish i stBadParam []
  else
    let kato := if par k 26 2 = 0 then 10 else par k 26 2
    ((p.setNvme c { NvmeConn.reset with
      st := 1, cfg := bytesAt k 16 64, nqn := bytesAt k 80 (par k 28 2), sess := i, seq := (p.ses i).serial, since := p.now, kato := kato }).startA i c).requestWake 19

/-- The reply body of a connect: CONN, queues granted, status of a failed Connect (R324). -/
def connectBody (c ioq status : Nat) : Bytes := leBytes 1 c ++ leBytes 1 ioq ++ leBytes 2 status ++ zpad 12

/-- A connect ends. -/
def Part.connectEnd (p : Part) (c : Nat) (v : NvmeConn) (st status : Nat) : Part :=
  let n := p.nvme c
  (p.setNvme c v).completeA n.sess n.seq st (connectBody c v.ioq status)

/-- NVME_CONNECT_TIMEOUT (R324): the target gives no response within 2,000 ms. -/
def Part.connectTimeout (p : Part) (c : Nat) : Part :=
  let n := p.nvme c
  if n.st = 1 ∧ n.since + 2000000000 ≤ p.now then p.connectEnd c { n with st := 3 } stBusy 0 else p

/-- NVME_DISCONNECT (R324). DESIGN CHOICE (log entry 183): a controller that still connects is BUSY. -/
def Part.nvmeDisconnect (p : Part) (i : Nat) (k : Bytes) : Part :=
  let n := p.nvme (par k 0 1)
  if n.st = 0 then p.finish i stAlreadyDone []
  else if !n.reads.isEmpty || n.st == 1 then p.finish i stBusy []
  else (p.setNvme (par k 0 1) NvmeConn.reset).finish i stOk []

/-- NVME_KEEP_ALIVE (R324): KATO runs out on a connected controller, and the part sends Keep Alive. -/
def Part.keepAlive (p : Part) (c : Nat) : Part :=
  let n := p.nvme c
  if n.st = 2 ∧ n.aliveAt + 1000000000 * n.kato ≤ p.now then p.setNvme c { n with aliveAt := p.now } else p

/-! ### The commands -/

/-- An Ethernet-capable link. -/
def ethOk (l : Nat) : Bool := decide (12 ≤ l ∧ l < 16)

/-- ETH_CFG (R323). -/
def execEthCfg (i : Nat) (s : State) : Out := s.cmd i 0x74 fun k p => p.ethCfg i k

/-- ETH_LINK_UP (R317). -/
def execEthLinkUp (l : Nat) (s : State) : Out := s.live 18 (ethOk l) fun p => p.ethLinkUp l

/-- ETH_FRAME_RECEIVE (R317). -/
def execEthFrameReceive (l : Nat) (f : EthArrival) (s : State) : Out := s.live 18 (ethOk l) fun p => p.ethFrame l f.vlan f.len f.frame

/-- INGRESS_CLAIM (R318). -/
def execIngressClaim (l conn : Nat) (b : Bytes) (s : State) : Out := s.live 1 (ethOk l) fun p => p.ingressClaim l conn b

/-- INGRESS_DATA (R318). -/
def execIngressData (conn : Nat) (b : Bytes) (s : State) : Out := s.live 1 true fun p => p.ingressData conn b

/-- INGRESS_LOST (R318). -/
def execIngressLost (loss : IngressLoss) (s : State) : Out := s.live 1 true fun p => p.ingressLost loss.conn loss.unacked

/-- NVME_CONNECT (R324). -/
def execNvmeConnect (i : Nat) (s : State) : Out := s.cmd i 0x28 fun k p => p.nvmeConnect i k

/-- NVME_CONNECT_TIMEOUT (R324). -/
def execNvmeConnectTimeout (c : Nat) (s : State) : Out := s.live 1 (decide (c < 8)) fun p => p.connectTimeout c

/-- NVME_DISCONNECT (R324). -/
def execNvmeDisconnect (i : Nat) (s : State) : Out := s.cmd i 0x29 fun k p => p.nvmeDisconnect i k

/-- NVME_KEEP_ALIVE (R324). -/
def execNvmeKeepAlive (c : Nat) (s : State) : Out := s.live 1 (decide (c < 8)) fun p => p.keepAlive c

end Sys2Proof.Machine
end

