-- ==== Sys2Proof/Machine/Table.lean ====
section
/-! DEFINITION. Table: the model table, its pins and switches, stack space of shards, and the checks of ingot headers and placements
(R146 to R151, R156, R164 to R169, R176, R179). -/
namespace Sys2Proof.Machine

/-! ### Entries -/

/-- A model-table entry. -/
def Part.ver (p : Part) (e : Nat) : Option Version := mfind p.models.table e

/-- Change a model-table entry. -/
def Part.modVer (p : Part) (e : Nat) (f : Version → Version) : Part :=
  { p with models := { p.models with table := p.models.table.map fun x => if x.1 = e then (x.1, f x.2) else x } }

/-- A shard of an entry. -/
def Part.shard (p : Part) (e s : Nat) : Option Shard :=
  match p.ver e with
  | none => none
  | some v => mfind v.shards s

/-- Change a shard of an entry. -/
def Part.modShard (p : Part) (e s : Nat) (f : Shard → Shard) : Part :=
  let freed := (p.shard e s).any fun x => decide (x.engine < 96) && decide (96 ≤ (f x).engine)
  let p := if freed then { p with pwr := { p.pwr with wsdIdleSince := p.now } } else p
  p.modVer e fun v => { v with shards := v.shards.map fun x => if x.1 = s then (x.1, f x.2) else x }

/-- The entry of a (MODEL_ID, VERSION). -/
def Part.entryOf (p : Part) (model version : Nat) : Option Nat :=
  (p.models.table.find? fun x => x.2.model == model && x.2.version == version).map Prod.fst

/-- The current version of a model. -/
def Part.currentOf (p : Part) (model : Nat) : Option Nat := (p.models.table.find? fun x => x.2.model == model && x.2.current).map Prod.fst

/-- STATE of CTL.MODEL_ENT0. -/
def verCode (s : VerState) : Nat :=
  match s with
  | .loading => 1
  | .available => 2
  | .retiring => 3
  | .unavailable => 4

/-- An entry changes state; the notice ring takes a VERSION_STATE entry (R358). -/
def Part.setVerState (p : Part) (e : Nat) (st : VerState) : Part :=
  (p.modVer e fun v => { v with st := st }).ringAdd 5 0 0 (e + 65536 * verCode st)

/-- An AVAILABLE adapter names the version as its base (R166). -/
def Part.baseProtected (p : Part) (e : Nat) : Bool :=
  match p.ver e with
  | none => false
  | some v => p.models.table.any fun x => x.2.st == .available && (match x.2.graph with
    | none => false
    | some g => g.base == some (v.model, v.version))

/-- The base entry of an adapter. -/
def Part.baseOf (p : Part) (e : Nat) : Option Nat :=
  match (p.ver e).bind fun v => v.graph.bind fun g => g.base with
  | none => none
  | some (m, n) => p.entryOf m n

/-! ### Stack space (R156, R178, R179) -/

/-- Every shard that has a stack copy, with its range. -/
def Part.heldRanges (p : Part) : List (Nat × Nat) :=
  p.models.table.flatMap fun v => (v.2.shards.filter fun s => s.2.held).map fun s => (s.2.base, s.2.room)

/-- Two address ranges overlap. -/
def overlap (a : Nat × Nat) (b : Nat × Nat) : Bool := decide (a.1 < b.1 + b.2 ∧ b.1 < a.1 + a.2)

/-- The stripes that a range of control-space addresses touches. -/
def rangeStripes (base len : Nat) : List Nat :=
  let first := (base - stripeAddr 0) / stripeBytes
  (List.range ((base - stripeAddr 0 + (len - 1)) / stripeBytes + 1 - first)).map (first + ·)

/-- Some shard's stack copy lies in stripe `n`. -/
def Part.stripeUsed (p : Part) (n : Nat) : Bool := p.heldRanges.any fun r => overlap r (stripeAddr n, stripeBytes)

/-- Stack space at `base` for a shard (R179, log entry 21): it overlaps no other, and its stripes are free, as far as R179 allows, or hold
shards already. -/
def Part.takeSpace (p : Part) (base len : Nat) : Option Part :=
  let ns := rangeStripes base len
  let fresh := ns.filter fun n => !p.stripeUsed n
  if stripeAddr 0 ≤ base ∧ base % 4096 = 0 ∧ base + len ≤ stripeAddr usableSlabs ∧ !p.heldRanges.any (overlap (base, len)) ∧
      fresh.all p.stripeFree ∧ (fresh.isEmpty ∨ p.stripesLeft fresh.length) then
    some (fresh.foldl (fun q n => q.setStripe n .weight) p)
  else none

/-- Some place has room for a shard of `len` bytes. -/
def Part.roomFor (p : Part) (len : Nat) : Bool :=
  let k := cdiv len stripeBytes
  p.stripesLeft k && (p.adjacentStripes k).isSome

/-- A shard's stack copy is given up: its stripes are free unless another shard lies in them. A scrub of it is abandoned (R158). -/
def Part.freeSpace (p : Part) (e s : Nat) : Part :=
  match p.shard e s with
  | none => p
  | some x =>
    if !x.held then p
    else
      let p := p.modShard e s fun y => { y with held := false, scrubbing := false, engine := 96 }
      (rangeStripes x.base x.room).foldl (fun q n => if q.stripeUsed n then q else q.setStripe n .free) p

/-- A shard's copy in the slower tier is given up; a lender gets its stripes back (R313). -/
def Part.dropTier (p : Part) (e s : Nat) : Part :=
  match (p.shard e s).bind fun x => x.tier with
  | none => p
  | some t =>
    let p := p.modShard e s fun y => { y with tier := none }
    if t.peer then p.control t.place (.lendFree t.off (cdiv t.data.length stripeBytes)) else p

/-- A shard is forgotten: no stack copy, no tier copy, no scrub. -/
def Part.forgetShard (p : Part) (e s : Nat) : Part := (p.freeSpace e s).dropTier e s

/-! ### Pins and retiring (R166 to R168) -/

/-- The banks whose owner is a version (R42). -/
def Part.banksOf (p : Part) (v : Version) : List (Nat × Bank) :=
  p.an.banks.filter fun b => b.2.st != .empty && b.2.st != .retired && b.2.model == v.model && b.2.version == v.version

/-- A RETIRING version whose pin count is 0: RELEASE to its SHALLOW banks, ERASE to its DEEP banks, its shards freed and the entry
with them (R164, R168). -/
def Part.retireFree (p : Part) (e : Nat) : Part :=
  match p.ver e with
  | none => p
  | some v =>
    let p := (p.banksOf v).foldl (fun q b => match b.2.st with
      | .shallow => q.bankCommand 0xA4 b.1
      | .deep => q.bankCommand 0xA3 b.1
      | _ => q) p
    let p := v.shards.foldl (fun q s => q.forgetShard e s.1) p
    { p with models := { p.models with
        table := merase p.models.table e, queue := p.models.queue.filter fun x => x.1 != e } }.ringAdd 5 0 0 e

/-- The version retires; at once freed when nothing pins it. -/
def Part.retire (p : Part) (e : Nat) : Part :=
  let p := p.setVerState e .retiring
  match p.ver e with
  | none => p
  | some v => if v.pins = 0 then p.retireFree e else p

/-- One pin fewer on an entry. -/
def Part.unpin1 (p : Part) (e : Nat) : Part :=
  let p := p.modVer e fun v => { v with pins := v.pins - 1 }
  match p.ver e with
  | none => p
  | some v => if v.st = .retiring ∧ v.pins = 0 then p.retireFree e else p

/-- A pin of a version is removed, with that of its base (R166). -/
def Part.unpin (p : Part) (e : Nat) : Part :=
  let b := p.baseOf e
  let p := p.unpin1 e
  (match b with
   | none => p
   | some x => p.unpin1 x).leaveChecks

/-- A version is pinned, with its base (R166). -/
def Part.pin (p : Part) (e : Nat) : Part :=
  let up (q : Part) (x : Nat) : Part := q.modVer x fun v => { v with pins := v.pins + 1 }
  match p.baseOf e with
  | none => up p e
  | some x => up (up p e) x

/-- The version becomes current (R167): the version that was current retires, or with KEEP stays AVAILABLE. -/
def Part.makeCurrent (p : Part) (e : Nat) (keep : Bool) : Part :=
  match p.ver e with
  | none => p
  | some v =>
    let old := p.currentOf v.model
    if old = some e then p
    else
      let p := p.modVer e fun x => { x with current := true }
      match old with
      | none => p
      | some o =>
        let p := p.modVer o fun x => { x with current := false, kept := keep }
        if keep then p else p.retire o

/-- A switch would retire a base that an AVAILABLE adapter names (R166). -/
def Part.switchBlocked (p : Part) (e : Nat) (model : Nat) (keep : Bool) : Bool :=
  match p.currentOf model with
  | none => false
  | some o => o != e && !keep && p.baseProtected o

/-! ### Ingot headers (R146 to R148, R150) -/

/-- KIND and FMT are valid, and LENGTH and the slots agree with R147 and R148: OUTLIER_WEIGHTS are I8 (log entry 166). -/
def sectionOk (layers payload : Nat) (s : Section) : Bool :=
  let perSlot := decide (s.kind ≤ 3)
  decide (s.kind ≤ 7 ∧ s.layer < layers ∧ s.off % 64 = 0 ∧ 1 ≤ s.len ∧ s.off + s.len ≤ payload) &&
  (if s.kind = 0 then decide (s.fmt ≤ 2) else if s.kind = 5 then decide (s.fmt ≤ 4) else if s.kind = 3 then s.fmt == 4
   else if s.kind = 6 then s.fmt == 3 || s.fmt == 4 else s.fmt == 0) &&
  (if perSlot then decide (1 ≤ s.count ∧ s.count ≤ 4096) else s.first == 0 && s.count == 0) &&
  (match s.kind with
   | 0 => s.len == 65536 * s.count
   | 1 => s.len == 128 * s.count
   | 2 => s.len % 4 == 0
   | 3 => s.len == 4096 * s.count
   | 4 => decide (64 ≤ s.len) && s.len % 8 == 0
   | _ => true)

/-- No two sections overlap. -/
def sectionsApart : List Section → Bool
  | [] => true
  | s :: r => !r.any (fun t => overlap (s.off, s.len) (t.off, t.len)) && sectionsApart r

/-- MAGIC of an ingot. -/
def ingotMagic : Bytes := [0x48, 0x4E, 0x4C, 0x49, 0x4E, 0x47, 0x4F, 0x54]

/-- Check 1 of R150 on a header and the bytes received after it; FLAGS.DEEP also needs DEEP_RESIDENT (R269). -/
def headerFits (v : Version) (s : Nat) (h : Bytes) (received : Nat) : Bool :=
  let pl := fld h 24 4
  h.take 8 == ingotMagic && fld h 8 2 == 1 && zeros h 122 2 && zeros h 192 64 && decide (fld h 18 2 < 2) &&
  fld h 12 4 == v.model && fld h 16 2 == v.version && fld h 20 2 == s && fld h 22 2 == v.count && fld h 22 2 != 0 && fld h 22 2 != 0xFFFF &&
  decide (4096 ≤ pl ∧ pl ≤ 268435456 ∧ pl % 4096 = 0) && pl == received &&
  decide (1 ≤ fld h 120 2 ∧ 1 ≤ fld h 124 4 ∧ fld h 124 4 ≤ 65536) && (v.deepAllowed || fld h 18 2 == 0)

/-- Check 2 of R150: the section table. -/
def sectionsFit (h : Bytes) : Bool :=
  let n := fld h 10 2
  decide (1 ≤ n ∧ n ≤ 240) && zeros h (256 + 16 * n) (16 * (240 - n)) &&
  (sectionsOf h).all (sectionOk (fld h 120 2) (fld h 24 4)) && sectionsApart (sectionsOf h)

/-- Cause codes of R171. -/
def causeFetch : Nat := 1
/-- HEADER. -/
def causeHeader : Nat := 2
/-- KEY. -/
def causeKey : Nat := 3
/-- UNWRAP. -/
def causeUnwrap : Nat := 4
/-- TAG. -/
def causeTag : Nat := 5
/-- DIGEST. -/
def causeDigest : Nat := 6
/-- SCRUB. -/
def causeScrub : Nat := 7
/-- STACK_UE. -/
def causeStackUe : Nat := 8
/-- TIER. -/
def causeTier : Nat := 9
/-- SPACE. -/
def causeSpace : Nat := 10
/-- PLACEMENT. -/
def causePlacement : Nat := 11

/-- The additional authenticated data of the payload: the header with its tag as zero (R149). -/
def payloadAad (h : Bytes) : Bytes := h.take 104 ++ zpad 16 ++ h.drop 120

/-- A 256-bit key from 32 bytes. -/
def keyOf (b : Bytes) : BitVec 256 := BitVec.ofNat 256 (beNat b)

/-- The shard key of a header under a model key (R149). -/
def shardKey (key : BitVec 256) (h : Bytes) : Option (BitVec 256) :=
  (Config.gcmOpen key (slice h 32 12) (h.take 32) (slice h 44 32) (slice h 76 16)).map keyOf

/-- The arrival checks of R150 on an ingot: the plaintext, or the cause of the first failure. -/
def ingotCheck (v : Version) (s : Nat) (key : Option (BitVec 256)) (ingot : Bytes) : Bytes ⊕ Nat :=
  let h := ingot.take 4096
  let body := ingot.drop 4096
  if !headerFits v s h body.length || !sectionsFit h then .inr causeHeader
  else match key with
  | none => .inr causeKey
  | some k => match shardKey k h with
    | none => .inr causeUnwrap
    | some sk => match Config.gcmOpen sk (slice h 92 12) (payloadAad h) body (slice h 104 16) with
      | none => .inr causeTag
      | some plain => if sha plain = slice h 128 64 then .inl plain else .inr causeDigest

/-! ### Attention parameters (R176) -/

/-- Bytes of an element in a KV format. -/
def fmtBytes (fmt : Nat) : Nat := if fmt = 2 then 2 else 1

/-- Raw page bytes. -/
def rawPage (g : Graph) : Nat := 64 * g.layersKv * 2 * g.headsKv * g.dim * fmtBytes g.fmt

/-- PAGE_BYTES (R176). -/
def pageBytes (g : Graph) : Nat := 65536 * cdiv (rawPage g) 65536

/-- The attention parameters keep the limits of R176. -/
def attentionOk (g : Graph) : Bool :=
  decide (1 ≤ g.layersKv ∧ g.layersKv ≤ 256 ∧ 1 ≤ g.headsKv ∧ g.headsKv ≤ 64 ∧ 1 ≤ g.headsQ ∧ g.headsQ % g.headsKv = 0 ∧ g.headsQ ≤ 256 ∧
    32 ≤ g.dim ∧ g.dim ≤ 256 ∧ g.dim % 16 = 0 ∧ g.fmt ≤ 2 ∧ g.window ≤ 131072 ∧ pageBytes g ≤ 2 ^ 24) &&
  g.kScale.length == g.layersKv && g.vScale.length == g.layersKv && g.kScale.all f32PosNormal && g.vScale.all f32PosNormal &&
  f32Finite g.score && g.score % 2 ^ 31 != 0

/-! ### Placement (R165) -/

/-- One SLOT_PARAMS record for a slot, and one placement: CELL_ROWS of the slot or DIGITAL_WEIGHTS of its layer, not both. -/
def Version.slotPlaced (v : Version) (slot : Nat) : Bool :=
  match v.recs.filter fun r => r.slot == slot with
  | [r] => countSections v.sections (coversSlot 0 slot) + countSections v.sections (fun x => x.2.kind == 6 && x.2.layer == r.layer) == 1
  | _ => false

/-- A RESIDUALS section's length agrees with its slots. -/
def Version.residualsFit (v : Version) (x : Nat × Section) : Bool :=
  x.2.kind != 2 || x.2.len == 4 * sumNat ((List.range x.2.count).map fun i => v.residCount (x.2.first + i))

/-- WSCALE and BIAS of a layer's LAYER_PARAMS obey R125, and so does LSCALE where the layer has ladder weights (R126). -/
def layerParamsFit (ladder : Bool) (b : Bytes) : Bool :=
  (List.range ((b.length - 64) / 8)).all fun j =>
    let a := 64 + 8 * j
    stepOk 0x5F80 (fld b a 2) && (!ladder || stepOk 0x5F80 (fld b (a + 2) 2)) && f32Finite (fld b (a + 4) 4)

/-- The LAYER_PARAMS of a version's layers. -/
def Version.lparams (v : Version) : List (Nat × Bytes) := v.shards.flatMap fun x => x.2.lparams

/-- The chains of a layer hold 1 to 4,096 tiles, at positions 0 to 4,095, for each of its blocks of 512 columns (R135, R148): a chain is
the slots of the layer with one COL_BLOCK. A layer on the temper path may have none. -/
def Version.chainsFit (v : Version) (layer : Nat) : Bool :=
  let l := v.recs.filter fun r => r.layer == layer
  let blocks : Nat := l.foldl (fun (n : Nat) r => max n (r.block + 1)) 0
  l.all (fun r => decide (r.pos ≤ 4095)) && (decide (0 < blocks) || (v.sections.any fun x => x.2.kind == 6 && x.2.layer == layer)) &&
  (List.range blocks).all fun b => let n := (l.filter fun r => r.block == b).length; decide (1 ≤ n ∧ n ≤ 4096)

/-- The status with which the placement of a version fails, in the order of R165; none when it passes. A failure of the placement's
structure has status BAD_PARAM (log entry 22); a chain that R135 forbids has LEN_RANGE. -/
def Part.placementFail (p : Part) (v : Version) (g : Option Graph) : Option Nat :=
  let l := v.sections
  let h := ((v.shards.head?).map fun x => x.2.header).getD []
  let layers := List.range (fld h 120 2)
  let struct := firstFail [((List.range (fld h 124 4)).all v.slotPlaced, stBadParam),
    (layers.all fun n => countSections l (fun x => x.2.kind == 4 && x.2.layer == n) == 1, stBadParam),
    (countSections l (fun x => x.2.kind == 7) == 1, stBadParam)]
  match struct, g with
  | some st, _ => some st
  | none, none => some stBadParam
  | none, some g =>
    firstFail [((match g.base with
        | none => true
        | some (m, n) => match (p.entryOf m n).bind p.ver with
          | none => false
          | some b => b.st == .available), stBadParam),
      (attentionOk g, stLenRange), (decide (1 ≤ g.vocab ∧ g.vocab ≤ 262144), stLenRange)] <|>
    (v.recs.findSome? fun r => paramsFail r.bytes) <|>
    firstFail [(v.lparams.all fun x => layerParamsFit (l.any fun s => s.2.kind == 5 && s.2.layer == x.1) x.2, stBadParam),
      (g.statics.all fun x => x == 0 || stepOk 0x5F80 x, stBadParam), (layers.all v.chainsFit, stLenRange), (g.descOk, stBadParam),
      (l.all v.residualsFit, stBadParam)]

/-! ### DEEP banks that come up with their owner (R169) -/

/-- The parameters and residual table of a slot are loaded for a bank that already holds its weights. -/
def Bank.adopt (b : Bank) (mem : Memory) (src : SlotSrc) : Bank :=
  let s := slotParams mem src.params
  { b with
    src := src, rsh := fld s 64 1, outRows := outlierRows s, outW := memReadN mem src.outw 4096, ranges := s.take 64, probed := false,
    resid := (List.range (fld s 90 2)).map fun i => leNat (memReadN mem (src.resid + 4 * i) 4), probeDue := true }

/-- The slot has FLAGS.DEEP set in the shard of its CELL_ROWS. -/
def Version.deepSlot (v : Version) (slot : Nat) : Bool :=
  v.shards.any fun x => fld x.2.header 18 2 % 2 == 1 && (sectionsOf x.2.header).any fun s => coversSlot 0 slot (0, s)

/-- A DEEP bank whose owner the version matches is used without writing, after a deep probe: its parameters are loaded once the slot's
sections are verified in the stacks (R151, R169). -/
def Part.adoptBank (p : Part) (mem : Memory) (v : Version) (k : Nat) : Part :=
  let b := p.bank k
  let part (s : Section) : Bool := decide (s.kind ≤ 3) && s.ofSlot s.kind b.slot
  if b.st = .deep ∧ v.st ≠ .loading ∧ v.deepSlot b.slot ∧ b.src = Bank.reset.src ∧ !v.waits part ∧ !v.lost part then
    p.setBank k (b.adopt mem (v.slotSource b.slot))
  else p

/-- The DEEP banks of a version that has become AVAILABLE. -/
def Part.adoptDeep (p : Part) (mem : Memory) (e : Nat) : Part :=
  match p.ver e with
  | none => p
  | some v => (p.banksOf v).foldl (fun q b => q.adoptBank mem v b.1) p

end Sys2Proof.Machine
end

