-- ==== Sys2Proof/Machine/Pages.lean ====
section
/-! DEFINITION. Pages: sequence slots, frames, and the page operations (R173 to R184, R285). -/
namespace Sys2Proof.Machine

/-! ### Slots and geometry -/

/-- A sequence slot's record. -/
def Part.kvSlot (p : Part) (s : Nat) : KvSlot := mget KvSlot.reset p.kv.slots s

/-- Replace a sequence slot's record. -/
def Part.setKvSlot (p : Part) (s : Nat) (v : KvSlot) : Part := { p with kv := { p.kv with slots := mset KvSlot.reset p.kv.slots s v } }

/-- The attention parameters of a slot's version. -/
def Part.shapeOf (p : Part) (s : Nat) : Option Graph := (p.ver (p.kvSlot s).shape).bind fun v => v.graph

/-- PAGE_BYTES of a version entry; 64 KiB where there is none. -/
def Part.verPage (p : Part) (e : Nat) : Nat := (((p.ver e).bind fun v => v.graph).map pageBytes).getD 65536

/-- PAGE_BYTES of a slot. -/
def Part.slotPage (p : Part) (s : Nat) : Nat := p.verPage (p.kvSlot s).shape

/-- Frames of a KV slab (R178). -/
def framesPerSlab (pb : Nat) : Nat := 2 ^ 25 / pb

/-- A page's byte address in `kvmem`: die, slab, frame. -/
def pageAddr (cxd pb : Nat) (g : Page) : Nat := (cxd * 5722 + g.slab) * 2 ^ 25 + g.frame * pb

/-- Byte offset of an element within a page (R177). -/
def elemOffset (g : Graph) (layer kind head pos i : Nat) : Nat :=
  ((((layer * 2 + kind) * g.headsKv + head) * 64 + pos % 64) * g.dim + i) * fmtBytes g.fmt

/-! ### Page tables (R180, R181) -/

/-- A page-table entry in 32 bits (R180): FRAME, SLAB and VALID. -/
def Page.entry (g : Page) : BitVec 32 := BitVec.ofNat 32 (g.frame % 512 + 512 * (g.slab % 8192) + 2 ^ 31)

/-- Entry `i` of a copy of a slot's page table: zero beyond PAGES (R181). -/
def tableEntry (copy : List Page) (i : Nat) : BitVec 32 :=
  match copy[i]? with
  | some g => g.entry
  | none => 0

/-- Entries of a 4 KiB block. -/
def blockEntries : Nat := 1024

/-- A 4 KiB block of one copy of a page table has been lost: it is written again from the other copy (R193). -/
def KvSlot.rewriteBlock (v : KvSlot) (copyB : Bool) (half : Nat) : KvSlot :=
  let fix (bad good : List Page) : List Page :=
    bad.take (blockEntries * half) ++ (good.drop (blockEntries * half)).take blockEntries ++ bad.drop (blockEntries * (half + 1))
  if copyB then { v with copyB := fix v.copyB v.copyA } else { v with copyA := fix v.copyA v.copyB }

/-! ### Where blocks lie in the stacks (R156, R178, R180) -/

/-- Bytes of a slab in one stack of its context die. -/
def stackSlab : Nat := 2 ^ 22

/-- The byte of a stripe that lies at an address of a stack: 4 KiB blocks go round all 32 stacks. DESIGN CHOICE (log entry 172). -/
def stripeOffset (k addr : Nat) : Nat := (addr % stackSlab / 4096 * 32 + k) * 4096 + addr % 4096

/-- The byte of a KV slab that lies at an address of a stack: 4 KiB blocks go round the die's eight stacks. -/
def slabOffset (k addr : Nat) : Nat := (addr % stackSlab / 4096 * 8 + k % 8) * 4096 + addr % 4096

/-- What an address of a page-table slab holds: whether it is copy B, the slot, and which of the two blocks of its table. Copy A fills slabs
5,714 to 5,717 and copy B the next four, each block one stack further on. -/
def tableBlock (k addr : Nat) : Bool × Nat × Nat :=
  let t := addr / stackSlab - usableSlabs
  let copyB := decide (4 ≤ t)
  let col := if copyB then (k + 7) % 8 else k % 8
  let i := t % 4 * 8192 + addr % stackSlab / 4096 * 8 + col
  (copyB, i / 2, i % 2)

/-! ### Frames (R178, R179, R182) -/

/-- The frames that replacements of rebuilt pages bring (R193). -/
def WaitingOp.brings (w : WaitingOp) : List Page :=
  match w.op with
  | .replace _ g => [g]
  | _ => []

/-- The pages in the tables of slots homed on a CXD, the destinations of copies in progress and of pages rebuilt. -/
def Part.pagesOn (p : Part) (cxd : Nat) : List Page :=
  (p.kv.slots.filter fun x => x.2.home == cxd).flatMap (fun x => x.2.pages ++ x.2.ops.flatMap WaitingOp.brings) ++
  (p.kv.copies.filter fun c => c.cxd == cxd).map fun c => c.dst

/-- The reference count of a page: the slots whose tables hold it (R182). -/
def Part.refCount (p : Part) (cxd : Nat) (g : Page) : Nat :=
  (p.kv.slots.filter fun x => x.2.home == cxd && x.2.pages.contains g).length

/-- The KV slabs of a CXD with frames of one size, by number. -/
def Part.kvSlabs (p : Part) (cxd pb : Nat) : List Nat :=
  (p.kv.slabs.filter fun x => x.1 / 5722 == cxd && x.2 == .kv pb).map fun x => x.1 % 5722

/-- A free frame of a KV slab, the lowest. -/
def Part.freeFrame (p : Part) (cxd pb n : Nat) : Option Page :=
  let used := p.pagesOn cxd
  ((List.range (framesPerSlab pb)).map fun f => (⟨n, f⟩ : Page)).find? fun g => !used.contains g

/-- Free frames of one size on a CXD (R173). -/
def Part.freeFrames (p : Part) (cxd pb : Nat) : Nat :=
  let kv := p.kvSlabs cxd pb
  let used := (p.pagesOn cxd).eraseDups.filter fun g => kv.contains g.slab
  let taken := (p.kv.slabs.filter fun x => x.1 / 5722 == cxd && x.2 != .free).length
  (kv.length + (usableSlabs - taken)) * framesPerSlab pb - used.length

/-- A frame is taken from the lowest-numbered KV slab of its size that has one free; with none, a free slab becomes a KV slab (R179). DESIGN
CHOICE (log entry 171): the lowest-numbered free slab, and in a slab the lowest free frame. -/
def Part.takeFrame (p : Part) (cxd pb : Nat) : Option (Page × Part) :=
  match (p.kvSlabs cxd pb).findSome? (p.freeFrame cxd pb) with
  | some g => some (g, p)
  | none => match (List.range usableSlabs).find? fun n => p.slab cxd n == .free with
    | none => none
    | some n => some (⟨n, 0⟩, p.setSlab cxd n (.kv pb))

/-- KV slabs without a frame in use become free (R179). -/
def Part.sweepSlabs (p : Part) (cxd : Nat) : Part :=
  let used := (p.pagesOn cxd).map fun g => g.slab
  let kv := (p.kv.slabs.filter fun x => x.1 / 5722 == cxd && x.2 != .weight).map fun x => x.1 % 5722
  kv.foldl (fun q n => if used.contains n then q else q.setSlab cxd n .free) p

/-! ### Assignment (R173, R175) -/

/-- A slot unit's role epoch rises by 1 (R175, R281). -/
def Part.raiseEpoch (p : Part) (cxd s : Nat) : Part :=
  let k := slotKey cxd s
  { p with kv := { p.kv with
      epochs := mset 0 p.kv.epochs k ((p.slotEpoch cxd s + 1) % 65536), epochAt := minsert p.kv.epochAt k p.now } }

/-- A slot unit's epoch has changed less than 2 µs ago, so that it accepts no operation that changes it again (R285). -/
def Part.epochSoon (p : Part) (cxd s : Nat) : Bool :=
  match mfind p.kv.epochAt (slotKey cxd s) with
  | none => false
  | some t => decide (p.now < t + 2000)

/-- A slot is assigned on a CXD. -/
def Part.assignSlot (p : Part) (s cxd shape : Nat) : Part :=
  (p.setKvSlot s { KvSlot.reset with assigned := true, home := cxd, shape := shape }).raiseEpoch cxd s

/-- A slot is released: its pages leave the table and its frames are free (R183). -/
def Part.releaseSlot (p : Part) (s : Nat) : Part :=
  let v := p.kvSlot s
  if v.assigned then ((p.setKvSlot s KvSlot.reset).raiseEpoch v.home s).sweepSlabs v.home else p

/-- The lowest-numbered slot that is not assigned, holds no request and is none of those listed (log entry 23), and whose units accept an
assignment now (R285). -/
def Part.freeSlot (p : Part) (not_ : List Nat) : Option Nat :=
  (List.range 16384).find? fun s =>
    !(p.kvSlot s).assigned && !not_.contains s && (p.req s).isNone && (List.range 4).all fun c => !p.epochSoon c s

/-- The CXD whose pool has the most free frames of a size, the lowest on a tie (R173). -/
def Part.homeFor (p : Part) (pb : Nat) : Nat :=
  (List.range 4).foldl (fun best c => if p.freeFrames best pb < p.freeFrames c pb then c else best) 0

/-- Slots homed on a CXD. -/
def Part.homed (p : Part) (cxd : Nat) : Nat := (p.kv.slots.filter fun x => x.2.assigned && x.2.home == cxd).length

/-! ### Page operations (R183) -/

/-- A page is appended to a slot's table, or the status with which ALLOC fails. -/
def Part.allocPage (p : Part) (s : Nat) : Except Nat Part :=
  let v := p.kvSlot s
  if 2048 ≤ v.pages.length then .error stLenRange
  else match p.takeFrame v.home (p.slotPage s) with
  | none => .error stNoSpace
  | some (g, q) => .ok (q.setKvSlot s (v.withPages (v.pages ++ [g])))

/-- Pages are appended until positions below `n` have theirs; `fuel` bounds them. -/
def Part.allocTo (p : Part) (s n : Nat) : Nat → Except Nat Part
  | 0 => .ok p
  | fuel + 1 =>
    if n ≤ 64 * (p.kvSlot s).pages.length then .ok p
    else match p.allocPage s with
      | .error e => .error e
      | .ok q => q.allocTo s n fuel

/-- LEN becomes `n` and the pages from ceil(n / 64) on leave the table. -/
def Part.cutPages (p : Part) (s n : Nat) : Part :=
  let v := p.kvSlot s
  (p.setKvSlot s { v.withPages (v.pages.take (cdiv n 64)) with len := n }).sweepSlabs v.home

/-- The token record of a slot: its request's, or its held slot's. -/
def Part.tokensOf (p : Part) (s : Nat) : List Nat :=
  match p.req s with
  | some r => r.tokens
  | none => match mfind p.serv.heldSlots s with
    | none => []
    | some h => h.tokens

/-- A request whose pages were freed by TRUNCATE to 0 is PREEMPTED (R202, R218): it re-prefills its token record except the last
token (R219). The notice ring takes the preemption (R358). DEDUCED (log entry 94): a WAITING request that is its own victim becomes
PREEMPTED too, as R218 says of the requesting sequence, although R202 lists PREFILL and DECODE only. -/
def Part.preempted (p : Part) (s : Nat) : Part :=
  match p.req s with
  | none => p
  | some r =>
    if r.st = .waiting ∨ r.st = .prefill ∨ r.st = .decode then
      ((p.setReq s { r with st := .preempted, refill := true, done := 0, total := r.tokens.length - 1 }).bump aSrvCnt 32 16 1).ringAdd 4 s r.id 0
    else p

/-- An operation has ended with a status (R184): the die message or the host command behind it is answered. A fork for the host makes
a held slot with a pin on the version, a truncation for the host cuts its token record, and a release for the host removes it (R275,
R276). The release of a request's slot may free its
entry (R202). -/
def Part.opDone (p : Part) (s : Nat) (w : WaitingOp) (st : Nat) : Part :=
  let v := p.kvSlot s
  match w.msg with
  | some m => p.answer m.dst m (if m.unit < 0x4000 then p.slotEpoch (m.dst - 8) m.unit else 0) st []
  | none =>
    if 64 ≤ w.sess then
      let p := if w.op = .truncate 0 ∧ st = stOk then p.preempted s else p
      (p.serv.reqs.filter fun x => x.1 == s || x.2.companion == some s).foldl (fun q x => q.entryFree x.1) p
    else if st ≠ stOk then p.finish w.sess st []
    else match w.op with
    | .fork t n =>
      let e := v.shape
      let hs : HeldSlot := { sess := w.sess, ver := e, tokens := (p.tokensOf s).take n }
      let id := ((p.ver e).map fun x => (x.model, x.version)).getD (0, 0)
      let body := leBytes 2 t ++ leBytes 2 (p.slotEpoch v.home t) ++ leBytes 4 id.1 ++ leBytes 2 id.2 ++ zpad 6
      let q : Part := { p with serv := { p.serv with heldSlots := minsert p.serv.heldSlots t hs } }
      (q.pin e).finish w.sess stOk body
    | .truncate n => match mfind p.serv.heldSlots s with
      | none => p.finish w.sess stOk []
      | some h =>
        let hs : HeldSlot := { h with tokens := h.tokens.take n }
        { p with serv := { p.serv with heldSlots := minsert p.serv.heldSlots s hs } }.finish w.sess stOk []
    | .release => match mfind p.serv.heldSlots s with
      | none => p.finish w.sess stOk []
      | some h =>
        let q : Part := { p with serv := { p.serv with heldSlots := merase p.serv.heldSlots s } }
        (q.unpin h.ver).finish w.sess stOk []
    | _ => p.finish w.sess stOk []

/-- Copies run at 512 GB/s (R183). -/
def copyNs (pb : Nat) : Nat := cdiv pb 512

/-- A copy of its own starts: the operation ends with the copy. -/
def Part.startCopy (p : Part) (s cxd : Nat) (src dst : Page) (pb : Nat) (w : WaitingOp) : Part :=
  let c : PageCopy := { cxd := cxd, src := src, dst := dst, slot := s, op := w, done := p.now + copyNs pb }
  { p with kv := { p.kv with copies := p.kv.copies ++ [c] } }

/-- FORK (R183): the target shares whole pages, and receives a copy of a partial one; until the copy is made its LEN covers the whole pages
(R181). Pages that are being rebuilt are so for the target too (R193). -/
def Part.forkOp (p : Part) (s : Nat) (w : WaitingOp) (t n : Nat) : Part :=
  let v := p.kvSlot s
  let t := if t < 16384 then t else (p.freeSlot []).getD 16384
  let w := { w with op := .fork t n }
  if n = 0 ∨ v.len < n then p.opDone s w stLenRange
  else if 16384 ≤ t ∨ (p.kvSlot t).assigned then p.opDone s w stNoSlot
  else
    let whole := v.pages.take (n / 64)
    let into (q : Part) : Part :=
      let q := q.assignSlot t v.home v.shape
      q.setKvSlot t { (q.kvSlot t).withPages whole with len := 64 * (n / 64), rebuild := v.rebuild.filter fun i => decide (i < n / 64) }
    if n % 64 = 0 then (into p).opDone s w stOk
    else match v.pages[n / 64]?, p.takeFrame v.home (p.slotPage s) with
      | some g, some (d, q) => (into q).startCopy s v.home g d (p.slotPage s) w
      | _, _ => p.opDone s w stNoSpace

/-- TRUNCATE (R183): a shared last page is copied first when positions of it stay. -/
def Part.truncateOp (p : Part) (s : Nat) (w : WaitingOp) (n : Nat) : Part :=
  let v := p.kvSlot s
  if v.len < n then p.opDone s w stLenRange
  else
    let last := (v.pages.take (cdiv n 64)).getLast?
    match last with
    | some g =>
      if n % 64 ≠ 0 ∧ 2 ≤ p.refCount v.home g then
        match p.takeFrame v.home (p.slotPage s) with
        | none => p.opDone s w stNoSpace
        | some (d, q) => q.startCopy s v.home g d (p.slotPage s) w
      else (p.cutPages s n).opDone s w stOk
    | none => (p.cutPages s n).opDone s w stOk

/-- A copy that an operation needs would read a page that is being rebuilt (R193): the operation waits for the rebuild. -/
def Part.copyBlocked (p : Part) (s : Nat) (w : WaitingOp) : Bool :=
  let v := p.kvSlot s
  match w.op with
  | .fork _ n => n % 64 != 0 && v.rebuild.contains (n / 64)
  | .truncate n => n % 64 != 0 && v.rebuild.contains (n / 64)
  | _ => false

/-- A page operation applies to a slot. A RELEASE returns what waits behind it on the slot with STALE_ROLE (R175, R184). DESIGN CHOICE (log
entry 173). -/
def Part.applyOp (p : Part) (s : Nat) (w : WaitingOp) : Part :=
  match w.op with
  | .alloc => match p.allocPage s with
    | .error st => p.opDone s w st
    | .ok q => q.opDone s w stOk
  | .fork t n => p.forkOp s w t n
  | .truncate n => p.truncateOp s w n
  | .release =>
    let v := p.kvSlot s
    let q := (p.releaseSlot s).opDone s w stOk
    let q := v.heldAppends.foldl (fun q m => (q.giveBack (8 + v.home) m (q.slotEpoch v.home s) stStaleRole).bump (aKvCnt (8 + v.home)) 32 16 1) q
    v.ops.foldl (fun q w => if w.msg.isSome || decide (w.sess < 64) then q.opDone s w stStaleRole else q) q
  | .replace i g =>
    let v := p.kvSlot s
    if v.assigned then
      (p.setKvSlot s { v.withPages (setNth v.pages i g) with rebuild := v.rebuild.filter (· != i) }).sweepSlabs v.home
    else p

/-- A copy for the slot is being made: FORK counts as an operation on both slots (R184). -/
def Part.copying (p : Part) (s : Nat) : Bool := p.kv.copies.any fun c => c.slot == s || match c.op.op with
  | .fork t _ => t == s
  | _ => false

/-- What holds back an operation on a slot that is at its turn: a step (R184), a copy, a page to be rebuilt, or for a release an epoch change
less than 2 µs ago (R285). -/
def Part.opHeld (p : Part) (s : Nat) (w : WaitingOp) : Bool :=
  (p.kvSlot s).inStep || p.copying s || p.copyBlocked s w || (w.op == .release && p.epochSoon (p.kvSlot s).home s)

/-- An operation on a slot applies now, or waits in arrival order for the slot's step boundary and earlier operations (R184). -/
def Part.pageOp (p : Part) (s : Nat) (w : WaitingOp) : Part :=
  let v := p.kvSlot s
  if !v.ops.isEmpty || p.opHeld s w then p.setKvSlot s { v with ops := v.ops ++ [w] } else p.applyOp s w

/-- A rebuilt page enters a slot's table at its step boundary, ahead of operations that may wait for it (R193). -/
def Part.replacePage (p : Part) (s : Nat) (w : WaitingOp) : Part :=
  let v := p.kvSlot s
  if v.inStep || p.copying s then p.setKvSlot s { v with ops := w :: v.ops } else p.applyOp s w

/-- An operation of CTL's own. -/
def ownOp (o : PageOp) : WaitingOp := { op := o, msg := none, sess := 64, seq := 0 }

/-- The first operation that waits on a slot applies, once the slot is at a step boundary and no copy is being made. -/
def Part.applyNext (p : Part) (s : Nat) : Part :=
  let v := p.kvSlot s
  match v.ops with
  | [] => p
  | w :: rest => if p.opHeld s w then p else (p.setKvSlot s { v with ops := rest }).applyOp s w

/-- A slot's step boundary: LEN becomes `n`, rejected positions leave, the step's logits are used up, and waiting operations may apply
(R208). -/
def Part.stepBoundary (p : Part) (s n : Nat) : Part :=
  let p := p.setKvSlot s { p.kvSlot s with inStep := false, logits := [] }
  if (p.kvSlot s).assigned then p.cutPages s n else p

end Sys2Proof.Machine
end

