-- ==== Sys2Proof/Machine/Requests.lean ====
section
/-! DEFINITION. Requests: token records, their journal records, and how a request ends (R202, R203, R210 to R212, R231 to R234, R334,
R336). -/
namespace Sys2Proof.Machine

/-! ### Fields of a request (R264) -/

/-- MODEL_ID. -/
def Req.model (r : Req) : Nat := fld r.params 4 4
/-- AFLAGS.GRAMMAR_EN. -/
def Req.grammarEn (r : Req) : Bool := (fld r.params 43 1).testBit 1
/-- TTFT_TARGET in µs. -/
def Req.ttftTarget (r : Req) : Nat := fld r.params 24 4
/-- TBT_TARGET in µs. -/
def Req.tbtTarget (r : Req) : Nat := fld r.params 28 4
/-- Committed tokens. -/
def Req.committed (r : Req) : Nat := r.tokens.length - r.prompt
/-- MAX_TOKENS, with all-ones read as the limit (R196). -/
def Req.maxTokens (r : Req) : Nat := if fld r.params 20 4 = 0xFFFFFFFF then 131072 - r.prompt else fld r.params 20 4
/-- MAX_TOKENS less the committed tokens (R227). -/
def Req.remaining (r : Req) : Nat := r.maxTokens - r.committed
/-- The stop tokens. -/
def Req.stops (r : Req) : List Nat := (List.range (fld r.params 48 1)).map fun i => fld r.params (64 + 4 * i) 4

/-- Committed tokens of a request that are not delivered (R212): in records held back, and in TOKEN replies that wait. -/
def Part.undelivered (p : Part) (r : Req) : Nat :=
  sumNat (r.recs.map fun t => t.count) +
  sumNat (((p.ses r.sess).waiting.filter fun w => w.kind == 1 && fld w.body 0 4 == r.id).map fun w => fld w.body 8 1)

/-! ### Journal records of a request (R334) -/

/-- Token entries of four bytes, padded with zeros to a multiple of 16 bytes (R211). -/
def tokenBytes (ts : List Nat) : Bytes := pad16 (ts.flatMap fun t => leBytes 4 t)

/-- µs, saturating at 32 bits. -/
def us32 (x : Nat) : Nat := min x 0xFFFFFFFF

/-- The body of a COMMIT record. -/
def Part.commitBody (p : Part) (r : Req) (first : Nat) (ts : List Nat) (end_ : Nat) : Bytes :=
  leBytes 4 first ++ leBytes 1 ts.length ++ leBytes 1 end_ ++ leBytes 1 r.draftLen ++ leBytes 1 r.noAccept ++ leBytes 2 r.gramState ++
  [0, 0] ++ leBytes 4 (us32 ((p.now - r.admitAt) / 1000 + r.before)) ++ tokenBytes ts

/-- A grammar slot. -/
def Part.gram (p : Part) (g : Nat) : Grammar := mget Grammar.reset p.models.grammars g

/-- Replace a grammar slot. -/
def Part.setGram (p : Part) (g : Nat) (v : Grammar) : Part :=
  { p with models := { p.models with grammars := mset Grammar.reset p.models.grammars g v } }

/-- The ADMIT parameters as bound: SEED_SET 1, PREFIX 0, both addresses 0, PROMPT_LEN the whole prompt. -/
def Part.boundParams (p : Part) (r : Req) : Bytes :=
  let ver (e : Nat) : Nat := ((p.ver e).map fun v => v.version).getD 0
  r.params.take 8 ++ leBytes 2 (ver r.ver) ++ leBytes 2 ((r.draft.map ver).getD 0) ++ bytesAt r.params 12 4 ++ leBytes 4 r.prompt ++
  bytesAt r.params 20 23 ++ leBytes 1 ((fld r.params 43 1 ||| 1) &&& 0xFB) ++ bytesAt r.params 44 12 ++ leBytes 8 r.seed.toNat ++
  bytesAt r.params 64 32 ++ zpad 16 ++ bytesAt r.params 112 16

/-- The body of an ADMIT record. -/
def Part.admitRecord (p : Part) (r : Req) : Bytes :=
  p.boundParams r ++ (match r.gram with
    | none => zpad 64
    | some g => padTo 64 (bytesAt (p.gram g).image 64 64)) ++
  tokenBytes r.allowed ++ tokenBytes (r.tokens.take r.prompt)

/-- The partner that a request's records go to. -/
def Part.partnerOf (p : Part) (r : Req) : Option Nat := if r.isProtected && !p.jrn.lost then p.jrn.partner else none

/-! ### Token records (R210 to R212, R336) -/

/-- A TOKEN reply (R249). The owner of a final record is its request. -/
def tokenReply (r : Req) (t : TokRec) : Reply :=
  { op := 0x40, kind := 1, tag := r.tag, seq := r.seq, status := stOk, body := t.body, owner := if t.end_ = 0 then 0 else r.id + 1, id := 0 }

/-- The cancels of a request that wait are answered after its final record (R232): OK when it ended by the cancel, else
ALREADY_DONE. -/
def Part.answerCancels (p : Part) (r : Req) : Part :=
  r.cancels.foldl (fun q c =>
    if r.end_ = 5 then q.finish c.1 stOk [] else (q.bump aSrvCnt 48 16 1).finish c.1 stAlreadyDone []) p

/-- Token records at the head of a request's order whose acknowledgements have come are produced (R336); none in part fault
(R331). -/
def Part.flushRecs (p : Part) (s : Nat) : Part :=
  match p.req s with
  | none => p
  | some r =>
    if p.faulted then p
    else
      let ready := r.recs.takeWhile fun t => t.acked
      let last := ready.any fun t => t.end_ != 0
      let p := p.setReq s { r with recs := r.recs.drop ready.length, finalSent := r.finalSent || last, cancels := if last then [] else r.cancels }
      let p := ready.foldl (fun q t => q.produce r.sess (tokenReply r t)) p
      if last then p.answerCancels r else p

/-- What a token record says besides its tokens. -/
structure RecInfo where
  end_ : Nat
  flags : Nat
  accepted : Nat
  interval : Nat
  commit : Nat
deriving DecidableEq, Repr

/-- A commit's token record (R211): `ts` are its tokens, the last of the request's token record. HOST_HELD and REPREFILL go out with
the first record after their cause. A protected request journals it first (R334). The record is traced (R476). -/
def Part.pushRec (p : Part) (s : Nat) (ts : List Nat) (i : RecInfo) : Part :=
  match p.req s with
  | none => p
  | some r =>
    let first := r.committed - ts.length
    let flags := i.flags + 4 * bit r.heldFlag + 8 * bit r.refillFlag
    let body := leBytes 4 r.id ++ leBytes 4 first ++ leBytes 1 ts.length ++ leBytes 1 i.end_ ++ leBytes 1 flags ++ leBytes 1 i.accepted ++
      leBytes 4 (us32 i.interval) ++ leBytes 8 i.commit ++ leBytes 4 r.tbtMisses ++ zpad 4 ++ tokenBytes ts
    let q := p.partnerOf r
    let t : TokRec := { body := body, count := ts.length, end_ := i.end_, acked := q.isNone }
    let p := (p.setReq s { r with recs := r.recs ++ [t], heldFlag := false, refillFlag := false }).traceAdd 2 0 s (body.take 12 ++ zpad 4)
    let p := match q with
      | none => p
      | some d => p.journalSend d 2 r.id (p.commitBody r first ts i.end_)
    p.flushRecs s

/-! ### The end of a request (R203, R234) -/

/-- Remove a request's pins from the version, the draft version and the grammar (R203). -/
def Part.dropPins (p : Part) (r : Req) : Part :=
  let p := p.unpin r.ver
  let p := match r.draft with
    | none => p
    | some d => p.unpin d
  match r.gram with
  | none => p
  | some g => p.setGram g { p.gram g with pins := (p.gram g).pins - 1 }

/-- RELEASE of a request's slots, each at its next step boundary (R183, R203). -/
def Part.dropSlots (p : Part) (s : Nat) (r : Req) : Part :=
  let p := p.pageOp s (ownOp .release)
  match r.companion with
  | none => p
  | some c => p.pageOp c (ownOp .release)

/-- A request enters ENDING with its terminal status (R203): pins and slots go, the counters and the notice ring take it. -/
def Part.toEnding (p : Part) (s end_ : Nat) : Part :=
  match p.req s with
  | none => p
  | some r =>
    let p := p.setReq s { r with st := .ending, end_ := end_ }
    let p := if end_ ≤ 4 then p.bump aSrvCnt2 0 32 1 else if end_ ≤ 6 then p.bump aSrvCnt2 32 16 1 else p
    ((p.ringAdd 3 s r.id end_).dropPins r).dropSlots s r

/-- A request ends without a commit (R172, R218, R220, R231, R233): its final record carries no token. -/
def Part.endRequest (p : Part) (s end_ : Nat) : Part :=
  match p.req s with
  | none => p
  | some r =>
    if r.st = .ending ∨ r.st = .admitting then p
    else (p.toEnding s end_).pushRec s [] { end_ := end_, flags := 0, accepted := 0, interval := (p.now - r.lastCommit) / 1000, commit := p.now }

/-- Every request that a test picks ends. -/
def Part.endAll (p : Part) (end_ : Nat) (q : Nat → Req → Bool) : Part :=
  (p.serv.reqs.filter fun x => q x.1 x.2).foldl (fun a x => a.endRequest x.1 end_) p

/-- A request is forgotten without a terminal status (R199, R344). -/
def Part.forgetRequest (p : Part) (s : Nat) (r : Req) : Part :=
  ({ p with serv := { p.serv with reqs := merase p.serv.reqs s, order := p.serv.order.filter (· != s) } }.dropPins r).dropSlots s r

end Sys2Proof.Machine
end

