-- ==== Sys2Proof/Machine/Attention.lean ====
section
/-! DEFINITION. Attention: appends and the attention engine (R181, R185 to R189). -/
namespace Sys2Proof.Machine

/-- A context die and a sequence slot that the part has. -/
def slotOk (cxd s : Nat) : Bool := decide (cxd < 4 ∧ s < 16384)

/-! ### Appends (R185, R186) -/

/-- The status of an append header that is out of range, for a slot of the given shape (R185). -/
def appendFail (g : Graph) (m : DieMsg) : Option Nat :=
  let b := m.payload
  let n := fld b 7 1 * g.dim * fmtBytes g.fmt
  firstFail [(decide (fld b 0 4 ≤ 131071 ∧ fld b 4 2 < g.layersKv ∧ fld b 6 1 < g.headsKv ∧ 1 ≤ fld b 7 1 ∧ fld b 6 1 + fld b 7 1 ≤ g.headsKv ∧
      fld b 8 1 ≤ 1), stLenRange),
    (fld b 9 1 == g.fmt && zeros b 12 4, stLenRange), (m.len == 16 + 16 * cdiv n 16, stLenRange)]

/-- The writes of an append: addresses and bytes, head by head. -/
def appendWrites (g : Graph) (base : Nat) (b : Bytes) : List (Nat × Bytes) :=
  let n := g.dim * fmtBytes g.fmt
  (List.range (fld b 7 1)).map fun h => (base + elemOffset g (fld b 4 2) (fld b 8 1) (fld b 6 1 + h) (fld b 0 4) 0, bytesAt b (16 + h * n) n)

/-- Several writes in order. -/
def memWrites (m : Memory) : List (Nat × Bytes) → Memory
  | [] => m
  | (a, b) :: r => memWrites (memWriteN m a b) r

/-- Count an append against its layer and tag. -/
def countTag : List (Nat × Nat × Nat) → Nat → Nat → List (Nat × Nat × Nat)
  | [], t, l => [(t, l, 1)]
  | (a, b, n) :: r, t, l => if a = t ∧ b = l then (a, b, n + 1) :: r else (a, b, n) :: countTag r t l

/-- The tags that a slot tracks, oldest first. -/
def KvSlot.tagList (v : KvSlot) : List Nat := (v.tags.map fun x => x.1).eraseDups

/-- An append is accepted: its elements are written and it is counted (R186); the heads that the slot's step has written are counted too. -/
def State.acceptAppend (st : State) (cxd s : Nat) (m : DieMsg) : State :=
  let p := st.part
  let v := p.kvSlot s
  match p.shapeOf s with
  | none => st
  | some g => match v.pages[fld m.payload 0 4 / 64]? with
    | none => st
    | some pg =>
      let tags := countTag v.tags (fld m.payload 10 2) (fld m.payload 4 2)
      let mine := v.inStep && fld m.payload 10 2 == v.tag && decide (v.start ≤ fld m.payload 0 4 ∧ fld m.payload 0 4 < v.len)
      { st with
        part := (p.setKvSlot s { v with tags := tags, got := v.got + (if mine then fld m.payload 7 1 else 0) }).bump (aKvCnt (8 + cxd)) 0 32 1
        kvmem := memWrites st.kvmem (appendWrites g (pageAddr cxd (pageBytes g) pg) m.payload) }

/-- The step of a slot has written the keys and values of all its positions, layers and heads: the last append of a prefill chunk has been
accepted (R206). -/
def Part.appendsIn (p : Part) (s : Nat) : Bool :=
  let v := p.kvSlot s
  match p.shapeOf s with
  | none => true
  | some g => decide ((v.len - v.start) * (2 * g.layersKv * g.headsKv) ≤ v.got)

/-- The oldest tag of a slot is done: a request of it has started and none waits. -/
def Part.tagDone (p : Part) (s tag : Nat) : Bool :=
  (p.kvSlot s).tags.any (fun x => x.1 == tag && x.2.1 == 65536) && !p.kv.atts.any fun r => r.slot == s && r.tag == tag && !r.started

/-- A slot with four tags no longer tracks the oldest once its requests have all started (R186). -/
def Part.dropTag (p : Part) (s : Nat) : Part :=
  let v := p.kvSlot s
  match v.tagList with
  | t :: _ => if 4 ≤ v.tagList.length ∧ p.tagDone s t then p.setKvSlot s { v with tags := v.tags.filter fun x => x.1 != t } else p
  | [] => p

/-- Return a message to a slot unit with STALE_ROLE (R175, R283). -/
def Part.slotStale (p : Part) (cxd s : Nat) (m : DieMsg) : Part :=
  (p.giveBack (8 + cxd) m (p.slotEpoch cxd s) stStaleRole).bump (aKvCnt (8 + cxd)) 32 16 1

/-- KV_APPEND (R185, R186): the next append of a slot unit is written, returned, or held while the slot tracks four other tags of which the
oldest has requests that have not started. -/
def State.kvAppend (st : State) (cxd s : Nat) : State :=
  let p := st.part
  match p.inbox (8 + cxd) s with
  | [] => st
  | a :: _ =>
    let m := a.m
    if m.cls ≠ 4 then st
    else
      let q := p.popInbox (8 + cxd) s
      let v := p.kvSlot s
      let back (status : Nat) : State :=
        { st with part := (q.giveBack (8 + cxd) m (p.slotEpoch cxd s) status).bump (aKvCnt (8 + cxd)) 48 16 1 }
      if !v.assigned || v.home != cxd || m.epoch != p.slotEpoch cxd s then { st with part := q.slotStale cxd s m }
      else match p.shapeOf s with
      | none => back stLenRange
      | some g => match appendFail g m with
        | some status => back status
        | none =>
          if v.pages.length ≤ fld m.payload 0 4 / 64 then back stPageFault
          else
            let q := if v.tagList.contains (fld m.payload 10 2) then q else q.dropTag s
            let v := q.kvSlot s
            if 4 ≤ v.tagList.length && !v.tagList.contains (fld m.payload 10 2) then
              { st with part := q.setKvSlot s { v with heldAppends := v.heldAppends ++ [m] } }
            else { st with part := q }.acceptAppend cxd s m

/-! ### Requests (R187) -/

/-- ATTENTION (R187, R204): a request arrives at the attention engine of a context die, with the STEP_TAG of the slot's step or of one whose
appends are still tracked; a count or a position out of range is rejected. -/
def Part.attention (p : Part) (cxd id s layer first count tag appends : Nat) (fp32 : Bool) (queries outputs : Nat) : Part :=
  let v := p.kvSlot s
  match p.headCmd (8 + cxd) 0x4000 0xC8 with
  | none => p
  | some m =>
    if tag ≠ v.tag ∧ !v.tagList.contains tag then p
    else
    let q := p.popInbox (8 + cxd) 0x4000
    let layers := ((p.shapeOf s).map fun g => g.layersKv).getD 0
    if count = 0 ∨ 4096 < count ∨ v.home ≠ cxd ∨ v.len < first + count ∨ layers ≤ layer then q.answer (8 + cxd) m 0 stLenRange []
    else
      let r : AttReq := { id := id, cxd := cxd, slot := s, layer := layer, first := first, count := count, tag := tag, appends := appends,
                          fp32 := fp32, queries := queries, outputs := outputs, started := false, msg := some m }
      if p.kv.atts.any fun x => x.id == id then p else { q with kv := { q.kv with atts := q.kv.atts ++ [r] } }

/-- Appends accepted for a slot, layer and tag. -/
def KvSlot.appends (v : KvSlot) (tag layer : Nat) : Nat := sumNat ((v.tags.filter fun x => x.1 == tag && x.2.1 == layer).map fun x => x.2.2)

/-- Positions that a query position reads (R189). -/
def windowFrom (g : Graph) (q : Nat) : Nat := if g.window = 0 then 0 else q + 1 - g.window

/-- A page that a request reads is being rebuilt (R193). -/
def Part.attBlocked (p : Part) (r : AttReq) : Bool :=
  match p.shapeOf r.slot with
  | none => true
  | some g => (p.kvSlot r.slot).rebuild.any fun k => decide (windowFrom g r.first / 64 ≤ k ∧ k ≤ (r.first + r.count - 1) / 64)

/-- With four tags tracked, the oldest leaves once it is done, and the first append that waits is accepted (R186). -/
def State.nextTag (st : State) (cxd s : Nat) : State :=
  let v := st.part.kvSlot s
  match v.tagList, v.heldAppends with
  | t :: _, m :: rest =>
    if st.part.tagDone s t then
      { st with part := st.part.setKvSlot s { v with tags := v.tags.filter fun x => x.1 != t, heldAppends := rest } }.acceptAppend cxd s m
    else st
  | _, _ => st

/-- Appends that were held and whose tag is tracked now are accepted, `n` at most. -/
def State.heldRun (st : State) (cxd s : Nat) : Nat → State
  | 0 => st
  | n + 1 =>
    let v := st.part.kvSlot s
    match v.heldAppends with
    | [] => st
    | m :: rest =>
      if v.tagList.contains (fld m.payload 10 2) || decide (v.tagList.length < 4) then
        ({ st with part := st.part.setKvSlot s { v with heldAppends := rest } }.acceptAppend cxd s m).heldRun cxd s n
      else st

/-- ATTENTION_START (R187): a request starts once its appends have been accepted. -/
def State.attentionStart (st : State) (id : Nat) : State :=
  let p := st.part
  match p.kv.atts.find? fun r => r.id == id with
  | none => st
  | some r =>
    let v := p.kvSlot r.slot
    if r.started || p.pwr.paced || decide (v.appends r.tag r.layer < r.appends) || p.attBlocked r then st
    else
      let q : Part := { p with kv := { p.kv with atts := p.kv.atts.map fun x => if x.id = id then { x with started := true } else x } }
      let st := { st with part := q.setKvSlot r.slot { v with tags := countTag v.tags r.tag 65536 } }.nextTag r.cxd r.slot
      st.heldRun r.cxd r.slot (st.part.kvSlot r.slot).heldAppends.length

/-! ### The engine (R188, R189) -/

/-- The smallest x with m * 2^−x no more than 448; 0 for m = 0 (R188). -/
def queryShift (m : Q) : Int :=
  if m.n = 0 then 0
  else
    let q := m.div (Q.ofInt 448)
    let e := ilog2 q.n.natAbs q.d
    if (Q.ofInt 1).scale e |>.lt q then e + 1 else e

/-- A query vector as the engine uses it, and 2^x (R188). -/
def queryVector (g : Graph) (fp32 : Bool) (raw : List Nat) : List Flt × Flt :=
  let vs := raw.map fun v => if fp32 then ofF32 v else ofBf16 v
  if g.fmt = 2 then (vs.map fun v => .fin (bfloat16.rnd v), .one)
  else
    let m := vs.foldl (fun a v => if a.lt v.abs then v.abs else a) Q.zero
    let x := queryShift m
    (vs.map fun v => .fin (e4m3.rnd (v.scale (-x))), .fin ((Q.ofInt 1).scale x))

/-- The running state of one query head (R189): largest score, sum, accumulator, NaN scores. -/
structure AttRun where
  m : Flt
  s : Flt
  acc : List Flt
  nans : Nat
deriving DecidableEq, Repr

/-- Sum of products in ascending order. -/
def dotFlt (x : Flt) : List (Flt × Flt) → Flt
  | [] => x
  | (a, b) :: r => dotFlt (x.add (a.mul b)) r

/-- One position of one query head. -/
def attStep (q : List Flt) (pow2 kScale vScale score : Flt) (key value : List Flt) (a : AttRun) : AttRun :=
  let x := (((dotFlt .zero (q.zip key)).mul pow2).mul kScale).mul score
  if x.isNan then { a with nans := a.nans + 1 }
  else
    let a := if a.m.lt x then
        let r := (a.m.sub x).exp
        { a with s := a.s.mul r, acc := a.acc.map fun v => v.mul r, m := x }
      else a
    let p := (x.sub a.m).exp
    { a with s := a.s.add p, acc := (a.acc.zip value).map fun v => v.1.add ((p.mul v.2).mul vScale) }

/-- The key or value elements of a position. -/
def Part.kvElems (p : Part) (kvmem : Memory) (g : Graph) (cxd s layer kind head pos : Nat) : List Flt :=
  match (p.kvSlot s).pages[pos / 64]? with
  | none => []
  | some pg => (List.range g.dim).map fun i =>
      kvValue g.fmt (leNat (memReadN kvmem (pageAddr cxd (pageBytes g) pg + elemOffset g layer kind head pos i) (fmtBytes g.fmt)))

/-- One query head at one position: the run over the positions that it reads. -/
def Part.attHead (p : Part) (kvmem : Memory) (g : Graph) (r : AttReq) (pos hq : Nat) (raw : List Nat) : AttRun :=
  let (q, pow2) := queryVector g r.fp32 raw
  let head := hq * g.headsKv / g.headsQ
  let lo := windowFrom g pos
  ((List.range (pos + 1 - lo)).map (lo + ·)).foldl (fun a k =>
    attStep q pow2 (fltOf (nth 0 g.kScale r.layer)) (fltOf (nth 0 g.vScale r.layer)) (fltOf g.score)
      (p.kvElems kvmem g r.cxd r.slot r.layer 0 head k) (p.kvElems kvmem g r.cxd r.slot r.layer 1 head k) a)
    { m := .inf true, s := .zero, acc := List.replicate g.dim .zero, nans := 0 }

/-- The output elements of a head in BF16. -/
def AttRun.out (a : AttRun) : List Nat := a.acc.map fun v => (if a.s.isZero then Flt.zero else v.div a.s).bf16

/-- ATTENTION_COMPLETE (R189): the outputs go to the output projection's input vectors, one per position and query head. -/
def State.attentionComplete (st : State) (id : Nat) : State :=
  let p := st.part
  match p.kv.atts.find? fun r => r.id == id with
  | none => st
  | some r => match p.shapeOf r.slot with
    | none => st
    | some g =>
      if !r.started then st
      else
        let q : Part := { p with kv := { p.kv with atts := p.kv.atts.filter fun x => x.id != id } }
        let rows := (List.range r.count).flatMap fun t => (List.range g.headsQ).map fun h => (t, h)
        let one (q : Part) (th : Nat × Nat) : Part :=
          let k := th.1 * g.headsQ + th.2
          let a := p.attHead st.kvmem g r (r.first + th.1) th.2 (p.vect (r.queries + k)).raw
          let q := (q.bump (aAttCnt (8 + r.cxd)) 32 16 a.nans).bump (aAttCnt (8 + r.cxd)) 48 16 (bit a.s.isZero)
          q.putVect (r.outputs + k) { codes := [], step := 0, side := [], val := [], raw := a.out }
        let q := (rows.foldl one q).bump (aAttCnt (8 + r.cxd)) 0 32 1
        match r.msg with
        | none => { st with part := q }
        | some m => { st with part := q.answer (8 + r.cxd) m 0 stOk [] }

/-! ### The commands -/

/-- ATTENTION (R187). -/
def execAttention (cxd id sl layer first count tag appends : Nat) (fp32 : Bool) (queries outputs : Nat) (s : State) : Out :=
  s.live (11 + cxd) (slotOk cxd sl) fun p => p.attention cxd id sl layer first count tag appends fp32 queries outputs

/-- The domain of the context die that a request runs on. -/
def State.attDomain (s : State) (id : Nat) : Nat := ((s.part.kv.atts.find? fun r => r.id == id).map fun r => 11 + r.cxd).getD 11

/-- ATTENTION_COMPLETE (R189). -/
def execAttentionComplete (id : Nat) (s : State) : Out := s.liveMem (s.attDomain id) true fun t => t.attentionComplete id

end Sys2Proof.Machine
end

