-- ==== Sys2Proof/Machine/Ingots.lean ====
section
/-! DEFINITION. Ingots: loading versions, staging engines, arrival checks, the failure chain, scrubs, and distribution between parts
(R150 to R161, R164 to R172, R268 to R272). -/
namespace Sys2Proof.Machine

/-! ### Staging engines (R155, R157) -/

/-- Engines that run an arrival or a scrub. -/
def Part.busyEngines (p : Part) : List Nat :=
  p.models.table.flatMap fun v => (v.2.shards.filter fun s => decide (s.2.engine < 96)).map fun s => s.2.engine

/-- Work for the staging engines: while domain 19 sleeps and there is `work`, CTL wakes it, and the work waits for ON (R409). -/
def Part.needWsd (p : Part) (work : Bool) (f : Part → Part) : Part := if p.alive 19 then f p else if work then p.requestWake 19 else p

/-- The same for work that reads or writes the stacks. -/
def State.needWsd (s : State) (work : Bool) (f : State → State) : State :=
  if s.part.alive 19 then f s else if work then { s with part := s.part.requestWake 19 } else s

/-- The WSD that scrubs a shard (R157). -/
def Part.scrubWsd (p : Part) (e s : Nat) : Nat := (((p.ver e).map fun v => v.model).getD 0 ^^^ s) % 2

/-- Scrubs start no more than 900 s apart (R157). -/
def scrubNs : Nat := 900000000000

/-- A scrub that waits for WSD `n` has its deadline less than 10 s away. -/
def Part.scrubUrgent (p : Part) (n : Nat) : Bool :=
  p.models.scrubQueue.any fun x => match p.shard x.1 x.2 with
    | none => false
    | some v => p.scrubWsd x.1 x.2 == n && decide (v.scrubAt + scrubNs < p.now + 10000000000)

/-- The lowest-numbered free engine for an arrival: WSD0 before WSD1, behind urgent scrubs. -/
def Part.arrivalEngine (p : Part) : Option Nat :=
  let busy := p.busyEngines
  (List.range 96).find? fun n => !busy.contains n && !p.scrubUrgent (n / 48)

/-- The lowest-numbered free engine of a WSD. -/
def Part.engineOf (p : Part) (w : Nat) : Option Nat :=
  let busy := p.busyEngines
  (List.range 96).find? fun n => n / 48 == w && !busy.contains n

/-! ### Sources and reads (R152 to R154) -/

/-- BYTES of a source entry; 0 where the part was given none. -/
def Shard.bytes (x : Shard) : Nat := fld x.src 16 4

/-- SOURCE of R171: what the present attempt reads from. -/
def Shard.kind (x : Shard) : Nat := if x.peer.isSome then 2 else fld x.src 0 1

/-- The part that the present attempt reads from. -/
def Shard.from (x : Shard) : Nat := x.peer.getD (fld x.src 2 2)

/-- Bytes that a shard's plaintext takes in the stacks; the largest PAYLOAD_LEN where it is not known yet. -/
def Shard.need (x : Shard) : Nat := if x.bytes = 0 then 2 ^ 28 else x.bytes - 4096

/-- The key of a shard among reads and commands. -/
def shardRef (e s : Nat) : Nat := e * 65536 + s

/-- Bytes of a chunk (R152, R159). -/
def chunkBytes : Nat := 2 ^ 20

/-- Bytes of one read of a controller: min(1 MiB, MDTS) (R152). -/
def NvmeConn.readBytes (n : NvmeConn) : Nat := if n.mdts = 0 then chunkBytes else min chunkBytes n.mdts

/-- Ask for the next piece of a shard from its source (R152 to R154): a read command of the namespace at the piece's LBA, a read of host
memory, or, at its start, the ingot from the part that serves it. A controller that is not connected, or without that namespace, gives no
response. DESIGN CHOICE (log entry 167): the pieces of an ingot are read one after another, those of a buffer in host memory 1 MiB each. -/
def Part.fetch (p : Part) (e s : Nat) (v : Version) (x : Shard) : Part :=
  let off := x.got.length
  if x.kind = 0 then
    let c := fld x.src 1 1
    let n := p.nvme c
    match mfind n.spaces (fld x.src 4 4) with
    | none => p
    | some size =>
      let r : NvmeRead := { ref := shardRef e s, nsid := fld x.src 4 4, lba := fld x.src 8 8 + off / size, len := min n.readBytes (x.bytes - off), got := 0 }
      if n.st = 2 then p.setNvme c { n with reads := n.reads ++ [r] } else p
  else if x.kind = 1 then
    let r : HostRead := { kind := 1, sess := v.sess, key := shardRef e s, addr := fld x.src 8 8 + off, len := min chunkBytes (x.bytes - off) }
    { p with host := { p.host with reads := p.host.reads ++ [r] } }
  else p.control x.from (.shardAsk v.model v.version s)

/-- The next piece of a shard on an engine is asked for, once the piece before it has come. -/
def Part.fetchNext (p : Part) (e s : Nat) : Part :=
  match p.ver e, p.shard e s with
  | some v, some x => if x.st = .staging ∧ !x.whole ∧ x.kind ≠ 2 then p.fetch e s v x else p
  | _, _ => p

/-- No read of a shard is outstanding any more. -/
def Part.dropReads (p : Part) (e s : Nat) : Part :=
  let p : Part := { p with host := { p.host with reads := p.host.reads.filter fun r => !(r.kind == 1 && r.key == shardRef e s) } }
  { p with fab := { p.fab with
      nvme := p.fab.nvme.map fun c => (c.1, { c.2 with reads := c.2.reads.filter fun r => r.ref != shardRef e s }) } }

/-- A piece of an ingot that another part sends: model, version, shard, offset, whether it is the last, bytes. -/
def pieceOf (m : FabMsg) : Option (Nat × Nat × Nat × Nat × Bool × Bytes) :=
  match m with
  | .chunk m v s o l d => some (m, v, s, o, l, d)
  | .broadcast m v s o l d => some (m, v, s, o, l, d)
  | _ => none

/-- The shard that a piece from a part is for: a broadcast is taken in only by a BROADCAST load of that version with that root (R161). -/
def Part.pieceFor (p : Part) (x : Nat × FabMsg) : Option (Nat × Nat × Shard) :=
  match pieceOf x.2 with
  | none => none
  | some (m, v, s, _, _, _) => match p.entryOf m v with
    | none => none
    | some e => match p.ver e, p.shard e s with
      | some w, some y => match x.2 with
        | .broadcast _ _ _ _ _ _ => if w.mode = 2 ∧ w.root = x.1 then some (e, s, y) else none
        | _ => some (e, s, y)
      | _, _ => none

/-- The first piece of a shard that waits in the part's inbox. -/
def Part.firstPiece (p : Part) (e s : Nat) : Option Bytes :=
  p.fab.inbox.findSome? fun x => match p.pieceFor x, pieceOf x.2 with
    | some (a, b, _), some (_, _, _, 0, _, d) => if a = e ∧ b = s then some d else none
    | _, _ => none

/-- Stack bytes for a shard that is to start: the length that its source entry, or the header in its first piece, gives. -/
def Part.roomOf (p : Part) (e s : Nat) (x : Shard) : Nat :=
  match p.firstPiece e s with
  | some d => if d.length < 28 then x.need else min (fld d 24 4) (2 ^ 28)
  | none => x.need

/-- A shard starts on an engine with stack space at `base` (R155, R179); none where engine or space is missing. -/
def Part.stageAt (p : Part) (e s base room : Nat) : Option Part :=
  let p := p.freeSpace e s
  match p.ver e, p.shard e s, p.arrivalEngine with
  | some _, some _, some n => match p.takeSpace base room with
    | none => none
    | some q => some (q.modShard e s fun x => { x with
        st := .staging, engine := n, base := base, room := room, held := true, got := [], key := none, whole := false, askedAt := p.now })
  | _, _, _ => none

/-- The first shard in arrival order starts, and is fetched unless its first piece has come already. -/
def Part.stageHead (p : Part) (e s base : Nat) : Option Part :=
  match p.ver e, p.shard e s with
  | some v, some x => match p.stageAt e s base (p.roomOf e s x) with
    | none => none
    | some q =>
      let q : Part := { q with models := { q.models with queue := q.models.queue.drop 1 } }
      some (if (p.firstPiece e s).isSome then q else q.fetch e s v { x with got := [] })
  | _, _ => none

/-- STAGE_SHARD (R155): a shard at the head of the order takes an engine, or goes on waiting. -/
def Part.stageShard (p : Part) (e s base : Nat) : Part :=
  match p.models.queue with
  | x :: _ => if x = (e, s) then (p.stageHead e s base).getD p else p
  | [] => p

/-! ### Reports (R171) -/

/-- A shard fault record goes to the loader's session and to the sessions with NOTICE_MASK bit 0. -/
def Part.shardRecord (p : Part) (v : Version) (s cause attempt source outcome peer : Nat) : Part :=
  let body := leBytes 4 v.model ++ leBytes 2 v.version ++ leBytes 2 s ++ leBytes 1 cause ++ leBytes 1 attempt ++ leBytes 1 source ++
    leBytes 1 outcome ++ leBytes 2 peer ++ [0, 0] ++ leBytes 8 p.now ++ zpad 8
  allSessions.foldl (fun q i => if i = v.sess ∨ (q.ses i).noticeMask.testBit 0 then q.produce i (freeReply 2 body) else q) p

/-- The body of the LOAD reply (R271). -/
def loadBody (e : Nat) (v : Version) (cause : Nat) : Bytes := leBytes 4 v.model ++ leBytes 2 v.version ++ leBytes 2 e ++ leBytes 1 cause ++ zpad 7

/-! ### UNAVAILABLE (R172) -/

/-- The remaining work of a version needs a shard that is gone (R172): its DIGITAL_WEIGHTS, the ladder weights of a layer that a ladder
re-execution runs, or a section of a slot whose weights are in no bank. -/
def Part.needsShard (p : Part) (v : Version) (x : Shard) : Bool :=
  let inBank (n : Nat) : Bool := (p.banksOf v).any fun b => b.2.slot == n && (b.2.st == .shallow || b.2.st == .deep)
  let onLadder (l : Nat) : Bool := p.an.jobs.any fun j => j.ladder && j.job.layer == l &&
    (p.jobVer j.job).any fun w => w.model == v.model && w.version == v.version
  x.header.isEmpty || (sectionsOf x.header).any fun s =>
    s.kind == 6 || (s.kind == 5 && onLadder s.layer) || (decide (s.kind ≤ 3) && (List.range s.count).any fun i => !inBank (s.first + i))

/-- Some shard of an entry that is gone everywhere is needed by the version's remaining work. -/
def Part.needsLost (p : Part) (e : Nat) : Bool :=
  (p.ver e).any fun v => v.shards.any fun x => x.2.st == .failed && p.needsShard v x.2

/-- A request is pinned to an entry: as its version, its draft version, or the base of one. -/
def Part.pinnedTo (p : Part) (e : Nat) (r : Req) : Bool :=
  r.ver == e || r.draft == some e || p.baseOf r.ver == some e || r.draft.bind p.baseOf == some e

/-- The current flag moves to the highest-numbered other AVAILABLE version of the model. -/
def Part.moveCurrent (p : Part) (e : Nat) (v : Version) : Part :=
  if !v.current then p
  else
    let p := p.modVer e fun x => { x with current := false }
    let pick (a : Option (Nat × Nat)) (y : Nat × Version) : Option (Nat × Nat) :=
      if y.1 ≠ e ∧ y.2.model = v.model ∧ y.2.st = .available ∧ (a.all fun b => decide (b.2 < y.2.version)) then some (y.1, y.2.version) else a
    match p.models.table.foldl pick none with
    | none => p
    | some (o, _) => p.modVer o fun x => { x with current := true }

/-- A version becomes UNAVAILABLE with a cause (R172); a LOAD that waits completes with `status`. -/
def Part.unavailable (p : Part) (e cause status : Nat) : Part :=
  match p.ver e with
  | none => p
  | some v =>
    let p := if v.st = .retiring then p else p.setVerState e .unavailable
    let p : Part := { p with models := { p.models with queue := p.models.queue.filter fun x => x.1 != e } }
    let p := (p.modVer e fun x => { x with cause := cause }).moveCurrent e v
    p.completeA v.sess v.seq status (loadBody e v cause)

/-- Requests pinned to an entry whose remaining work needs a shard that is gone end with MODEL_UNAVAILABLE (R172). -/
def Part.endNeedy (p : Part) (e : Nat) : Part := if p.needsLost e then p.endAll 7 fun _ r => p.pinnedTo e r else p

/-- The chain of a shard ends in UNAVAILABLE: requests that still need it end (R172). -/
def Part.markUnavailable (p : Part) (e s cause : Nat) : Part :=
  match p.ver e, p.shard e s with
  | some _, some _ =>
    let p := p.modShard e s fun y => { y with st := .failed, inChain := false, engine := 96, scrubbing := false }
    ((p.unavailable e cause (if cause = causeSpace then stNoSpace else stModelUnavailable)).freeSpace e s).endNeedy e
  | _, _ => p

/-- Work of a slice's fallback array that needs a shard which is gone everywhere ends its request, and is given up (R172). -/
def Part.endLostWork (p : Part) (c : Nat) : Part :=
  ((p.slice c).work.filter p.workLost).foldl (fun q w =>
    let id := match w with
      | .ladder j => j
      | .mvm r => r.job
    match q.job id with
    | none => q
    | some j => (q.abandonJob id).endAll 7 fun s r => (s == j.job.slot || r.companion == some j.job.slot) && p.pinnedTo j.job.placement r) p

/-! ### The failure chain (R170) -/

/-- A shard has failed with a cause; `holders` are the parts that hold its ingot, nearest first. The next attempt waits at the head of
the arrival order, its stack space given up at once (R151). -/
def Part.shardFail (p : Part) (e s cause : Nat) (holders : List Nat) : Part :=
  match p.ver e, p.shard e s with
  | some v, some x =>
    let die := 2 + (if x.engine < 96 then x.engine / 48 else p.scrubWsd e s)
    let p := if cause ≤ 6 then p.bump (aStgCnt die) 32 16 1 else p
    let p := (p.dropReads e s).freeSpace e s
    let source := if cause = causeScrub ∨ cause = causeStackUe then 3 else if cause = causeTier then (match x.tier with
      | none => 1
      | some t => if t.peer then 2 else 1) else x.kind
    let from_ := if source ≠ 2 then 0 else if cause = causeTier then (x.tier.map fun t => t.place).getD 0 else x.from
    let p := p.dropTier e s
    let n := x.fails + 1
    let peers := if n < 4 then [] else if x.peersSet then x.peers else holders
    let p := p.modVer e fun y => { y with cause := cause, faultShard := s, attempts := min n 15 }
    let first := if x.inChain then x.first else cause
    let p := p.modShard e s fun y => { y with
      st := .waiting, engine := 96, held := false, scrubbing := false, got := [], key := none, fails := n, inChain := true, cause := cause, first := first,
      peer := if n < 4 then none else peers.head?, peers := peers.drop 1, peersSet := decide (4 ≤ n), rewrite := y.rewrite || cause == causeScrub }
    if (!x.inChain ∧ (cause = causeKey ∨ cause = causePlacement ∨ cause = causeSpace)) ∨ (4 ≤ n ∧ peers = []) then
      (p.shardRecord v s cause n source 3 from_).markUnavailable e s first
    else
      let p := (p.shardRecord v s cause n source (if n < 4 then 0 else 1) from_).bump (aStgCnt die) 48 16 1
      { p with models := { p.models with queue := (e, s) :: p.models.queue.filter fun y => y != (e, s) } }
  | _, _ => p

/-! ### Verified shards (R151, R158, R165, R167, R170) -/

/-- The parameters of a bank write for a slot (R278). -/
def writeParams (v : Version) (slot fmt : Nat) (src : SlotSrc) : Bytes :=
  leBytes 4 v.model ++ leBytes 2 v.version ++ leBytes 2 slot ++ leBytes 1 fmt ++ zpad 7 ++ leBytes 8 src.rows ++ leBytes 8 src.params ++
  leBytes 8 src.resid ++ leBytes 8 src.outw

/-- Banks written from a shard since its last passing scrub are written again (R158): REFRESH of a SHALLOW bank, ERASE and then
WRITE_DEEP of a DEEP one. A bank takes its parameters, residual table and outlier weights from shards as it takes its rows, and one whose write is
under way is written again after it. -/
def Part.rewriteBanks (p : Part) (e : Nat) (x : Shard) : Part :=
  match p.ver e with
  | none => p
  | some v =>
    let of_ (b : Bank) : Bool := x.has fun s => decide (s.kind ≤ 3) && s.ofSlot s.kind b.slot
    let later (q : Part) (b : Nat × Bank) : Part :=
      { q with models := { q.models with rewrites := q.models.rewrites ++ [(b.1, shardRef e b.2.slot)] } }
    ((p.banksOf v).filter fun b => of_ b.2).foldl (fun q b => match b.2.st with
      | .shallow => if x.passAt ≤ b.2.writtenAt then q.bankMessage 0xA1 b.1 (writeParams v b.2.slot (v.slotFmt b.2.slot) (v.slotSource b.2.slot)) else q
      | .expired => if x.passAt ≤ b.2.writtenAt then q.bankMessage 0xA1 b.1 (writeParams v b.2.slot (v.slotFmt b.2.slot) (v.slotSource b.2.slot)) else q
      | .deep => if x.passAt ≤ b.2.writtenAt then (later q b).bankCommand 0xA3 b.1 else q
      | .writingShallow => later q b
      | .writingDeep => later q b
      | _ => q) p

/-- A REFRESH of a bank is due and may go now (R117, R120, R215): in a cluster in service; a normal one while no request work claims the tile,
an urgent one (LIFE 100,000 or less, an EXPIRED bank included) while neither generation work nor prompt work below its share waits in the
cluster; never for a version that
retires and has no requests left. -/
def Part.refreshReady (p : Part) (k : Nat) (v : Version) : Bool :=
  let b := p.bank k
  let c := tileCluster (k / 2)
  let gone := decide (v.st = .retiring) && v.pins == 0
  let sent := p.d2d.outstanding.any fun o => o.die == 12 + k / 2048 && o.unit == k % 2048
  b.refreshDue && !sent && (b.st == .shallow || b.st == .expired) && !gone &&
    (p.tileIdle (k / 2) || (decide (b.life ≤ urgentLife) && !p.firstClaims c))

/-- CTL sends the REFRESH of a bank that is due (R117, R118, R120). DESIGN CHOICE (log entry 161): it sends it with the ANNEAL_DUE at
which it may go. -/
def Part.sendRefresh (p : Part) (k : Nat) : Part :=
  let b := p.bank k
  match p.ownerVer b with
  | none => p
  | some v =>
    if p.refreshReady k v then
      (p.setBank k { b with refreshDue := false }).bankMessage 0xA1 k (writeParams v b.slot (v.slotFmt b.slot) (v.slotSource b.slot))
    else p

/-- ANNEAL_DUE (R117, R118, R120): in a cluster in service, what has fallen due for a bank is marked for CTL firmware to schedule, and a
refresh that may go is sent; a DEEP bank that its version could not take over before is taken over (R169). -/
def Part.annealDue (p : Part) (mem : Memory) (k : Nat) : Part :=
  if (p.cluster (tileCluster (k / 2))).service then
    let p := match p.ownerVer (p.bank k) with
      | none => p
      | some v => p.adoptBank mem v k
    let b := p.bank k
    (p.setBank k { b with
      checkDue := b.checkDue || p.checkDueNow k, probeDue := b.probeDue || p.probeDueNow k,
      refreshDue := b.refreshDue || b.refreshDueNow }).sendRefresh k
  else p

/-- ANNEAL_DUE (R117). -/
def execAnnealDue (k : Nat) (s : State) : Out := s.live (3 + k / 2048) (bankOk k) fun p => p.annealDue s.mem k

/-- With every shard verified, the placement is checked and the version becomes AVAILABLE or UNAVAILABLE; the LOAD completes (R165,
R167, R169, R271). A switch that R166 forbids leaves the version AVAILABLE and not current. -/
def Part.checkPlacement (p : Part) (mem : Memory) (e : Nat) : Part :=
  match p.ver e with
  | none => p
  | some v =>
    if v.st ≠ .loading ∨ !v.shards.all (fun x => x.2.st == .verified) then p
    else match p.placementFail v v.graph with
    | some st => p.unavailable e causePlacement st
    | none =>
      let p := (p.modVer e fun x => { x with deep := x.shards.any fun y => fld y.2.header 18 2 % 2 == 1 }).setVerState e .available
      let p := p.adoptDeep mem e
      if v.makeCurrent && p.switchBlocked e v.model v.keep then p.completeA v.sess v.seq stBadParam (loadBody e v 0)
      else (if v.makeCurrent then p.makeCurrent e v.keep else p).completeA v.sess v.seq stOk (loadBody e v 0)

/-- Pieces of up to 1 MiB with their offsets; `n` bounds their number. -/
def chunksOf : Nat → Nat → Bytes → List (Nat × Bytes)
  | 0, _, _ => []
  | n + 1, off, b => if b.isEmpty then [] else (off, b.take (2 ^ 20)) :: chunksOf n (off + 2 ^ 20) (b.drop (2 ^ 20))

/-- This part serves a shard to a part that takes it as its source (R160, R161): the ingot as it arrived, formed again from the plaintext
under the shard's key and nonce; a shard that is not verified here yet is served once it is. With plaintext alone a part serves only the
parts behind it in its PIPELINE chain, and the root of a BROADCAST the parts that take it as their source (R154, R161, R170). -/
def Part.serveShard (p : Part) (mem : Memory) (dst e s : Nat) : Part :=
  match p.ver e, p.shard e s with
  | some v, some x =>
    let key := (mfind p.sec.keys (fld x.header 28 4)).bind fun k => shardKey k x.header
    let serves := decide (v.mode = 1 ∧ v.pos < indexIn dst v.chain ∧ indexIn dst v.chain < v.chain.length) || (v.mode == 2 && v.root == p.fabCfg.partId)
    if !serves then p
    else if !x.there then p.modVer e fun w => { w with asks := w.asks.filter (fun a => a != (dst, s)) ++ [(dst, s)] }
    else match key with
    | none => p
    | some sk =>
      let h := x.header
      let sealed_ := Config.gcmSeal sk (bytesAt h 92 12) (payloadAad h) (memReadN mem x.base x.payload)
      let ingot := h ++ sealed_.take x.payload
      let l := chunksOf (cdiv ingot.length (2 ^ 20)) 0 ingot
      l.foldl (fun q c => q.fabSend dst 4 0xFFFF (.chunk v.model v.version s c.1 (ingot.length == c.1 + c.2.length) c.2)) p
  | _, _ => p

/-- The parts that waited for a shard are served now that it is verified (R160). -/
def Part.serveAsks (p : Part) (mem : Memory) (e s : Nat) : Part :=
  match p.ver e with
  | none => p
  | some v =>
    let p := p.modVer e fun w => { w with asks := w.asks.filter fun a => a.2 != s }
    (v.asks.filter fun a => a.2 == s).foldl (fun q a => q.serveShard mem a.1 e s) p

/-- The SLOT_PARAMS records of a shard's plaintext (R148). -/
def slotRecs (h plain : Bytes) : List SlotRec :=
  ((sectionsOf h).filter fun s => s.kind == 1).flatMap fun s =>
    (List.range s.count).map fun i => { slot := s.first + i, layer := s.layer, bytes := slice plain (s.off + 128 * i) 128 }

/-- The LAYER_PARAMS sections of a shard's plaintext, with their layers (R148). -/
def layerParams (h plain : Bytes) : List (Nat × Bytes) :=
  ((sectionsOf h).filter fun s => s.kind == 4).map fun s => (s.layer, slice plain s.off s.len)

/-- SHARD_CHECKS_DONE (R150, R151): the plaintext of a shard that passes lies in the stacks; any other fails. `graph` is what CTL reads
from the GRAPH section and the layer descriptors. -/
def State.checksDone (st : State) (e s : Nat) (graph : Option Graph) (holders : List Nat) : State :=
  let p := st.part
  match p.ver e, p.shard e s with
  | some v, some x =>
    if x.st ≠ .staging ∨ !x.whole then st
    else match ingotCheck v s (mfind p.sec.keys (fld x.got 28 4)) x.got with
    | .inr cause => { st with part := p.shardFail e s cause holders }
    | .inl plain =>
      let h := x.got.take 4096
      let mem := memWriteN st.mem x.base plain
      let p := p.bump (aStgCnt (2 + x.engine / 48)) 0 32 1
      let p := if x.inChain then p.shardRecord v s x.cause (x.fails + 1) x.kind 2 (if x.kind = 2 then x.from else 0) else p
      let p := p.modShard e s fun y => { y with
        st := .verified, engine := 96, header := h, got := [], fails := 0, inChain := false, peer := none, peers := [], peersSet := false,
        scrubAt := p.now, passAt := p.now, rewrite := false, recs := slotRecs h plain, lparams := layerParams h plain }
      let p := if x.rewrite then p.rewriteBanks e { x with header := h } else p
      let p := if v.st = .loading then p.modVer e fun y => { y with graph := if graph.isSome then graph else y.graph } else p
      { st with part := (p.serveAsks mem e s).checkPlacement mem e, mem := mem }
  | _, _ => st

/-! ### Distribution (R159 to R161) -/

/-- The part that a PIPELINE version forwards to. -/
def Version.downstream (v : Version) : Option Nat := if v.mode = 1 then v.chain[v.down]? else none

/-- Send a chunk on the broadcast tree of a slice (R161, R310). -/
def Part.sendTree (p : Part) (slice : Nat) (m : FabMsg) : Part :=
  let p := p.fabSend 0xFFFF 5 slice m
  { p with fab := { p.fab with out := p.fab.out.map fun k => if k.dst = 0xFFFF ∧ k.cls = 5 then { k with bcast := true } else k } }

/-- A piece of ciphertext that arrived is forwarded (R159, R161), or waits until the downstream part has accepted the load (R160). -/
def Part.forward (p : Part) (e s off : Nat) (last : Bool) (data : Bytes) : Part :=
  match p.ver e with
  | none => p
  | some v =>
    if v.mode = 2 ∧ v.root = p.fabCfg.partId then p.sendTree v.slice (.broadcast v.model v.version s off last data)
    else match v.downstream with
    | none => p
    | some d =>
      if v.downOk then p.fabSend d 4 0xFFFF (.chunk v.model v.version s off last data)
      else p.modVer e fun x => { x with fwd := x.fwd ++ [(s, off, last, data)] }

/-- The 1 MiB chunks that became complete as an ingot grew from `old` bytes to `got` are forwarded (R159). -/
def Part.forwardChunks (p : Part) (e s old : Nat) (got : Bytes) (whole : Bool) : Part :=
  let a := old / chunkBytes
  let b := if whole then cdiv got.length chunkBytes else got.length / chunkBytes
  (List.range (b - a)).foldl (fun q i =>
    q.forward e s ((a + i) * chunkBytes) (whole && a + i + 1 == b) (bytesAt got ((a + i) * chunkBytes) (min chunkBytes (got.length - (a + i) * chunkBytes)))) p

/-- Bytes of a shard on an engine have arrived. -/
def Part.gotBytes (p : Part) (e s : Nat) (data : Bytes) (last : Bool) : Part :=
  match p.shard e s with
  | none => p
  | some x =>
    let got := x.got ++ data
    let whole := last || (x.bytes != 0 && decide (x.bytes ≤ got.length))
    (p.modShard e s fun y => { y with got := got, whole := whole, askedAt := p.now }).forwardChunks e s x.got.length got whole

/-- Shards whose first piece has come from another part wait for an engine in arrival order, behind those that wait already (R155). -/
def Part.joinQueue (p : Part) : Part :=
  p.fab.inbox.foldl (fun q x => match q.pieceFor x, pieceOf x.2 with
    | some (e, s, y), some (_, _, _, 0, _, _) =>
      if y.st = .waiting ∧ !q.models.queue.contains (e, s) then { q with models := { q.models with queue := q.models.queue ++ [(e, s)] } } else q
    | _, _ => q) p

/-- A piece that can be dealt with now: one of a shard on an engine, the first of the shard at the head of the arrival order when an engine
and space at `base` are free, or one that is discarded. The others wait: those of a shard that has not started among them. -/
def Part.pieceReady (p : Part) (base : Nat) (x : Nat × FabMsg) : Bool :=
  match p.pieceFor x, pieceOf x.2 with
  | some (e, s, y), some (_, _, _, off, _, _) =>
    if y.st ≠ .waiting then true
    else if off ≠ 0 then (p.firstPiece e s).isNone
    else p.models.queue.head? == some (e, s) && (p.stageAt e s base (p.roomOf e s y)).isSome
  | _, _ => true

/-- A piece of a shard from another part is dealt with: the shard takes an engine with its first piece, with space at `base`. -/
def Part.takePiece (p : Part) (base : Nat) (x : Nat × FabMsg) : Part :=
  match p.pieceFor x, pieceOf x.2 with
  | some (e, s, y), some (_, _, _, off, last, data) => match y.st with
    | .staging => if off = y.got.length then p.gotBytes e s data last else p
    | .waiting =>
      if off ≠ 0 then p
      else match p.stageAt e s base (if data.length < 28 then y.need else min (fld data 24 4) (2 ^ 28)) with
      | none => p
      | some q => { q with models := { q.models with queue := q.models.queue.filter fun z => z != (e, s) } }.gotBytes e s data last
    | _ => p
  | _, _ => p

/-- The chunks that waited for the downstream part go out. -/
def Part.flushFwd (p : Part) (e : Nat) : Part :=
  match p.ver e with
  | none => p
  | some v => match v.downstream with
    | none => p.modVer e fun x => { x with fwd := [] }
    | some d =>
      (v.fwd.foldl (fun q c => q.fabSend d 4 0xFFFF (.chunk v.model v.version c.1 c.2.1 c.2.2.1 c.2.2.2)) p).modVer e fun x =>
        { x with fwd := [], downOk := true }

/-- A downstream part has accepted the load (R160): chunks that waited go out. A part that was skipped fetches every shard from here, each
once it is verified. -/
def Part.acceptedBy (p : Part) (mem : Memory) (src e : Nat) : Part :=
  match p.ver e with
  | none => p
  | some v =>
    if v.downstream = some src then p.flushFwd e
    else if v.pos < indexIn src v.chain ∧ indexIn src v.chain < v.down then
      v.shards.foldl (fun q x => q.serveShard mem src e x.1) p
    else p

/-- A message of the pipeline that can be dealt with: a chunk as `pieceReady` says, and an acceptance whose entry is here. -/
def Part.pipelineMsg (p : Part) (base : Nat) (x : Nat × FabMsg) : Bool :=
  match x.2 with
  | .chunk _ _ _ _ _ _ => p.pieceReady base x
  | .shardAsk _ _ _ => true
  | .accepted m v => match (p.entryOf m v).bind p.ver with
    | none => false
    | some w => decide (indexIn x.1 w.chain ≤ w.down)
  | _ => false

/-- PIPELINE_CHUNK (R155, R159, R160): the next message of the pipeline that can be dealt with. -/
def State.pipelineChunk (st : State) (base : Nat) : State :=
  let st := { st with part := st.part.joinQueue }
  match st.part.takeMsg (st.part.pipelineMsg base) with
  | some ((src, .chunk m v s off last data), p) => { st with part := p.takePiece base (src, .chunk m v s off last data) }
  | some ((src, .shardAsk m v s), p) => match p.entryOf m v with
    | none => { st with part := p }
    | some e => { st with part := p.serveShard st.mem src e s }
  | some ((src, .accepted m v), p) => match p.entryOf m v with
    | none => { st with part := p }
    | some e => { st with part := p.acceptedBy st.mem src e }
  | _ => st

/-- A downstream part that has not accepted within the fetch timeout, or that is gone, is skipped (R160). -/
def Part.skipDown (p : Part) (e : Nat) : Part := p.modVer e fun x => { x with down := x.down + 1, downOk := false, downSince := p.now }

/-- FETCH_TIMEOUT of a load, with 0 read as 2,000 ms, in ns (R268). -/
def Version.timeout (v : Version) : Nat := 1000000 * (if v.timeoutMs = 0 then 2000 else v.timeoutMs)

/-- PIPELINE_WAIT_TIMEOUT (R160). -/
def Part.pipelineWait (p : Part) (e : Nat) : Part :=
  match p.ver e with
  | none => p
  | some v =>
    if v.downstream.isSome && !v.downOk && decide (v.downSince + v.timeout ≤ p.now) then
      let p := p.skipDown e
      if ((p.ver e).bind Version.downstream).isNone then p.flushFwd e else p
    else p

/-- A chunk of a broadcast. -/
def isBroadcast (x : Nat × FabMsg) : Bool :=
  match x.2 with
  | .broadcast _ _ _ _ _ _ => true
  | _ => false

/-- BROADCAST_SHARD (R155, R161): a chunk of a broadcast is taken in by a part with a BROADCAST load of that version, else discarded. -/
def Part.broadcastShard (p : Part) (base : Nat) : Part :=
  let p := p.joinQueue
  match p.takeMsg fun x => isBroadcast x && p.pieceReady base x with
  | some (x, q) => q.takePiece base x
  | none => p

/-! ### Timeouts and NVMe (R152) -/

/-- The die of the WSD that serves an NVMe controller (log entry 40). -/
def nvmeDie (c : Nat) : Nat := 2 + c % 2

/-- A read of a shard has failed: the attempt ends with cause FETCH. -/
def Part.fetchFail (p : Part) (ref : Nat) (holders : List Nat) : Part :=
  match p.shard (ref / 65536) (ref % 65536) with
  | none => p
  | some x => if x.st = .staging then p.shardFail (ref / 65536) (ref % 65536) causeFetch holders else p

/-- FETCH_TIMEOUT (R152, R160, R291): no response within the load's fetch timeout. -/
def Part.fetchTimeout (p : Part) (e s : Nat) (holders : List Nat) : Part :=
  match p.ver e, p.shard e s with
  | some v, some x =>
    let waits := x.st == .staging && !x.whole || (x.st == .waiting && v.mode != 0 && !p.models.queue.contains (e, s))
    if waits && decide (x.askedAt + v.timeout < p.now) then
      let p := if x.st = .staging ∧ x.kind = 0 then p.bump (aNvmeConn (nvmeDie (fld x.src 1 1)) (fld x.src 1 1)) 16 16 1 else p
      p.shardFail e s causeFetch holders
    else p
  | _, _ => p

/-- A controller's connection is gone: every read on it fails. -/
def Part.nvmeLost (p : Part) (c : Nat) (count : Bool) (holders : List Nat) : Part :=
  let n := p.nvme c
  let p := p.setNvme c { n with st := 3, reads := [] }
  n.reads.foldl (fun q r => (if count then q.bump (aNvmeConn (nvmeDie c) c) 16 16 1 else q).fetchFail r.ref holders) p

/-- NVME_PDU_RECEIVE (R152, R324). -/
def Part.nvmePdu (p : Part) (c : Nat) (u : NvmePdu) (holders : List Nat) : Part :=
  let n := p.nvme c
  let cfg := n.cfg
  match u with
  | .connected ioq h d mdts spaces =>
    if n.st = 1 ∧ 1 ≤ ioq then
      p.connectEnd c { n with
        st := 2, ioq := min ioq (fld cfg 22 1), hdgst := h && (fld cfg 3 1).testBit 0, ddgst := d && (fld cfg 3 1).testBit 1, aliveAt := p.now, mdts := mdts,
        spaces := spaces.filter fun x => x.2 == 512 || x.2 == 4096 } stOk 0
    else p
  | .connectFailed status => if n.st = 1 then p.connectEnd c { n with st := 3 } stBusy status else p
  | .data b => match n.reads with
    | [] => p
    | r :: rest =>
      if n.st = 2 ∧ r.got + b.length ≤ r.len then
        (p.setNvme c { n with reads := { r with got := r.got + b.length } :: rest }).gotBytes (r.ref / 65536) (r.ref % 65536) b false
      else p
  | .response ok => match n.reads with
    | [] => p
    | r :: rest =>
      if n.st ≠ 2 then p
      else
        if ok then (if r.got = r.len then (p.setNvme c { n with reads := rest }).fetchNext (r.ref / 65536) (r.ref % 65536) else p)
        else ((p.setNvme c { n with reads := rest }).bump (aNvmeConn (nvmeDie c) c) 16 16 1).fetchFail r.ref holders
  | .termReq => if n.st = 1 then p.connectEnd c { n with st := 3 } stBusy 0 else if n.st = 2 then p.nvmeLost c true holders else p
  | .badDigest => if n.st = 2 then (p.bump (aNvmeConn (nvmeDie c) c) 32 16 1).nvmeLost c false holders else p
  | .dropped => if n.st = 1 then p.connectEnd c { n with st := 3 } stBusy 0 else if n.st = 2 then p.nvmeLost c false holders else p
  | .alive => if n.st = 2 then p.setNvme c { n with aliveAt := p.now } else p

/-! ### Scrubs (R157, R158, R222) -/

/-- The keys of grammars among scrubs lie above the model table. -/
def gramRef : Nat := 8192

/-- A scrub deadline falls within 60 s (R409), or a maintenance wake runs (R408). -/
def Part.scrubNear (p : Part) (e s : Nat) : Bool :=
  let near (t : Nat) : Bool := p.pwr.maint || decide (t + scrubNs ≤ p.now + 60000000000)
  if gramRef ≤ e then (p.gram (e - gramRef)).st == 2 && near (p.gram (e - gramRef)).scrubAt
  else (p.shard e s).any fun x => x.st == .verified && x.held && near x.scrubAt

/-- A scrub starts on a free engine of its WSD; its interval restarts. A grammar's image takes no numbered engine (log entry 41). -/
def Part.scrubStart (p : Part) (e s : Nat) : Part :=
  let unqueue (q : Part) : Part := { q with models := { q.models with scrubQueue := q.models.scrubQueue.filter fun y => y != (e, s) } }
  if gramRef ≤ e then
    let g := p.gram (e - gramRef)
    if g.st = 2 ∧ !g.scrubbing then (unqueue p).setGram (e - gramRef) { g with scrubbing := true, scrubAt := p.now } else p
  else match p.shard e s, p.engineOf (p.scrubWsd e s) with
  | some x, some n =>
    if x.st = .verified ∧ x.held ∧ !x.scrubbing then
      (unqueue p).modShard e s fun y => { y with scrubbing := true, engine := n, scrubAt := p.now }
    else p
  | _, _ => p

/-- SCRUB_DUE (R157, R408): the deadline approaches, or a maintenance wake scrubs every held shard, and the scrub takes an engine or waits
for one. -/
def Part.scrubDue (p : Part) (e s : Nat) : Part :=
  let maint (at_ : Nat) : Bool := p.pwr.maint && decide (at_ < (p.dom 1).startAt)
  let due (at_ : Nat) : Bool := decide (at_ + (scrubNs - 10000000000) ≤ p.now) || maint at_
  let ok := if gramRef ≤ e then (p.gram (e - gramRef)).st == 2 && due (p.gram (e - gramRef)).scrubAt
    else (p.shard e s).any fun x => x.st == .verified && x.held && !x.scrubbing && due x.scrubAt
  if ok && !p.models.scrubQueue.contains (e, s) then
    { p with models := { p.models with scrubQueue := p.models.scrubQueue ++ [(e, s)] } }.scrubStart e s
  else p

/-- SCRUB_COMPLETE (R158, R222): `bad` says that the bytes read differ from those stored. A mismatch sends a shard into the chain, and
makes a grammar unusable. -/
def State.scrubComplete (st : State) (e s : Nat) (bad : Bool) (holders : List Nat) : State :=
  let p := st.part
  if gramRef ≤ e then
    let g := p.gram (e - gramRef)
    if g.scrubbing then { st with part := p.setGram (e - gramRef) { g with scrubbing := false, st := if bad then 3 else 2 } } else st
  else match p.shard e s with
  | none => st
  | some x =>
    if !x.scrubbing then st
    else
      let die := 2 + x.engine / 48
      let same := !bad && sha (memReadN st.mem x.base x.payload) == bytesAt x.header 128 64
      let q := p.modShard e s fun y => { y with scrubbing := false, engine := 96 }
      if same then { st with part := (q.modShard e s fun y => { y with passAt := y.scrubAt }).bump (aScrubStatus die) 0 32 1 }
      else { st with part := (q.bump (aScrubStatus die) 32 16 1).shardFail e s causeScrub holders }

/-! ### Host commands (R268 to R272) -/

/-- The checks of a LOAD behind those of its packet, in order: the source table where it was read from host memory (R256, R270), the sum of a
BROADCAST (R161), and the state of the objects named (R161, R164, R270). -/
def Part.loadFail (p : Part) (feat0 : Nat) (k table : Bytes) : Option Nat :=
  let mode := (par k 6 2 >>> 2) % 4
  let src := loadSources p.fabCfg.partId k
  let l := if src then (List.range (par k 8 2)).map (sourceEntry table) else []
  let inSlice := (p.sliceRec (par k 14 2)).any fun r => r.st == 2 && p.fabCfg.member r.desc (par k 12 2)
  firstFail [(sourceNeeds feat0 l, stNotNegotiated), (sourceReserved l, stBadParam)] <|> l.findSome? sourceField <|>
  firstFail [(mode != 2 || decide (sumNat (l.map fun x => fld x 16 4 - 4096) ≤ 2 ^ 32), stLenRange),
    (l.all fun x => fld x 0 1 != 0 || (p.nvme (fld x 1 1)).st == 2, stBadParam),
    (mode != 2 || inSlice, stBadParam), ((p.entryOf (par k 0 4) (par k 4 2)).isNone, stBadParam),
    (decide (p.models.table.length < 8192), stNoSpace),
    (decide ((p.models.table.filter fun x => x.2.model == par k 0 4).length < 4), stNoSpace)]

/-- The source of a shard that comes from another part of a chain or slice (R160, R161). -/
def peerSource (part : Nat) : Bytes := [2, 0] ++ leBytes 2 part ++ zpad 28

/-- The version that a LOAD makes. -/
def Part.newVersion (p : Part) (i : Nat) (k table : Bytes) : Version :=
  let flags := par k 6 2
  let mode := (flags >>> 2) % 4
  let chain := (List.range (par k 10 1)).map fun j => fld k (80 + 2 * j) 2
  let pos := par k 11 1
  let src := loadSources p.fabCfg.partId k
  let from_ := if mode = 1 then nth 0 chain (pos - 1) else par k 12 2
  let shard (j : Nat) : Nat × Shard :=
    (j, { Shard.reset with src := if src then bytesAt table (32 * j) 32 else peerSource from_, askedAt := p.now })
  { model := par k 0 4, version := par k 4 2, st := .loading, current := false, kept := false, deep := false, pins := 0, count := par k 8 2,
    makeCurrent := flags.testBit 0, keep := flags.testBit 1, mode := mode, chain := chain, pos := pos, root := par k 12 2,
    slice := par k 14 2, timeoutMs := par k 16 4, deepAllowed := (p.ses i).feat0.testBit 15, sess := i, seq := (p.ses i).serial, graph := none,
    shards := (List.range (par k 8 2)).map shard, cause := 0, faultShard := 0, attempts := 0, down := pos + 1, downOk := false,
    downSince := p.now, fwd := [], asks := [], analog := [], steps := 0, lastCohort := 2 }

/-- A LOAD is accepted (R164): the start point. Its shards wait for engines; a part of a chain tells the parts before it. -/
def Part.loadStart (p : Part) (i : Nat) (k table : Bytes) : Part :=
  match p.loadFail (p.ses i).feat0 k table with
  | some st => p.finish i st []
  | none =>
    let v := p.newVersion i k table
    match (List.range 8192).find? fun e => (p.ver e).isNone with
    | none => p.finish i stNoSpace []
    | some e =>
      let p : Part := { p with models := { p.models with table := minsert p.models.table e v } }
      let p := (p.ringAdd 5 0 0 (e + 65536)).startA i e
      let p := if loadSources p.fabCfg.partId k then
          { p with models := { p.models with queue := p.models.queue ++ v.shards.map fun x => (e, x.1) } }
        else p
      ((v.chain.take v.pos).foldl (fun q d => q.control d (.accepted v.model v.version)) p).requestWake 19

/-- LOAD (R268): with SRC_ADDR the source table is read from host memory first. -/
def Part.load (p : Part) (i : Nat) (k : Bytes) : Part :=
  let n := par k 8 2
  if p.host.reads.any fun r => r.kind == 6 && r.sess == i then p
  else if loadSources p.fabCfg.partId k && par k 24 8 != 0 then
    { p with host := { p.host with reads := p.host.reads ++ [{ kind := 6, sess := i, key := 0, addr := par k 24 8, len := 32 * n }] } }
  else p.loadStart i k (k.drop (80 + 16 * cdiv (2 * par k 10 1) 16))

/-- UNLOAD (R272). -/
def Part.unload (p : Part) (i : Nat) (k : Bytes) : Part :=
  match p.entryOf (par k 0 4) (par k 4 2) with
  | none => p.finish i stBadParam []
  | some e => match p.ver e with
    | none => p.finish i stBadParam []
    | some v => match v.st with
      | .loading => p.finish i stBusy []
      | .retiring => p.finish i stAlreadyDone []
      | .unavailable => if v.pins ≠ 0 then p.finish i stBusy [] else (p.retireFree e).finish i stOk []
      | .available =>
        if p.baseProtected e then p.finish i stBadParam []
        else ((p.modVer e fun x => { x with current := false }).retire e).finish i stOk []

/-- SET_CURRENT (R272). -/
def Part.setCurrent (p : Part) (i : Nat) (k : Bytes) : Part :=
  match p.entryOf (par k 0 4) (par k 4 2) with
  | none => p.finish i stBadParam []
  | some e => match p.ver e with
    | none => p.finish i stBadParam []
    | some v =>
      let keep := (par k 6 1).testBit 0
      if v.st ≠ .available then p.finish i stModelUnavailable []
      else if !v.current && p.switchBlocked e v.model keep then p.finish i stBadParam []
      else (p.makeCurrent e keep).finish i stOk []

/-- CTL.MODEL_ENT0 to CTL.MODEL_ENT3 of an entry. -/
def Part.modelEnt (p : Part) (e n : Nat) : Word64 :=
  match p.ver e with
  | none => 0
  | some v =>
    let count (q : Shard → Bool) : Nat := (v.shards.filter fun x => q x.2).length
    if n = 0 then packBits [(0, 32, v.model), (32, 16, v.version), (48, 3, verCode v.st), (51, 1, bit v.current), (52, 1, bit v.kept), (53, 1, bit v.deep)]
    else if n = 1 then packBits [(0, 32, v.pins), (32, 16, v.count), (48, 16, count fun x => x.st == .verified)]
    else if n = 2 then packBits [(0, 16, count fun x => x.st == .verified && x.held),
      (16, 16, count fun x => x.tier.any fun t => t.written && !t.peer), (32, 16, count fun x => x.tier.any fun t => t.written && t.peer),
      (48, 8, v.cause), (56, 1, bit (v.shards.any fun x => x.2.inChain))]
    else packBits [(0, 16, v.faultShard), (16, 4, v.attempts), (32, 15, (p.banksOf v).length)]

/-- MODEL_QUERY (R272). -/
def Part.modelQuery (p : Part) (i : Nat) (k : Bytes) : Part :=
  match p.entryOf (par k 0 4) (par k 4 2) with
  | none => p.finish i stBadParam []
  | some e => p.finish i stOk ((List.range 4).flatMap fun n => wordBytes (p.modelEnt e n))

/-! ### DEEP banks without an owner (R169) -/

/-- DEEP_ORPHAN_TIMEOUT: 60 s after bring-up, CTL erases the DEEP banks whose owner is no version present. -/
def Part.deepOrphans (p : Part) : Part :=
  if p.boot.stage ≠ 4 ∨ p.models.orphansDone ∨ p.now < p.boot.fullAt + 60000000000 then p
  else
    let p : Part := { p with models := { p.models with orphansDone := true } }
    let orphan (b : Nat × Bank) : Bool := b.2.st == .deep && (p.entryOf b.2.model b.2.version).isNone
    (p.an.banks.filter orphan).foldl (fun q b => q.bankCommand 0xA3 b.1) p

/-! ### The commands -/

/-- A model-table entry and a shard index; scrubs also name grammars. -/
def refOk (e s : Nat) : Bool := decide (e < gramRef + 256 ∧ s < 65536)

/-- LOAD (R268). -/
def execLoad (i : Nat) (s : State) : Out := s.cmd i 0x20 fun k p => p.load i k

/-- STAGE_SHARD (R155). -/
def execStageShard (e sh base : Nat) (s : State) : Out :=
  s.live 1 (refOk e sh) fun p => p.needWsd (!p.models.queue.isEmpty) fun q => q.stageShard e sh base

/-- NVME_PDU_RECEIVE (R152). -/
def execNvmePduReceive (c : Nat) (u : NvmePdu) (holders : List Nat) (s : State) : Out :=
  s.live 19 (decide (c < 8)) fun p => p.nvmePdu c u holders

/-- FETCH_TIMEOUT (R152). -/
def execFetchTimeout (e sh : Nat) (holders : List Nat) (s : State) : Out := s.live 1 (refOk e sh) fun p => p.fetchTimeout e sh holders

/-- SHARD_CHECKS_DONE (R151). -/
def execShardChecksDone (e sh : Nat) (graph : Option Graph) (holders : List Nat) (s : State) : Out :=
  s.liveMem 19 (refOk e sh) fun t => t.checksDone e sh graph holders

/-- SCRUB_DUE (R157). -/
def execScrubDue (e sh : Nat) (s : State) : Out :=
  s.live 1 (refOk e sh) fun p => p.needWsd (p.scrubNear e sh) fun q => q.scrubDue e sh

/-- SCRUB_SHARD (R157). -/
def execScrubShard (e sh : Nat) (s : State) : Out := s.live 19 (refOk e sh) fun p => p.scrubStart e sh

/-- SCRUB_COMPLETE (R158). -/
def execScrubComplete (e sh : Nat) (bad : Bool) (holders : List Nat) (s : State) : Out :=
  s.liveMem 19 (refOk e sh) fun t => t.scrubComplete e sh bad holders

/-- PIPELINE_CHUNK (R159). -/
def execPipelineChunk (base : Nat) (s : State) : Out :=
  s.liveMem 1 true fun t => t.needWsd (t.part.fab.inbox.any (t.part.pipelineMsg base)) fun u => u.pipelineChunk base

/-- PIPELINE_WAIT_TIMEOUT (R160). -/
def execPipelineWaitTimeout (e : Nat) (s : State) : Out := s.live 1 (decide (e < 8192)) fun p => p.pipelineWait e

/-- BROADCAST_SHARD (R161). -/
def execBroadcastShard (base : Nat) (s : State) : Out :=
  s.live 1 true fun p => p.needWsd (p.fab.inbox.any isBroadcast) fun q => q.broadcastShard base

/-- LADDER_EXEC_COMPLETE (R138, R172). -/
def execLadderExecComplete (c : Nat) (s : State) : Out := s.live (3 + c / 16) (sliceOk c) fun p => (p.endLostWork c).ladderDone s.mem c

/-- FALLBACK_COMPLETE (R114, R172). -/
def execFallbackComplete (c : Nat) (s : State) : Out := s.live (3 + c / 16) (sliceOk c) fun p => (p.endLostWork c).fallbackDone s.mem c

/-- UNLOAD (R272). -/
def execUnload (i : Nat) (s : State) : Out := s.cmd i 0x21 fun k p => p.unload i k

/-- SET_CURRENT (R272). -/
def execSetCurrent (i : Nat) (s : State) : Out := s.cmd i 0x22 fun k p => p.setCurrent i k

/-- MODEL_QUERY (R272). -/
def execModelQuery (i : Nat) (s : State) : Out := s.cmd i 0x23 fun k p => p.modelQuery i k

/-- DEEP_ORPHAN_TIMEOUT (R169). -/
def execDeepOrphanTimeout (s : State) : Out := s.live 1 true Part.deepOrphans

end Sys2Proof.Machine
end

