-- ==== Sys2Proof/Machine/Tier.lean ====
section
/-! DEFINITION. Tier: the slower tier and grammars (R157, R162, R163, R221, R222, R273, R274, R313). -/
namespace Sys2Proof.Machine

/-! ### Demotion (R163) -/

/-- A bank write, ladder fetch or weight stream is reading a shard. -/
def Part.beingRead (p : Part) (x : Shard) : Bool :=
  (p.an.tiles.any fun t => match t.2.wr with
    | none => false
    | some w =>
      let b := p.bank (2 * t.1 + w.bank)
      w.kind != .map && w.kind != .erase && w.kind != .blankErase && x.covers (p.srcNow b b.src).rows) ||
  (p.an.slices.any fun c => c.2.work.any fun w => match w with
    | .mvm r => (p.job r.job).any fun j => x.covers (p.fbSource j.job r).1.rows || x.covers (p.fbSource j.job r).1.params
    | .ladder j => (p.job j).any fun y => x.covers (p.ladderAt y.job).1)

/-- Every slot of a version has its weights in a bank. -/
def Part.banksWritten (p : Part) (v : Version) : Bool :=
  (v.sections.filter fun s => s.2.kind == 0).all fun s => (List.range s.2.count).all fun i =>
    (p.banksOf v).any fun b => b.2.slot == s.2.first + i && (b.2.st == .shallow || b.2.st == .deep)

/-- The place of a version's shards in the order of R163. -/
def Part.demoteRank (p : Part) (v : Version) : Nat := if v.pins = 0 then 0 else if p.banksWritten v then 1 else 2

/-- The shard to demote next: by rank, then least recently read, then by entry and index. -/
def Part.demotable (p : Part) : Option (Nat × Nat) :=
  let all := p.models.table.flatMap fun v =>
    (v.2.shards.filter fun x => x.2.st == .verified && x.2.held && x.2.tier.isNone && !p.beingRead x.2).map fun x =>
      (p.demoteRank v.2, x.2.readAt, v.1, x.1)
  let better (a b : Nat × Nat × Nat × Nat) : Bool := decide (a.1 < b.1) || (a.1 == b.1 && decide (a.2.1 < b.2.1))
  (all.foldl (fun best a => match best with
    | none => some a
    | some b => if better a b then some a else some b) none).map fun a => (a.2.2.1, a.2.2.2)

/-- The ranges of a tier region in use. -/
def Part.regionUsed (p : Part) (r : Nat) : List (Nat × Nat) :=
  p.models.table.flatMap fun v => v.2.shards.flatMap fun x => match x.2.tier with
    | some t => if !t.peer && t.place == r then [(t.off, t.data.length)] else []
    | none => []

/-- The lowest offset of a region at which `n` bytes fit: 0, or the end of a range in use. -/
def Part.regionFit (p : Part) (r : Nat) (g : TierRegion) (n : Nat) : Option Nat :=
  let used := p.regionUsed r
  if g.closed then none
  else (0 :: used.map fun u => u.1 + u.2).foldl (fun best o =>
    if o + n ≤ g.len ∧ !used.any (overlap (o, n)) ∧ best.all (fun b => decide (o < b)) then some o else best) none

/-- The first open region with room for `n` bytes. -/
def Part.hostFit (p : Part) (n : Nat) : Option (Nat × Nat) :=
  p.models.tiers.findSome? fun g => (p.regionFit g.1 g.2 n).map fun o => (g.1, o)

/-- A lender's answer to this part's request (R313). -/
def isGrant (x : Nat × FabMsg) : Bool :=
  match x.2 with
  | .lendGrant _ _ => true
  | _ => false

/-- The tier copy of a shard: a fresh nonce, ciphertext and tag under the tier key (R162). -/
def State.tierSeal (st : State) (x : Shard) : Bytes × Part :=
  let (n, p) := st.part.entropy 2
  (n.take 12 ++ Config.gcmSeal p.tierKey (n.take 12) [] (memReadN st.mem x.base x.payload), p)

/-- Bytes of a tier copy. -/
def Shard.tierLen (x : Shard) : Nat := 12 + x.payload + 16

/-- A shard's copy starts on its way to a place of the slower tier. -/
def Part.putTier (p : Part) (e s : Nat) (peer : Bool) (place off : Nat) (data : Bytes) : Part :=
  p.modShard e s fun y => { y with tier := some { peer := peer, place := place, off := off, data := data, written := false } }

/-- Demote a shard: to a tier region, else to a lender that has granted space, else ask the lender for it (R162, R163, R313). False when no
tier space is left. -/
def State.demote (st : State) (e s : Nat) (lender : Option (Nat × Nat)) : State × Bool :=
  match st.part.shard e s with
  | none => (st, false)
  | some x => match st.part.hostFit x.tierLen with
    | some (r, o) =>
      let (d, p) := st.tierSeal x
      ({ st with part := p.putTier e s false r o d }, true)
    | none => match st.part.takeMsg isGrant with
      | some ((src, .lendGrant _ (some a)), q) =>
        let (d, p) := { st with part := q }.tierSeal x
        ({ st with part := (p.putTier e s true src a d).fabSend src 4 0xFFFF (.tierPut a d) }, true)
      | some (_, q) => ({ st with part := q }, false)
      | none => match lender with
        | none => (st, false)
        | some (d, id) =>
          if (st.part.sliceRec id).any fun r => r.st == 2 && st.part.fabCfg.member r.desc d then
            ({ st with part := st.part.control d (.lendAsk id x.tierLen) }, true)
          else (st, false)

/-- A tier copy is on its way. -/
def Part.demoting (p : Part) : Bool := p.models.table.any fun v => v.2.shards.any fun x => x.2.held && x.2.tier.any fun t => !t.written

/-- SHARD_STAGE_START (R155, R163): the shard at the head of the order starts on a freed engine; without stack space a shard is demoted,
and without one to demote or tier space for it the load fails with cause SPACE. -/
def State.stageStart (st : State) (base : Nat) (lender : Option (Nat × Nat)) : State :=
  match st.part.models.queue with
  | [] => st
  | (e, s) :: _ => match st.part.stageHead e s base with
    | some p => { st with part := p }
    | none => match st.part.shard e s with
      | none => { st with part := { st.part with models := { st.part.models with queue := st.part.models.queue.drop 1 } } }
      | some x =>
        if st.part.arrivalEngine.isNone || st.part.roomFor (st.part.roomOf e s x) || st.part.demoting then st
        else
          let fail (t : State) : State :=
            { t with part := { t.part with models := { t.part.models with queue := t.part.models.queue.drop 1 } }.shardFail e s causeSpace [] }
          match st.part.demotable with
          | none => fail st
          | some (e', s') => match st.demote e' s' lender with
            | (t, true) => t
            | (t, false) => fail t

/-- TIER_COPY_COMPLETE (R162): the copy is written completely, and the stack space is freed. -/
def Part.tierWritten (p : Part) (e s : Nat) : Part :=
  match (p.shard e s).bind fun x => x.tier with
  | none => p
  | some t => if t.written then p else (p.modShard e s fun x => { x with tier := some { t with written := true } }).freeSpace e s

/-! ### Read-back (R162, R273) -/

/-- A closed region that holds no copy any more: its TIER_REMOVE completes. -/
def Part.regionsEmpty (p : Part) : Part :=
  p.models.tiers.foldl (fun q g =>
    if g.2.closed && (q.regionUsed g.1).isEmpty then
      ({ q with models := { q.models with tiers := merase q.models.tiers g.1 } }).completeKey 0x27 g.1 stOk []
    else q) p

/-- No space in the stacks can be made for a shard of a region that is being removed: its TIER_REMOVE completes with NO_SPACE, and the region
is open again (R273). -/
def Part.spaceLacks (p : Part) (t : TierCopy) : Part :=
  match mfind p.models.tiers t.place with
  | none => p
  | some g =>
    if g.closed && !t.peer then
      { p with models := { p.models with tiers := minsert p.models.tiers t.place { g with closed := false } } }.completeKey 0x27 t.place stNoSpace []
    else p

/-- Data that a lender returned for an address. -/
def tierDataFor (place off : Nat) (x : Nat × FabMsg) : Bool :=
  x.1 == place && match x.2 with
  | .tierData a _ => a == off
  | _ => false

/-- TIER_READBACK_COMPLETE (R162): a copy in the slower tier is asked for, and once it has come it is decrypted and checked; a good one lies
in the stacks again at `base`, a bad one enters the chain with cause TIER. A good one without space waits while another is demoted. -/
def State.readBack (st : State) (e s base : Nat) (holders : List Nat) : State :=
  match st.part.shard e s with
  | none => st
  | some x => match x.tier with
    | none => st
    | some t =>
      if !t.written || x.held then st
      else
        let waits := if t.peer then st.part.takeMsg (tierDataFor t.place t.off) else none
        let data := match waits with
          | some ((_, .tierData _ d), _) => d
          | _ => x.got
        let p := match waits with
          | some (_, q) => q
          | none => st.part
        if data.isEmpty then
          let asked := p.host.reads.any fun r => r.kind == 8 && r.key == shardRef e s
          if t.peer then { st with part := p.control t.place (.tierAsk t.off t.data.length) }
          else if asked then st
          else
            let addr := (((mfind p.models.tiers t.place).map fun g => g.addr).getD 0) + t.off
            let r : HostRead := { kind := 8, sess := 64, key := shardRef e s, addr := addr, len := t.data.length }
            { st with part := { p with host := { p.host with reads := p.host.reads ++ [r] } } }
        else
          let n := data.length - 16
          let ok (pl : Bytes) : Bool := sha pl == bytesAt x.header 128 64
          match (Config.gcmOpen p.tierKey (data.take 12) [] (bytesAt data 12 (n - 12)) (data.drop n)).filter ok with
          | none => { st with part := (p.shardFail e s causeTier holders).regionsEmpty }
          | some plain => match p.takeSpace base plain.length with
            | none =>
              let lacks (u : State) : State := { u with part := u.part.spaceLacks t }
              let t : State := { st with part := p.modShard e s fun y => { y with got := data } }
              if p.roomFor plain.length || p.demoting then t
              else match p.demotable with
              | none => lacks t
              | some (e', s') => match t.demote e' s' none with
                | (u, true) => u
                | (u, false) => lacks u
            | some q =>
              let q := q.modShard e s fun y => { y with base := base, room := plain.length, held := true, got := [] }
              { st with part := (q.dropTier e s).regionsEmpty, mem := memWriteN st.mem base plain }

/-! ### Tier regions (R273) -/

/-- TIER_ADD. -/
def Part.tierAdd (p : Part) (i : Nat) (k : Bytes) : Part :=
  let total := sumNat (p.models.tiers.map fun g => g.2.len)
  match (List.range 16).find? fun r => (mfind p.models.tiers r).isNone with
  | none => p.finish i stLenRange []
  | some r =>
    if 2 ^ 36 < total + par k 8 8 then p.finish i stLenRange []
    else
      let g : TierRegion := { addr := par k 0 8, len := par k 8 8, closed := false }
      { p with models := { p.models with tiers := minsert p.models.tiers r g } }.finish i stOk (padTo 16 [BitVec.ofNat 8 r])

/-- TIER_REMOVE: the region is closed, and the command completes when its last shard is back (`regionsEmpty`), or with NO_SPACE
(`spaceLacks`). DESIGN CHOICE (log entry 180): a region that is being removed is BUSY. -/
def Part.tierRemove (p : Part) (i : Nat) (k : Bytes) : Part :=
  let r := par k 0 1
  match mfind p.models.tiers r with
  | none => p.finish i stBadParam []
  | some g =>
    if g.closed then p.finish i stBusy []
    else
      ({ p with models := { p.models with tiers := minsert p.models.tiers r { g with closed := true } } }.startA i r).regionsEmpty

/-! ### Grammars (R221, R222, R274) -/

/-- VOCAB of a grammar image. -/
def gVocab (b : Bytes) : Nat := fld b 4 4
/-- STATES. -/
def gStates (b : Bytes) : Nat := fld b 8 4
/-- MASKS. -/
def gMasks (b : Bytes) : Nat := fld b 12 2
/-- TRANS. -/
def gTrans (b : Bytes) : Nat := fld b 16 4
/-- The bytes of a mask. -/
def gMaskBytes (b : Bytes) : Nat := cdiv (gVocab b) 512 * 64
/-- The state entry of a state. -/
def gState (b : Bytes) (g : Nat) : Bytes := bytesAt b (128 + 16 * g) 16
/-- The offset of the mask table. -/
def gMaskOff (b : Bytes) : Nat := 128 + 16 * gStates b
/-- A transition: token, next state. -/
def gTran (b : Bytes) (i : Nat) : Bytes := bytesAt b (gMaskOff b + gMasks b * gMaskBytes b + 8 * i) 8

/-- The transitions of a state. -/
def gTransOf (b : Bytes) (g : Nat) : List Bytes := (List.range (fld (gState b g) 8 4)).map fun i => gTran b (fld (gState b g) 4 4 + i)

/-- Tokens ascend strictly. -/
def ascends : List Nat → Bool
  | [] => true
  | [_] => true
  | x :: y :: r => decide (x < y) && ascends (y :: r)

/-- A state entry is well formed, its transitions lie within TRANS and ascend. -/
def gStateOk (b : Bytes) (g : Nat) : Bool :=
  let e := gState b g
  decide (fld e 0 2 < gMasks b ∧ fld e 2 1 < 2 ∧ fld e 12 2 < gStates b ∧ fld e 4 4 + fld e 8 4 ≤ gTrans b) && zeros e 3 1 &&
  zeros e 14 2 && ascends ((gTransOf b g).map fun t => fld t 0 4)

/-- A transition is well formed: its token and its next state are in range. -/
def gTranOk (b : Bytes) (i : Nat) : Bool :=
  decide (fld (gTran b i) 0 4 < gVocab b ∧ fld (gTran b i) 4 2 < gStates b) && zeros (gTran b i) 6 2

/-- The first failure of a grammar image (R222): ranges give LEN_RANGE, everything else BAD_PARAM. -/
def grammarFail (b : Bytes) : Option Nat :=
  let size := gMaskOff b + gMasks b * gMaskBytes b + 8 * gTrans b
  let states := List.range (gStates b)
  firstFail [
    (decide (1 ≤ gVocab b ∧ gVocab b ≤ 262144 ∧ 1 ≤ gStates b ∧ gStates b ≤ 65536 ∧ 1 ≤ gMasks b ∧ gMasks b ≤ 1920 ∧ gTrans b ≤ 4194304),
      stLenRange),
    (b.length == size, stLenRange),
    (states.all fun g => decide (fld (gState b g) 8 4 ≤ gVocab b), stLenRange),
    (fld b 0 2 == 1 && zeros b 2 2 && zeros b 14 2 && zeros b 20 44, stBadParam),
    (states.all (gStateOk b), stBadParam), ((List.range (gTrans b)).all (gTranOk b), stBadParam), (sha (b.drop 128) == bytesAt b 64 64, stBadParam)]

/-- GRAMMAR_LOAD: the image is read from host memory. -/
def Part.grammarLoad (p : Part) (i : Nat) (k : Bytes) : Part :=
  let g := par k 0 1
  if (p.gram g).pins ≠ 0 ∨ (p.gram g).st = 1 then p.finish i stBusy []
  else
    let r : HostRead := { kind := 5, sess := i, key := g, addr := par k 8 8, len := par k 4 4 }
    let v : Grammar := { p.gram g with st := 1, bytes := par k 4 4, sess := i, seq := (p.ses i).serial, scrubbing := false }
    { (p.setGram g v).startA i g with host := { p.host with reads := p.host.reads ++ [r] } }

/-- The stripe of a grammar slot is free again. -/
def Part.freeGram (p : Part) (g : Nat) : Part :=
  let v := p.gram g
  let p := if v.image.isEmpty then p else p.setStripe v.addr .free
  p.setGram g Grammar.reset

/-- The image has been read: it is checked, stored in a weight stripe, and the command completes. A load over an earlier image drops
that image. -/
def Part.grammarImage (p : Part) (g : Nat) (b : Bytes) : Part :=
  let v := p.gram g
  if v.st ≠ 1 then p
  else
    let p := p.freeGram g
    match grammarFail b with
    | some st => p.completeA v.sess v.seq st []
    | none => match p.takeStripe with
      | none => p.completeA v.sess v.seq stNoSpace []
      | some (n, q) =>
        (q.setGram g { Grammar.reset with st := 2, image := b, addr := n, bytes := b.length, scrubAt := p.now }).completeA v.sess v.seq stOk []

/-- GRAMMAR_UNLOAD. -/
def Part.grammarUnload (p : Part) (i : Nat) (k : Bytes) : Part :=
  let g := par k 0 1
  let v := p.gram g
  if v.st = 0 then p.finish i stAlreadyDone []
  else if v.pins ≠ 0 ∨ v.st = 1 then p.finish i stBusy []
  else (p.freeGram g).finish i stOk []

/-! ### The commands -/

/-- SHARD_STAGE_START (R155). -/
def execShardStageStart (base : Nat) (lender : Option (Nat × Nat)) (s : State) : Out :=
  s.liveMem 1 true fun t => t.needWsd (!t.part.models.queue.isEmpty) fun u => u.stageStart base lender

/-- TIER_COPY_COMPLETE (R162). -/
def execTierCopyComplete (e sh : Nat) (s : State) : Out := s.live 1 (refOk e sh) fun p => p.tierWritten e sh

/-- TIER_READBACK_COMPLETE (R162). -/
def execTierReadbackComplete (e sh base : Nat) (holders : List Nat) (s : State) : Out :=
  s.liveMem 1 (refOk e sh) fun t => t.needWsd ((t.part.shard e sh).any fun x => x.tier.isSome) fun u => u.readBack e sh base holders

/-- TIER_ADD (R273). -/
def execTierAdd (i : Nat) (s : State) : Out := s.cmd i 0x26 fun k p => p.tierAdd i k

/-- TIER_REMOVE (R273). -/
def execTierRemove (i : Nat) (s : State) : Out := s.cmd i 0x27 fun k p => p.tierRemove i k

/-- GRAMMAR_LOAD (R222). -/
def execGrammarLoad (i : Nat) (s : State) : Out := s.cmd i 0x48 fun k p => p.grammarLoad i k

/-- GRAMMAR_UNLOAD (R274). -/
def execGrammarUnload (i : Nat) (s : State) : Out := s.cmd i 0x49 fun k p => p.grammarUnload i k

end Sys2Proof.Machine
end

