-- ==== Sys2Proof/Machine/Kv.lean ====
section
/-! DEFINITION. Kv: the rows of the page unit, the patrol scrub and page rebuilds, and the host's KV commands (R175, R183, R184, R191 to
R195, R275, R276, R449). -/
namespace Sys2Proof.Machine

/-! ### Page operations by die message (R175, R183, R285) -/

/-- The unit at whose head a page operation for a slot waits: the slot unit, or the page unit for the operations of R183. -/
def Part.pageUnit (p : Part) (cxd s op : Nat) : Nat := if (p.headCmd (8 + cxd) s op).isNone && decide (op < 0xC3) then 0x4001 else s

/-- The next message of a slot unit or of the page unit, when it is the page operation asked for and may be taken: an operation that changes
the epoch waits 2 µs after the last change (R285). A message whose slot is no longer assigned under its epoch goes back (R175). -/
def Part.slotCmd (p : Part) (cxd s op : Nat) (f : DieMsg → Part → Part) : Part :=
  let u := p.pageUnit cxd s op
  match p.headCmd (8 + cxd) u op with
  | none => p
  | some m =>
    let v := p.kvSlot s
    let q := p.popInbox (8 + cxd) u
    if (op == 0xC3 || op == 0xC4) && p.epochSoon cxd s then p
    else if op = 0xC3 then f m q
    else if !v.assigned || v.home != cxd || (u == s && m.epoch != p.slotEpoch cxd s) then q.slotStale cxd s m
    else f m q

/-- An operation that a die message asks for. -/
def msgOp (o : PageOp) (m : DieMsg) : WaitingOp := { op := o, msg := some m, sess := 64, seq := 0 }

/-- SLOT_ASSIGN (R175): a slot that is assigned already is in use. -/
def Part.slotAssign (p : Part) (cxd s shape : Nat) (m : DieMsg) : Part :=
  if (p.kvSlot s).assigned then p.answer (8 + cxd) m (p.slotEpoch cxd s) stNoSlot []
  else
    let q := p.assignSlot s cxd shape
    q.answer (8 + cxd) m (q.slotEpoch cxd s) stOk []

/-- PAGE_COPY_COMPLETE (R183): the copy is made; a fork's target takes the page, a truncated slot takes it as its last. -/
def State.copyComplete (st : State) (s : Nat) : State :=
  let p := st.part
  match takeFirst (fun c : PageCopy => c.slot == s) p.kv.copies with
  | none => st
  | some (c, rest) =>
    if p.now < c.done ∨ (p.kvSlot s).rebuild.any (fun i => (p.kvSlot s).pages[i]? == some c.src) then st
    else
      let pb := p.slotPage s
      let mem := memWriteN st.kvmem (pageAddr c.cxd pb c.dst) (memReadN st.kvmem (pageAddr c.cxd pb c.src) pb)
      let q : Part := { p with kv := { p.kv with copies := rest } }
      match c.op.op with
      | .fork t n =>
        let v := q.kvSlot t
        { st with part := (q.setKvSlot t { v.withPages (v.pages ++ [c.dst]) with len := n }).opDone s c.op stOk, kvmem := mem }
      | .truncate n =>
        let v := q.kvSlot s
        let q := q.setKvSlot s (v.withPages (setNth v.pages (cdiv n 64 - 1) c.dst))
        { st with part := (q.cutPages s n).opDone s c.op stOk, kvmem := mem }
      | _ => { st with part := q }

/-! ### The patrol scrub (R191 to R195) -/

/-- A stack error record to the sessions with NOTICE_MASK bit 1. -/
def Part.stackRecord (p : Part) (k owner outcome model version shard slot page addr : Nat) : Part :=
  let body := leBytes 1 k ++ leBytes 1 owner ++ leBytes 1 outcome ++ [0] ++ leBytes 4 model ++ leBytes 2 version ++ leBytes 2 shard ++
    leBytes 2 slot ++ leBytes 2 page ++ leBytes 8 addr ++ leBytes 8 p.now
  p.toMasked 1 (freeReply 3 body) allSessions

/-- The page table of a slot has lost both copies: its sequence ends (R193, R220). -/
def Part.tableLost (p : Part) (s : Nat) : Part :=
  match mfind p.serv.heldSlots s with
  | some h =>
    let q : Part := { p with serv := { p.serv with heldSlots := merase p.serv.heldSlots s } }
    (q.unpin h.ver).pageOp s (ownOp .release)
  | none => p.endAll 8 fun x r => x == s || r.companion == some s

/-- The holders of a page with its index in their tables, by slot. -/
def Part.holders (p : Part) (cxd : Nat) (g : Page) : List (Nat × Nat) :=
  ((p.kv.slots.filter fun x => x.2.assigned && x.2.home == cxd).map fun x => (x.1, x.2.pages.findIdx fun y => y == g)).filter fun x =>
    decide (x.2 < (p.kvSlot x.1).pages.length)

/-- Whose data a block of a stack holds (R193): a shard, a grammar's image, journal records of a source part, stripes lent to a peer, a copy of
a slot's page table, a page, or nothing. -/
inductive BlockOwner where
  | shard (e s : Nat)
  | grammar (g : Nat)
  | journal (part : Nat)
  | lent
  | table (copyB : Bool) (slot half : Nat)
  | page (g : Page)
  | free
deriving DecidableEq, Repr

/-- Whose data weight stripe `n` holds at control-space address `a`. -/
def Part.stripeOwner (p : Part) (n a : Nat) : BlockOwner :=
  let shards := p.models.table.flatMap fun v => (v.2.shards.filter fun x => x.2.covers a).map fun x => (v.1, x.1)
  match shards with
  | (e, s) :: _ => .shard e s
  | [] => match p.models.grammars.find? fun g => !g.2.image.isEmpty && g.2.addr == n with
    | some g => .grammar g.1
    | none => match p.jrn.sources.find? fun v => v.stripes.contains n with
      | some v => .journal v.part
      | none => .lent

/-- Whose data the block at an address of stack `k` is (R178, R180, R193). -/
def Part.blockOwner (p : Part) (k addr : Nat) : BlockOwner :=
  let cxd := k / 8
  let n := addr / stackSlab
  if usableSlabs ≤ n then
    let (b, s, h) := tableBlock k addr
    .table b s h
  else match p.slab cxd n with
    | .free => .free
    | .weight => p.stripeOwner n (stripeAddr n + stripeOffset k addr)
    | .kv pb =>
      let g : Page := ⟨n, slabOffset k addr / pb⟩
      if (p.holders cxd g).isEmpty then .free else .page g

/-- A corrected read (R191): counted, and by the patrol among its corrections. -/
def Part.readCorrected (p : Part) (k : Nat) (patrol : Bool) : Part :=
  let p := p.bump (aStackStatus (8 + k / 8) (k % 8)) 16 32 1
  if patrol then p.bump (aPatrol (8 + k / 8)) 16 32 1 else p

/-- OWNER of a stack error record (R195). -/
def BlockOwner.code (o : BlockOwner) : Nat :=
  match o with
  | .table _ _ _ => 1
  | .page _ => 2
  | .free => 3
  | _ => 0

/-- An uncorrectable read of stack `k` (R191, R193): the address and owner are recorded and reported (R195), and the owner's outcome follows.
`other` says that the other copy of a page-table block is lost too; `hit` is the request whose journal records lie there. A shard enters
the chain, while it is staged too; a grammar image becomes unusable as after a scrub mismatch (R222). -/
def Part.readLost (p : Part) (k addr : Nat) (other : Bool) (hit : Nat) (holders : List Nat) : Part :=
  let cxd := k / 8
  let o := p.blockOwner k addr
  let p := p.bump (aStackStatus (8 + cxd) (k % 8)) 48 16 1
  let p := p.setStack k { p.stack k with ueAddr := addr, ueOwner := o.code }
  match o with
  | .shard e s => match p.ver e with
    | none => p
    | some v => (p.stackRecord k 0 0 v.model v.version s 0 0 addr).shardFail e s causeStackUe holders
  | .grammar g =>
    let p := p.stackRecord k 0 4 0 0 0 0 0 addr
    p.setGram g { p.gram g with st := 3, scrubbing := false }
  | .journal part =>
    let p := p.stackRecord k 0 4 0 0 0 0 0 addr
    let mark (v : JSrc) : JSrc := { v with reqs := v.reqs.map fun r => if r.id = hit then { r with lost := true } else r }
    { p with jrn := { p.jrn with sources := p.jrn.sources.map fun v => if v.part = part then mark v else v } }
  | .lent => p.stackRecord k 0 4 0 0 0 0 0 addr
  | .table b s h =>
    if !(p.kvSlot s).assigned || (p.kvSlot s).home != cxd then p.stackRecord k 1 1 0 0 0 s 0 addr
    else if other then (p.stackRecord k 1 3 0 0 0 s 0 addr).tableLost s
    else (p.stackRecord k 1 1 0 0 0 s 0 addr).setKvSlot s ((p.kvSlot s).rewriteBlock b h)
  | .page g =>
    let hs := p.holders cxd g
    let low := (hs.head?).getD (0, 0)
    let q := p.stackRecord k 2 2 0 0 0 low.1 low.2 addr
    hs.foldl (fun q h => q.setKvSlot h.1 { q.kvSlot h.1 with rebuild := (q.kvSlot h.1).rebuild.filter (· != h.2) ++ [h.2] }) q
  | .free => p.stackRecord k 3 4 0 0 0 0 0 addr

/-- PATROL_READ (R191 to R193): a read of a 64-byte location of stack `k`, by the patrol, or with `demand` by another unit; `kind` 0 finds no
error, 1 a corrected one, 2 an uncorrectable one. What the unit behind a failed read waits for is the owner's repair: the shard's chain, or the
page's rebuild. `last` ends a pass of the patrol. -/
def Part.patrolRead (p : Part) (k addr kind : Nat) (demand other : Bool) (hit : Nat) (last : Bool) (holders : List Nat) : Part :=
  let p := if kind = 0 then p else if kind = 1 then p.readCorrected k (!demand) else p.readLost k addr other hit holders
  if last && !demand then
    { p with kv := { p.kv with passes := mset 0 p.kv.passes (k / 8) ((mget 0 p.kv.passes (k / 8) + 1) % 65536) } }
  else p

/-- PAGE_REBUILD_COMPLETE (R193): prefill over a lost page has run again; `data` are the rebuilt bytes in a new frame, which every holder takes
at its step boundary. Without a free frame the rebuild goes on waiting. -/
def State.rebuilt (st : State) (s i : Nat) (data : Bytes) : State :=
  let p := st.part
  let v := p.kvSlot s
  match v.pages[i]?, p.takeFrame v.home (p.slotPage s) with
  | some g, some (d, q) =>
    if !v.rebuild.contains i then st
    else
      let pb := p.slotPage s
      let q := (p.holders v.home g).foldl (fun q h => q.replacePage h.1 (ownOp (.replace h.2 d))) q
      { st with part := q, kvmem := memWriteN st.kvmem (pageAddr v.home pb d) (data.take pb) }
  | _, _ => st

/-! ### Host commands (R275, R276) -/

/-- MAX_SEQ of the certificate in force (R447). -/
def Part.maxSeq (p : Part) : Nat := fld p.sec.cert 90 2

/-- Slots assigned on the part. -/
def Part.assignedSlots (p : Part) : Nat := (p.kv.slots.filter fun x => x.2.assigned).length

/-- `k` more slots keep within MAX_SEQ (R449). -/
def Part.slotsLeft (p : Part) (k : Nat) : Bool := decide (p.assignedSlots + k ≤ p.maxSeq)

/-- EPOCH_CHK holds for a slot (R276, R287). -/
def Part.epochOk (p : Part) (k : Bytes) (s : Nat) : Bool := !pkEpochChk k || pkEpoch k == p.slotEpoch (p.kvSlot s).home s

/-- The slot is a held slot of the session. -/
def Part.heldBy (p : Part) (i s : Nat) : Bool := (mfind p.serv.heldSlots s).any fun h => h.sess == i

/-- The slot holds a live request of the session in PREFILL or DECODE. -/
def Part.runsFor (p : Part) (i s : Nat) : Bool := (p.req s).any fun r => r.sess == i && (r.st == .prefill || r.st == .decode)

/-- A page operation for the host: it completes with the command's reply. -/
def hostOp (o : PageOp) (i : Nat) (k : Bytes) : WaitingOp := { op := o, msg := none, sess := i, seq := pkSeq k }

/-- A command whose page operation waits for a step boundary is not run a second time. -/
def Part.opWaits (p : Part) (i s : Nat) : Bool :=
  (p.kvSlot s).ops.any (fun w => w.sess == i) || p.kv.copies.any fun c => c.op.sess == i

/-- KV_FORK: the fork applies under R183 and R184 and makes a held slot. -/
def Part.kvFork (p : Part) (i : Nat) (k : Bytes) : Part :=
  let s := par k 0 2
  if p.opWaits i s then p
  else if !p.epochOk k s then p.finish i stStaleRole []
  else if !(p.runsFor i s || p.heldBy i s) then p.finish i stBadParam []
  else if !p.slotsLeft 1 then p.finish i stNoSlot []
  else p.pageOp s (hostOp (.fork 16384 (par k 4 4)) i k)

/-- KV_TRUNCATE. -/
def Part.kvTruncate (p : Part) (i : Nat) (k : Bytes) : Part :=
  let s := par k 0 2
  if p.opWaits i s then p
  else if !p.epochOk k s then p.finish i stStaleRole []
  else if !p.heldBy i s then p.finish i stBadParam []
  else p.pageOp s (hostOp (.truncate (par k 4 4)) i k)

/-- KV_RELEASE. -/
def Part.kvRelease (p : Part) (i : Nat) (k : Bytes) : Part :=
  let s := par k 0 2
  if p.opWaits i s then p
  else if !p.epochOk k s then p.finish i stStaleRole []
  else if !p.heldBy i s then p.finish i stBadParam []
  else p.pageOp s (hostOp .release i k)

/-- CXD.KV_SEQ of a slot on a context die. -/
def Part.kvSeq (p : Part) (cxd s : Nat) : Word64 :=
  let v := p.kvSlot s
  let on := v.assigned && v.home == cxd
  packBits [(0, 1, bit on), (16, 16, p.slotEpoch cxd s), (32, 18, if on then v.len else 0), (50, 12, if on then v.pages.length else 0)]

/-- KV_QUERY. -/
def Part.kvQuery (p : Part) (i : Nat) (k : Bytes) : Part :=
  let s := par k 0 2
  if !p.epochOk k s then p.finish i stStaleRole []
  else if !p.heldBy i s then p.finish i stBadParam []
  else p.finish i stOk (pad16 (wordBytes (p.kvSeq (p.kvSlot s).home s)))

/-! ### The commands -/

/-- PAGE_ALLOC (R183). -/
def execPageAlloc (cxd sl : Nat) (s : State) : Out :=
  s.live (11 + cxd) (slotOk cxd sl) fun p => p.slotCmd cxd sl 0xC0 fun m q => q.pageOp sl (msgOp .alloc m)

/-- PAGE_FORK (R183): the target slot and the positions. -/
def execPageFork (cxd sl target n : Nat) (s : State) : Out :=
  s.live (11 + cxd) (slotOk cxd sl) fun p => p.slotCmd cxd sl 0xC1 fun m q => q.pageOp sl (msgOp (.fork target n) m)

/-- PAGE_TRUNCATE (R183). -/
def execPageTruncate (cxd sl n : Nat) (s : State) : Out :=
  s.live (11 + cxd) (slotOk cxd sl) fun p => p.slotCmd cxd sl 0xC2 fun m q => q.pageOp sl (msgOp (.truncate n) m)

/-- SLOT_ASSIGN (R175): for pages of a version's shape. -/
def execSlotAssign (cxd sl shape : Nat) (s : State) : Out :=
  s.live (11 + cxd) (slotOk cxd sl) fun p => p.slotCmd cxd sl 0xC3 fun m q => q.slotAssign cxd sl shape m

/-- SLOT_RELEASE (R175). -/
def execSlotRelease (cxd sl : Nat) (s : State) : Out :=
  s.live (11 + cxd) (slotOk cxd sl) fun p => p.slotCmd cxd sl 0xC4 fun m q => q.pageOp sl (msgOp .release m)

/-- PAGE_OP_APPLY (R184). -/
def execPageOpApply (sl : Nat) (s : State) : Out :=
  s.live (11 + (s.part.kvSlot sl).home) (decide (sl < 16384)) fun p => p.applyNext sl

/-- PAGE_COPY_COMPLETE (R183). -/
def execPageCopyComplete (sl : Nat) (s : State) : Out :=
  s.liveMem (11 + (s.part.kvSlot sl).home) (decide (sl < 16384)) fun t => t.copyComplete sl

/-- PATROL_READ (R192). -/
def execPatrolRead (k addr kind : Nat) (demand other : Bool) (hit : Nat) (last : Bool) (holders : List Nat) (s : State) : Out :=
  s.live (11 + k / 8) (decide (k < 32)) fun p => p.patrolRead k addr kind demand other hit last holders

/-- PAGE_REBUILD_COMPLETE (R193). -/
def execPageRebuildComplete (sl i : Nat) (data : Bytes) (s : State) : Out :=
  s.liveMem (11 + (s.part.kvSlot sl).home) (decide (sl < 16384)) fun t => t.rebuilt sl i data

/-- KV_FORK (R275). -/
def execKvFork (i : Nat) (s : State) : Out := s.cmd i 0x60 fun k p => p.kvFork i k

/-- KV_TRUNCATE (R276). -/
def execKvTruncate (i : Nat) (s : State) : Out := s.cmd i 0x61 fun k p => p.kvTruncate i k

/-- KV_RELEASE (R276). -/
def execKvRelease (i : Nat) (s : State) : Out := s.cmd i 0x62 fun k p => p.kvRelease i k

/-- KV_QUERY (R276). -/
def execKvQuery (i : Nat) (s : State) : Out := s.cmd i 0x63 fun k p => p.kvQuery i k

end Sys2Proof.Machine
end

