-- ==== Sys2Proof/Machine/Admit.lean ====
section
/-! DEFINITION. Admit: admission, its question to policy firmware, cancels, time limits and queries (R196 to R203, R231 to R233, R264 to
R267, R333, R353 to R357). -/
namespace Sys2Proof.Machine

/-! ### The packet (R196, R264, R265) -/

/-- AFLAGS.PREFIX. -/
def admitPrefix (k : Bytes) : Bool := (par k 43 1).testBit 2

/-- The held slot that PREFIX names, when it is one of the session. -/
def Part.prefixSlot (p : Part) (i : Nat) (k : Bytes) : Option HeldSlot :=
  if admitPrefix k then (mfind p.serv.heldSlots (par k 112 2)).filter fun h => h.sess == i else none

/-- Tokens of the shared leading part; 0 without one. -/
def Part.prefixLen (p : Part) (i : Nat) (k : Bytes) : Nat := ((p.prefixSlot i k).map fun h => h.tokens.length).getD 0

/-- The checks of the fields in table order (R196, R264); PROMPT_LEN counts shared leading tokens (R265). -/
def Part.admitFieldFail (p : Part) (i : Nat) (k : Bytes) : Option Nat :=
  let len := p.prefixLen i k + par k 16 4
  let stops := par k 48 1
  firstFail [((p.reqOf (par k 0 4)).isNone, stBadParam),
    (par k 4 4 != 0 && par k 4 4 != 0xFFFFFFFF, stBadParam), (par k 8 2 != 0xFFFF, stBadParam), (par k 10 2 != 0xFFFF, stBadParam),
    (par k 12 4 != 0xFFFFFFFF, stBadParam), (par k 16 4 != 0 && decide (len ≤ 131071), stLenRange),
    (par k 20 4 == 0xFFFFFFFF || decide (par k 20 4 ≤ 131072 - len), stLenRange), (bf16NonNeg (par k 36 2), stBadParam),
    (decide (par k 38 2 ≤ 1024), stLenRange), (decide (par k 46 2 ≤ 4096), stLenRange), (decide (stops ≤ 8), stLenRange),
    (par k 12 4 == 0 || par k 49 1 != 0, stBadParam), (decide (par k 49 1 ≤ 16), stLenRange),
    (decide (par k 52 1 ≤ 7), stBadParam), (tokensOk k 64 stops && parZ k (64 + 4 * stops) (32 - 4 * stops), stBadParam),
    (par k 96 8 % 16 == 0, stBadParam), (par k 104 8 % 16 == 0, stBadParam),
    (!admitPrefix k || (p.prefixSlot i k).isSome, stBadParam)]

/-- Where the prompt lies in a packet whose lists are inline: after the allowed-token list. -/
def promptOff (k : Bytes) : Nat := 128 + 16 * cdiv (4 * par k 46 2) 16

/-- `n` token entries of a packet's parameters. -/
def tokensAt (k : Bytes) (off n : Nat) : List Nat := (List.range n).map fun j => par k (off + 4 * j) 4

/-- The AVAILABLE version that an admission binds: the one named, or with VERSION 0 the current one (R166). A slice that is being left
admits nothing to versions that span it (R322). -/
def Part.binds (p : Part) (model version : Nat) : Option Nat :=
  let e := if version = 0 then p.currentOf model else p.entryOf model version
  e.filter fun e => (p.ver e).any fun v => v.st == .available && match v.graph.bind fun g => g.span with
    | none => true
    | some id => (p.sliceRec id).all fun r => r.st != 3

/-- V of an entry (R197). -/
def Part.vocabOf (p : Part) (e : Nat) : Nat := (((p.ver e).bind fun v => v.graph).map fun g => g.vocab).getD 0

/-- The checks of the lists (R197): each identifier has bits [31:18] zero and is below V of the version to be bound. -/
def Part.admitListFail (p : Part) (k : Bytes) : Option Nat :=
  let v := ((p.binds (par k 4 4) (par k 8 2)).map p.vocabOf).getD (2 ^ 18)
  let ts := tokensAt k 64 (par k 48 1) ++ tokensAt k 128 (par k 46 2) ++ tokensAt k (promptOff k) (par k 16 4)
  if ts.all fun t => decide (t < 2 ^ 18) && decide (t < v) then none else some stBadParam

/-! ### Acknowledgement and rejection (R199, R202, R203, R266) -/

/-- Cancels that wait for an admission that is rejected (R267). -/
def Part.cancelsDone (p : Part) (r : Req) : Part :=
  r.cancels.foldl (fun q c => (q.bump aSrvCnt 48 16 1).finish c.1 stAlreadyDone []) p

/-- The admission is rejected after step 2: what the earlier steps took goes back before the reply, a held slot to its session. -/
def Part.admitReject (p : Part) (s status : Nat) : Part :=
  match p.req s with
  | none => p
  | some r =>
    let p : Part := { p with serv := { p.serv with reqs := merase p.serv.reqs s, order := p.serv.order.filter (· != s) } }
    let p := if r.prefix_ then
        let h : HeldSlot := { sess := r.sess, ver := r.ver, tokens := r.tokens.take (r.tokens.length - fld r.params 16 4) }
        { p with serv := { p.serv with heldSlots := minsert p.serv.heldSlots s h } }
      else (p.pageOp s (ownOp .release)).unpin r.ver
    let p := match r.draft with
      | none => p
      | some d => p.unpin d
    let p := match r.companion with
      | none => p
      | some c => p.pageOp c (ownOp .release)
    let p := match r.gram with
      | none => p
      | some g => p.setGram g { p.gram g with pins := (p.gram g).pins - 1 }
    (p.completeA r.sess r.cmd status []).cancelsDone r

/-- The body of the ADMIT reply (R266). -/
def Part.admitBody (p : Part) (s : Nat) (r : Req) : Bytes :=
  let home := (p.kvSlot s).home
  let ver (e : Nat) : Nat := ((p.ver e).map fun v => v.version).getD 0
  leBytes 2 s ++ leBytes 2 (p.slotEpoch home s) ++ leBytes 2 (ver r.ver) ++ leBytes 2 ((r.draft.map ver).getD 0) ++ leBytes 1 home ++ [0] ++
  leBytes 2 (r.companion.getD 0xFFFF) ++ leBytes 4 (p.vocabOf r.ver) ++ leBytes 8 r.admitAt ++ zpad 8

/-- Step 7 of R199: the acknowledgement; the request is WAITING, and cancels that waited for it end it (R231, R267). -/
def Part.admitAck (p : Part) (s : Nat) : Part :=
  match p.req s with
  | none => p
  | some r =>
    let p := (p.setReq s { r with st := .waiting, stage := .done }).completeA r.sess r.cmd stOk (p.admitBody s r)
    if r.cancels.isEmpty then p else p.endRequest s 5

/-- Step 6 of R199: with a partner the ADMIT record goes out first; without one the request is unprotected (R333). A lost partner and a
resync in progress reject the admission (R337, R338). -/
def Part.admitJournal (p : Part) (s : Nat) : Part :=
  match p.req s with
  | none => p
  | some r => match p.jrn.partner with
    | none => (p.bump aJrnCnt 48 16 1).admitAck s
    | some d =>
      if p.jrn.lost || p.jrn.set.any (fun x => x.answered) then (p.bump aJrnCnt 32 16 1).admitReject s stNoPartner
      else (p.setReq s { r with stage := .journaling }).journalSend d 1 r.id (p.admitRecord r)

/-! ### The question to policy firmware (R355 to R357) -/

/-- An ask that no answer decides follows TIMEOUT_ADMIT (R356). -/
def Part.askLate (p : Part) (s : Nat) : Part :=
  let p := p.bump aPolCnt 0 32 1
  if p.regFld aPolCfg 8 1 = 1 then p.admitJournal s else p.admitReject s stPolicyReject

/-- The policy core that receives an ask: of those in ASK_MASK the lowest CORE_PRIO, then the lowest number. -/
def Part.askTarget (p : Part) : Option Nat :=
  ((List.range 8).filter fun k => (p.regFld aPolCfg 0 8).testBit k).foldl (fun best k => match best with
    | none => some (16 + k)
    | some b => if (p.core (16 + k)).prio < (p.core b).prio then some (16 + k) else some b) none

/-- The 64 bytes of an ADMIT_ASK. -/
def Part.askBytes (p : Part) (s : Nat) (r : Req) : Bytes :=
  [1] ++ leBytes 1 (fld r.params 52 1) ++ leBytes 2 s ++ leBytes 4 r.id ++ leBytes 4 r.model ++
  leBytes 2 (((p.ver r.ver).map fun v => v.version).getD 0) ++ leBytes 2 r.askId ++ leBytes 4 r.prompt ++ leBytes 4 (fld r.params 20 4) ++
  leBytes 4 r.ttftTarget ++ leBytes 4 r.tbtTarget ++ leBytes 8 r.admitAt ++ leBytes 2 r.sess ++ zpad 22

/-- Eight words of a message. -/
def messageWords (b : Bytes) : List Word64 := (List.range 8).map fun j => BitVec.ofNat 64 (fld b (8 * j) 8)

/-- The bytes of a message. -/
def messageBytes (l : List Word64) : Bytes := l.flatMap wordBytes

/-- Step 5 of R199: control core 0 asks; without policy firmware the step is skipped (R352). With no core in ASK_MASK nothing can be
sent, as when the send is refused. -/
def Part.admitAsk (p : Part) (s : Nat) : Part :=
  let p : Part := { p with ctl := { p.ctl with ranks := mset 0x8000 p.ctl.ranks s 0x8000 } }
  match p.req s with
  | none => p
  | some r =>
    if !p.ctl.loaded then p.admitJournal s
    else match p.askTarget with
    | none => p.askLate s
    | some c =>
      if 64 ≤ (p.core c).mbox.length then p.askLate s
      else
        let r : Req := { r with stage := .asking, askId := p.ctl.askId, askAt := p.now }
        let m : MboxMsg := { src := 0, words := messageWords (p.askBytes s r) }
        let p := (p.setReq s r).setCore c { p.core c with mbox := (p.core c).mbox ++ [m] }
        { p with ctl := { p.ctl with askId := (p.ctl.askId + 1) % 65536 } }.event (240 + c) []

/-- ADMIT_TIMEOUT in ns; 0 acts as 20 µs. -/
def Part.askLimit (p : Part) : Nat := 1000 * (if p.regFld aPolCfg 32 16 = 0 then 20 else p.regFld aPolCfg 32 16)

/-- An ADMIT_ANSWER reaches the asking core (R355, R356): the ask that it matches is decided; any other is discarded. -/
def Part.admitAnswer (p : Part) (b : Bytes) : Part :=
  let s := fld b 2 2
  match p.req s with
  | none => p.bump aPolCnt 32 16 1
  | some r =>
    if r.st = .admitting ∧ r.stage = .asking ∧ r.id = fld b 4 4 ∧ r.askId = fld b 14 2 ∧ p.now ≤ r.askAt + p.askLimit then
      if fld b 1 1 = 0 then
        { p with ctl := { p.ctl with ranks := mset 0x8000 p.ctl.ranks s (fld b 8 2) } }.admitJournal s
      else p.admitReject s stPolicyReject
    else p.bump aPolCnt 32 16 1

/-- A message that a policy core has sent to the asking core may be an answer (R355). -/
def Part.mailArrived (p : Part) (dest : Nat) (m : MboxMsg) : Part :=
  let b := messageBytes m.words
  if dest = 0 ∧ 16 ≤ m.src ∧ fld b 0 1 = 2 then p.admitAnswer b else p

/-- MBOX_SEND (R353): the send, and the answer that it may carry. -/
def Part.sendMail (p : Part) (c dest : Nat) : Part :=
  let m : MboxMsg := { src := c, words := (p.core c).staged }
  let p := p.mboxSend c dest
  if (p.core c).last = 0 then p.mailArrived dest m else p

/-- MBOX_POP (R354): the pop, and the answer in a message that it lets in. -/
def Part.popMail (p : Part) (c : Nat) : Part :=
  match p.mboxPop c with
  | (q, none) => q
  | (q, some m) => q.mailArrived c m

/-- ADMIT_ASK_TIMEOUT (R356). -/
def Part.askTimeout (p : Part) (s : Nat) : Part :=
  match p.req s with
  | none => p
  | some r => if r.st = .admitting ∧ r.stage = .asking ∧ r.askAt + p.askLimit < p.now then p.askLate s else p

/-! ### Binding (R199 to R201) -/

/-- The request that an admission makes, at its admission instant. -/
def Part.newReq (p : Part) (i : Nat) (k : Bytes) (e : Nat) (d : Option Nat) (seed : Word64) : Req :=
  let pre := ((p.prefixSlot i k).map fun h => h.tokens).getD []
  let prompt := pre ++ tokensAt k (promptOff k) (par k 16 4)
  { id := par k 0 4, sess := i, tag := pkTag k, seq := pkSeq k, cmd := (p.ses i).serial, st := .admitting, stage := .asking, params := bytesAt k 16 128, ver := e,
    draft := d, companion := none, prefix_ := admitPrefix k, tokens := prompt, prompt := prompt.length,
    allowed := tokensAt k 128 (par k 46 2), seed := seed, gram := none, gramState := par k 44 2,
    draftLen := if d.isSome then par k 49 1 else 0, noAccept := 0, cohort := p.serv.cohorts % 2, admitAt := p.now, lastCommit := p.now,
    measured := false, ttft := 0, tbtMisses := 0, maxTbt := 0,
    limitNs := if par k 32 4 = 0 then none else some (p.now + 1000000 * par k 32 4), finalDone := false, heldFlag := false,
    refill := false, refillFlag := false, done := pre.length, total := prompt.length, run := none, recs := [], cancels := [], cancelEnd := 0,
    end_ := 0, finalSent := false, isProtected := p.jrn.partner.isSome, askId := 0, askAt := 0, before := 0 }

/-- The grammar of an admission is not resident, or is for another vocabulary, or has no such start state (R196). -/
def Part.grammarBad (p : Part) (k : Bytes) (e : Nat) : Bool :=
  let g := p.gram (par k 42 1)
  (par k 43 1).testBit 1 && !(g.st == 2 && gVocab g.image == p.vocabOf e && decide (par k 44 2 < gStates g.image))

/-- Slots and home of a request (R173, R199): the main slot and, with a draft version, a companion on the same home; none when they are
not free. -/
def Part.takeSlots (p : Part) (i : Nat) (k : Bytes) (e : Nat) (d : Option Nat) : Option (Nat × Option Nat × Part) :=
  let held := (p.prefixSlot i k).isSome
  if !p.slotsLeft (bit (!held) + bit d.isSome) then none
  else match if held then some (par k 112 2) else p.freeSlot [] with
  | none => none
  | some s =>
    let home := if held then (p.kvSlot s).home else p.homeFor (p.verPage e)
    let q := if held then p else p.assignSlot s home e
    match d with
    | none => some (s, none, q)
    | some x => match q.freeSlot [s] with
      | none => none
      | some c => some (s, some c, q.assignSlot c home x)

/-- Steps 2 to 5 of R199 on versions that can be bound: from here on the command has started (R200, R244). -/
def Part.admitBound (p : Part) (i : Nat) (k : Bytes) (e : Nat) (d : Option Nat) : Part :=
  let (w, p) := if (par k 43 1).testBit 0 then (BitVec.ofNat 64 (par k 56 8), p) else p.free
  let p := p.startA i (par k 0 4)
  let r := p.newReq i k e d w
  if p.grammarBad k e then p.completeA i r.cmd stBadParam []
  else match p.takeSlots i k e d with
  | none => p.completeA i r.cmd stNoSlot []
  | some (s, c, p) =>
    let p := if r.prefix_ then { p with serv := { p.serv with heldSlots := merase p.serv.heldSlots s } } else p.pin e
    let p := match d with
      | none => p
      | some x => p.pin x
    let g := if r.grammarEn then some (par k 42 1) else none
    let p := match g with
      | none => p
      | some n => p.setGram n { p.gram n with pins := (p.gram n).pins + 1 }
    let p := p.setReq s { r with companion := c, gram := g }
    { p with serv := { p.serv with order := p.serv.order ++ [s], cohorts := p.serv.cohorts + 1 } }.admitAsk s

/-- ADMIT (R199): the lists in host memory are read first, then the checks and the binding. In part fault nothing is admitted (R331). -/
def Part.admitHere (p : Part) (i : Nat) (k : Bytes) : Part :=
  let read (kind off n : Nat) : List HostRead := [{ kind := kind, sess := i, key := 0, addr := par k off 8, len := 4 * n }]
  if p.host.reads.any fun r => (r.kind == 2 || r.kind == 3) && r.sess == i then p
  else match p.admitFieldFail i k with
  | some st => p.finish i st []
  | none =>
    let want := (if par k 96 8 = 0 then [] else read 2 96 (par k 16 4)) ++
      if par k 104 8 = 0 ∨ par k 46 2 = 0 then [] else read 3 104 (par k 46 2)
    if !want.isEmpty then { p with host := { p.host with reads := p.host.reads ++ want } }
    else match p.admitListFail k with
    | some st => p.finish i st []
    | none =>
      let d := if par k 12 4 = 0 then none else some (p.binds (par k 12 4) (par k 10 2))
      if p.faulted then p.finish i stNotReady []
      else if p.boot.noTake then p
      else match p.binds (par k 4 4) (par k 8 2), d with
      | none, _ => p.finish i stModelUnavailable []
      | some _, some none => p.finish i stModelUnavailable []
      | some e, d =>
        if admitPrefix k && !((p.prefixSlot i k).any fun h => h.ver == e) then p.finish i stBadParam []
        else p.admitBound i k e (d.bind id)

/-- A list of an ADMIT has been read from host memory: kind 2 the prompt, 3 the allowed-token list. It takes its place in the packet as if
it had come inline (R265), and with nothing left to read the admission goes on. -/
def Part.admitList (p : Part) (kind i : Nat) (data : Bytes) : Part :=
  match (p.ses i).cur with
  | none => p
  | some k =>
    if pkOp k ≠ 0x40 then p
    else
      let k := if kind = 2 then k.take 112 ++ zpad 8 ++ k.drop 120 ++ pad16 data
        else k.take 120 ++ zpad 8 ++ bytesAt k 128 16 ++ pad16 data ++ k.drop 144
      (p.modSes i fun s => { s with cur := some k }).admitHere i k

/-! ### Cancels and time limits (R231 to R233, R267) -/

/-- A cancel marker goes to unit 0x4002 of the home CXD with the slot's epoch; CTL keeps the slot with the command. -/
def Part.sendMark (p : Part) (s : Nat) : Part :=
  let home := (p.kvSlot s).home
  let die := 8 + home
  let tag := die * 65536 + 0x4002
  let seq := mget 0 p.d2d.txSeq (seqKey 0 die 0)
  let b := leBytes 1 0xC9 ++ [0] ++ leBytes 2 32 ++ leBytes 4 tag ++ leBytes 4 seq ++ zpad 4 ++ leBytes 2 s ++ leBytes 2 (p.slotEpoch home s) ++
    zpad 12
  let m : DieMsg :=
    { dst := die, cls := 0, src := 0, len := b.length, unit := 0x4002, epoch := 0, seq := 0, crClass := 0, crCount := 0, payload := b }
  let p : Part := { p with kv := { p.kv with marks := merase p.kv.marks s } }
  (p.issue { tag := tag, seq := seq, die := die, unit := s, opcode := 0xC9, start := p.now, sess := 64 }).send m

/-- A request is to end with a status: at once when no step of it is in flight, else at its next commit point. -/
def Part.stopRequest (p : Part) (s : Nat) (r : Req) (end_ : Nat) : Part :=
  if r.run.isNone then p.endRequest s end_
  else if r.cancelEnd = 0 then (p.setReq s { r with cancelEnd := end_ }).sendMark s
  else p

/-- A request that no longer can be cancelled answers ALREADY_DONE, counted (R231). -/
def Part.alreadyDone (p : Part) (i : Nat) : Part := (p.bump aSrvCnt 48 16 1).finish i stAlreadyDone []

/-- CANCEL (R231, R267): a cancel of an ADMITTING request waits for the outcome of the admission. -/
def Part.cancel (p : Part) (i : Nat) (k : Bytes) : Part :=
  if p.serv.reqs.any fun x => x.2.cancels.any fun c => c.1 == i then p
  else match p.reqOf (par k 0 4) with
  | none => p.alreadyDone i
  | some (s, r) =>
    if r.st = .ending then p.alreadyDone i
    else if !p.epochOk k s then p.finish i stStaleRole []
    else
      let r : Req := { r with cancels := r.cancels ++ [(i, 0)] }
      let p := p.setReq s r
      if r.st = .admitting then p else p.stopRequest s r 5

/-- A cancel marker has come back with STALE_ROLE: the cancels of the request that wait reply ALREADY_DONE (R231). -/
def Part.markStale (p : Part) (s : Nat) : Part :=
  match p.req s with
  | none => p
  | some r => r.cancels.foldl (fun q c => q.alreadyDone c.1) (p.setReq s { r with cancels := [] })

/-- CANCEL_MARK (R232): the marker reaches the sampling unit; its arrival is noted as a CXD cycle, unless the slot is not assigned under the
epoch it names. -/
def Part.cancelMark (p : Part) (cxd : Nat) : Part :=
  match p.headCmd (8 + cxd) 0x4002 0xC9 with
  | none => p
  | some m =>
    let q := p.popInbox (8 + cxd) 0x4002
    let s := fld m.payload 16 2
    let v := q.kvSlot s
    if !v.assigned || v.home != cxd || fld m.payload 18 2 != q.slotEpoch cxd s then
      q.giveBack (8 + cxd) m (q.slotEpoch cxd s) stStaleRole
    else { q with kv := { q.kv with marks := minsert q.kv.marks s (q.clk.cycles * 48 / 5) } }.answer (8 + cxd) m 0 stOk []

/-- TIME_LIMIT_EXPIRE (R233). -/
def Part.limitExpire (p : Part) (s : Nat) : Part :=
  match p.req s with
  | none => p
  | some r => match r.limitNs with
    | none => p
    | some t =>
      if r.st = .admitting ∨ r.st = .ending ∨ p.now ≤ t then p
      else
        let r : Req := { r with limitNs := none }
        (p.setReq s r).stopRequest s r 6

/-! ### Slot registers (R267) -/

/-- STATE of CTL.SRV_REQ. -/
def reqCode (s : ReqState) : Nat :=
  match s with
  | .admitting => 1
  | .waiting => 2
  | .prefill => 3
  | .decode => 4
  | .preempted => 5
  | .ending => 6

/-- CTL.SRV_REQ of a slot. -/
def Part.srvReq (p : Part) (s : Nat) : Word64 :=
  match p.req s with
  | none => 0
  | some r => packBits [(0, 32, r.id), (32, 3, reqCode r.st), (35, 2, (p.kvSlot s).home), (37, 5, r.draftLen), (42, 3, r.noAccept),
      (45, 1, r.cohort), (46, 18, r.committed)]

/-- CTL.SRV_REQ2 of a slot. -/
def Part.srvReq2 (p : Part) (s : Nat) : Word64 :=
  match p.req s with
  | none => 0
  | some r => packBits [(0, 32, us32 r.ttft), (32, 16, min r.tbtMisses 0xFFFF), (48, 16, min r.maxTbt 0xFFFF)]

/-- REQUEST_QUERY (R267). -/
def Part.requestQuery (p : Part) (i : Nat) (k : Bytes) : Part :=
  match p.reqOf (par k 0 4) with
  | none => p.finish i stAlreadyDone []
  | some (s, _) =>
    if !p.epochOk k s then p.finish i stStaleRole []
    else p.finish i stOk (wordBytes (p.srvReq s) ++ wordBytes (p.srvReq2 s))

/-! ### The commands -/

/-- ADMIT (R199). -/
def execAdmit (i : Nat) (s : State) : Out := s.cmd i 0x40 fun k p => p.admitHere i k

/-- MBOX_SEND (R353). -/
def execMboxSend (c dest : Nat) (s : State) : Out := s.live 1 (decide (c < 24)) fun p => p.sendMail c dest

/-- MBOX_POP (R354). -/
def execMboxPop (c : Nat) (s : State) : Out := s.live 1 (decide (c < 24)) fun p => p.popMail c

/-- ADMIT_ASK_TIMEOUT (R356). -/
def execAdmitAskTimeout (sl : Nat) (s : State) : Out := s.live 1 (decide (sl < 16384)) fun p => p.askTimeout sl

/-- CANCEL (R231). -/
def execCancel (i : Nat) (s : State) : Out := s.cmd i 0x41 fun k p => p.cancel i k

/-- CANCEL_MARK (R232). -/
def execCancelMark (cxd : Nat) (s : State) : Out := s.live (11 + cxd) (decide (cxd < 4)) fun p => p.cancelMark cxd

/-- TIME_LIMIT_EXPIRE (R233). -/
def execTimeLimitExpire (sl : Nat) (s : State) : Out := s.live 1 (decide (sl < 16384)) fun p => p.limitExpire sl

/-- REQUEST_QUERY (R267). -/
def execRequestQuery (i : Nat) (s : State) : Out := s.cmd i 0x42 fun k p => p.requestQuery i k

end Sys2Proof.Machine
end

