-- ==== Sys2Proof/Machine/Steps.lean ====
section
/-! DEFINITION. Steps: issuing steps, preemption, and which tiles run on the fallback arrays (R202 to R209, R212, R218, R219, R227, R230,
R392, R393). -/
namespace Sys2Proof.Machine

/-! ### What a step does to a sequence (R204, R209, R227) -/

/-- No step is in flight on a slot, and no page operation waits or copies: its next step may be issued (R184, R204). -/
def Part.atBoundary (p : Part) (s : Nat) : Bool :=
  let v := p.kvSlot s
  v.assigned && !v.inStep && v.ops.isEmpty && !p.copying s

/-- The draft count of the next decode step (R227). -/
def Req.draftCount (r : Req) : Nat :=
  if r.companion.isNone then 0 else min r.draftLen (min (r.remaining - 1) (131071 - r.tokens.length))

/-- The next step of a request is a decode step: it is in DECODE, or its re-prefill has covered the token record except the last token, so
that the step at that token samples (R219). -/
def Req.decodes (r : Req) : Bool := r.st == .decode || (r.refill && r.done == r.total)

/-- The class of a request's work (R213): prompt work until its first token, but re-prefill is generation work. -/
def Req.workClass (r : Req) : WorkClass := if r.refill || decide (0 < r.committed) then .generation else .prompt

/-- The step of a request that a batch item asks for: a decode step writes positions N − 1 to N − 1 + D (R209), a prefill chunk 1 to
4,096 positions from the first that is not done; none for a chunk out of range. -/
def Req.plan (r : Req) (stop step : Nat) : Option StepRun :=
  let n := r.tokens.length
  if r.decodes then
    some { step := step, decode := true, drafts := r.draftCount, first := n - 1, stop := n + r.draftCount, samples := true }
  else if r.done < stop ∧ stop ≤ r.total ∧ stop ≤ r.done + 4096 then
    some { step := step, decode := false, drafts := 0, first := r.done, stop := stop, samples := !r.refill && stop == r.total }
  else none

/-- Tokens that a step may commit. -/
def StepRun.yields (u : StepRun) : Nat := if u.samples then u.drafts + 1 else 0

/-- The state admits a step. -/
def Req.runnable (r : Req) : Bool :=
  r.run.isNone && r.cancelEnd == 0 && (r.st == .waiting || r.st == .prefill || r.st == .decode || r.st == .preempted)

/-- The companion's keys and values cover the positions before N − 1, so that the draft model may go on from there. -/
def Part.draftReady (p : Part) (r : Req) : Bool :=
  match r.companion with
  | none => true
  | some c => p.atBoundary c && decide (r.tokens.length ≤ (p.kvSlot c).len + 1)

/-- The request holds as many undelivered tokens as R212 allows, or would exceed them. -/
def Part.hostHeld (p : Part) (r : Req) (yields : Nat) : Bool :=
  decide (256 ≤ p.undelivered r) || decide (256 < p.undelivered r + yields)

/-! ### Preemption (R218) -/

/-- TRUNCATE to 0 of a request's slots, each at its next step boundary. -/
def Part.evict (p : Part) (s : Nat) : Part :=
  match p.req s with
  | none => p
  | some r =>
    if (p.kvSlot s).ops.any fun w => w.op == .truncate 0 then p
    else
      let p := match r.companion with
        | none => p
        | some c => p.pageOp c (ownOp (.truncate 0))
      p.pageOp s (ownOp (.truncate 0))

/-- The sequences that may be preempted for slot `s`: those in PREFILL or DECODE on its CXD and itself, in admission order. -/
def Part.victims (p : Part) (s : Nat) : List Nat :=
  p.serv.order.filter fun x => x == s || ((p.kvSlot x).home == (p.kvSlot s).home && (p.req x).any fun r => r.st == .prefill || r.st == .decode)

/-- An ALLOC for a step has failed with NO_SPACE: the most recently admitted candidate is preempted; a sequence alone on its CXD ends with
NO_SPACE (R218). -/
def Part.makeRoom (p : Part) (s : Nat) : Part :=
  match (p.victims s).reverse with
  | [] => p
  | [x] => p.endRequest x 10
  | x :: _ => p.evict x

/-! ### Batch items -/

/-- LEN, STEP_TAG (R204) and the step mark of a slot as a step that writes positions `first` to `n` − 1 is issued; `chunk` says that it is a
prefill chunk that samples nothing. -/
def Part.slotStep (p : Part) (s first n step : Nat) (chunk : Bool) : Part :=
  p.setKvSlot s { p.kvSlot s with len := n, inStep := true, tag := step % 65536, start := first, got := 0, chunk := chunk }

/-- The key of a step among CTL's outstanding commands. -/
def stepTag (home s : Nat) : Nat := (8 + home) * 65536 + s

/-- Pages and LEN of a request's slots for a step; the companion follows R209 with its own LEN (R230). -/
def Part.stepPages (p : Part) (s : Nat) (r : Req) (u : StepRun) : Except Nat Part :=
  match p.allocTo s u.stop 2049 with
  | .error e => .error e
  | .ok q => match r.companion with
    | none => .ok (q.slotStep s u.first u.stop u.step (!u.samples))
    | some c =>
      let q := q.slotStep s u.first u.stop u.step (!u.samples)
      if u.drafts = 0 then .ok q
      else match q.allocTo c u.stop 2049 with
      | .error e => .error e
      | .ok q => .ok (q.slotStep c u.first u.stop u.step false)

/-- An item for a request's own slot: it joins the batch, is held (R212), or is left out for want of space (R218). -/
def Part.issueMain (p : Part) (s : Nat) (r : Req) (stop step : Nat) : Part × Bool :=
  match r.plan stop step with
  | none => (p, false)
  | some u =>
    if !r.runnable || !p.atBoundary s || (decide (0 < u.drafts) && !p.draftReady r) then (p, false)
    else if p.hostHeld r u.yields then (p.setReq s { r with heldFlag := true }, false)
    else match p.stepPages s r u with
    | .error e => (if e = stNoSpace then p.makeRoom s else p, false)
    | .ok q =>
      let home := (p.kvSlot s).home
      let q := q.setReq s { r with
        run := some u, st := if r.st = .decode then .decode else .prefill, refillFlag := r.refillFlag || (u.decode && r.refill) }
      (q.issue { tag := stepTag home s, seq := step, die := 8 + home, unit := s, opcode := 0xCA, start := p.now, sess := 64 }, true)

/-- An item for a companion slot: a draft pass of a step in flight, or a chunk that brings the companion up to the token record (R230,
R265); none for a request that is held (R212). -/
def Part.issueCompanion (p : Part) (s : Nat) (r : Req) (c stop step : Nat) : Part × Bool :=
  if r.run.any fun u => decide (0 < u.drafts) then (p.setKvSlot c { p.kvSlot c with tag := step % 65536 }, true)
  else if p.hostHeld r 0 then (p.setReq s { r with heldFlag := true }, false)
  else
    let first := (p.kvSlot c).len
    let live := r.cancelEnd == 0 && r.st != .admitting && r.st != .ending
    if live && p.atBoundary c && decide (first < stop ∧ stop ≤ r.tokens.length ∧ stop ≤ first + 4096) then
      match p.allocTo c stop 2049 with
      | .error e => (if e = stNoSpace then p.makeRoom s else p, false)
      | .ok q =>
        let q := q.slotStep c first stop step true
        (if r.st = .waiting ∨ r.st = .preempted then q.setReq s { r with st := .prefill } else q, true)
    else (p, false)

/-- The request that a slot serves in a placement, and whether the slot is its companion. -/
def Part.slotOwner (p : Part) (e slot : Nat) : Option (Nat × Req × Bool) :=
  match p.req slot with
  | some r => if r.ver = e then some (slot, r, false) else none
  | none => (p.serv.reqs.find? fun x => x.2.companion == some slot && x.2.draft == some e).map fun x => (x.1, x.2, true)

/-- The items of a batch in order; the slots whose items joined it. -/
def Part.issueItems (p : Part) (e step cohort : Nat) : List BatchItem → Part × List Nat
  | [] => (p, [])
  | x :: xs =>
    let (q, ok) := match p.slotOwner e x.slot with
      | none => (p, false)
      | some (s, r, comp) =>
        if r.cohort ≠ cohort then (p, false)
        else if comp then p.issueCompanion s r x.slot x.stop step else p.issueMain s r x.stop step
    let (q, l) := q.issueItems e step cohort xs
    (q, if ok then x.slot :: l else l)

/-! ### The step (R204, R205) -/

/-- A request of a cohort of the placement could take its next step. -/
def Part.cohortReady (p : Part) (e cohort : Nat) : Bool :=
  p.serv.reqs.any fun x => x.2.ver == e && x.2.cohort == cohort && x.2.runnable && p.atBoundary x.1 && !p.hostHeld x.2 0

/-- The cohort of the next step: the one that did not step last, or the other when no sequence of it can step. Draft passes take the cohort of
their first item. No cohort has stepped while `lastCohort` is 2. -/
def Part.stepCohort (p : Part) (e : Nat) (v : Version) (items : List BatchItem) : Nat :=
  match items.head?.bind fun x => p.slotOwner e x.slot with
  | some (_, r, true) => r.cohort
  | _ => if p.cohortReady e (1 - v.lastCohort) then 1 - v.lastCohort else 1 - (1 - v.lastCohort)

/-- The number of the next step (R204, R205): steps alternate between the cohorts, so where a cohort follows itself the step of the other
one is empty and takes a number. DESIGN CHOICE (log entry 176). -/
def Version.stepNo (v : Version) (c : Nat) : Nat := if c = v.lastCohort then (v.steps + 1) % 2 ^ 32 else v.steps

/-- A TIGHT slice's steps start with a barrier round (R316): a round has started that no step has used. -/
def Part.spanStarted (p : Part) (v : Version) : Bool :=
  match (v.graph.bind fun g => g.span).bind p.sliceRec with
  | none => true
  | some r => !r.tight || r.started

/-- A bank holds a placement's weights. -/
def Bank.holdsFor (b : Bank) (v : Version) : Bool :=
  (b.st == .shallow || b.st == .deep || b.st == .expired) && b.model == v.model && b.version == v.version

/-- A DEEP bank of a placement is erased and written again after a scrub failure, until the load probe of the rewrite (R158, R168). -/
def Part.rewriting (p : Part) (e : Nat) (v : Version) (k : Nat) : Bool :=
  let b := p.bank k
  (p.models.rewrites.any fun x => x.1 == k && x.2 / 65536 == e) ||
  (b.model == v.model && b.version == v.version && (b.st == .writingDeep || (b.st == .deep && !b.probed)))

/-- A tile of a placement is READY, its bank has been written for it, and the load probe of that write is complete (R393). -/
def Part.tileFit (p : Part) (v : Version) (r : MvmReq) : Bool :=
  let b := p.bank (2 * r.tile + r.bank)
  (p.tile r.tile).ready && b.holdsFor v && b.probed

/-- The tiles that run a placement's work in their arrays from a step on (R393): those that did and are in service still, and those
that have become fit. -/
def Part.analogNow (p : Part) (v : Version) (jobs : List LayerJob) : List Nat :=
  let fit := (jobs.flatMap fun j => j.mvms).filterMap fun r => if p.tileFit v r then some r.tile else none
  (v.analog ++ fit).eraseDups.filter fun t => (p.tile t).ready

/-- The slice's fallback array runs a request of a step (R168, R392, R393): the tile does not run the placement's work in its array yet, or
its DEEP bank is being written again. -/
def Part.onFallback (p : Part) (e : Nat) (v : Version) (analog : List Nat) (r : MvmReq) : Bool :=
  !analog.contains r.tile || p.rewriting e v (2 * r.tile + r.bank)

/-- The width that a placement fixes for the MVMs of a layer, else that of the command (R127). -/
def jobWidth (g : Option Graph) (j : LayerJob) (temper : Bool) (w : Width) : Width :=
  match g with
  | none => w
  | some g => layerWidth g j.layer temper

/-- The class of the work of a slot (R213): its request's. -/
def Part.slotClass (p : Part) (e slot : Nat) (cls : WorkClass) : WorkClass :=
  match p.slotOwner e slot with
  | none => cls
  | some (_, r, _) => r.workClass

/-- The jobs of a step with its number and seed (R109), each with the WSCALE, LSCALE and BIAS of its layer, as the placement gave them when it
loaded (R25, R148). A request whose weights are in no bank waits until they are switched in (R168). -/
def Part.stepJobs (p : Part) (e step : Nat) (v : Version) (analog : List Nat) (jobs : List LayerJob) : List JobRun :=
  jobs.map fun j =>
    { job := { j with
        placement := e, step := step,
        mvms := j.mvms.map fun r => { r with
          cls := p.slotClass e j.slot r.cls, fb := p.onFallback e v analog r, await := !(p.bank (2 * r.tile + r.bank)).holdsFor v, width := jobWidth v.graph j (p.onTemper { j with placement := e }) r.width } },
      seed := (p.acd (jobHome j 0 / 16)).seed, params := ((mfind v.lparams j.layer).getD (zpad (64 + 8 * j.outputs))),
      outs := [], ladder := false, issued := false }

/-- STEP_ISSUE (R204, R205, R209, R213, R218, R227): a step of placement `e` over a batch, with its layer jobs and the input vectors of its
first layer; sequences that are held or left out have no job in it. A new stochastic rounding seed is taken up (R109). -/
def Part.stepIssue (p : Part) (e : Nat) (items : List BatchItem) (jobs : List LayerJob) (vecs : List (Nat × Vect)) : Part :=
  match p.ver e with
  | none => p
  | some v =>
    if p.faulted || p.boot.noTake || !p.spanStarted v then p
    else
      let c := p.stepCohort e v items
      let no := v.stepNo c
      let (q, joined) := p.issueItems e no c items
      if joined.isEmpty then q
      else
        let q := q.takeSeed
        let q := match v.graph.bind fun g => g.span with
          | none => q
          | some id => q.modSlice id fun r => { r with started := false }
        let jobs := jobs.filter fun j => joined.contains j.slot
        let analog := q.analogNow v jobs
        let q := q.modVer e fun x => { x with steps := (no + 1) % 2 ^ 32, lastCohort := c, analog := analog }
        let q : Part := { q with an := { q.an with jobs := q.an.jobs ++ q.stepJobs e no v analog jobs } }
        vecs.foldl (fun q x => q.putVect x.1 x.2) q

/-! ### The commands -/

/-- STEP_ISSUE (R204). -/
def execStepIssue (e : Nat) (items : List BatchItem) (jobs : List LayerJob) (vecs : List (Nat × Vect)) (s : State) : Out :=
  s.live 1 (decide (e < 8192)) fun p => (p.endNeedy e).stepIssue e items jobs vecs

end Sys2Proof.Machine
end

