-- ==== Sys2Proof/Machine/Sampling.lean ====
section
/-! DEFINITION. Sampling: allowed sets and grammars, drawing tokens, speculative decoding, and commit points (R206 to R211, R216, R217,
R222 to R232, R234). -/
namespace Sys2Proof.Machine

/-! ### Allowed sets and grammars (R221 to R224) -/

/-- The state after a token: its transition, or DEFAULT_NEXT (R223). -/
def gNext (img : Bytes) (g tok : Nat) : Nat :=
  match (gTransOf img g).find? fun t => fld t 0 4 == tok with
  | some t => fld t 4 2
  | none => fld (gState img g) 12 2

/-- A grammar state permits a token. -/
def gAllows (img : Bytes) (g tok : Nat) : Bool :=
  (fld img (gMaskOff img + fld (gState img g) 0 2 * gMaskBytes img + tok / 8) 1).testBit (tok % 8)

/-- ACCEPT of a state. -/
def gAccept (img : Bytes) (g : Nat) : Bool := (fld (gState img g) 2 1).testBit 0

/-- The grammar image of a request. -/
def Part.gramImage (p : Part) (r : Req) : Option Bytes := r.gram.map fun g => (p.gram g).image

/-- A token belongs to the allowed set of a position whose grammar state is `g`. -/
def Part.allows (p : Part) (r : Req) (g tok : Nat) : Bool :=
  (match p.gramImage r with
   | none => true
   | some b => gAllows b g tok) && (r.allowed.isEmpty || r.allowed.contains tok)

/-- The grammar state after a token. -/
def Part.nextState (p : Part) (r : Req) (g tok : Nat) : Nat :=
  match p.gramImage r with
  | none => g
  | some b => gNext b g tok

/-- The grammar of a request has become unusable (R222). -/
def Part.gramLost (p : Part) (r : Req) : Bool := r.gram.any fun x => (p.gram x).st == 3

/-- The allowed set of the next position is empty, or the grammar has become unusable: END 3 in a state with ACCEPT, else 9 (R222,
R224). -/
def Part.maskEnd (p : Part) (r : Req) (g : Nat) : Option Nat :=
  if p.gramLost r then some 9
  else if (List.range (p.vocabOf r.ver)).any (p.allows r g) then none
  else some (if (p.gramImage r).any fun b => gAccept b g then 3 else 9)

/-! ### Drawing (R225) -/

/-- A candidate: token, x and p. -/
structure Cand where
  id : Nat
  x : Flt
  p : Flt
deriving DecidableEq, Repr

/-- What `prepare` answers: the candidates in order and the uncertainty. -/
structure Prep where
  c : List Cand
  unc : Flt
deriving DecidableEq, Repr

/-- How a request draws: temperature (zero for greedy), TOP_K, TOP_P and seed. -/
structure Draw where
  temp : Flt
  topK : Nat
  topP : Nat
  seed : Word64
deriving DecidableEq, Repr

/-- The parameters of a request's draws. -/
def Req.draw (r : Req) : Draw :=
  { temp := bfloat16.value 8 (fld r.params 36 2), topK := fld r.params 38 2, topP := fld r.params 40 2, seed := r.seed }

/-- The scaled logits of the allowed tokens, ascending. -/
def scaled (ok : Nat → Bool) (t : Flt) : Nat → List Nat → List (Nat × Flt)
  | _, [] => []
  | i, z :: zs => if ok i then (i, (fltOf z).div t) :: scaled ok t (i + 1) zs else scaled ok t (i + 1) zs

/-- The largest of a list. -/
def maxFlt (m : Flt) : List Flt → Flt
  | [] => m
  | x :: xs => maxFlt (if m.lt x then x else m) xs

/-- The sum of a list in order. -/
def sumFlt (l : List Flt) : Flt := l.foldl Flt.add Flt.zero

/-- Insert a candidate behind those of the same x or a larger one. -/
def insertCand (a : Cand) : List Cand → List Cand
  | [] => [a]
  | b :: bs => if b.x.lt a.x then a :: b :: bs else b :: insertCand a bs

/-- The shortest part of a list, from its start, whose running sum of p reaches a bound. -/
def untilSum (bound run : Flt) : List Cand → List Cand
  | [] => []
  | a :: as => a :: (if (run.add a.p).lt bound then untilSum bound (run.add a.p) as else [])

/-- `prepare` of R225 over logits as binary32 patterns. -/
def Draw.prepare (d : Draw) (ok : Nat → Bool) (z : List Nat) : Prep :=
  let xs := scaled ok (if d.temp.isZero then Flt.one else d.temp) 0 z
  let m := match xs with
    | [] => Flt.zero
    | a :: as => maxFlt a.2 (as.map Prod.snd)
  let ps : List Cand := xs.map fun a => { id := a.1, x := a.2, p := (a.2.sub m).exp }
  let s := sumFlt (ps.map fun a => a.p)
  let c := ps.foldl (fun l a => insertCand a l) []
  let c := if 0 < d.topK then c.take d.topK else c
  let c := if 0 < d.topP then untilSum ((Flt.fin (Q.of d.topP 65536)).mul s) Flt.zero c else c
  { c := c, unc := Flt.one.sub (Flt.one.div s) }

/-- `uniform` of R225. -/
def Draw.uniform (d : Draw) (pos k : Nat) : Flt :=
  .fin (Q.of ((mix64 (d.seed ^^^ BitVec.ofNat 64 (pos * 4 ||| k))).toNat >>> 40) (2 ^ 24))

/-- The first candidate at which the running sum exceeds `u`; the last one where none does. -/
def pickAt (u run : Flt) : List Cand → Nat
  | [] => 0
  | [a] => a.id
  | a :: b :: as => if u.lt (run.add a.p) then a.id else pickAt u (run.add a.p) (b :: as)

/-- `draw` of R225 over candidates. -/
def Draw.pick (d : Draw) (c : List Cand) (pos k : Nat) : Nat :=
  if d.temp.isZero then (c.head?.map fun a => a.id).getD 0
  else pickAt ((d.uniform pos k).mul (sumFlt (c.map fun a => a.p))) Flt.zero c

/-- The sampling distribution at a token: p normalised over the candidates, zero outside them. -/
def Prep.at_ (a : Prep) (tok : Nat) : Flt :=
  match a.c.find? fun x => x.id == tok with
  | none => Flt.zero
  | some x => x.p.div (sumFlt (a.c.map fun y => y.p))

/-! ### Speculative decoding (R228) -/

/-- What a step commits: tokens, drafts accepted, and the uncertainty at the main model's token; none where no token could be drawn. -/
structure Verdict where
  toks : List Nat
  accepted : Nat
  unc : Option Flt
deriving DecidableEq, Repr

/-- The residual candidates: those of P where it exceeds Q, with the difference. -/
def residual (a b : Prep) : List Cand :=
  (a.c.filter fun x => (b.at_ x.id).lt (a.at_ x.id)).map fun x => { x with p := (a.at_ x.id).sub (b.at_ x.id) }

/-- The acceptance of drafts in order from a position: each draft with P and Q at it, then P behind the last. -/
def Draw.verify (d : Draw) (pos : Nat) : List (Nat × Prep × Prep) → Option Prep → Verdict
  | [], none => { toks := [], accepted := 0, unc := none }
  | [], some a => { toks := [d.pick a.c pos 0], accepted := 0, unc := some a.unc }
  | (t, a, b) :: r, last =>
    let ok := if d.temp.isZero then t == d.pick a.c pos 0 else ((d.uniform pos 1).mul (b.at_ t)).lt (a.at_ t)
    if ok then
      let v := d.verify (pos + 1) r last
      { toks := t :: v.toks, accepted := v.accepted + 1, unc := v.unc }
    else
      let c := residual a b
      { toks := [d.pick (if d.temp.isZero || c.isEmpty then a.c else c) pos 2], accepted := 0, unc := some a.unc }

/-- The drafts of a step with the distributions at them (R227, R228): each is drawn from the draft's logits with kind 3, under the grammar
state that the drafts before it reach; drafting ends where no token is allowed. -/
def Part.draftChain (p : Part) (r : Req) (pos g : Nat) : List (List Nat) → List (List Nat) → List (Nat × Prep × Prep) × Option Prep
  | _, [] => ([], none)
  | [], z :: _ =>
    let a := r.draw.prepare (p.allows r g) z
    ([], if a.c.isEmpty then none else some a)
  | y :: ys, z :: zs =>
    let b := r.draw.prepare (p.allows r g) y
    if b.c.isEmpty then ([], none)
    else
      let t := r.draw.pick b.c pos 3
      let l := p.draftChain r (pos + 1) (p.nextState r g t) ys zs
      ((t, r.draw.prepare (p.allows r g) z, b) :: l.1, l.2)

/-! ### What a commit makes final (R207, R216, R229, R234) -/

/-- Tokens up to the first stop token. -/
def cutStop (stops : List Nat) : List Nat → List Nat
  | [] => []
  | t :: ts => if stops.contains t then [t] else t :: cutStop stops ts

/-- The draft length after a step of `n` drafts (R229), with `acc` accepted and the uncertainty at the main model's token. -/
def Req.draftAfter (r : Req) (n acc : Nat) (unc : Option Flt) : Req :=
  if r.companion.isNone then r
  else if 0 < n then
    if acc = 0 then
      (if r.noAccept = 3 then { r with draftLen := r.draftLen / 2, noAccept := 0 } else { r with noAccept := r.noAccept + 1 })
    else if acc = n then { r with draftLen := min (2 * r.draftLen) (fld r.params 49 1), noAccept := 0 }
    else { r with noAccept := 0 }
  else if r.draftLen = 0 ∧ fld r.params 50 2 ≠ 0 ∧ unc.any (fun u => u.lt (.fin (Q.of (fld r.params 50 2) 65536))) then
    { r with draftLen := 1, noAccept := 0 }
  else r

/-- The grammar state after committed tokens; a stop token that ends the request makes no transition. -/
def Part.stateAfter (p : Part) (r : Req) (g : Nat) : List Nat → Nat
  | [] => g
  | t :: ts => if r.stops.contains t then g else p.stateAfter r (p.nextState r g t) ts

/-- The terminal status that a commit produces, the lowest code that applies; 0 for none (R234). -/
def Part.commitEnd (p : Part) (r : Req) : Nat :=
  if 0 < r.committed ∧ (r.tokens.getLast?.any fun t => r.stops.contains t) then 1
  else if r.maxTokens ≤ r.committed then 2
  else match p.maskEnd r r.gramState with
  | some e => if e = 9 ∧ 131072 ≤ r.tokens.length then 4 else e
  | none => if 131072 ≤ r.tokens.length then 4 else 0

/-- The latency of a commit that commits tokens (R216, R217): TTFT or the TBT interval, the misses with their flags, counters and ring
entries. -/
def Part.latency (p : Part) (s : Nat) (r : Req) : Part × Req × Nat :=
  let ns := p.now - r.lastCommit
  let us := ns / 1000
  if !r.measured then
    let ns := p.now - r.admitAt
    let miss := decide (0 < r.ttftTarget) && decide (1000 * r.ttftTarget < ns)
    (if miss then (p.bump aSrvCnt 0 16 1).ringAdd 1 s r.id (us32 (ns / 1000)) else p,
      { r with measured := true, ttft := ns / 1000, lastCommit := p.now }, bit miss)
  else
    let miss := decide (0 < r.tbtTarget) && decide (1000 * r.tbtTarget < ns)
    (if miss then (p.bump aSrvCnt 16 16 1).ringAdd 2 s r.id (us32 us) else p,
      { r with tbtMisses := r.tbtMisses + bit miss, maxTbt := max r.maxTbt us, lastCommit := p.now }, 2 * bit miss)

/-- The step boundaries that follow a commit (R208, R230): LEN of the request's slot, and of its companion where the step used it. -/
def Part.boundaries (p : Part) (s : Nat) (r : Req) (u : StepRun) (len : Nat) : Part :=
  let p := p.stepBoundary s len
  match r.companion with
  | none => p
  | some c => if u.drafts = 0 then p else p.stepBoundary c (min (p.kvSlot c).len len)

/-- The step of a slot is over: CTL's timer for it stops, and the cancel marker is used up. -/
def Part.stepOver (p : Part) (s : Nat) : Part :=
  let tag := stepTag (p.kvSlot s).home s
  { p with
    d2d := { p.d2d with outstanding := p.d2d.outstanding.filter fun c => !(c.opcode == 0xCA && c.tag == tag) },
    kv := { p.kv with marks := merase p.kv.marks s } }

/-- The request ends at its commit point (R207), with the tokens `ts` of the commit; or it goes on. A record is sent for tokens or for a
terminal status. -/
def Part.settle (p : Part) (s : Nat) (ts : List Nat) (i : RecInfo) : Part :=
  let p := if i.end_ = 0 then p else p.toEnding s i.end_
  let p := if ts.isEmpty ∧ i.end_ = 0 then p else p.pushRec s ts i
  match p.req s with
  | none => p
  | some r => if i.end_ = 0 ∧ 256 ≤ p.undelivered r then p.setReq s { r with heldFlag := true } else p

/-- The sampling unit's counters of a commit. -/
def Part.sampled (p : Part) (home positions accepted : Nat) (mask : Bool) : Part :=
  let a := aSampCnt (8 + home)
  (((p.bump a 0 32 positions).bump a 32 16 accepted).bump a 48 16 (bit mask))

/-- A commit that samples (R207, R223 to R229): tokens, grammar state, draft state, latency and terminal status become final. -/
def Part.commitSample (p : Part) (s : Nat) (r : Req) (u : StepRun) (main draft : List (List Nat)) : Part :=
  let n := r.tokens.length
  let home := (p.kvSlot s).home
  let ask := r.maxTokens != 0 && (u.decode || (p.maskEnd r r.gramState).isNone)
  let ch := p.draftChain r n r.gramState draft main
  let v := if ask then r.draw.verify n ch.1 ch.2 else { toks := [], accepted := 0, unc := none }
  let ts := (cutStop r.stops v.toks).take (min r.remaining (131072 - n))
  let acc := min v.accepted ts.length
  let q := { (r.draftAfter u.drafts v.accepted v.unc) with
    tokens := r.tokens ++ ts, gramState := p.stateAfter r r.gramState ts, run := none, st := .decode, refill := false }
  let end_ := p.commitEnd q
  let p := if ask then p.sampled home (u.drafts + v.accepted + 1) acc (end_ == 3 || end_ == 9) else p.sampled home 0 0 (end_ == 3 || end_ == 9)
  let p := if 0 < r.draftLen ∧ q.draftLen = 0 then p.bump aSrvCnt2 48 16 1 else p
  let interval := (p.now - r.lastCommit) / 1000
  let (p, q, flags) := if ts.isEmpty then (p, q, 0) else p.latency s q
  let end_ := if end_ = 0 then r.cancelEnd else end_
  let p := (p.setReq s q).boundaries s r u (if u.decode then q.tokens.length - 1 else u.stop)
  p.settle s ts { end_ := end_, flags := flags, accepted := acc, interval := interval, commit := p.now }

/-- The commit point of a chunk that samples nothing (R206): its positions stand. The request stays in PREFILL, from which only a token
sampled leads to DECODE (R202); after the last chunk of a re-prefill the step at the last token follows (R219). A grammar that has become
unusable ends the request (R222). -/
def Part.commitChunk (p : Part) (s : Nat) (r : Req) (u : StepRun) : Part :=
  let q : Req := { r with run := none, done := u.stop, refillFlag := r.refillFlag || (r.refill && u.stop == r.total) }
  let p := (p.setReq s q).boundaries s r u u.stop
  p.settle s [] { end_ := if p.gramLost r then 9 else r.cancelEnd, flags := 0, accepted := 0, interval := (p.now - r.lastCommit) / 1000, commit := p.now }

/-- The cancel marker of a slot arrived in a CXD cycle before this one (R232). -/
def Part.markedBefore (p : Part) (s : Nat) : Bool := (mfind p.kv.marks s).any fun t => decide (t < p.clk.cycles * 48 / 5)

/-- The step commits nothing: the request ends by the cancel or the time limit, and the positions of the step leave (R207, R232). -/
def Part.commitNothing (p : Part) (s : Nat) (r : Req) (u : StepRun) : Part :=
  let p := (p.setReq s { r with run := none }).boundaries s r u u.first
  p.settle s [] { end_ := r.cancelEnd, flags := 0, accepted := 0, interval := (p.now - r.lastCommit) / 1000, commit := p.now }

/-- The request behind a slot's step has not ended. -/
def Part.stepLives (p : Part) (s : Nat) : Bool := p.serv.reqs.any fun x => (x.1 == s || x.2.companion == some s) && x.2.st != .ending

/-- The logits of a step's positions from `n` on: those that the final projection has delivered to the slot, and those of the command
where it has delivered none (R25; log entry 189). -/
def Part.logitsOf (p : Part) (s n : Nat) : List (List Nat) → List (List Nat)
  | [] => []
  | l :: ls => ((mfind (p.kvSlot s).logits n).getD l) :: p.logitsOf s (n + 1) ls

/-- COMMIT (R25, R206 to R208): the commit point of the step in flight on a slot. `main` are the main model's logits by position as binary32
patterns, `draft` those of the draft passes, as far as the final projections have not delivered them. A companion's chunk, or a step of a request that has ended, only reaches its step boundary. A
chunk that samples nothing has its commit point once its last append has been accepted. -/
def Part.commit (p : Part) (s : Nat) (main draft : List (List Nat)) : Part :=
  let v := p.kvSlot s
  if !v.inStep || (v.chunk && !p.appendsIn s && p.stepLives s) then p
  else match p.req s with
  | none =>
    if p.serv.reqs.any fun x => x.2.companion == some s && x.2.run.any fun u => decide (0 < u.drafts) then p else p.stepBoundary s v.len
  | some r => match r.run with
    | none => p.stepBoundary s v.len
    | some u =>
      let q := p.stepOver s
      if r.st = .ending then (q.setReq s { r with run := none }).boundaries s r u u.first
      else if r.cancelEnd ≠ 0 ∧ p.markedBefore s then q.commitNothing s r u
      else if !u.samples then q.commitChunk s r u
      else if main.length = u.drafts + 1 ∧ draft.length = u.drafts then
        let n := r.tokens.length - 1
        q.commitSample s r u (p.logitsOf s n main) (match r.companion with
          | none => draft
          | some c => p.logitsOf c n draft)
      else p

/-- The acceptance of the last append of a chunk that samples nothing is the commit point of its step (R206). -/
def State.chunkDone (st : State) (s : Nat) : State :=
  if (st.part.kvSlot s).chunk then { st with part := st.part.commit s [] [] } else st

/-- KV_APPEND (R186, R206). -/
def execKvAppend (cxd sl : Nat) (s : State) : Out := s.liveMem (11 + cxd) (slotOk cxd sl) fun t => (t.kvAppend cxd sl).chunkDone sl

/-- The slot of an attention request. -/
def Part.attSlot (p : Part) (id : Nat) : Nat := ((p.kv.atts.find? fun r => r.id == id).map fun r => r.slot).getD 0

/-- ATTENTION_START (R187): an append that its start lets in may be the last of a chunk (R186, R206). -/
def execAttentionStart (id : Nat) (s : State) : Out :=
  s.liveMem (s.attDomain id) true fun t => (t.attentionStart id).chunkDone (t.part.attSlot id)

/-- COMMIT (R207). -/
def execCommit (sl : Nat) (main draft : List (List Nat)) (s : State) : Out :=
  s.live (11 + (s.part.kvSlot sl).home) (decide (sl < 16384)) fun p => p.commit sl main draft

end Sys2Proof.Machine
end

