-- ==== Sys2Proof/Machine/Journal.lean ====
section
/-! DEFINITION. Journal: the partner's records, acknowledgements and refusals, naming and sealing partners, adoption, and unreachable parts
(R305, R312, R333 to R345). -/
namespace Sys2Proof.Machine

/-! ### Events of the part (CTL.PART_EVENT) -/

/-- A bit of PART_EVENT is set: MSI-X vector 64, and a NOTICE that names a part. -/
def Part.partEvent (p : Part) (b code part : Nat) : Part :=
  ((p.bump aPartEvent b 1 1).msix 64).notice code (leBytes 2 part)

/-! ### The partner's side (R335, R341) -/

/-- The journal held for a source. -/
def Part.jsrc (p : Part) (part : Nat) : Option JSrc := p.jrn.sources.find? fun v => v.part == part

/-- Replace the journal held for a source. -/
def Part.setJsrc (p : Part) (part : Nat) (f : JSrc → JSrc) : Part :=
  { p with jrn := { p.jrn with sources := p.jrn.sources.map fun v => if v.part = part then f v else v } }

/-- Stripes that records of a source need; it keeps one while it is held. -/
def JSrc.need (v : JSrc) : Nat := max 1 (cdiv (sumNat (v.reqs.map fun r => r.size)) stripeBytes)

/-- `n` more stripes. -/
def Part.moreStripes (p : Part) : Nat → Option (List Nat × Part)
  | 0 => some ([], p)
  | n + 1 => match p.takeStripe with
    | none => none
    | some (k, q) => match q.moreStripes n with
      | none => none
      | some (l, q) => some (k :: l, q)

/-- The records of a source change: stripes are taken, at most 64 in all, or given back; none where the records cannot be stored. -/
def Part.storeRecords (p : Part) (v : JSrc) (reqs : List JReq) : Option Part :=
  let n := { v with reqs := reqs }.need
  if 64 < n then none
  else match p.moreStripes (n - v.stripes.length) with
  | none => none
  | some (l, q) =>
    let q := (v.stripes.drop n).foldl (fun q k => q.setStripe k .free) q
    some (q.setJsrc v.part fun x => { x with reqs := reqs, stripes := v.stripes.take n ++ l })

/-- An ADMIT record as the partner keeps it. -/
def admitEntry (id : Nat) (body : Bytes) : JReq :=
  { id := id, admission := body, tokens := [], end_ := 0, draftLen := fld body 49 1, noAccept := 0, gramState := fld body 44 2, elapsedUs := 0,
    size := 16 + body.length, lost := false }

/-- Tokens of a COMMIT record: COUNT modulo 256, the rest by its length. -/
def commitCount (body : Bytes) : Nat :=
  let room := (body.length - 16) / 4
  room - (room + 256 - fld body 4 1) % 256

/-- A request's entry after a COMMIT record. -/
def JReq.commit (r : JReq) (body : Bytes) : JReq :=
  let ts : List Nat := (List.range (commitCount body)).map (fun j => fld body (16 + 4 * j) 4);
  { r with
    tokens := r.tokens.take (fld body 0 4) ++ ts, end_ := fld body 5 1, draftLen := fld body 6 1, noAccept := fld body 7 1,
    gramState := fld body 8 2, elapsedUs := fld body 12 4, size := r.size + 16 + body.length }

/-- The records of a source after one more; none for a COMMIT of a request that is not held. -/
def JSrc.after (v : JSrc) (kind id : Nat) (body : Bytes) : Option (List JReq) :=
  let others := v.reqs.filter fun r => r.id != id
  if kind = 1 then some (others ++ [admitEntry id body])
  else if kind = 2 then
    (v.reqs.find? fun r => r.id == id).map fun r => v.reqs.map fun x => if x.id = id then r.commit body else x
  else some others

/-- A whole record: it is stored and acknowledged, or refused (R335); a sealed journal answers with a sealed refusal (R341). -/
def Part.takeRecord (p : Part) (src : Nat) (b : Bytes) : Part :=
  let kind := fld b 0 1
  let id := fld b 4 4
  match p.jsrc src with
  | none => p.fabSend src 2 0xFFFF (.journalRefuse kind id)
  | some v =>
    if v.isSealed then p.fabSend src 2 0xFFFF .journalSealed
    else match (v.after kind id (b.drop 16)).bind (p.storeRecords v) with
    | none => p.fabSend src 2 0xFFFF (.journalRefuse kind id)
    | some q => q.fabSend src 2 0xFFFF (.journalAck kind id)

/-- A part asks this one to be its partner (R340): refused with two sources held, with the journal sealed, or without space. -/
def Part.partnerAsked (p : Part) (src : Nat) : Part :=
  match p.jsrc src with
  | some v => p.control src (.partnerAnswer !v.isSealed)
  | none =>
    if 2 ≤ p.jrn.sources.length then p.control src (.partnerAnswer false)
    else match p.takeStripe with
    | none => p.control src (.partnerAnswer false)
    | some (n, q) =>
      let v : JSrc := { part := src, isSealed := false, reqs := [], stripes := [n], adopted := 0 }
      { q with jrn := { q.jrn with sources := q.jrn.sources ++ [v] } }.control src (.partnerAnswer true)

/-- A message that the partner serves. -/
def partnerMsg (x : Nat × FabMsg) : Bool :=
  match x.2 with
  | .journal _ => true
  | .partnerAsk => true
  | _ => false

/-- A piece of a record from a source: with the last one the record is whole (R334). -/
def Part.takeJournalPiece (p : Part) (src : Nat) (b : Bytes) : Part :=
  let buf := (mfind p.jrn.partial_ src).getD [] ++ b
  let put (l : Bytes) : Part := { p with jrn := { p.jrn with partial_ := mset [] p.jrn.partial_ src l } }
  if buf.length < 16 + fld buf 8 4 then put buf else (put []).takeRecord src buf

/-- JOURNAL_RECORD (R334, R335): the next message of a source: a piece of a record, or the request to be its partner. In part fault
nothing is acknowledged (R331). -/
def Part.journalRecord (p : Part) : Part :=
  if p.faulted then p
  else match p.takeMsg partnerMsg with
  | some ((src, .partnerAsk), q) => q.partnerAsked src
  | some ((src, .journal b), q) => q.takeJournalPiece src b
  | _ => p

/-! ### The loss of the partner (R337, R344) -/

/-- Admissions that wait for the partner are rejected. -/
def Part.rejectJournaling (p : Part) : Part :=
  (p.serv.reqs.filter fun x => x.2.st == .admitting && x.2.stage == .journaling).foldl
    (fun q x => (q.bump aJrnCnt 32 16 1).admitReject x.1 stNoPartner) p

/-- Every token record that waits for an acknowledgement may go out. -/
def Part.ackAll (p : Part) : Part :=
  p.serv.reqs.foldl (fun q x => match q.req x.1 with
    | none => q
    | some r => (q.setReq x.1 { r with recs := r.recs.map fun t => { t with acked := true }, isProtected := false }).flushRecs x.1) p

/-- A SET whose resync cannot finish completes with NO_PARTNER. -/
def Part.endSet (p : Part) (status : Nat) : Part :=
  match p.jrn.set with
  | none => p
  | some x => { p with jrn := { p.jrn with set := none } }.finish x.sess status []

/-- The partner is lost (R337): the part rejects admissions from now on, and continues its requests unprotected. -/
def Part.partnerLost (p : Part) : Part :=
  match p.jrn.partner with
  | none => p
  | some d =>
    if p.jrn.lost then p
    else
      let n := (p.serv.reqs.filter fun x => x.2.isProtected && x.2.st != .admitting).length
      let p : Part := { p with jrn := { p.jrn with lost := true, pending := [] }, serv := { p.serv with frees := p.serv.frees.filter fun f => f.2 != d } }
      let p := ((p.partEvent 6 0x201 d).bump aJrnCnt 48 16 n).rejectJournaling.ackAll
      if p.jrn.set.any fun x => x.answered then p.endSet stNoPartner else p

/-- The journal was sealed (R337, R344): every protected request stops, with no further token record and no terminal status. -/
def Part.journalSealed (p : Part) (d : Nat) : Part :=
  let gone := p.serv.reqs.filter fun x => x.2.isProtected && x.2.st != .admitting
  let p := gone.foldl (fun q x =>
    let q := (q.forgetRequest x.1 x.2).cancelsDone x.2
    q.modSes x.2.sess fun s => { s with waiting := s.waiting.filter fun w => !(w.kind == 1 && fld w.body 0 4 == x.2.id) }) p
  (p.partEvent 8 0x203 d).partnerLost

/-! ### Naming a partner (R338, R340) -/

/-- The partner that is set, or the part that a SET has named and that has answered. -/
def Part.isPartner (p : Part) (src : Nat) : Bool := p.jrn.partner == some src && !p.jrn.lost

/-- DROP for every request that the old partner holds. -/
def Part.sendDrops (p : Part) (d : Nat) : Part :=
  let ids := ((p.serv.reqs.filter fun x => x.2.isProtected).map fun x => x.2.id) ++ ((p.serv.frees.filter fun f => f.2 == d).map fun f => f.1)
  let p : Part := { p with serv := { p.serv with frees := p.serv.frees.filter fun f => f.2 != d } }
  if p.fab.unreachable.contains d then p else ids.foldl (fun q id => q.journalSend d 4 id []) p

/-- A live request is journaled anew (R338, R344): an ADMIT record and one COMMIT record with every token; the acknowledgement of that
one releases the token records that wait. Records that are still out to the same partner are acknowledged before. -/
def Part.resync (p : Part) (d : Nat) (same : Bool) (s : Nat) (r : Req) : Part :=
  let k := (r.recs.filter fun t => !t.acked).length
  let before := if same && r.isProtected then List.replicate k (2, r.id, 1) else []
  let rest := if same && r.isProtected then 0 else k
  let p := p.setReq s { r with isProtected := true }
  let p := (p.journalSend d 1 r.id (p.admitRecord r)).journalSend d 2 r.id (p.commitBody r 0 (r.tokens.drop r.prompt) r.end_)
  { p with jrn := { p.jrn with pending := p.jrn.pending ++ before ++ [(1, r.id, 0), (2, r.id, rest)] } }

/-- A SET is done once its records are acknowledged (R338). -/
def Part.setDone (p : Part) : Part :=
  if p.jrn.pending.isEmpty && p.jrn.set.any (fun x => x.answered) then p.endSet stOk else p

/-- The part named by a SET has accepted: it is the partner, the old one is told to drop, and every live request is journaled (R338). -/
def Part.setAccepted (p : Part) (x : JSet) : Part :=
  let same := p.isPartner x.part
  let p := p.rejectJournaling
  let p := match p.jrn.partner with
    | none => p
    | some d => if d = x.part then p else if p.jrn.lost then p else p.sendDrops d
  let p : Part := { p with jrn := { p.jrn with partner := some x.part, lost := false, set := some { x with answered := true } } }
  ((p.serv.reqs.filter fun y => y.2.st != .admitting).foldl (fun q y => q.resync x.part same y.1 y.2) p).setDone

/-- JOURNAL_PARTNER SET (R340): the part named is asked. -/
def Part.journalSet (p : Part) (i : Nat) (k : Bytes) : Part :=
  match p.jrn.set with
  | some x => if x.sess = i then p else p.finish i stBusy []
  | none =>
    if par k 2 2 = p.fabCfg.partId then p.finish i stBadParam []
    else
      { p with jrn := { p.jrn with set := some { part := par k 2 2, sess := i, since := p.now, answered := false } } }.control (par k 2 2)
        .partnerAsk

/-- PARTNER_SET_TIMEOUT (R340). -/
def Part.setTimeout (p : Part) : Part :=
  match p.jrn.set with
  | none => p
  | some x => if !x.answered && decide (x.since + 100000000 < p.now) then p.endSet stNoPartner else p

/-- JOURNAL_PARTNER CLEAR (R340). -/
def Part.journalClear (p : Part) (i : Nat) : Part :=
  match p.jrn.partner with
  | none => p.finish i stAlreadyDone []
  | some d =>
    let p := if p.jrn.lost then p else p.sendDrops d
    let p : Part := { p with jrn := { p.jrn with partner := none, lost := false, pending := [] } }
    let wait := p.serv.reqs.filter fun x => x.2.st == .admitting && x.2.stage == .journaling
    let p := (wait.foldl (fun q x => q.admitJournal x.1) p).ackAll
    let p := if p.jrn.set.any fun x => x.answered then p.endSet stNoPartner else p
    p.finish i stOk []

/-! ### Acknowledgements and refusals (R336, R337) -/

/-- The oldest token records of a request that wait are acknowledged, `n` of them. -/
def ackRecs : Nat → List TokRec → List TokRec
  | 0, l => l
  | _, [] => []
  | n + 1, t :: ts => if t.acked then t :: ackRecs (n + 1) ts else { t with acked := true } :: ackRecs n ts

/-- Token records of a request are released. -/
def Part.release (p : Part) (id n : Nat) : Part :=
  match p.reqOf id with
  | none => p
  | some (s, r) => (p.setReq s { r with recs := ackRecs n r.recs }).flushRecs s

/-- An acknowledgement of the partner: of a resync's record, of an ADMIT record that an admission waits for, or of the oldest commit. -/
def Part.acked (p : Part) (kind id : Nat) : Part :=
  let p := p.bump aJrnCnt 0 32 1
  match takeFirst (fun x : Nat × Nat × Nat => x.1 == kind && x.2.1 == id) p.jrn.pending with
  | some (x, rest) => ({ p with jrn := { p.jrn with pending := rest } }.release id x.2.2).setDone
  | none =>
    if kind = 1 then match p.reqOf id with
      | none => p
      | some (s, r) => if r.st = .admitting ∧ r.stage = .journaling then p.admitAck s else p
    else if kind = 2 then p.release id 1
    else p

/-- A message by which a partner accepts. -/
def ackMsg (x : Nat × FabMsg) : Bool :=
  match x.2 with
  | .journalAck _ _ => true
  | .partnerAnswer ok => ok
  | _ => false

/-- JOURNAL_ACK (R336, R338). -/
def Part.journalAck (p : Part) : Part :=
  if p.faulted then p
  else match p.takeMsg ackMsg with
  | some ((src, .journalAck kind id), q) => if q.isPartner src then q.acked kind id else q
  | some ((src, .partnerAnswer _), q) => match q.jrn.set with
    | none => q
    | some x => if x.part = src ∧ !x.answered then q.setAccepted x else q
  | _ => p

/-- A message by which a partner refuses. -/
def refuseMsg (x : Nat × FabMsg) : Bool :=
  match x.2 with
  | .journalRefuse _ _ => true
  | .journalSealed => true
  | .partnerAnswer ok => !ok
  | _ => false

/-- JOURNAL_REFUSAL (R335, R337, R340, R344): a refused ADMIT record rejects its admission; any other refused record is a lost partner. -/
def Part.journalRefusal (p : Part) : Part :=
  if p.faulted then p
  else match p.takeMsg refuseMsg with
  | some ((src, .journalRefuse kind id), q) =>
    if !q.isPartner src then q
    else match q.reqOf id with
    | none => q.partnerLost
    | some (s, r) =>
      if kind = 1 ∧ r.st = .admitting ∧ r.stage = .journaling then (q.bump aJrnCnt 32 16 1).admitReject s stNoPartner else q.partnerLost
  | some ((src, .journalSealed), q) => if q.isPartner src then q.journalSealed src else q
  | some ((src, .partnerAnswer _), q) => match q.jrn.set with
    | none => q
    | some x => if x.part = src ∧ !x.answered then q.endSet stNoPartner else q
  | _ => p

/-! ### Sealing and releasing (R340, R341) -/

/-- The body of the SEAL reply: LIVE and ENDED. -/
def sealBody (v : JSrc) : Bytes :=
  let live := (v.reqs.filter fun r => r.end_ == 0).length
  leBytes 2 live ++ leBytes 2 (v.reqs.length - live) ++ zpad 12

/-- The record pieces of a source that have come before its journal is sealed are taken first (R341); `n` bounds them. -/
def Part.takeArrived (p : Part) (src : Nat) : Nat → Part
  | 0 => p
  | n + 1 => match p.takeMsg fun x => x.1 == src && (match x.2 with
      | .journal _ => true
      | _ => false) with
    | some ((_, .journal b), q) => (q.takeJournalPiece src b).takeArrived src n
    | _ => p

/-- JOURNAL_PARTNER SEAL: every record that has arrived is acknowledged before the seal's reply (R341). -/
def Part.journalSeal (p : Part) (i : Nat) (k : Bytes) : Part :=
  let p := if p.faulted then p else p.takeArrived (par k 2 2) p.fab.inbox.length
  match p.jsrc (par k 2 2) with
  | none => p.finish i stBadParam []
  | some v =>
    if v.isSealed then p.finish i stAlreadyDone (sealBody v)
    else (p.setJsrc v.part fun x => { x with isSealed := true, adopted := 0 }).finish i stOk (sealBody v)

/-- JOURNAL_PARTNER RELEASE. -/
def Part.journalRelease (p : Part) (i : Nat) (k : Bytes) : Part :=
  match p.jsrc (par k 2 2) with
  | none => p.finish i stBadParam []
  | some v =>
    if !v.isSealed then p.finish i stBadParam []
    else
      let p := v.stripes.foldl (fun q n => q.setStripe n .free) p
      { p with jrn := { p.jrn with
          sources := p.jrn.sources.filter fun x => x.part != v.part, partial_ := mset [] p.jrn.partial_ v.part [] } }.finish i stOk []

/-! ### Adoption (R343 to R345) -/

/-- Where the prompt lies in an ADMIT record's body. -/
def recordPromptOff (b : Bytes) : Nat := 192 + 16 * cdiv (4 * fld b 46 2) 16

/-- The grammar of a journaled request is resident with the same digest, or it has none; none where it is not. -/
def Part.adoptGram (p : Part) (b : Bytes) : Option (Option Nat) :=
  let g := fld b 42 1
  if !(fld b 43 1).testBit 1 then some none
  else if (p.gram g).st = 2 ∧ bytesAt (p.gram g).image 64 64 = bytesAt b 128 64 then some (some g) else none

/-- The versions and the grammar that a journaled request binds: entry, draft entry, grammar; none where one is missing. -/
def Part.adoptBind (p : Part) (b : Bytes) : Option (Nat × Option Nat × Option Nat) :=
  match p.binds (fld b 4 4) (fld b 8 2), p.adoptGram b with
  | some e, some g =>
    if fld b 12 4 = 0 then some (e, none, g)
    else match p.binds (fld b 12 4) (fld b 10 2) with
    | none => none
    | some d => some (e, some d, g)
  | _, _ => none

/-- No entry of the model table. -/
def noEntry : Nat := 8192

/-- The request that an adoption makes (R344, R345): PREEMPTED with its journaled state. -/
def Part.adoptedReq (p : Part) (i : Nat) (k : Bytes) (j : JReq) (bind_ : Option (Nat × Option Nat × Option Nat)) (c : Option Nat) : Req :=
  let b := j.admission
  let n := fld b 16 4
  let toks (off n : Nat) : List Nat := (List.range n).map fun x => fld b (off + 4 * x) 4
  let left : Nat := (1000 * fld b 32 4 - j.elapsedUs);
  { id := j.id, sess := i, tag := pkTag k, seq := pkSeq k, cmd := 0, st := .preempted, stage := .done, params := b.take 128,
    ver := (bind_.map Prod.fst).getD noEntry, draft := bind_.bind fun x => x.2.1, companion := c, prefix_ := false,
    tokens := toks (recordPromptOff b) n ++ j.tokens, prompt := n, allowed := toks 192 (fld b 46 2),
    seed := BitVec.ofNat 64 (fld b 56 8), gram := bind_.bind fun x => x.2.2, gramState := j.gramState, draftLen := j.draftLen,
    noAccept := j.noAccept, cohort := p.serv.cohorts % 2, admitAt := p.now, lastCommit := p.now, measured := !j.tokens.isEmpty, ttft := 0,
    tbtMisses := 0, maxTbt := 0, limitNs := if fld b 32 4 = 0 then none else some (p.now + 1000 * left), finalDone := false, heldFlag := false,
    refill := true, refillFlag := false, done := 0, total := n + j.tokens.length - 1, run := none, recs := [], cancels := [], cancelEnd := 0,
    end_ := 0, finalSent := false, isProtected := p.jrn.partner.isSome && !p.jrn.lost, askId := 0, askAt := 0, before := j.elapsedUs }

/-- The token record of an adoption (R344 step 2). -/
def Part.adoptRecord (p : Part) (r : Req) (next : Nat) (ts : List Nat) (end_ : Nat) : TokRec :=
  { body := leBytes 4 r.id ++ leBytes 4 next ++ leBytes 1 ts.length ++ leBytes 1 end_ ++ [8, 0] ++ zpad 4 ++ leBytes 8 p.now ++ zpad 8 ++ tokenBytes ts,
    count := ts.length, end_ := end_, acked := !r.isProtected }

/-- Slots for an adopted request that goes on: its own, then a companion for a draft version. -/
def Part.adoptSlots (p : Part) (s : Nat) (r : Req) : Part :=
  let home := p.homeFor (p.verPage r.ver)
  let p := p.assignSlot s home r.ver
  match r.companion, r.draft with
  | some c, some d => p.assignSlot c home d
  | _, _ => p

/-- An adopted request goes on (R344 steps 3 and 4, R345), or ends at once. -/
def Part.adoptOn (p : Part) (s : Nat) (r : Req) (bound : Bool) : Part :=
  if r.limitNs.any fun t => decide (t ≤ p.now) then (p.setReq s { r with ver := noEntry, draft := none, gram := none, companion := none }).endRequest s 6
  else if !bound then p.endRequest s 7
  else
    let p := p.adoptSlots s r
    let p := p.pin r.ver
    let p := match r.draft with
      | none => p
      | some d => p.pin d
    match r.gram with
    | none => p
    | some g => p.setGram g { p.gram g with pins := (p.gram g).pins + 1 }

/-- One entry is adopted into slot `s` (R344), in the order of that rule. -/
def Part.adopt (p : Part) (i : Nat) (k : Bytes) (v : JSrc) (j : JReq) (next s : Nat) (c : Option Nat) : Part :=
  let b := if j.end_ = 0 then p.adoptBind j.admission else none
  let r := p.adoptedReq i k j b (if b.isSome then c else none)
  let p := (p.storeRecords v (v.reqs.filter fun x => x.id != j.id)).getD p
  let p := p.setJsrc v.part fun x => { x with adopted := x.adopted + 1 }
  let ts := j.tokens.drop next
  let told := !ts.isEmpty || j.end_ != 0
  let r : Req := if told then { r with recs := [p.adoptRecord r next ts j.end_] } else r
  let r : Req := if j.end_ = 0 then r else { r with st := .ending, end_ := j.end_ }
  let p : Part := { p.setReq s r with
    serv := { (p.setReq s r).serv with order := p.serv.order ++ [s], cohorts := p.serv.cohorts + 1 },
    ctl := { p.ctl with ranks := mset 0x8000 p.ctl.ranks s 0x8000 } }
  let p := match p.partnerOf r with
    | none => p
    | some d =>
      let p := (p.journalSend d 1 r.id (j.admission)).journalSend d 2 r.id (p.commitBody r 0 j.tokens j.end_)
      { p with jrn := { p.jrn with pending := p.jrn.pending ++ [(1, r.id, 0), (2, r.id, bit told)] } }
  let p := if told then p.traceAdd 2 0 s ((p.adoptRecord r next ts j.end_).body.take 12 ++ zpad 4) else p
  let p := p.flushRecs s
  if j.end_ = 0 then p.adoptOn s r b.isSome else p

/-- What happens to an ADOPT entry: 0 adopted, 1 not found, 2 conflict, 3 no slot (R343). -/
def Part.adoptEntry (p : Part) (i : Nat) (k : Bytes) (part id next : Nat) : Part × Nat :=
  match p.jsrc part with
  | none => (p, 1)
  | some v => match v.reqs.find? fun r => r.id == id with
    | none => (p, 1)
    | some j =>
      let two := fld j.admission 12 4 != 0
      if j.lost || decide (j.tokens.length < next) then (p, 1)
      else if (p.reqOf id).isSome then (p, 2)
      else match p.freeSlot [] with
      | none => (p, 3)
      | some s =>
        let c := if two then p.freeSlot [s] else none
        if !p.slotsLeft (1 + bit two) || (two && c.isNone) then (p, 3) else (p.adopt i k v j next s c, 0)

/-- The entries of an ADOPT in list order, with the counts of the four outcomes. -/
def Part.adoptAll (p : Part) (i : Nat) (k : Bytes) (part : Nat) : List Nat → List Nat → Part × List Nat
  | [], n => (p, n)
  | x :: xs, n =>
    let (q, c) := p.adoptEntry i k part (fld k (32 + 8 * x) 4) (fld k (36 + 8 * x) 4)
    q.adoptAll i k part xs (setNth n c (nth 0 n c + 1))

/-- JOURNAL_PARTNER ADOPT (R343). -/
def Part.journalAdopt (p : Part) (i : Nat) (k : Bytes) : Part :=
  if !((p.jsrc (par k 2 2)).any fun v => v.isSealed) then p.finish i stBadParam []
  else
    let (q, n) := p.adoptAll i k (par k 2 2) (List.range (par k 4 2)) [0, 0, 0, 0]
    q.finish i stOk (n.flatMap (leBytes 2) ++ zpad 8)

/-! ### Unreachable parts (R160, R305, R312, R337) -/

/-- The part `d` is gone from every slice that this one is in: the root marks it lost, or the root itself is lost (R312). -/
def Part.sliceLoss (p : Part) (d : Nat) : Part :=
  p.fab.slices.foldl (fun q r => if r.root = d then q.rootLost r.desc.slice else q.markLost r.desc.slice d) p

/-- The part `d` is downstream in a chain: it is skipped (R160). -/
def Part.chainLoss (p : Part) (d : Nat) : Part :=
  (p.models.table.filter fun x => x.2.downstream == some d).foldl (fun q x =>
    let q := q.skipDown x.1
    if ((q.ver x.1).bind Version.downstream).isNone then q.flushFwd x.1 else q) p

/-- UNREACHABLE (R305): a destination with packets out has acknowledged nothing for 100 ms. -/
def Part.unreachable (p : Part) (d : Nat) : Part :=
  match mfind p.fab.lastAck d with
  | none => p
  | some t =>
    if p.now < t + 100000000 ∨ p.fab.unreachable.contains d then p
    else
      let f := p.fab
      let p : Part := { p with fab := { f with
        unreachable := f.unreachable ++ [d], lastAck := merase f.lastAck d, kept := f.kept.filter fun x => x.k.dst != d } }
      let p := p.bump aFabCnt2 48 16 1
      let p := if p.jrn.partner = some d then p.partnerLost else p
      let p := if (p.jsrc d).isSome then p.partEvent 7 0x202 d else p
      (p.sliceLoss d).chainLoss d

/-! ### The commands -/

/-- JOURNAL_RECORD (R335). -/
def execJournalRecord (s : State) : Out := s.live 1 true Part.journalRecord

/-- JOURNAL_ACK (R336). -/
def execJournalAck (s : State) : Out := s.live 1 true Part.journalAck

/-- JOURNAL_REFUSAL (R337). -/
def execJournalRefusal (s : State) : Out := s.live 1 true Part.journalRefusal

/-- The JOURNAL_PARTNER command with an ACTION is in execution. -/
def State.journal (s : State) (i action : Nat) (f : Bytes → Part → Part) : Out :=
  s.cmd i 0x09 fun k p => if par k 0 1 = action then f k p else p

/-- JOURNAL_SET (R338). -/
def execJournalSet (i : Nat) (s : State) : Out := s.journal i 0 fun k p => p.journalSet i k

/-- PARTNER_SET_TIMEOUT (R340). -/
def execPartnerSetTimeout (s : State) : Out := s.live 1 true Part.setTimeout

/-- JOURNAL_SEAL (R341). -/
def execJournalSeal (i : Nat) (s : State) : Out := s.journal i 1 fun k p => p.journalSeal i k

/-- JOURNAL_ADOPT (R343). -/
def execJournalAdopt (i : Nat) (s : State) : Out := s.journal i 2 fun k p => p.journalAdopt i k

/-- JOURNAL_RELEASE (R340). -/
def execJournalRelease (i : Nat) (s : State) : Out := s.journal i 3 fun k p => p.journalRelease i k

/-- JOURNAL_CLEAR (R340). -/
def execJournalClear (i : Nat) (s : State) : Out := s.journal i 4 fun _ p => p.journalClear i

/-- UNREACHABLE (R305). -/
def execUnreachable (d : Nat) (s : State) : Out := s.live 1 (decide (d < 65536)) fun p => p.unreachable d

end Sys2Proof.Machine
end

