-- ==== Sys2Proof/Machine/Arrive.lean ====
section
/-! DEFINITION. Arrive: what reaches the part's dies and CTL: die messages and their checks, replies to CTL, and reads of host memory (R17,
R20 to R23, R158, R175, R260, R263, R282, R283, R289, R290, R330, R500, R506). -/
namespace Sys2Proof.Machine

/-! ### Envelope checks (R21) -/

/-- The status with which a malformed message goes back to its source: `some none` for one that is discarded in silence. -/
def envelopeFail (m : DieMsg) : Option (Option Nat) :=
  let badLen := decide (m.len % 16 ≠ 0 ∨ 4096 < m.len)
  if m.cls = 7 then some (some stBadClass)
  else if badLen then some (if m.cls = 0 then some stLenRange else none)
  else if 19 < m.dst then some (if m.cls = 0 then some stBadParam else none)
  else none

/-- A malformed message is discarded, counted in MSG_ERR of its arrival port, and returned where R21 says so. -/
def Part.discard (p : Part) (at_ port : Nat) (m : DieMsg) (status : Option Nat) : Part :=
  let p := (p.bump (aD2dPortStatus at_ port) 48 16 1).freeRx at_ port m
  match status with
  | none => p
  | some st => p.giveBack at_ m 0 st

/-! ### Unit checks (R506) -/

/-- The die has the unit (R34, R90, R174, log entry 35). -/
def unitThere (die unit : Nat) : Bool :=
  if 12 ≤ die then decide (unit ≤ 0xC10)
  else if 8 ≤ die then decide (unit ≤ 0x4002 ∨ (0x4010 ≤ unit ∧ unit ≤ 0x4017))
  else if die = 2 ∨ die = 3 then decide (unit < 48)
  else die == 0 && unit == 0x100

/-- A unit's role epoch (R281). -/
def Part.unitEpoch (p : Part) (die unit : Nat) : Nat :=
  if 12 ≤ die ∧ unit < 0x800 then (p.bank (bankOf die unit)).epoch
  else if 8 ≤ die ∧ die < 12 ∧ unit < 0x4000 then p.slotEpoch (die - 8) unit
  else 0

/-- The unit is a slot unit that is not assigned on its die; SLOT_ASSIGN may reach it (R175). -/
def Part.slotGone (p : Part) (m : DieMsg) : Bool :=
  decide (8 ≤ m.dst ∧ m.dst < 12 ∧ m.unit < 0x4000) && !((p.kvSlot m.unit).assigned && (p.kvSlot m.unit).home == m.dst - 8) &&
  !(m.cls == 0 && msgOpcode m == 0xC3)

/-- The opcodes that a unit takes (R260). -/
def unitTakes (die unit op : Nat) : Bool :=
  if 12 ≤ die then
    (if unit < 0x800 then decide (0xA0 ≤ op ∧ op ≤ 0xA4) else if unit < 0xC00 then op == 0xB0 else if unit < 0xC10 then op == 0xCA else op == 0xB8)
  else if 8 ≤ die then
    (if unit < 0x4000 then decide (0xC0 ≤ op ∧ op ≤ 0xC4) else if unit = 0x4000 then op == 0xC8
     else if unit = 0x4001 then decide (0xC0 ≤ op ∧ op ≤ 0xC2) else if unit = 0x4002 then op == 0xC9 else false)
  else if die = 2 ∨ die = 3 then op == 0xD0 || op == 0xD1
  else false

/-- LEN, reserved fields and parameters of the commands whose layout the manual gives (R278, R279). -/
def commandFail (m : DieMsg) : Option Nat :=
  let op := msgOpcode m
  let k := m.payload
  let want := if 0xA0 ≤ op ∧ op ≤ 0xA2 then 64 else if op = 0xA3 ∨ op = 0xA4 then 16 else if op = 0xB0 then 32 else pkLen k
  firstFail [(pkLen k == want && m.len == want, stLenRange), (decide (pkFlags k < 4), stBadParam),
    (!(decide (0xA0 ≤ op ∧ op ≤ 0xA2)) || (decide (par k 8 1 ≤ 2) && parZ k 9 7 && par k 16 8 % 64 == 0 && decide (0x5000000000 ≤ par k 16 8)),
      stBadParam),
    (op != 0xB0 || parZ k 8 8, stBadParam)]

/-- A message goes back with STALE_ROLE, counted by its unit (R175, R283). -/
def Part.backStale (p : Part) (m : DieMsg) : Part :=
  let p := if 12 ≤ m.dst ∧ m.unit < 0x800 then p.countStale ((m.dst - 12) * 1024 + m.unit / 2)
    else if 8 ≤ m.dst ∧ m.dst < 12 ∧ m.unit < 0x4000 then p.bump (aKvCnt m.dst) 32 16 1 else p
  p.giveBack m.dst m (p.unitEpoch m.dst m.unit) stStaleRole

/-- A command of CTL that no row of CTL's own has issued is outstanding from now on (R288). -/
def Part.noteCommand (p : Part) (m : DieMsg) : Part :=
  let tag := fld m.payload 4 4
  let seq := fld m.payload 8 4
  if m.cls = 0 ∧ m.src = 0 ∧ !(p.d2d.outstanding.any fun c => c.tag == tag && c.seq == seq) then
    p.issue { tag := tag, seq := seq, die := m.dst, unit := m.unit, opcode := msgOpcode m, start := p.now, sess := 64 }
  else p

/-- A message of the command, weight-stream, activation or KV-append class reaches its unit (R282, R506): it goes back, or it takes its place
in the unit's order (R284). An activation for a slice is a tile result (R135); what weight streams and other activations carry comes with
the rows that use it. -/
def Part.unitTake (p : Part) (port : Nat) (m : DieMsg) : Part :=
  if !unitThere m.dst m.unit then p.giveBack m.dst m 0 stBadUnit
  else
    let epoch := p.unitEpoch m.dst m.unit
    let p := p.noteCommand m
    if p.slotGone m || m.epoch != epoch then p.backStale m
    else if m.cls = 0 ∧ !unitTakes m.dst m.unit (msgOpcode m) then p.giveBack m.dst m epoch stBadOpcode
    else match if m.cls = 0 then commandFail m else none with
    | some st => p.giveBack m.dst m epoch st
    | none =>
      if m.cls = 0 ∨ m.cls = 4 ∨ (m.cls = 3 ∧ 12 ≤ m.dst ∧ 0xC00 ≤ m.unit ∧ m.unit < 0xC10) then
        p.setInbox m.dst m.unit (inboxInsert { m := m, cycle := p.clk.cycles, port := port } (p.inbox m.dst m.unit))
      else p

/-! ### Arrival (R17, R20, R22, R23) -/

/-- The credits that a message returns (R23): they reach the port that it came on, and messages that waited for them go out. -/
def Part.applyCr (p : Part) (at_ port : Nat) (m : DieMsg) : Part :=
  if m.crCount = 0 then p else (p.setPort at_ port ((p.port at_ port).credit m.crClass (· + m.crCount))).pump at_ port

/-- A message that is next in its SEQ order is accepted at its destination: replies and events go to CTL, the others to their unit. A
credit-only message does nothing (R506). -/
def Part.acceptMsg (p : Part) (at_ port : Nat) (m : DieMsg) : Part :=
  let p : Part := { p with d2d := { p.d2d with rxSeq := mset 0 p.d2d.rxSeq (seqKey m.src m.dst m.cls) ((m.seq + 1) % 2 ^ 32) } }
  if m.len = 0 then p
  else
    let p := if at_ = 0 then p.traceAdd 0 1 port (envelope m) else p
    if m.cls = 1 then (if at_ = 0 then { p with d2d := { p.d2d with ctlReplies := p.d2d.ctlReplies ++ [m] } } else p)
    else if m.cls = 5 then
      if at_ = 0 ∧ m.unit = 0x100 then
        let line := fld m.payload 0 2
        let p := if line < 256 ∨ line = 266 then p else p.traceAdd 1 0 0 (m.payload.take 16)
        { p with ctl := { p.ctl with events := p.ctl.events ++ [padTo 16 (m.payload.take 16)] } }
      else p
    else if m.cls = 6 then p
    else p.unitTake port m

/-- The messages that came early at a die. -/
def Part.early (p : Part) (d : Nat) : List Arrived := mget [] p.d2d.early d

/-- A message is the next of its order. -/
def Part.isNext (p : Part) (m : DieMsg) : Bool := mget 0 p.d2d.rxSeq (seqKey m.src m.dst m.cls) == m.seq

/-- A message has been accepted already: its SEQ lies in the half of the circle before the next one (R17, log entry 146). -/
def Part.acceptedOnce (p : Part) (m : DieMsg) : Bool :=
  decide (2 ^ 31 ≤ (m.seq + 2 ^ 32 - mget 0 p.d2d.rxSeq (seqKey m.src m.dst m.cls)) % 2 ^ 32)

/-- Accept the early messages of a die whose turn has come, at most `n`. -/
def Part.takeEarly (p : Part) (d : Nat) : Nat → Part
  | 0 => p
  | n + 1 =>
    match takeFirst (fun a : Arrived => p.isNext a.m) (p.early d) with
    | none => p
    | some (a, rest) => ({ p with d2d := { p.d2d with early := mset [] p.d2d.early d rest } }.acceptMsg d a.port a.m).takeEarly d n

/-- A message at its destination (R17, R22): one already accepted is discarded whole; else its credits are applied, and it is accepted in
SEQ order, an early one waiting for those before it. -/
def Part.msgDeliver (p : Part) (at_ port : Nat) (m : DieMsg) : Part :=
  if p.acceptedOnce m || (p.early at_).any (fun a => a.m.src == m.src && a.m.cls == m.cls && a.m.seq == m.seq) then p.freeRx at_ port m
  else
    let p := (p.freeRx at_ port m).applyCr at_ port m
    if p.isNext m then (p.acceptMsg at_ port m).takeEarly at_ (p.early at_).length
    else { p with d2d := { p.d2d with
      early := mset [] p.d2d.early at_ (p.early at_ ++ [{ m := m, cycle := p.clk.cycles, port := port }]) } }

/-- A router passes a message on: its credits are this hop's; it holds the message until the next die acknowledges it (R17, R23, R500). -/
def Part.passOn (p : Part) (at_ port : Nat) (m : DieMsg) : Part :=
  let p := p.applyCr at_ port m
  match p.nextPort at_ m.src m.dst with
  | none => (p.freeRx at_ port m).dieFailed m.dst
  | some q => p.post { m := m, holder := at_, port := q, since := p.now, inPort := port, sent := false }

/-- DIE_MESSAGE_ARRIVE (R20, R21, R500): a message arrives at a die over one of its modules. -/
def Part.messageArrive (p : Part) (at_ port : Nat) (m : DieMsg) : Part :=
  if !p.active at_ port then p
  else match envelopeFail m with
  | some st => p.discard at_ port m st
  | none => if m.dst = at_ then p.msgDeliver at_ port m else p.passOn at_ port m

/-! ### Replies to CTL (R158, R289, R290) -/

/-- A DEEP bank that was to be written again has been erased: CTL writes it (R158). -/
def Part.rewriteErased (p : Part) (k : Nat) : Part :=
  match takeFirst (fun x : Nat × Nat => x.1 == k) p.models.rewrites with
  | none => p
  | some (x, rest) =>
    let p : Part := { p with models := { p.models with rewrites := rest } }
    let slot := x.2 % 65536
    match p.ver (x.2 / 65536) with
    | none => p
    | some v => p.bankMessage 0xA2 k (writeParams v slot (v.slotFmt slot) (v.slotSource slot))

/-- A write that was under way when its shard was repaired has ended: a SHALLOW bank takes a REFRESH, and a DEEP one an ERASE before it is
written again (R158). -/
def Part.rewriteWritten (p : Part) (k : Nat) : Part :=
  match takeFirst (fun x : Nat × Nat => x.1 == k) p.models.rewrites with
  | none => p
  | some (x, rest) =>
    let b := p.bank k
    let q : Part := { p with models := { p.models with rewrites := rest } }
    match p.ver (x.2 / 65536) with
    | none => q
    | some v =>
      if b.model ≠ v.model ∨ b.version ≠ v.version ∨ b.slot ≠ x.2 % 65536 then q
      else if b.st = .deep then p.bankCommand 0xA3 k
      else if b.st = .shallow then q.bankMessage 0xA1 k (writeParams v b.slot (v.slotFmt b.slot) (v.slotSource b.slot))
      else q

/-- CTL writes a slot of an ACD that is to sleep into its reserved bank, from the shard in the stacks (R403). -/
def Part.moveWrite (p : Part) (x : Nat × Nat) : Part :=
  let b := p.bank x.1
  match (p.entryOf b.model b.version).bind p.ver with
  | none => p
  | some v => p.bankMessage 0xA0 x.2 (writeParams v b.slot (v.slotFmt b.slot) (v.slotSource b.slot))

/-- A version that owns a bank and has pins. -/
def Part.pinnedBank (p : Part) (b : Bank) : Bool :=
  b.st != .empty && b.st != .retired && p.models.table.any fun v => v.2.model == b.model && v.2.version == b.version && decide (0 < v.2.pins)

/-- A bank can be reserved for ACD `a` (R403): on another ACD in service, EMPTY or owned by a version with no pins. -/
def Part.reservable (p : Part) (a k : Nat) : Bool :=
  let b := p.bank k
  k / 2048 != a && p.domSt (3 + k / 2048) == .on && (b.st == .empty || b.st == .shallow || b.st == .expired || b.st == .deep) &&
  !p.pinnedBank b && !p.models.moves.any fun x => x.2 == k

/-- The banks to reserve for ACD `a`: EMPTY ones first, DEEP ones last, `n` of them. -/
def Part.reserve (p : Part) (a n : Nat) : List Nat :=
  let l := (List.range 16384).filter (p.reservable a)
  let of_ (q : BankState → Bool) : List Nat := l.filter fun k => q (p.bank k).st
  (of_ (· == .empty) ++ of_ (fun s => s == .shallow || s == .expired) ++ of_ (· == .deep)).take n

/-- CTL starts a slot's move into its reserved bank: a DEEP bank is erased first (R403). -/
def Part.moveStart (p : Part) (x : Nat × Nat) : Part :=
  let p : Part := { p with models := { p.models with moves := p.models.moves ++ [x] } }
  if (p.bank x.2).st = .deep then p.bankCommand 0xA3 x.2 else p.moveWrite x

/-- A write into a reserved bank failed: another bank is reserved. -/
def Part.moveFailed (p : Part) (k : Nat) : Part :=
  match takeFirst (fun x : Nat × Nat => x.2 == k) p.models.moves with
  | none => p
  | some (x, rest) =>
    let p : Part := { p with models := { p.models with moves := rest } }
    match (p.reserve (x.1 / 2048) 2).filter (· != k) with
    | [] => p
    | j :: _ => p.moveStart (x.1, j)

/-- A reserved bank has been erased: the slot's write follows. -/
def Part.moveErased (p : Part) (k : Nat) : Part :=
  match p.models.moves.find? fun x => x.2 == k with
  | none => p
  | some x => p.moveWrite x

/-- A slot stands in its reserved bank: CTL releases the SHALLOW bank that it left (R403). -/
def Part.moveDone (p : Part) (k : Nat) : Part :=
  match takeFirst (fun x : Nat × Nat => x.2 == k) p.models.moves with
  | none => p
  | some (x, rest) =>
    let p : Part := { p with models := { p.models with moves := rest } }
    if (p.bank x.1).st = .shallow then p.bankCommand 0xA4 x.1 else p

/-- DIE_REPLY_ARRIVE (R289): the oldest reply stops the timer of its command, and what waited for it goes on. -/
def State.replyArrive (s : State) : State :=
  match s.part.d2d.ctlReplies with
  | [] => s
  | m :: _ =>
    let c := s.part.d2d.outstanding.find? fun c => c.tag == fld m.payload 4 4 && c.seq == fld m.payload 8 4
    let p := s.part.replyArrive
    match c with
    | none => { s with part := p }
    | some c =>
      let k := (c.die - 12) * 2048 + c.unit
      if c.opcode = 0xA3 ∧ fld m.payload 12 2 = stOk then { s with part := (p.rewriteErased k).moveErased k }
      else if c.opcode = 0xA0 ∧ fld m.payload 12 2 = stOk then { s with part := (p.rewriteWritten k).moveDone k }
      else if c.opcode = 0xA0 then { s with part := p.moveFailed k }
      else if c.opcode = 0xA1 ∨ c.opcode = 0xA2 then { s with part := p.rewriteWritten k }
      else if c.opcode = 0xC9 ∧ fld m.payload 12 2 = stStaleRole then { s with part := p.markStale c.unit }
      else { s with part := p }

/-! ### Reads of host memory (R263, R330) -/

/-- The read at an index, with the others. -/
def Part.takeRead (p : Part) (i : Nat) : Option (HostRead × Part) :=
  match p.host.reads[i]? with
  | none => none
  | some r => some (r, { p with host := { p.host with reads := p.host.reads.eraseIdx i } })

/-- A shard's part of a read key. -/
def refEntry (k : Nat) : Nat := k / 65536

/-- Bytes of a copy in the slower tier have come back. -/
def Part.tierGot (p : Part) (key : Nat) (data : Bytes) : Part := p.modShard (refEntry key) (key % 65536) fun x => { x with got := data }

/-- HOST_READ_COMPLETE (R263): the bytes that were asked for go where they are wanted: 1 an ingot, 2 a prompt, 3 an allowed-token list, 4 a
policy image, 5 a grammar image, 6 a source table, 8 a tier copy. -/
def Part.readComplete (p : Part) (i : Nat) (data : Bytes) : Part :=
  match p.takeRead i with
  | none => p
  | some (r, q) =>
    if data.length ≠ r.len ∨ !p.canWrite then p
    else if r.kind = 1 then (q.gotBytes (refEntry r.key) (r.key % 65536) data false).fetchNext (refEntry r.key) (r.key % 65536)
    else if r.kind = 2 ∨ r.kind = 3 then q.admitList r.kind r.sess data
    else if r.kind = 4 then q.policyImage data
    else if r.kind = 5 then q.grammarImage r.key data
    else if r.kind = 6 then match (q.ses r.sess).cur with
      | none => q
      | some k => q.loadStart r.sess k data
    else q.tierGot r.key data

/-- HOST_READ_ERROR (R330): the error is logged through AER; an ingot's attempt fails with FETCH, a read-back with TIER, and a command
with BAD_PARAM. -/
def Part.readError (p : Part) (i : Nat) (holders : List Nat) : Part :=
  match p.takeRead i with
  | none => p
  | some (r, q) =>
    let q : Part := { q with host := { q.host with aer := q.host.aer + 1 } }
    if r.kind = 1 then q.fetchFail r.key holders
    else if r.kind = 2 ∨ r.kind = 3 then
      { q with host := { q.host with reads := q.host.reads.filter fun x => !((x.kind == 2 || x.kind == 3) && x.sess == r.sess) } }.finish r.sess stBadParam []
    else if r.kind = 4 then { q with ctl := { q.ctl with load := none } }.finish r.sess stBadParam []
    else if r.kind = 5 then
      let g := q.gram r.key
      (q.freeGram r.key).completeA g.sess g.seq stBadParam []
    else if r.kind = 6 then q.finish r.sess stBadParam []
    else (q.shardFail (refEntry r.key) (r.key % 65536) causeTier holders).regionsEmpty

/-! ### The commands -/

/-- MODULE_TRAINED (R23, R257). -/
def execModuleTrained (d q : Nat) (credits : List Nat) (s : State) : Out :=
  s.live (dieDomain d) (portOk d q) fun p => (p.moduleTrained d q credits).readiness

/-- MODULE_TRAINING_FAIL (R16, R257). -/
def execModuleTrainingFail (d q : Nat) (s : State) : Out :=
  s.live (dieDomain d) (portOk d q) fun p => (p.moduleTrainFail d q).readiness

/-- MODULE_DOWN (R16, R257). -/
def execModuleDown (d q : Nat) (s : State) : Out :=
  s.live (dieDomain d) (portOk d q) fun p => (p.moduleFail d q).readiness

/-- DIE_MESSAGE_ARRIVE (R20). -/
def execDieMessageArrive (at_ port : Nat) (m : DieMsg) (s : State) : Out :=
  s.live (dieDomain at_) (portOk at_ port) fun p => (p.messageArrive at_ port m).readiness

/-- DIE_DELIVERY_TIMEOUT (R286). -/
def execDieDeliveryTimeout (src dst cls seq : Nat) (s : State) : Out :=
  s.live (dieDomain src) (decide (src < 20) && decide (dst < 20)) fun p => (p.deliveryTimeout src dst cls seq).readiness

/-- DIE_COMMAND_TIMEOUT (R290). -/
def execDieCommandTimeout (tag seq : Nat) (s : State) : Out := s.live 1 true fun p => (p.cmdTimeout tag seq).readiness

/-- DIE_REPLY_ARRIVE (R289). -/
def execDieReplyArrive (s : State) : Out := s.liveMem 1 true State.replyArrive

/-- HOST_READ_COMPLETE (R263). -/
def execHostReadComplete (i : Nat) (data : Bytes) (s : State) : Out := s.live 1 true fun p => p.readComplete i data

/-- HOST_READ_ERROR (R330). -/
def execHostReadError (i : Nat) (holders : List Nat) (s : State) : Out := s.live 1 true fun p => p.readError i holders

end Sys2Proof.Machine
end

