-- ==== Sys2Proof/Machine/Boot.lean ====
section
/-! DEFINITION. Boot: power-on and power-down, resets, the PCIe function, reference clocks, PART_RESET and HALT, dies leaving reset and
the stages of bring-up (R367 to R395, R397). -/
namespace Sys2Proof.Machine

/-! ### Power and reset pins (R374 to R378, R397) -/

/-- A power-down or a reset came in stage HALTED: the latest boot record says so (R442). -/
def Part.latestOrderly (p : Part) : Bool :=
  match latestRec p.validBoots with
  | none => false
  | some r => (fld r.2 5 1).testBit 1

/-- POWER_ON (R374, R382, R429, R432): PG_IN rises. The AON island starts afresh, QUENCH_N is released, part time is 0, and domains 2 and 1
are requested. -/
def Part.powerOn (p : Part) : Part :=
  if p.pins.pgIn then p
  else
    { p with
      pins := { p.pins with pgIn := true, throtN := true, quenchN := true, frozenN := true, xspi := false },
      clk := Clk.reset, pwr := Pwr.reset, therm := Therm.reset, frz := Frz.reset, evcCopy := none, image := none, failedDie := none,
      boot := { Boot.reset with held := !p.pins.resetN, haltedBy := p.boot.haltedBy } }.startBringup

/-- POWER_DOWN (R374, R397): every domain is switched off, running deep writes, erases and map updates are abandoned, and part time is
lost. -/
def Part.powerDown (p : Part) : Part :=
  if !p.pins.pgIn then p
  else
    let p := p.allOff
    { p with
      pins := { p.pins with pgIn := false, throtN := true, quenchN := true, frozenN := true, xspi := false },
      clk := Clk.reset, pwr := Pwr.reset, therm := Therm.reset, frz := Frz.reset, evcCopy := none, image := none, failedDie := none,
      boot := { Boot.reset with haltedBy := p.boot.haltedBy } }

/-- RESET_N_LOW (R374, R378, R470): three low samples reset every domain except AON, also out of a freeze; a quenched part ignores it. -/
def Part.resetLow (p : Part) : Part :=
  let q : Part := { p with pins := { p.pins with resetN := false } }
  if !p.pins.pgIn || p.therm.quenched then q else { q with boot := { q.boot with held := true } }.resetAll 1

/-- RESET_N_HIGH (R378): the first high sample ends the reset, and bring-up starts. -/
def Part.resetHigh (p : Part) : Part :=
  let q : Part := { p with pins := { p.pins with resetN := true } }
  if !p.pins.pgIn || p.therm.quenched || !p.boot.held then q else { q with boot := { q.boot with held := false } }.startBringup

/-- Every read of host memory fails; `holders` lists the replica holders that each ingot may try next (R152, R330). -/
def Part.readsFail (p : Part) (holders : List (List Nat)) : Part :=
  (List.range p.host.reads.length).foldl (fun q n => q.readError 0 (nth [] holders n)) p

/-- The PCIe function loses its link: Bus Master Enable clears, and reads of host memory fail (R376, R377). -/
def Part.linkFall (p : Part) (holders : List (List Nat)) : Part :=
  { p with host := { p.host with linkUp := false, bme := false, table := [] } }.readsFail holders

/-- PERST_N_LOW (R374, R376, R378): with PERST_SCOPE 0, or in stage HALTED, the part is reset and held; with PERST_SCOPE 1 only the PCIe
function is. A frozen or quenched part ignores it (R432, R470). -/
def Part.perstLow (p : Part) (holders : List (List Nat)) : Part :=
  let q : Part := { p with pins := { p.pins with perstN := false } }
  if !p.pins.pgIn || p.therm.quenched || p.frz.active then q
  else if p.regFld aRstCfg 0 1 = 1 ∧ p.boot.stage ≠ 6 then q.linkFall holders
  else { q with boot := { q.boot with perstHeld := true } }.resetAll 2

/-- PERST_N_HIGH (R378): a reset that it held ends, and the link may train. -/
def Part.perstHigh (p : Part) : Part :=
  let q : Part := { p with pins := { p.pins with perstN := true } }
  if !p.pins.pgIn || p.therm.quenched || p.frz.active || !p.boot.perstHeld then q
  else { q with boot := { q.boot with perstHeld := false } }.startBringup

/-! ### The PCIe function (R377) -/

/-- PCIE_LINK_UP (R377): the link trains once IOD is out of reset and PERST_N is high. -/
def Part.pcieUp (p : Part) : Part :=
  if p.pins.perstN && p.boot.dieUp.testBit 1 then { p with host := { p.host with linkUp := true } } else p

/-- BUS_MASTER_ENABLE (R377): the host sets or clears the bit. Setting it lets the held MSI-X signals out. -/
def Part.busMaster (p : Part) (v : Bool) : Part :=
  if !p.host.linkUp then p
  else if v then { p with host := { p.host with bme := true } }.msixFlush
  else { p with host := { p.host with bme := false } }

/-! ### Clocks (R373, R390) -/

/-- Clear a die's bit of a mask. -/
def clearBit (m d : Nat) : Nat := if m.testBit d then m - 2 ^ d else m

/-- Set a die's bit of a mask. -/
def setBit (m d : Nat) : Nat := if m.testBit d then m else m + 2 ^ d

/-- PLL_LOCK_LOSS (R373): a die out of lock for more than 10 µs is declared failed in service, and stops bring-up before. -/
def Part.pllLoss (p : Part) (d : Nat) : Part :=
  if p.clk.lock.testBit d then { p with clk := { p.clk with lock := clearBit p.clk.lock d } }.bringupFault 3 d else p

/-- REFCLK_LOSS (R373, R390): CTL is declared failed in service; bring-up is held. -/
def Part.refLoss (p : Part) : Part :=
  if !p.clk.ref156 then p
  else
    let q : Part := { p with clk := { p.clk with ref156 := false } }
    if 3 ≤ p.boot.stage then q.bringupFault 3 0 else q

/-- REFCLK_156_PRESENT (R372, R390): part time counts. A PLL that does not lock to it stops bring-up. -/
def Part.refPresent (p : Part) (lockFail : Bool) : Part :=
  if p.clk.ref156 || !p.pins.pgIn then p
  else
    let q : Part := { p with clk := { p.clk with ref156 := true } }
    if lockFail && decide (p.boot.stage < 3) then q.bringupFault 3 0 else q

/-- REFCLK_WAIT_TIMEOUT (R390): REFCLK_156 is absent 1 s after stage LINK, by the AON oscillator. -/
def Part.refTimeout (p : Part) : Part :=
  if !p.clk.ref156 && (p.boot.stage == 1 || p.boot.stage == 2) then p.bringupFault 3 0 else p

/-! ### PART_RESET and IOD.RST_CTL (R379, R380) -/

/-- PART_RESET without HALT (R379): the reply is OK, and the reset begins 100 µs after its header is written, at once counted where QUIET
leaves the reply out. -/
def Part.partReset (p : Part) (i : Nat) (k : Bytes) : Part :=
  let q := { p with boot := { p.boot with noTake := true } }.finish i stOk []
  if pkQuiet k then { q with boot := { q.boot with resetDue := some (p.now + 100000) } } else q

/-- RESET_DELAY_EXPIRE (R379): the reset begins. -/
def Part.resetDelay (p : Part) : Part :=
  match p.boot.resetDue with
  | none => p
  | some t => if t ≤ p.now then (p.resetAll 3).startBringup else p

/-- DEEP_AGE has risen since the bank's last map update (R379). -/
def Bank.ageRisen (b : Bank) : Bool := b.st == .deep && decide (fld b.mapCopy 16 4 * ageHour < b.age)

/-- What a HALT leaves of a tile's waiting writes: one map update for each DEEP bank whose DEEP_AGE has risen (R379). -/
def Part.haltTile (p : Part) (t : Nat) : Part :=
  let p := p.setTile t { p.tile t with wq := [] }
  let p := if (p.bank (2 * t)).ageRisen then p.pushMap (2 * t) else p
  if (p.bank (2 * t + 1)).ageRisen then p.pushMap (2 * t + 1) else p

/-- A HALT begins (R379). -/
def Part.haltStart (p : Part) (h : Halt) : Part :=
  match p.boot.halt with
  | some _ => p
  | none =>
    let p : Part := { p with boot := { p.boot with noTake := true, halt := some h } }
    ((p.an.tiles.map Prod.fst) ++ p.an.banks.map fun b : Nat × Bank => b.1 / 2).foldl Part.haltTile p

/-- PART_RESET with HALT (R379). -/
def Part.partHalt (p : Part) (i : Nat) (k : Bytes) : Part :=
  (p.startA i 0).haltStart { byCtl := false, sess := i, tag := pkTag k, seq := (p.ses i).serial, since := p.now }

/-- A tile has deep work left for a HALT: a running deep write, erase or map update, or a map update that waits. -/
def Tile.haltBusy (t : Tile) : Bool :=
  (match t.wr with
   | none => false
   | some w => w.kind != .shallow && w.kind != .refresh) || t.wq.any fun w => w.kind == .map

/-- Write replies of a session until the one of `seq` is out or no further reply can be written; `n` bounds their number. -/
def Part.drainReplies (p : Part) (i : Nat) : Nat → Part
  | 0 => p
  | n + 1 => if (p.ses i).waiting.isEmpty then p else (p.replyWrite i).drainReplies i n

/-- Every domain except AON and IOD is powered down. -/
def Part.haltDomains (p : Part) : Part :=
  ((List.range 19).filter fun k => k != 1).foldl (fun q k => (q.resetDomain (k + 1)).setDom (k + 1) Dom.reset)
    { p with d2d := D2d.reset }

/-- HALT_COMPLETE (R379, R442): once CTL has no deep work left, the orderly state is recorded, the halt's reply is written, every domain except AON and IOD goes off, and
the part is in stage HALTED. -/
def Part.haltComplete (p : Part) : Part :=
  match p.boot.halt with
  | none => p
  | some h =>
    if (p.an.tiles.any fun t => t.2.haltBusy) || p.domSt 1 != .on then p
    else
      let p := p.markBoot 1
      let p : Part := { p with boot := { p.boot with stage := 6, halt := none, haltedBy := bit h.byCtl } }
      let p := if h.byCtl then p else p.completeA h.sess h.seq stOk []
      let p := if h.byCtl then p else p.drainReplies h.sess (p.ses h.sess).waiting.length
      let p := p.haltDomains
      { p with pwr := { p.pwr with queue := [] } }

/-- HALT_TIMEOUT (R380): after 100 ms the part resets without the orderly record. -/
def Part.haltTimeout (p : Part) : Part :=
  match p.boot.halt with
  | none => p
  | some h => if h.since + 100000000 ≤ p.now then (p.resetAll (if h.byCtl then 4 else 3)).startBringup else p

/-- RST_CTL_RESET (R380): KEY 0xC0DE with ACTION 1 resets the part. -/
def Part.ctlReset (p : Part) (key : Nat) : Part := if key = 0xC0DE then (p.resetAll 4).startBringup else p

/-- RST_CTL_HALT (R380): KEY 0xC0DE with ACTION 2 halts it without a reply. -/
def Part.ctlHalt (p : Part) (key : Nat) : Part :=
  if key = 0xC0DE ∧ p.boot.stage ≠ 6 then p.haltStart { byCtl := true, sess := 64, tag := 0, seq := 0, since := p.now } else p

/-! ### Dies leaving reset (R10, R15, R58, R63 to R66, R109, R190, R382, R404) -/

/-- A die that leaves reset starts training each of its modules whose other end is out of reset (R15). -/
def Part.trainModules (p : Part) (d : Nat) : Part :=
  (List.range (portTable d).length).foldl (fun q n =>
    match (portTable d)[n]? with
    | none => q
    | some (e, _) => if q.boot.dieUp.testBit e then q.bothEnds d n fun _ => { Port.reset with st := 1 } else q) p

/-- The seed that an ACD takes (R109, R404): that of another ACD, else that of the sleep image, else one from the entropy source. -/
def Part.seedFor (p : Part) (a : Nat) : Word64 × Word64 × Part :=
  match (List.range 8).find? fun x => x != a && p.boot.dieUp.testBit (12 + x) with
  | some x => ((p.acd x).seed, (p.acd x).nextSeed, p)
  | none => match p.image with
    | some g => (g.seed, g.seed, p)
    | none =>
      let (w, q) := p.free
      (w, w, q)

/-- What a DEEP bank's DEEP_AGE rises by while its ACD sleeps, at the T3 rate (R404). -/
def Part.sleepAge (p : Part) (d : Nat) : Nat := if (p.dom d).sleepAt = 0 then 0 else 80 * ((p.now - (p.dom d).sleepAt) / 1000000)

/-- The banks of an ACD load their maps (R63 to R66), and the blank checks start (R64); its count of conversion slots starts (R86). -/
def Part.loadMaps (p : Part) (a : Nat) : Part :=
  let extra := p.sleepAge (3 + a)
  let orderly := p.boot.orderly || (p.dom (3 + a)).sleepAt != 0
  let load (b : Bank) : Bank :=
    let c := b.load orderly
    if c.st = .deep then { c with age := c.age + extra } else c
  let p := (p.an.banks.filter fun x => x.1 / 2048 == a).foldl (fun q x => q.setBank x.1 (load (q.bank x.1))) p
  let p := (p.an.banks.filter fun x => x.1 / 2048 == a).foldl (fun q x => q.checkMapLoaded (x.1 / 2)) p
  let (s, n, p) := p.seedFor a
  p.setAcd a { p.acd a with resetAt := p.now, mapAt := some p.now, seed := s, nextSeed := n }

/-- The sensors of a die load their trims from the log rows (R10). -/
def Part.loadTrims (p : Part) (d : Nat) : Part :=
  (p.log.trims.filter fun x => x.1 / 64 == d).foldl (fun q x => { q with
    therm := { q.therm with sensors := mmod Sensor.reset q.therm.sensors x.1 fun s => { s with trim := x.2 % 2 ^ 16 } } }) p

/-- DIE_RESET_EXIT (R10, R372, R381, R382): a die of a STARTING domain leaves reset, its fields marked "load" load, and its modules start
training. IOD brings stage LINK, an ACD loads its maps, a CXD initialises its stacks; `stackFail` says that one of them fails. -/
def Part.dieExit (p : Part) (d : Nat) (stackFail : Bool) : Part :=
  let r := p.dom (dieDomain d)
  if r.st ≠ .starting ∨ r.held ∨ p.boot.dieUp.testBit d ∨ (d ≠ 1 ∧ !p.clk.ref156) then p
  else
    let p : Part := { p with
      boot := { p.boot with dieUp := setBit p.boot.dieUp d }, clk := { p.clk with lock := setBit p.clk.lock d } }
    let p := (p.loadTrims d).trainModules d
    if d = 1 then
      { p with
        pins := { p.pins with xspi := p.pins.xspi || p.boot.stage == 0 },
        boot := { p.boot with stage := if p.boot.stage = 0 then 1 else p.boot.stage, orderly := p.latestOrderly } }
    else if 12 ≤ d then p.loadMaps (d - 12)
    else if 8 ≤ d then
      if stackFail then p.bringupFault 4 d
      else (List.range 8).foldl (fun q n => q.setStack (8 * (d - 8) + n) { Stack.reset with ready := true, refreshAt := q.now, patrolAt := q.now }) p
    else p

/-- DIE_RESET_TIMEOUT (R390, R400): a die that has not left reset 1 s after its ramp stops bring-up; its domain stays STARTING. While
REFCLK_156 is absent bring-up holds instead. -/
def Part.dieTimeout (p : Part) (d : Nat) : Part :=
  let r := p.dom (dieDomain d)
  if r.st = .starting ∧ !p.boot.dieUp.testBit d ∧ p.boot.stage < 3 ∧ (p.clk.ref156 ∨ d = 1) ∧ p.passed r.startAt 1000000000 then
    p.bringupFault 6 d
  else p

/-! ### Firmware (R383, R438 to R449) -/

/-- The identity macro is read, the boot ROM chooses a slot and the certificate is checked; none where a check fails. -/
def Part.verifyFirmware (p : Part) : Option Part :=
  if p.flash.isEmpty then none
  else match p.readPuf.bootFirmware with
    | none => none
    | some q =>
      let r := q.takeCert
      if r.sec.configOk then some r else none

/-- What a verification that fails leaves in the identity registers (R438, R448): PUF_OK, and the slot where one was chosen. -/
def Part.failedFirmware (p : Part) : Part :=
  match p.readPuf.bootFirmware with
  | none => p.readPuf
  | some q => q.takeCert

/-- STAGE_FIRMWARE (R381, R382, R390, R432, R442): once CTL_MAIN is ON, its firmware runs: the boot record is written and BOOT_NONCE
drawn. An uncleared quench record holds bring-up; otherwise CTL requests the remaining domains. Without a boot flash, or with an image
or certificate that fails, bring-up stops. -/
def Part.stageFirmware (p : Part) : Part :=
  if p.boot.stage ≠ 1 ∨ !p.clk.ref156 ∨ !p.boot.dieUp.testBit 0 then p
  else if p.flash.isEmpty then p.bringupFault 1 0
  else if p.domSt 1 = .on then
    let p := p.writeBootRecord
    let (n, p) := p.entropy 8
    let p : Part := { p with
      pins := { p.pins with xspi := false }, sec := { p.sec with bootNonce := n }, boot := { p.boot with stage := 2, quenchHold := decide (0 < p.uncleared) } }
    let p := p.readiness
    if p.boot.quenchHold then p else p.wakeAll
  else match p.verifyFirmware with
    | some _ => p
    | none => p.failedFirmware.bringupFault 2 0

/-! ### The commands -/

/-- POWER_ON (R374). -/
def execPowerOn (s : State) : Out := s.on Part.powerOn

/-- POWER_DOWN (R397). -/
def execPowerDown (s : State) : Out := s.on Part.powerDown

/-- RESET_N_LOW (R378). -/
def execResetNLow (s : State) : Out := s.on Part.resetLow

/-- RESET_N_HIGH (R378). -/
def execResetNHigh (s : State) : Out := s.on Part.resetHigh

/-- PERST_N_LOW (R376). -/
def execPerstNLow (holders : List (List Nat)) (s : State) : Out := s.on fun p => p.perstLow holders

/-- PERST_N_HIGH (R378). -/
def execPerstNHigh (s : State) : Out := s.on Part.perstHigh

/-- PCIE_LINK_DOWN (R377). -/
def execPcieLinkDown (holders : List (List Nat)) (s : State) : Out := s.live 2 true fun p => p.linkFall holders

/-- PCIE_LINK_UP (R377). -/
def execPcieLinkUp (s : State) : Out := s.live 2 true Part.pcieUp

/-- BUS_MASTER_ENABLE (R377). -/
def execBusMasterEnable (v : Bool) (s : State) : Out := s.live 2 true fun p => p.busMaster v

/-- PLL_LOCK_LOSS (R373). -/
def execPllLockLoss (d : Nat) (s : State) : Out := s.live 0 (decide (d < 20)) fun p => (p.pllLoss d).readiness

/-- REFCLK_LOSS (R373). -/
def execRefclkLoss (s : State) : Out := s.on fun p => p.refLoss.readiness

/-- REFCLK_156_PRESENT (R372, R390). -/
def execRefclk156Present (lockFail : Bool) (s : State) : Out := s.on fun p => p.refPresent lockFail

/-- REFCLK_WAIT_TIMEOUT (R390). -/
def execRefclkWaitTimeout (s : State) : Out := s.live 0 true Part.refTimeout

/-- PART_RESET without HALT (R379). -/
def execPartReset (i : Nat) (s : State) : Out := s.cmd i 0x0A fun k p => if (par k 0 1).testBit 1 then p else p.partReset i k

/-- PART_RESET with HALT (R379). -/
def execPartResetHalt (i : Nat) (s : State) : Out := s.cmd i 0x0A fun k p => if (par k 0 1).testBit 1 then p.partHalt i k else p

/-- RESET_DELAY_EXPIRE (R379). -/
def execResetDelayExpire (s : State) : Out := s.live 0 true Part.resetDelay

/-- HALT_COMPLETE (R379). -/
def execHaltComplete (s : State) : Out := s.live 0 true fun p => p.haltComplete.readiness

/-- HALT_TIMEOUT (R380). -/
def execHaltTimeout (s : State) : Out := s.live 0 true Part.haltTimeout

/-- RST_CTL_RESET (R380). -/
def execRstCtlReset (key : Nat) (s : State) : Out := s.live 2 true fun p => p.ctlReset key

/-- RST_CTL_HALT (R380). -/
def execRstCtlHalt (key : Nat) (s : State) : Out := s.live 2 true fun p => p.ctlHalt key

/-- DIE_RESET_EXIT (R382). -/
def execDieResetExit (d : Nat) (stackFail : Bool) (s : State) : Out := s.live 0 (decide (d < 20)) fun p => (p.dieExit d stackFail).readiness

/-- DIE_RESET_TIMEOUT (R400). -/
def execDieResetTimeout (d : Nat) (s : State) : Out := s.live 0 (decide (d < 20)) fun p => (p.dieTimeout d).readiness

/-- STAGE_FIRMWARE (R381). -/
def execStageFirmware (s : State) : Out := s.live 0 true Part.stageFirmware

end Sys2Proof.Machine
end

