-- ==== Sys2Proof/Machine/Domains.lean ====
section
/-! DEFINITION. Domains: sleep and wake of each kind of power domain, the completion of wakes, the sleep image and maintenance wakes
(R366, R381, R400 to R409). -/
namespace Sys2Proof.Machine

/-! ### When a domain may sleep, and when it has drained (R403, R405, R406, R409) -/

/-- An NVMe controller is connected. -/
def Part.nvmeConnected (p : Part) : Bool := p.fab.nvme.any fun n => n.2.st == 2

/-- A link of LKD `k` carries an NVMe controller or an ingress connection. -/
def Part.lkdInUse (p : Part) (k : Nat) : Bool :=
  (p.fab.nvme.any fun n => (n.2.st == 1 || n.2.st == 2) && fld n.2.cfg 1 1 / 4 == k) || p.fab.ingress.any fun c => c.link / 4 == k

/-- R405: an LKD is needed. -/
def Part.lkdBusy (p : Part) (k : Nat) : Bool :=
  !p.fab.slices.isEmpty || p.jrn.partner.isSome || !p.jrn.sources.isEmpty || p.lkdInUse k

/-- R406: domain 1 is needed. -/
def Part.ctlBusy (p : Part) (i : Nat) : Bool :=
  (allSessions.any fun j => j != i && (p.ses j).st == .opened) ||
  ([3, 4, 5, 6, 7, 8, 9, 10, 15, 16, 17, 18, 19].any fun d => p.domSt d != .sleep) ||
  (p.serv.reqs.any fun r => r.2.st != .ending) || !p.serv.heldSlots.isEmpty || (p.sess.any fun s => !s.2.running.isEmpty) ||
  !p.fab.slices.isEmpty || p.jrn.partner.isSome || !p.jrn.sources.isEmpty || !p.models.tiers.isEmpty ||
  (p.models.table.any fun v => v.2.shards.any fun s => s.2.tier.isSome) || p.nvmeConnected

/-- The banks of an ACD that pinned versions own (R403). -/
def Part.pinnedOn (p : Part) (a : Nat) : List Nat := (p.an.banks.filter fun b => b.1 / 2048 == a && p.pinnedBank b.2).map Prod.fst

/-- A tile does or waits for something. -/
def Tile.busy (t : Tile) : Bool := !t.queue.isEmpty || !t.runs.isEmpty || t.wr.isSome || !t.wq.isEmpty

/-- A slice does or waits for something. -/
def Slice.busy (s : Slice) : Bool := !s.want.isEmpty || !s.held.isEmpty || !s.granted.isEmpty || !s.back.isEmpty || !s.work.isEmpty

/-- An ACD has not drained (R403): a step uses it, a write, erase or anneal task runs or waits, an MVM is in its phases, or a slot has not
moved. -/
def Part.acdBusy (p : Part) (a : Nat) : Bool :=
  (p.an.jobs.any fun j => j.job.homes.any fun h => h.1 / 16 == a) || (p.an.tiles.any fun t => t.1 / 1024 == a && t.2.busy) ||
  (p.an.slices.any fun s => s.1 / 16 == a && s.2.busy) || (p.acd a).anneal.isSome || p.models.moves.any fun x => x.1 / 2048 == a

/-- A staging engine runs or something waits for one (R409). -/
def Part.wsdBusy (p : Part) : Bool :=
  !p.busyEngines.isEmpty || !p.models.queue.isEmpty || !p.models.scrubQueue.isEmpty || p.models.grammars.any fun g => g.2.scrubbing

/-! ### The sleep image (R406, R451) -/

/-- The stored word of a CTL register with its RW fields alone. -/
def rwWord (a : Nat) (v : Word64) : Word64 :=
  match findReg a with
  | none => 0
  | some (d, _) => d.fields.foldl (fun w f => if f.acc = .rw then setBits w f.lo f.width (getBits v f.lo f.width) else w) (regReset a)

/-- The RW fields of the CTL registers. -/
def Part.ctlRegs (p : Part) : List (Nat × Word64) :=
  (p.regs.words.filter fun r => r.1 / windowBytes == 0).foldl (fun m r => mset (regReset r.1) m r.1 (rwWord r.1 r.2)) []

/-- The seed that the part uses: that of an ACD, or the one last restored. -/
def Part.partSeed (p : Part) : Word64 :=
  match (List.range 8).find? fun a => p.boot.dieUp.testBit (12 + a) with
  | some a => (p.acd a).nextSeed
  | none => match p.image with
    | some g => g.seed
    | none => (p.acd 0).nextSeed

/-- The sleep key (R450). -/
def Part.sleepKey (p : Part) (nonce : Bytes) : BitVec 256 := deriveAes (beBytes 64 p.sec.cdi1.toNat) nonce "HNL sleep v1"

/-- The earliest scrub deadline of a held shard (R408). -/
def Part.scrubDeadline (p : Part) : Option Nat :=
  (p.models.table.flatMap fun v => (v.2.shards.filter fun s => s.2.held).map fun s => s.2.scrubAt + scrubNs).foldl
    (fun m t => match m with | none => some t | some u => some (min u t)) none

/-- CTL writes the sleep image and enters CLOSING. -/
def Part.sleepCtl (p : Part) : Part :=
  let (n, p) := p.entropy 8
  let g : SleepImage :=
    { nonce := n, sealKey := p.sleepKey n, valid := true, models := p.models, keys := p.sec.keys, slabs := p.kv.slabs,
      regs := p.ctlRegs, ranks := p.ctl.ranks, seed := p.partSeed, policy := if p.ctl.loaded then some p.ctl.image else none }
  { p with image := some g, pwr := { p.pwr with nextMaint := p.scrubDeadline } }.setDom 1 { p.dom 1 with st := .closing }

/-- The retained event state is restored before a core of CTL leaves reset (R366, R375). -/
def Part.restoreEvc (p : Part) : Part :=
  match p.evcCopy with
  | none => p
  | some e =>
    e.prios.foldl (fun q c => q.setCore c.1 { q.core c.1 with prio := c.2 })
      { p with evcCopy := none, ctl := { p.ctl with lines := e.lines, gate := e.gate, gateWas := e.gate } }

/-- The image is restored after the firmware check (R407): none when its tag fails under this firmware's key. Policy firmware is verified
again and restarted. -/
def Part.restoreImage (p : Part) : Option Part :=
  match p.image with
  | none => none
  | some g =>
    if g.valid ∧ g.sealKey = p.sleepKey g.nonce then
      let p : Part := { p.restoreEvc with
        image := some { g with valid := false }, models := g.models, sec := { p.sec with keys := g.keys },
        kv := { p.kv with slabs := g.slabs }, regs := { p.regs with words := g.regs.foldl (fun m r => minsert m r.1 r.2) p.regs.words },
        ctl := { p.restoreEvc.ctl with ranks := g.ranks } }
      let (n, p) := p.entropy 8
      let p : Part := { p with sec := { p.sec with bootNonce := n } }
      match g.policy with
      | none => some p
      | some b => some (if p.policyValid b then p.policyStart b else p)
    else none

/-! ### DOMAIN_SLEEP and DOMAIN_WAKE (R401, R402) -/

/-- Change a domain's SLEEP_REQ. -/
def Part.sleepReq (p : Part) (d : Nat) (v : Bool) : Part := p.setDom d { p.dom d with sleepReq := v }

/-- The links of an LKD go DOWN (R405). -/
def Part.lkdLinksDown (p : Part) (k : Nat) : Part :=
  (List.range 4).foldl (fun q n =>
    let l := 4 * k + n
    let q : Part := { q with fab := { q.fab with eth := mmod EthLink.reset q.fab.eth l fun e => { e with up := false } } }
    if (q.link l).st = 0 then q else q.linkDown l 0 false) p

/-- A domain that is ON enters CLOSING: the start point of DOMAIN_SLEEP (R401, R403 to R406, R409). -/
def Part.closeDomain (p : Part) (i d : Nat) : Part :=
  let begin (q : Part) : Part := (q.startA i d).sleepReq d true
  let shut (q : Part) : Part := q.setDom d { q.dom d with st := .closing }
  if d = 1 then
    if p.ctlBusy i then p.finish i stBusy []
    else
      let q := (p.sleepReq 1 true).sleepCtl
      (q.modSes i fun s => { s with closing := true }).finish i stOk []
  else if d ≤ 10 then
    let own := p.pinnedOn (d - 3)
    let free := p.reserve (d - 3) own.length
    if free.length < own.length then p.finish i stNoSpace []
    else (own.zip free).foldl (fun q x => q.moveStart x) (shut (begin p))
  else if d = 19 then if p.nvmeConnected then p.finish i stBusy [] else shut (begin p)
  else if p.lkdBusy (d - 15) then p.finish i stBusy []
  else (shut (begin p)).lkdLinksDown (d - 15)

/-- DOMAIN_SLEEP (R401, R402, R406). Its status on a FAILED domain is not given: a free value. -/
def Part.domainSleep (p : Part) (i : Nat) (k : Bytes) : Part :=
  let d := par k 0 1
  match p.domSt d with
  | .on =>
    let q := p.closeDomain i d
    if d = 1 ∧ pkQuiet k ∧ q.domSt 1 = .closing then q.closeSession i else q
  | .closing => (p.startA i d).sleepReq d true
  | .sleep => (p.sleepReq d true).finish i stAlreadyDone []
  | .failed => let (w, q) := p.free; q.finish i (w.toNat % 65536) []
  | _ => p.finish i stBusy []

/-- DOMAIN_WAKE (R401, R402): on a domain that is CLOSING it waits until SLEEP. -/
def Part.domainWake (p : Part) (i : Nat) (k : Bytes) : Part :=
  let d := par k 0 1
  match p.domSt d with
  | .on => (if d = 0 then p else p.sleepReq d false).finish i stAlreadyDone []
  | .closing => p
  | .sleep => ((p.startA i d).sleepReq d false).requestWake d
  | .failed => let (w, q) := p.free; q.finish i (w.toNat % 65536) []
  | _ => (p.startA i d).sleepReq d false

/-- The reply body of DOMAIN_WAKE (R401). -/
def Part.wakeBody (p : Part) (d : Nat) : Bytes :=
  let r := p.dom d
  leBytes 1 d ++ [0] ++ leBytes 4 r.lastQueueUs ++ leBytes 2 r.lastRampUs ++ leBytes 4 r.lastStartUs ++ zpad 4

/-! ### DOMAIN_ON (R381, R394, R400, R404, R405, R407, R408) -/

/-- Every module of a die that leads to a die out of reset has finished training (R15). -/
def Part.modulesDone (p : Part) (d : Nat) : Bool := (List.range (portTable d).length).all fun q => (p.port d q).st != 1

/-- The rest of a domain's completion point: an ACD's maps have loaded (R404), a CXD's stacks are ready. -/
def Part.domainReady (p : Part) (d : Nat) : Bool :=
  ((domainDies d).all fun e => p.boot.dieUp.testBit e && p.modulesDone e) &&
  (if 3 ≤ d ∧ d ≤ 10 then (List.range 1024).all fun n => (p.tile (1024 * (d - 3) + n)).mapLoaded
   else if 11 ≤ d ∧ d ≤ 14 then (List.range 8).all fun n => (p.stack (8 * (d - 11) + n)).ready
   else true)

/-- The domain enters ON; its wake is counted and the commands that wait for it complete (R401, R411). -/
def Part.enterOn (p : Part) (d : Nat) : Part :=
  let r := p.dom d
  let p := p.setDom d { r with st := .on, lastStartUs := (p.now - r.startAt) / 1000 }
  let p := p.bump (aPwrDomain d) 48 16 1
  p.completeKey 0x81 d stOk (p.wakeBody d)

/-- Stage SERVICE (R381, R446): every domain of bring-up is ON. -/
def Part.stageService (p : Part) : Part :=
  if p.boot.stage = 2 ∧ (List.range 20).all (fun d => p.domSt d == .on) then
    { p.raiseCounters with boot := { p.raiseCounters.boot with stage := 3 } }.stageFull.readiness
  else p

/-- DOMAIN_ON (R400): domain 1 is ON once its firmware is verified and, at a wake, the sleep image is restored; an image that fails resets
the part (R407). A maintenance wake goes on with domain 19 (R408). -/
def Part.domainOn (p : Part) (d : Nat) : Part :=
  if (p.dom d).st ≠ .starting ∨ !p.domainReady d then p
  else if d = 1 then
    if !p.clk.ref156 then p
    else match p.verifyFirmware with
    | none => p
    | some q =>
      let q : Part := { q with pins := { q.pins with xspi := q.pins.xspi && decide (q.boot.stage < 2) } }
      if q.boot.stage < 2 ∨ q.boot.stage = 7 then q.restoreEvc.enterOn 1
      else match q.restoreImage with
        | none => (q.resetAll 3).startBringup
        | some r =>
          let r := r.enterOn 1
          if r.pwr.maint then r.requestWake 19 else r
  else
    let q := p.enterOn d
    let q := if d = 19 then { q with pwr := { q.pwr with wsdIdleSince := q.now } } else q
    q.stageService.readiness

/-! ### DOMAIN_SLEEP_COMPLETE and WSD_IDLE_SLEEP (R366, R400, R408, R409) -/

/-- A line as it is retained (R366): occurrences that were claimed and not completed, or are with a fast handler, are pending again with their
counts, delivered ones wait again, and its timer has expired. -/
def Part.retainLine (p : Part) (i : Nat) (l : Line) : Line :=
  let of (k : CtlCore) : Nat :=
    sumNat ((k.claimed.filter fun x => x.1 == i).map fun x => x.2) + (if k.fastActive && k.fastLine == i then k.fastCount else 0)
  let n := min 4095 (l.count + sumNat (p.ctl.cores.map fun c => of c.2))
  { l with count := n, armed := decide (0 < n), timer := none }

/-- The retained copy that the event controller leaves in the AON domain (R366). -/
def Part.evcRetain (p : Part) : EvcCopy :=
  { lines := p.ctl.lines.map fun x => (x.1, p.retainLine x.1 x.2), gate := p.ctl.gate, prios := (p.ctl.cores.filter fun c => c.2.prio != 0).map fun c => (c.1, c.2.prio) }

/-- A closing domain has drained. Domain 1 has when no session is open any more. -/
def Part.drained (p : Part) (d : Nat) : Bool :=
  if d = 1 then allSessions.all fun i => (p.ses i).st != .opened
  else if 3 ≤ d ∧ d ≤ 10 then !p.acdBusy (d - 3)
  else if 15 ≤ d ∧ d ≤ 18 then (List.range 4).all fun n => (p.link (4 * (d - 15) + n)).st == 0
  else !p.wsdBusy

/-- DOMAIN_SLEEP_COMPLETE (R400): the domain enters SLEEP, its state is lost, and the commands that wait complete. At the end of a
maintenance wake CTL follows domain 19 with a new image (R408). -/
def Part.sleepComplete (p : Part) (d : Nat) : Part :=
  if (p.dom d).st ≠ .closing ∨ !p.drained d then p
  else
    let p : Part := if d = 1 then { p with evcCopy := some p.evcRetain, pwr := { p.pwr with maint := false } } else p
    let events := p.ctl.events
    let p := p.resetDomain d
    let p : Part := { p with ctl := { p.ctl with events := events } }
    let p := p.setDom d { p.dom d with st := .sleep, sleepAt := p.now }
    let p := p.completeKey 0x80 d stOk []
    let p := if d = 19 ∧ p.pwr.maint ∧ p.domSt 1 = .on then p.sleepCtl else p
    p.readiness

/-- Every held shard has been scrubbed in this maintenance wake. -/
def Part.maintDone (p : Part) : Bool :=
  p.models.table.all fun v => v.2.shards.all fun s => !s.2.held || s.2.st != .verified || decide ((p.dom 1).startAt ≤ s.2.scrubAt)

/-- WSD_IDLE_SLEEP (R408, R409): CTL returns domain 19, woken while SLEEP_REQ stands, to SLEEP after 10 s with no engine busy, and in a
maintenance wake once every held shard is scrubbed. -/
def Part.wsdIdleSleep (p : Part) : Part :=
  let r := p.dom 19
  let due := if p.pwr.maint then p.maintDone else r.sleepReq && decide (p.pwr.wsdIdleSince + 10000000000 ≤ p.now)
  if r.st = .on ∧ due ∧ !p.wsdBusy ∧ !p.nvmeConnected then p.setDom 19 { r with st := .closing } else p

/-! ### The commands -/

/-- DOMAIN_SLEEP (R401). -/
def execDomainSleep (i : Nat) (s : State) : Out := s.cmd i 0x80 fun k p => (p.domainSleep i k).readiness

/-- DOMAIN_WAKE (R401). -/
def execDomainWake (i : Nat) (s : State) : Out := s.cmd i 0x81 fun k p => p.domainWake i k

/-- DOMAIN_ON (R400). -/
def execDomainOn (d : Nat) (s : State) : Out := s.live 0 (domOk d) fun p => p.domainOn d

/-- DOMAIN_SLEEP_COMPLETE (R400). -/
def execDomainSleepComplete (d : Nat) (s : State) : Out := s.live 0 (domOk d) fun p => p.sleepComplete d

/-- WSD_IDLE_SLEEP (R409). -/
def execWsdIdleSleep (s : State) : Out := s.live 1 true fun p => p.wsdIdleSleep.readiness

end Sys2Proof.Machine
end

