-- ==== Sys2Proof/Machine/Freeze.lean ====
section
/-! DEFINITION. Freeze: entering a freeze, readout over IEEE 1149.1, and the trace commands (R464 to R478). -/
namespace Sys2Proof.Machine

/-! ### Entering a freeze (R464 to R470) -/

/-- The row that a deep write was programming is cut off and holds an indeterminate level: whether its cells read as blank and what levels
they hold are free values (R467). -/
def Part.cutRow (p : Part) (t : Nat) : Part :=
  match (p.tile t).wr with
  | none => p
  | some w =>
    let k := 2 * t + w.bank
    let (v, p) := p.free
    if w.kind == .deep && v.getLsbD 0 then
      let (row, p) := p.entropy 67
      p.setBank k { p.bank k with cells := minsert (p.bank k).cells ((p.bank k).physRow w.row) { levels := row, deep := true, band := w.band } }
    else p

/-- A freeze is triggered (R464 to R469): the clocks of every domain but the AON oscillator and part time stop, the PCIe link stops, and
the record is taken. `packet` is set for a FREEZE packet. A trigger during a freeze or while quenched has no effect. -/
def Part.freeze (p : Part) (packet : Bool) : Part :=
  if p.frz.active || p.therm.quenched || !p.pins.pgIn || p.boot.held || p.boot.perstHeld then p
  else
    let p := (p.an.tiles.map Prod.fst).foldl Part.cutRow p
    { p with
      frz := { p.frz with
        active := true, t := p.now, frozenLow := false, valid := true, source := packet, stopped := 0, count := min (p.frz.count + 1) 255,
        spins := [], arrayOp := none, captured := [], capturedWord := 0 },
      host := { p.host with linkUp := false, bme := false } }

/-- The dies of domains that run. -/
def Part.runningDies (p : Part) : Nat := sumNat ((List.range 20).map fun d => if p.domUp (dieDomain d) then 2 ^ d else 0)

/-- STOP_ACK (R465): the last stop acknowledgement arrives, and FROZEN_N is driven low. -/
def Part.stopAck (p : Part) : Part :=
  if p.frz.active ∧ !p.frz.frozenLow then
    { p with frz := { p.frz with stopped := p.runningDies, frozenLow := true }, pins := { p.pins with frozenN := false } }
  else p

/-- STOP_ACK_TIMEOUT (R465): at T + 1 µs FROZEN_N is driven low with the acknowledgements that have come. -/
def Part.stopTimeout (p : Part) (acks : Nat) : Part :=
  if p.frz.active ∧ !p.frz.frozenLow ∧ p.frz.t + 1000 ≤ p.now then
    { p with frz := { p.frz with stopped := acks &&& p.runningDies, frozenLow := true }, pins := { p.pins with frozenN := false } }
  else p

/-- IOD.FZ_STATUS. -/
def Part.fzStatus (p : Part) : Word64 :=
  packBits [(0, 1, bit p.frz.valid), (1, 1, bit p.frz.source), (2, 1, bit p.frz.source), (4, 20, p.frz.stopped), (24, 8, p.frz.count)]

/-- IOD.FZ_TIME. -/
def Part.fzTime (p : Part) : Word64 := BitVec.ofNat 64 p.frz.t

/-! ### The TAP (R471 to R474) -/

/-- What leaves TDO when `n` bits `din` are shifted into a register of `len` bits that captured `cap`, and what the register then holds. -/
def shiftOut (len cap n din : Nat) : Nat := (cap % 2 ^ len + din % 2 ^ n * 2 ^ len) % 2 ^ n
/-- The register after the shift. -/
def shiftIn (len cap n din : Nat) : Nat := (cap % 2 ^ len + din % 2 ^ n * 2 ^ len) / 2 ^ n

/-- An instruction scan: the register captures 0b0000_0001, and the code comes into force (R471). -/
def Part.tapIr (p : Part) (code : Nat) : Part := { p with frz := { p.frz with ir := code, irOut := 1 } }

/-- A data scan of `n` bits: what leaves TDO. -/
def Part.tapDr (p : Part) (n out : Nat) : Part := { p with frz := { p.frz with dr := out, drLen := n } }

/-- The 1-bit bypass register, which captures 0 as IEEE 1149.1 has it. -/
def Part.tapBypass (p : Part) (code n din : Nat) : Part := (p.tapIr code).tapDr n (shiftOut 1 0 n din)

/-- EXTEST and SAMPLE/PRELOAD (R471): a scan of the boundary register. -/
def Part.tapBoundary (p : Part) (code n din : Nat) : Part :=
  let cap := Config.boundaryCapture p.freeTick
  let (_, p) := p.free
  let len := Config.boundaryLen p.log.stepping
  let p := (p.tapIr code).tapDr n (shiftOut len cap n din)
  { p with frz := { p.frz with boundary := shiftIn len cap n din } }

/-- The identity of a stepping (R471): version 0 for A1 and 1 for B1. -/
def idCode (stepping : Nat) : Nat := (if stepping = 0x11 then 1 else 0) * 2 ^ 28 + 0x8032 * 2 ^ 12 + 0x6F1 * 2 + 1

/-- IDCODE (R471). -/
def Part.tapIdcode (p : Part) (n din : Nat) : Part := (p.tapIr 0x02).tapDr n (shiftOut 32 (idCode p.log.stepping) n din)

/-- FZ_STATUS (R471): IOD.FZ_STATUS, then IOD.FZ_TIME. -/
def Part.tapFzStatus (p : Part) (n din : Nat) : Part :=
  (p.tapIr 0x10).tapDr n (shiftOut 128 (p.fzStatus.toNat + p.fzTime.toNat * 2 ^ 64) n din)

/-- FROZEN_N is low (R472). -/
def Part.frozen (p : Part) : Bool := p.frz.active && p.frz.frozenLow

/-- DIE_SEL (R471, R472): die [4:0] and chain [15:8]. What the register captures is not given: a free value. -/
def Part.tapDieSel (p : Part) (n din : Nat) : Part :=
  if !p.frozen then p.tapBypass 0x11 n din
  else
    let (w, p) := p.free
    let v := shiftIn 16 w.toNat n din
    let p := (p.tapIr 0x11).tapDr n (shiftOut 16 w.toNat n din)
    { p with frz := { p.frz with selDie := v % 32, selChain := v / 256 % 256 } }

/-- A bit of a chain as it reads (R473): key storage reads zero under every condition, data storage unless the freeze came from a packet. -/
def Part.scanBit (p : Part) (die chain i : Nat) : Bool :=
  let v := Config.scanBit p.frz.count die chain i
  match Config.scanKind p.log.stepping die chain i with
  | 1 => p.frz.source && v
  | 2 => false
  | _ => v

/-- `n` bits of a chain of `len` bits that has recirculated by `spin`. -/
def chainBits (q : Nat → Bool) (len spin n : Nat) : Nat :=
  sumNat ((List.range n).map fun i => if q ((spin + i) % len) then 2 ^ i else 0)

/-- SCAN_READ (R471, R472): the selected chain recirculates as it is shifted. -/
def Part.tapScan (p : Part) (n din : Nat) : Part :=
  if !p.frozen then p.tapBypass 0x12 n din
  else
    let f := p.frz
    let key := f.selDie * 256 + f.selChain
    let len := Config.chainLen p.log.stepping f.selDie f.selChain
    let spin := mget 0 f.spins key
    let p := (p.tapIr 0x12).tapDr n (chainBits (p.scanBit f.selDie f.selChain) len spin n)
    { p with frz := { p.frz with spins := mset 0 f.spins key ((spin + n) % len) } }

/-- The bits of an ARRAY_READ register: the command and 520 entries of 9 bits. -/
def arrayBits (word : Nat) (es : List Nat) : Nat := word + 2 ^ 32 * es.foldr (fun e m => e + 512 * m) 0

/-- The entry of a column (R474): a code under R69 and the clip bit of R76. -/
def arrayEntry (r : Nat) (x : Int × Bool) : Nat := toBits 8 (convert r x.1 x.2).1 + 256 * bit (convert r x.1 x.2).2

/-- ARRAY_READ (R472 to R474): a scan of the 4,712 bits, then at Update-DR the read of one physical row. `inputs` are the analogue inputs of
the 512 weight columns and 8 reference columns through the repair map, each with the free bit of R501. Without AUTH, for a row above 519
or a die that is not an ACD the register reads zero. -/
def Part.tapArray (p : Part) (n din : Nat) (inputs : List (Int × Bool)) : Part :=
  if !p.frozen then p.tapBypass 0x14 n din
  else
    let f := p.frz
    let cap := if f.source then arrayBits f.capturedWord f.captured else 0
    let word := shiftIn 4712 cap n din % 2 ^ 32
    let p := (p.tapIr 0x14).tapDr n (shiftOut 4712 cap n din)
    let good := f.source && decide (12 ≤ f.selDie ∧ f.selDie < 20 ∧ word / 2 ^ 10 % 1024 ≤ 519)
    let data := if good then (inputs.take 520).map (arrayEntry (word / 2 ^ 20 % 4)) else []
    { p with frz := { p.frz with arrayOp := some { word := if good then word else 0, at_ := p.now, data := data } } }

/-- ARRAY_READ_COMPLETE (R474): 1 µs after Update-DR the next Capture-DR takes the row. -/
def Part.arrayDone (p : Part) : Part :=
  match p.frz.arrayOp with
  | none => p
  | some a =>
    if p.frozen ∧ a.at_ + 1000 ≤ p.now then
      { p with frz := { p.frz with arrayOp := none, captured := a.data, capturedWord := a.word } }
    else p

/-- TAP_RESET (R471): Test-Logic-Reset selects IDCODE. -/
def Part.tapReset (p : Part) : Part := { p with frz := { p.frz with ir := 0x02 } }

/-! ### Trace (R475, R478) -/

/-- TRACE_CFG (R475). -/
def Part.traceCfg (p : Part) (i : Nat) (k : Bytes) : Part :=
  let t := { p.trace with mode := par k 0 1, sources := par k 4 4 }
  let p := if (par k 1 1).testBit 0 then { p with trace := { t with entries := [], written := 0 } }.regSet aTraceCnt 0
    else { p with trace := t }
  p.finish i stOk []

/-- TRACE_READ (R478). -/
def Part.traceRead (p : Part) (i : Nat) (k : Bytes) : Part :=
  let held := p.trace.entries.length
  if held < par k 0 4 then p.finish i stLenRange []
  else
    p.finish i stOk (leBytes 4 p.trace.written ++ leBytes 4 held ++ leBytes 4 (p.regFld aTraceCnt 32 32) ++ zpad 4 ++
      ((p.trace.entries.drop (par k 0 4)).take (par k 4 2)).flatten)

/-! ### The commands -/

/-- The TAP answers while the part is powered. -/
def State.tap (s : State) (f : Part → Part) : Out := s.on fun p => if p.pins.pgIn then f p else p

/-- FREEZE_N_LOW (R464). -/
def execFreezeNLow (s : State) : Out := s.on fun p => p.freeze false

/-- FREEZE (R464): no reply. -/
def execFreeze (i : Nat) (s : State) : Out := s.cmd i 0xF0 fun _ p => (p.modSes i fun t => { t with cur := none }).freeze true

/-- STOP_ACK (R465). -/
def execStopAck (s : State) : Out := s.on Part.stopAck

/-- STOP_ACK_TIMEOUT (R465). -/
def execStopAckTimeout (acks : Nat) (s : State) : Out := s.on fun p => p.stopTimeout acks

/-- EXTEST (R471). -/
def execExtest (n din : Nat) (s : State) : Out := s.tap fun p => p.tapBoundary 0x00 n din

/-- SAMPLE/PRELOAD (R471). -/
def execSamplePreload (n din : Nat) (s : State) : Out := s.tap fun p => p.tapBoundary 0x01 n din

/-- IDCODE (R471). -/
def execIdcode (n din : Nat) (s : State) : Out := s.tap fun p => p.tapIdcode n din

/-- FZ_STATUS (R471). -/
def execFzStatus (n din : Nat) (s : State) : Out := s.tap fun p => p.tapFzStatus n din

/-- DIE_SEL (R472). -/
def execDieSel (n din : Nat) (s : State) : Out := s.tap fun p => p.tapDieSel n din

/-- SCAN_READ (R472). -/
def execScanRead (n din : Nat) (s : State) : Out := s.tap fun p => p.tapScan n din

/-- ARRAY_READ (R474). -/
def execArrayRead (n din : Nat) (inputs : List (Int × Bool)) (s : State) : Out := s.tap fun p => p.tapArray n din inputs

/-- ARRAY_READ_COMPLETE (R474). -/
def execArrayReadComplete (s : State) : Out := s.tap Part.arrayDone

/-- BYPASS, and every other code (R471). -/
def execBypass (code n din : Nat) (s : State) : Out := s.tap fun p => p.tapBypass code n din

/-- TAP_RESET (R471). -/
def execTapReset (s : State) : Out := s.tap Part.tapReset

/-- TRACE_CFG (R475). -/
def execTraceCfg (i : Nat) (s : State) : Out := s.cmd i 0xF1 fun k p => p.traceCfg i k

/-- TRACE_READ (R478). -/
def execTraceRead (i : Nat) (s : State) : Out := s.cmd i 0xF2 fun k p => p.traceRead i k

end Sys2Proof.Machine
end

