-- ==== Sys2Proof/Machine/RegWrite.lean ====
section
/-! DEFINITION. RegWrite: writes of registers by the host over BAR2 and by control cores: which are discarded, RW, WC and WO fields, and the
registers whose fields have a home of their own (R5 to R11, R83, R351, R352, R384). -/
namespace Sys2Proof.Machine

/-- One field of a write (R7, R8): RW takes the bits, a WC bit or counter is cleared by a 1 but for what it counted in the same cycle
(`hits`), a WO field keeps nothing. -/
def writeField (hits old v : Word64) (f : RegField) : Word64 :=
  match f.acc with
  | .rw => setBits old f.lo f.width (getBits v f.lo f.width)
  | .wc => if getBits v f.lo f.width = 0 then old else setBits old f.lo f.width (getBits hits f.lo f.width)
  | .wo => old

/-- The stored word after a write: reserved bits and read-only fields are ignored (R9). -/
def writeFields (hits old v : Word64) (fs : List RegField) : Word64 := fs.foldl (fun w f => writeField hits w v f) old

/-- Whether a register's RW fields are discarded for a host write: tile, cluster and converter registers while the cluster is in service
(R83), and those of the temper path while any cluster of the ACD is. -/
def Part.hostOwned (p : Part) (name : RegName) (acd i : Nat) : Bool :=
  match name with
  | .tileCfg => (p.cluster (16 * acd + i / 64)).service
  | .convCfg => (p.cluster (16 * acd + i / 64)).service
  | .convQueue => (p.cluster (16 * acd + i / 64)).service
  | .convCalCmd => (p.cluster (16 * acd + i / 64)).service
  | .convCtl => (p.cluster (16 * acd + i / 64)).service
  | .clusterCfg => (p.cluster (16 * acd + i)).service
  | .tpCtl => (List.range 16).any fun c => (p.cluster (16 * acd + c)).service
  | .tpSeed => (List.range 16).any fun c => (p.cluster (16 * acd + c)).service
  | .evcGate => true
  | .evcLine => decide (i < 256)
  | _ => false

/-- What a policy core may write (R351): its own entries, the policy lines, GATE, SOFT_SET and POL_RANK. -/
def policyWrites (c : Nat) (name : RegName) (i : Nat) : Bool :=
  match name with
  | .evcCore => i == c
  | .evcClaim => i == c
  | .evcComplete => i == c
  | .mboxData => i == c
  | .mboxSend => i == c
  | .mboxRx => i == c
  | .mboxStatus => i == c
  | .polRingPop => true
  | .polRingHi => i == c
  | .evcLine => decide (256 ≤ i)
  | .evcGate => true
  | .evcSoftSet => true
  | .polRank => true
  | _ => false

/-- EVC_LINE: the RW fields of a line; a policy line targets policy cores alone. -/
def Part.writeLine (p : Part) (i : Nat) (v : Word64) : Part :=
  let l := p.line i
  let target := if 256 ≤ i then getBits v 32 8 * 2 ^ 16 else getBits v 16 24
  p.setLine i { l with
    prio := getBits v 0 4, fast := v.getLsbD 4, wake := v.getLsbD 5, modUs := getBits v 6 10, target := target }

/-- A word is written to register `r` of die `die` with indexes `idx` at address `a`. -/
def Part.writeReg (p : Part) (by_ : Accessor) (r : RegDesc) (idx : List Nat) (die a : Nat) (v : Word64) : Part :=
  let i := nth 0 idx 0
  let t := 1024 * (die - 12) + i
  let plain (q : Part) : Part := q.regSet a (writeFields (q.regHits a) (q.regGet a) v r.fields)
  match r.name with
  | .convCfg => p.convCfg t v.toNat
  | .convStatus => plain (p.countDrops t)
  | .convQueue => p.convQueue t (getBits v 32 9)
  | .convCalCmd => p.convCalCmd t v.toNat
  | .convCtl =>
    let q := if v.getLsbD 0 then p.capClear t else p
    if v.getLsbD 1 then q.calAbort t else q
  | .tpSeed => p.setAcd (die - 12) { p.acd (die - 12) with nextSeed := v }
  | .kvCfg => (plain p).slabEvent p.slabsLow
  | .evcGate => p.setGate by_ (v.getLsbD 0)
  | .evcLine => p.writeLine i v
  | .evcCore => p.setCore i { p.core i with prio := getBits v 0 4 }
  | .evcComplete => p.evcComplete i (getBits v 0 10)
  | .evcSoftSet => p.softSet (getBits v 0 32)
  | .mboxData => p.setCore i { p.core i with staged := setNth (p.core i).staged (nth 0 idx 1) v }
  | .mboxSend => p.sendMail i (getBits v 0 5)
  | .mboxStatus => if v.getLsbD 32 then p.popMail i else p
  | .polRank => p.setRank i (getBits v 0 16)
  | .rstCtl =>
    if getBits v 16 2 = 1 then p.ctlReset (getBits v 0 16) else if getBits v 16 2 = 2 then p.ctlHalt (getBits v 0 16) else p
  | .pwrWake => p.pwrWake (getBits v 0 16)
  | _ => plain p

/-- The host reaches a die's window: IOD always, the others from stage FIRMWARE on while CTL_MAIN is ON (R384, R406). -/
def Part.hostReaches (p : Part) (die : Nat) : Bool := die == 1 || (decide (2 ≤ p.boot.stage) && p.domSt 1 == .on)

/-- A core's access outside what it may reach: a policy fault, with the RISC-V code of a store access fault. -/
def Part.storeFault (p : Part) (c : Nat) : Part := p.policyFault c 7

/-- A write at an offset of BAR4 (R235): the address, data and vector control of a table entry, in 4 or 8 bytes; a vector that is unmasked
sends its pending signal. The pending-bit array is read only. -/
def Part.bar4Write (p : Part) (off size : Nat) (v : Word64) : Part :=
  let n := off / 16
  let e := p.msixEntry n
  let put (e : MsixEntry) : Part := { p with host := { p.host with table := mset MsixEntry.reset p.host.table n e } }.msixFlush
  let ctl (w : Nat) : Bool := w % 2 == 1
  if 65 ≤ n ∨ !p.alive 2 then p
  else match off % 16, size with
    | 0, 4 => put { e with addr := e.addr / 2 ^ 32 * 2 ^ 32 + v.toNat % 2 ^ 32 / 4 * 4 }
    | 4, 4 => put { e with addr := e.addr % 2 ^ 32 + v.toNat % 2 ^ 32 * 2 ^ 32 }
    | 0, 8 => put { e with addr := v.toNat / 4 * 4 }
    | 8, 4 => put { e with data := v.toNat % 2 ^ 32 }
    | 12, 4 => put { e with masked := ctl (v.toNat % 2 ^ 32) }
    | 8, 8 => put { e with data := v.toNat % 2 ^ 32, masked := ctl (v.toNat / 2 ^ 32) }
    | _, _ => p

/-- REGISTER_WRITE (R6 to R9, R11, R83, R351, R384): `size` bytes at address `a`. A write of another size or alignment than the register's,
outside every register, or to a die that is not running is discarded, as is a host write to what CTL firmware owns. -/
def Part.registerWrite (p : Part) (by_ : Accessor) (a size : Nat) (v : Word64) : Part :=
  let die := a / windowBytes
  match by_, findReg a with
  | .core c, none => if 16 ≤ c then p.storeFault c else p
  | .host, none => if bar4Base ≤ a then p.bar4Write (a - bar4Base) size v else p
  | .host, some (r, idx) =>
    if 8 * size ≠ r.width ∨ !p.alive (dieDomain die) ∨ !p.hostReaches die ∨ p.hostOwned r.name (die - 12) (nth 0 idx 0) then p
    else p.writeReg .host r idx die a v
  | .core c, some (r, idx) =>
    if 16 ≤ c ∧ !policyWrites c r.name (nth 0 idx 0) then p.storeFault c
    else if 8 * size ≠ r.width ∨ !p.alive (dieDomain die) then p
    else p.writeReg (.core c) r idx die a v

/-- REGISTER_WRITE (R7): the host's reaches IOD, a core's runs on CTL. -/
def execRegisterWrite (by_ : Accessor) (a size : Nat) (v : Word64) (s : State) : Out :=
  match by_ with
  | .host => s.live 2 true fun p => p.registerWrite .host a size v
  | .core c => s.live 1 (decide (c < 24)) fun p => p.registerWrite (.core c) a size v

end Sys2Proof.Machine
end

