-- ==== Sys2Proof/Machine/RegView.lean ====
section
/-! DEFINITION. RegView: what reads of registers return: the read-only fields as views of the typed state, beside the stored RW and WC
fields (R5 to R11, R384). -/
namespace Sys2Proof.Machine

/-! ### ACD registers (02 to 05, 13) -/

/-- ACD.TILE_STATUS. -/
def Part.tileStatus (p : Part) (t : Nat) : Word64 :=
  let x := p.tile t
  packBits [(0, 1, bit x.ready), (1, 1, bit (x.runs.any fun r => decide (r.start ≤ p.now ∧ p.now < r.start + 8 * r.phases))),
    (2, 1, bit x.wr.isSome), (3, 1, match x.wr with | none => 0 | some w => w.bank), (4, 1, bit x.mapLoaded),
    (5, 1, bit ((p.bank (2 * t)).mapFault || (p.bank (2 * t + 1)).mapFault))]

/-- ACD.TILE_BANK_INFO_A and _B. -/
def Part.bankInfo (p : Part) (k : Nat) : Word64 :=
  let b := p.bank k
  packBits [(0, 4, stateCode b.st), (4, 2, b.wfmt), (6, 3, b.spareRows), (9, 5, b.spareCols), (16, 16, b.epoch),
    (32, 20, if b.st = .shallow ∨ b.st = .writingShallow then b.life else 0)]

/-- ACD.TILE_BANK_OWNER_A and _B. -/
def Part.bankOwner (p : Part) (k : Nat) : Word64 :=
  let b := p.bank k
  packBits [(0, 32, b.model), (32, 16, b.version), (48, 16, b.slot)]

/-- ACD.TILE_BANK_WEAR_A and _B. -/
def Part.bankWear (p : Part) (k : Nat) : Word64 :=
  let b := p.bank k
  packBits [(0, 16, b.cycles), (16, 1, bit b.ageAlert), (17, 1, bit (decide (10000 ≤ b.cycles))), (32, 32, b.ageHours)]

/-- Word `w` of the active map copy (R61). -/
def Part.mapWord (p : Part) (k w : Nat) : Word64 := BitVec.ofNat 64 (fld ((p.bank k).mapCopy.take 67) (8 * w) 8)

/-- The LIFE of SHALLOW banks of a cluster. -/
def Part.lives (p : Part) (c : Nat) : List Nat := (p.an.banks.filter fun b => b.1 / 128 == c && b.2.st == .shallow).map fun b => b.2.life

/-- ACD.CLUSTER_STATUS. -/
def Part.clusterStatus (p : Part) (c : Nat) : Word64 :=
  let k := p.cluster c
  packBits [(0, 1, bit k.service), (1, 2, k.band), (3, 1, bit (isHot k.temp)), (4, 1, bit (p.gated c)),
    (5, 7, (p.an.tiles.filter fun t => t.1 / 64 == c && t.2.ready).length),
    (12, 8, (p.an.banks.filter fun b => b.1 / 128 == c && b.2.st == .retired).length), (32, 20, (p.lives c).foldl min 600000)]

/-- ACD.CONV_QUEUE. -/
def Part.convQueueReg (p : Part) (t : Nat) : Word64 :=
  let k := (p.tile t).cap
  packBits [(0, 9, k.wr), (16, 10, k.count), (32, 9, k.rd)]

/-- ACD.CONV_CAP (R85, R86). -/
def Part.convCapReg (p : Part) (t e : Nat) : Word64 :=
  let k := (p.tile t).cap
  BitVec.ofNat 64 (if k.mode = 1 then (if e < 260 then mget accEmpty k.acc e else 0) else if k.mode = 2 then mget 0 k.ring e else 0)

/-- ACD.CONV_RANGE: the range codes of 32 converters of a bank. -/
def Part.convRangeReg (p : Part) (k w : Nat) : Word64 :=
  let b := p.bank k
  if b.st = .empty ∨ b.st = .retired then 0 else BitVec.ofNat 64 (fld b.ranges (8 * w) 8)

/-- ACD.TP_SLICE_STATUS: while a bank of the cluster is written its probe sums are formed, on the fallback array (R96, R115). -/
def Part.sliceStatus (p : Part) (c : Nat) : Word64 :=
  let s := p.slice c
  let isLadder (w : FbWork) : Bool := match w with
    | .ladder _ => true
    | .mvm _ => false
  let sums := p.an.tiles.any fun t => t.1 / 64 == c && (match t.2.wr with
    | none => false
    | some w => w.kind == .shallow || w.kind == .refresh || w.kind == .deep)
  packBits [(0, 1, bit (!s.work.isEmpty || sums)), (1, 1, bit (sums || p.an.banks.any fun b => b.1 / 128 == c && b.2.probing)),
    (2, 1, bit (s.work.any isLadder)), (3, 5, min 16 s.shadow.length)]

/-- ACD.ANNEAL_STATUS. -/
def Part.annealStatus (p : Part) (a : Nat) : Word64 :=
  let due (n : Nat) : Nat := (p.an.banks.filter fun b =>
    b.1 / 2048 == a && (b.2.st == .expired || (b.2.st == .shallow && decide (b.2.life ≤ n)))).length
  packBits [(0, 1, bit (p.acd a).anneal.isSome), (1, 12, due refreshLife), (13, 12, due urgentLife)]

/-- ACD.TP_DRIFT. -/
def Part.tpDrift (p : Part) (k : Nat) : Word64 :=
  let b := p.bank k
  packBits [(0, 16, b.d), (16, 16, toBits 16 b.a), (32, 1, bit b.probed), (33, 10, b.oor.length), (43, 4, b.rsh), (47, 13, b.resid.length)]

/-- ACD.TP_COLCORR. -/
def Part.tpColcorr (p : Part) (k j : Nat) : Word64 :=
  let g := mget (0, 0) (p.bank k).colcorr j
  packBits [(0, 16, g.1), (16, 16, toBits 16 g.2)]

/-- ACD.CAL_STATUS. -/
def Part.calStatus (p : Part) (a : Nat) : Word64 :=
  let x := p.acd a
  packBits [(0, 4, x.calRound), (4, 1, bit x.calActive), (5, 1, bit x.calWaiting), (8, 8, x.failedPairs)]

/-! ### WSD and CXD registers (06, 07) -/

/-- The shards of all versions. -/
def Part.allShards (p : Part) : List (Nat × Nat × Shard) := p.models.table.flatMap fun v => v.2.shards.map fun s => (v.1, s.1, s.2)

/-- WSD.STG_STATUS of WSD `w`. -/
def Part.stgStatus (p : Part) (w : Nat) : Word64 :=
  let mine (x : Nat × Nat) : Bool := p.scrubWsd x.1 x.2 == w
  packBits [(0, 6, (p.busyEngines.filter fun n => n / 48 == w).length),
    (8, 14, (p.models.queue.filter mine).length + (p.models.scrubQueue.filter mine).length),
    (24, 4, (p.fab.nvme.filter fun n => n.1 % 2 == w && n.2.st == 2).length)]

/-- WSD.SCRUB_STATUS.OVERDUE. -/
def Part.scrubOverdue (p : Part) (w : Nat) : Word64 :=
  packBits [(48, 16, (p.allShards.filter fun x =>
    p.scrubWsd x.1 x.2.1 == w && x.2.2.st == .verified && x.2.2.held && decide (x.2.2.scrubAt + scrubNs < p.now)).length)]

/-- WSD.NVME_CONN. -/
def Part.nvmeReg (p : Part) (c : Nat) : Word64 :=
  let n := mget NvmeConn.reset p.fab.nvme c
  packBits [(0, 2, n.st), (2, 4, n.ioq), (6, 1, bit n.hdgst), (7, 1, bit n.ddgst)]

/-- CXD.KV_POOL. -/
def Part.kvPool (p : Part) (c : Nat) : Word64 :=
  let isKv (u : SlabUse) : Bool := match u with
    | .kv _ => true
    | _ => false
  let kv := (p.kv.slabs.filter fun x => x.1 / 5722 == c && isKv x.2).length
  packBits [(0, 13, usableSlabs - kv - p.weightSlabs c), (16, 13, kv), (32, 13, p.weightSlabs c),
    (48, 15, (p.kv.slots.filter fun s => s.2.assigned && s.2.home == c).length)]

/-- CXD.STACK_STATUS. -/
def Part.stackStatus (p : Part) (k : Nat) : Word64 :=
  let s := p.stack k
  packBits [(0, 2, bit s.ready), (2, 2, min s.band 3), (4, 8, toBits 8 (s.temp / 4)), (12, 2, refreshClass s.band)]

/-- CXD.STACK_UE_ADDR. -/
def Part.stackUe (p : Part) (k : Nat) : Word64 := packBits [(0, 40, (p.stack k).ueAddr), (40, 2, (p.stack k).ueOwner)]

/-! ### CTL registers (06 to 12, 16, 17) -/

/-- CTL.SRV_STATUS. -/
def Part.srvStatus (p : Part) : Word64 :=
  let count (q : ReqState → Bool) : Nat := (p.serv.reqs.filter fun r => q r.2.st).length
  packBits [(0, 15, p.serv.reqs.length), (16, 8, min p.promptShareMin 255), (24, 15, count (· == .waiting)), (40, 15, count (· == .preempted))]

/-- CTL.GRAMMAR. -/
def Part.grammarReg (p : Part) (g : Nat) : Word64 :=
  let x := p.gram g
  packBits [(0, 2, x.st), (2, 15, x.pins), (18, 19, gVocab x.image), (37, 17, gStates x.image)]

/-- The code of a session state. -/
def sessCode (s : SessState) : Nat :=
  match s with
  | .closed => 0
  | .opened => 1
  | .faulted => 2

/-- CTL.SESS_STATUS. -/
def Part.sessStatus (p : Part) (i : Nat) : Word64 :=
  let s := p.ses i
  packBits [(0, 2, sessCode s.st), (2, 2, s.ifMinor), (4, 8, s.cause), (12, 10, s.takePtr), (22, 11, s.unreported), (33, 7, s.queue.length),
    (40, 18, s.replyPtr)]

/-- CTL.SESS_STATUS2. -/
def Part.sessStatus2 (p : Part) (i : Nat) : Word64 :=
  let s := p.ses i
  packBits [(0, 32, s.seqExpect), (32, 19, s.replyHeld), (51, 1, bit s.phase)]

/-- CTL.JRN_CFG. -/
def Part.jrnCfg (p : Part) : Word64 :=
  packBits [(0, 16, p.jrn.partner.getD 0), (16, 1, bit p.jrn.partner.isSome),
    (17, 1, bit (match p.jrn.set with | none => false | some s => s.answered)), (18, 1, bit p.jrn.lost)]

/-- CTL.JRN_STATUS. -/
def Part.jrnStatus (p : Part) : Word64 :=
  packBits [(0, 15, (p.serv.reqs.filter fun r => r.2.isProtected && r.2.st != .ending).length),
    (16, 15, (p.serv.reqs.filter fun r => r.2.recs.any fun t => !t.acked).length),
    (32, 7, sumNat (p.jrn.sources.map fun s => s.stripes.length))]

/-- CTL.JRN_SRC of the source in place `i`. -/
def Part.jrnSrc (p : Part) (i : Nat) : Word64 :=
  match p.jrn.sources[i]? with
  | none => 0
  | some s => packBits [(0, 16, s.part), (16, 2, if s.isSealed then 2 else 1), (18, 15, (s.reqs.filter fun r => r.end_ == 0).length),
      (33, 15, s.adopted), (48, 7, s.stripes.length)]

/-- CTL.PART_EVENT, bits 0 to 5. -/
def Part.partFaultBits (p : Part) : Word64 := packBits [(0, 1, bit p.faulted), (1, 5, p.failedDie.getD 0)]

/-- CTL.EVC_LINE. -/
def Part.evcLineReg (p : Part) (i : Nat) : Word64 :=
  let l := p.line i
  packBits [(0, 4, l.prio), (4, 1, bit l.fast), (5, 1, bit l.wake), (6, 10, l.modUs), (16, 24, l.target), (48, 1, bit (decide (0 < l.count))),
    (49, 1, bit (p.lineClaimed i)), (52, 12, l.count)]

/-- CTL.EVC_CORE; whether a core waits in WFI is a free bit. -/
def Part.evcCoreReg (p : Part) (c : Nat) : Word64 :=
  let k := p.core c
  packBits [(0, 4, k.prio), (4, 1, bit (p.idle (Config.freeValue p.freeTick) c)), (5, 1, bit k.fastActive), (8, 10, k.fastLine), (20, 12, k.fastCount)]

/-- CTL.MBOX_RX. -/
def Part.mboxRx (p : Part) (c w : Nat) : Word64 :=
  match (p.core c).mbox with
  | [] => 0
  | m :: _ => nth 0 m.words w

/-- CTL.MBOX_STATUS. -/
def Part.mboxStatus (p : Part) (c : Nat) : Word64 :=
  let k := p.core c
  packBits [(0, 7, k.mbox.length), (8, 2, k.last), (16, 5, match k.mbox with | [] => 0 | m :: _ => m.src)]

/-- CTL.POL_CFG, read-only fields. -/
def Part.polCfgRo (p : Part) : Word64 :=
  packBits [(9, 1, bit p.ctl.loaded), (10, 1, bit p.ctl.fault), (11, 5, p.ctl.faultCore), (16, 8, p.ctl.faultCause)]

/-- CTL.ACD_BANDS. -/
def Part.acdBands (p : Part) (a : Nat) : Word64 := packBits ((List.range 16).map fun c => (2 * c, 2, (p.cluster (16 * a + c)).band))

/-- CTL.CLK_STATUS. -/
def Part.clkStatus (p : Part) : Word64 := packBits [(0, 20, p.clk.lock), (20, 1, bit p.clk.ref156)]

/-- CTL.SEC_STATUS, read-only fields. -/
def Part.secStatus (p : Part) : Word64 :=
  packBits [(0, 13, p.sec.keys.length), (16, 1, bit p.sec.debugSeen), (17, 1, bit p.sec.challenge.isSome)]

/-- CTL.TRACE_STATUS. -/
def Part.traceStatus (p : Part) : Word64 := packBits [(0, 2, p.trace.mode), (4, 4, p.trace.sources), (8, 18, p.trace.entries.length)]

/-! ### IOD registers (13 to 17) -/

/-- IOD.BOOT_STATUS. -/
def Part.bootStatus (p : Part) : Word64 :=
  packBits [(0, 4, p.boot.stage), (4, 1, bit (p.boot.quenchHold || (!p.clk.ref156 && decide (p.boot.stage < 3)))), (5, 1, bit p.clk.ref156),
    (8, 4, p.boot.faultCode), (16, 8, p.readyClusters), (24, 8, p.calDone), (32, 32, p.feat1)]

/-- IOD.RST_CAUSE. -/
def Part.rstCause (p : Part) : Word64 := packBits [(0, 3, p.boot.cause), (3, 1, bit p.boot.orderly), (4, 1, p.boot.haltedBy)]

/-- IOD.QUENCH_REC. -/
def Part.quenchWord (p : Part) (r w : Nat) : Word64 := BitVec.ofNat 64 (fld (mget [] p.log.quench r) (8 * w) 8)

/-- IOD.ID_INFO. -/
def Part.idInfo (p : Part) : Word64 :=
  packBits [(0, 8, p.sec.stepping), (8, 1, p.sec.order), (9, 1, bit p.sec.pufOk), (10, 1, bit p.sec.configOk), (11, 1, p.sec.slot),
    (32, 32, p.sec.fwVersion)]

/-- IOD.ID_COUNTERS. -/
def Part.idCounters (p : Part) : Word64 :=
  packBits [(0, 10, p.counter 0), (16, 10, p.counter 1), (32, 10, p.counter 2), (48, 2, p.counter 3)]

/-- IOD.ID_BOOT. -/
def Part.idBoot (p : Part) : Word64 := packBits [(0, 32, p.sec.bootCount), (32, 4, p.sec.slotFails)]

/-- DIE.D2D_PORT_STATUS, read-only fields. -/
def Part.portStatus (p : Part) (die q : Nat) : Word64 :=
  let r := p.port die q
  packBits [(0, 3, r.st), (3, 4, r.repaired), (8, 5, r.peerDie), (13, 3, r.peerMod)]

/-! ### Reads -/

/-- The read-only fields of a register, and the fields that have a home of their own; `none` where a register has only stored fields. -/
def Part.regRo (p : Part) (name : RegName) (idx : List Nat) (die : Nat) : Word64 :=
  let i := nth 0 idx 0
  let j := nth 0 idx 1
  let a := die - 12
  let t := 1024 * a + i
  let c := 16 * a + i
  match name with
  | .d2dPortStatus => p.portStatus die i
  | .tileStatus => p.tileStatus t
  | .tileBankInfoA => p.bankInfo (2 * t)
  | .tileBankInfoB => p.bankInfo (2 * t + 1)
  | .tileBankOwnerA => p.bankOwner (2 * t)
  | .tileBankOwnerB => p.bankOwner (2 * t + 1)
  | .tileBankWearA => p.bankWear (2 * t)
  | .tileBankWearB => p.bankWear (2 * t + 1)
  | .tileMap => p.mapWord (2 * t + j) (nth 0 idx 2)
  | .clusterStatus => p.clusterStatus c
  | .clusterCnt => packBits [(0, 48, (p.cluster c).mvmCount)]
  | .convStatus => packBits [(0, 1, bit (p.tile t).calBusy)]
  | .convQueue => p.convQueueReg t
  | .convTrim => packBits ((List.range 4).map fun n => (16 * n, 16, nth 0 (p.tile t).trims n))
  | .convRange => p.convRangeReg (2 * t + j) (nth 0 idx 2)
  | .convCap => p.convCapReg t j
  | .tpSeed => (p.acd a).nextSeed
  | .tpSliceStatus => p.sliceStatus c
  | .annealStatus => p.annealStatus a
  | .tpDrift => p.tpDrift (2 * t + j)
  | .tpColcorr => p.tpColcorr (2 * t + j) (nth 0 idx 2)
  | .stgStatus => p.stgStatus (die - 2)
  | .scrubStatus => p.scrubOverdue (die - 2)
  | .nvmeConn => p.nvmeReg i
  | .modelEnt0 => p.modelEnt i 0
  | .modelEnt1 => p.modelEnt i 1
  | .modelEnt2 => p.modelEnt i 2
  | .modelEnt3 => p.modelEnt i 3
  | .kvPool => p.kvPool (die - 8)
  | .patrol => packBits [(0, 16, mget 0 p.kv.passes (die - 8))]
  | .stackStatus => p.stackStatus (8 * (die - 8) + i)
  | .stackUeAddr => p.stackUe (8 * (die - 8) + i)
  | .kvSeq => p.kvSeq (die - 8) i
  | .srvStatus => p.srvStatus
  | .grammar => p.grammarReg i
  | .srvReq => p.srvReq i
  | .srvReq2 => p.srvReq2 i
  | .sessStatus => p.sessStatus i
  | .sessStatus2 => p.sessStatus2 i
  | .fabCfg => p.fabCfgReg
  | .fabPort => p.fabPortReg i
  | .fabSlice => ((p.fab.slices.find? fun r => r.index == i).map p.fabSliceReg).getD 0
  | .fabSlice2 => ((p.fab.slices.find? fun r => r.index == i).map p.fabSlice2Reg).getD 0
  | .linkStatus => p.linkStatus (4 * (die - 4) + i)
  | .jrnCfg => p.jrnCfg
  | .jrnStatus => p.jrnStatus
  | .jrnSrc => p.jrnSrc i
  | .partEvent => p.partFaultBits
  | .evcGate => packBits [(0, 1, bit p.ctl.gate)]
  | .evcLine => p.evcLineReg i
  | .evcCore => p.evcCoreReg i
  | .evcClaim => (p.core i).rd
  | .mboxRx => p.mboxRx i j
  | .mboxStatus => p.mboxStatus i
  | .polCfg => p.polCfgRo
  | .polRingHi => (p.core i).ringHi
  | .polRank => packBits [(0, 16, mget 0x8000 p.ctl.ranks i)]
  | .acdBands => p.acdBands i
  | .bootStatus => p.bootStatus
  | .rstCause => p.rstCause
  | .partTime => BitVec.ofNat 64 p.now
  | .clkStatus => p.clkStatus
  | .calStatus => p.calStatus a
  | .pwrDomain => p.pwrDomain i
  | .pwrGov => p.pwrGov
  | .pwrLimit => p.pwrLimit
  | .vinMon => p.vinMon
  | .tsSensor => p.tsSensor die i
  | .tsStatus => p.tsStatus die
  | .thermStatus => p.thermStatus
  | .tsenseStatus => p.tsenseStatus i
  | .quenchRec => p.quenchWord i j
  | .idSerial => BitVec.ofNat 64 p.sec.serial
  | .idInfo => p.idInfo
  | .idCounters => p.idCounters
  | .idBoot => p.idBoot
  | .secStatus => p.secStatus
  | .fzStatus => p.fzStatus
  | .fzTime => p.fzTime
  | .traceStatus => p.traceStatus
  | .traceCnt => packBits [(0, 32, p.trace.written)]
  | _ => 0

/-- Registers whose RW or WO fields live elsewhere than in the stored words: the view alone is read. -/
def storedElsewhere (name : RegName) : Bool :=
  match name with
  | .convQueue => true
  | .tpSeed => true
  | .evcGate => true
  | .evcLine => true
  | .evcCore => true
  | .polRank => true
  | .pwrDomain => true
  | .fabSlice2 => true
  | .tsenseStatus => true
  | _ => false

/-- The status block of a session in BAR0, as 64-bit words at offset `off` (R236): zero where nothing is. -/
def Part.bar0Word (p : Part) (off : Nat) : Word64 :=
  let s := (off - 0x400000) / 64
  if off < 0x400000 ∨ 64 ≤ s then 0
  else if off % 64 = 0 then p.sessStatus s
  else if off % 64 = 8 then p.sessStatus2 s
  else if off % 64 = 16 then p.regGet (aSessCnt s)
  else 0

/-- What a host read of BAR0 returns (R236): the submission windows read zero. -/
def Part.bar0Read (p : Part) (off n : Nat) : Bytes :=
  if !p.bar0Open then zpad n else ((List.range n).map fun i => nth 0 (wordBytes (p.bar0Word ((off + i) / 8 * 8))) ((off + i) % 8))

/-- A 32-bit word of BAR4 (R235): the MSI-X table from 0x0000, the pending-bit array from 0x8000. -/
def Part.bar4Word (p : Part) (off : Nat) : Nat :=
  let n := off / 16
  let e := p.msixEntry n
  if off < 65 * 16 then
    (if off % 16 = 0 then e.addr % 2 ^ 32 else if off % 16 = 4 then e.addr / 2 ^ 32 else if off % 16 = 8 then e.data else bit e.masked)
  else if 0x8000 ≤ off ∧ off < 0x8000 + 12 then
    sumNat ((p.host.msixPend.filter fun v => v / 32 == (off - 0x8000) / 4).map fun v => 2 ^ (v % 32))
  else 0

/-- The fields of a stored word that a read returns: WO fields read zero (R7). -/
def readable (v : Word64) (fs : List RegField) : Word64 :=
  fs.foldl (fun w f => if f.acc = .wo then w else setBits w f.lo f.width (getBits v f.lo f.width)) 0

/-- What a read of `size` bytes at address `a` returns (R6, R9 to R11, R384): a read of another size or alignment than the register's, of no
register, or of a die that is not running returns zero. Reads with an effect are commands of their own. -/
def Part.regRead (p : Part) (by_ : Accessor) (a size : Nat) : Word64 :=
  let die := a / windowBytes
  match findReg a with
  | none => if by_ = .host ∧ bar4Base ≤ a ∧ p.alive 2 then
      BitVec.ofNat 64 (p.bar4Word ((a - bar4Base) / 4 * 4) + (if size = 8 then 2 ^ 32 * p.bar4Word ((a - bar4Base) / 4 * 4 + 4) else 0)) else 0
  | some (r, idx) =>
    if 8 * size ≠ r.width ∨ !p.alive (dieDomain die) ∨ (by_ = .host ∧ !p.hostReaches die) then 0
    else if r.name = .evcLine ∧ nth 0 idx 0 < 256 ∧ by_ = .host then 0
    else if storedElsewhere r.name then p.regRo r.name idx die
    else
      let p := if r.name = .convStatus then p.countDrops (1024 * (die - 12) + nth 0 idx 0) else p
      p.regRo r.name idx die ||| readable (p.regGet a) r.fields

end Sys2Proof.Machine
end

