-- ==== Sys2Proof/Machine/Dispatch.lean ====
section
/-! DEFINITION. Dispatch: one arm per constructor of Instr, each a direct call of the command's meaning. -/
namespace Sys2Proof.Machine

-- What a command does to everything but the queue (one arm per row of the opcode table).
def exec (i : Instr) (s : State) : Host.Outcome State Fault Refusal :=
  match i with
  | .registerWrite by_ a size v => Sys2Proof.Machine.execRegisterWrite by_ a size v s
  | .moduleTrained d q credits => Sys2Proof.Machine.execModuleTrained d q credits s
  | .moduleTrainingFail d q => Sys2Proof.Machine.execModuleTrainingFail d q s
  | .moduleDown d q => Sys2Proof.Machine.execModuleDown d q s
  | .dieMessageAck holder src dst cls seq => Sys2Proof.Machine.execDieMessageAck holder src dst cls seq s
  | .dieMessageArrive at_ port m => Sys2Proof.Machine.execDieMessageArrive at_ port m s
  | .dieReplyArrive => Sys2Proof.Machine.execDieReplyArrive s
  | .dieDeliveryTimeout src dst cls seq => Sys2Proof.Machine.execDieDeliveryTimeout src dst cls seq s
  | .mvm t => Sys2Proof.Machine.execMvm t s
  | .mvmGrant c => Sys2Proof.Machine.execMvmGrant c s
  | .mvmStart t => Sys2Proof.Machine.execMvmStart t s
  | .mvmResult t xs => Sys2Proof.Machine.execMvmResult t xs s
  | .ladderExecComplete c => Sys2Proof.Machine.execLadderExecComplete c s
  | .tileResultArrive c => Sys2Proof.Machine.execTileResultArrive c s
  | .setDrainEnd c g y => Sys2Proof.Machine.execSetDrainEnd c g y s
  | .vectorStage job fns dest => Sys2Proof.Machine.execVectorStage job fns dest s
  | .writeShallow die unit => Sys2Proof.Machine.execWriteShallow die unit s
  | .refresh die unit => Sys2Proof.Machine.execRefresh die unit s
  | .writeDeep die unit => Sys2Proof.Machine.execWriteDeep die unit s
  | .erase die unit => Sys2Proof.Machine.execErase die unit s
  | .release die unit => Sys2Proof.Machine.execRelease die unit s
  | .releaseTakeEffect k => Sys2Proof.Machine.execReleaseTakeEffect k s
  | .epochWaitEnd die unit => Sys2Proof.Machine.execEpochWaitEnd die unit s
  | .tileWriteStart t => Sys2Proof.Machine.execTileWriteStart t s
  | .hotDeferEnd t => Sys2Proof.Machine.execHotDeferEnd t s
  | .shallowRowArrive t => Sys2Proof.Machine.execShallowRowArrive t s
  | .shallowWriteComplete t => Sys2Proof.Machine.execShallowWriteComplete t s
  | .deepClearPassEnd t => Sys2Proof.Machine.execDeepClearPassEnd t s
  | .deepRowVerify t pass => Sys2Proof.Machine.execDeepRowVerify t pass s
  | .eraseDone t => Sys2Proof.Machine.execEraseDone t s
  | .mapUpdateComplete t => Sys2Proof.Machine.execMapUpdateComplete t s
  | .lifeTick c => Sys2Proof.Machine.execLifeTick c s
  | .bankExpire k => Sys2Proof.Machine.execBankExpire k s
  | .deepAgeTick c => Sys2Proof.Machine.execDeepAgeTick c s
  | .ageAlert k => Sys2Proof.Machine.execAgeAlert k s
  | .deepAgeMilestone k => Sys2Proof.Machine.execDeepAgeMilestone k s
  | .dieResetExit d stackFail => Sys2Proof.Machine.execDieResetExit d stackFail s
  | .blankCheckComplete k => Sys2Proof.Machine.execBlankCheckComplete k s
  | .dieResetTimeout d => Sys2Proof.Machine.execDieResetTimeout d s
  | .calCmd die unit => Sys2Proof.Machine.execCalCmd die unit s
  | .convCalCmd by_ t w => Sys2Proof.Machine.execConvCalCmd by_ t w s
  | .calComplete t devs => Sys2Proof.Machine.execCalComplete t devs s
  | .calAbort by_ t => Sys2Proof.Machine.execCalAbort by_ t s
  | .capClear by_ t => Sys2Proof.Machine.execCapClear by_ t s
  | .convCfg by_ t v => Sys2Proof.Machine.execConvCfg by_ t v s
  | .captureEmpty t => Sys2Proof.Machine.execCaptureEmpty t s
  | .convQueue by_ t rd => Sys2Proof.Machine.execConvQueue by_ t rd s
  | .loadProbeFit k => Sys2Proof.Machine.execLoadProbeFit k s
  | .annealDue k => Sys2Proof.Machine.execAnnealDue k s
  | .annealTask k probe => Sys2Proof.Machine.execAnnealTask k probe s
  | .columnCheckComplete a meas => Sys2Proof.Machine.execColumnCheckComplete a meas s
  | .load j => Sys2Proof.Machine.execLoad j s
  | .stageShard e sh base => Sys2Proof.Machine.execStageShard e sh base s
  | .shardStageStart base lender => Sys2Proof.Machine.execShardStageStart base lender s
  | .nvmePduReceive c u holders => Sys2Proof.Machine.execNvmePduReceive c u holders s
  | .hostReadComplete j data => Sys2Proof.Machine.execHostReadComplete j data s
  | .hostReadError j holders => Sys2Proof.Machine.execHostReadError j holders s
  | .fetchTimeout e sh holders => Sys2Proof.Machine.execFetchTimeout e sh holders s
  | .shardChecksDone e sh graph holders => Sys2Proof.Machine.execShardChecksDone e sh graph holders s
  | .scrubDue e sh => Sys2Proof.Machine.execScrubDue e sh s
  | .scrubShard e sh => Sys2Proof.Machine.execScrubShard e sh s
  | .scrubComplete e sh bad holders => Sys2Proof.Machine.execScrubComplete e sh bad holders s
  | .pipelineChunk base => Sys2Proof.Machine.execPipelineChunk base s
  | .pipelineWaitTimeout e => Sys2Proof.Machine.execPipelineWaitTimeout e s
  | .broadcastShard base => Sys2Proof.Machine.execBroadcastShard base s
  | .tierCopyComplete e sh => Sys2Proof.Machine.execTierCopyComplete e sh s
  | .tierReadbackComplete e sh base holders => Sys2Proof.Machine.execTierReadbackComplete e sh base holders s
  | .unload j => Sys2Proof.Machine.execUnload j s
  | .setCurrent j => Sys2Proof.Machine.execSetCurrent j s
  | .modelQuery j => Sys2Proof.Machine.execModelQuery j s
  | .tierAdd j => Sys2Proof.Machine.execTierAdd j s
  | .tierRemove j => Sys2Proof.Machine.execTierRemove j s
  | .deepOrphanTimeout => Sys2Proof.Machine.execDeepOrphanTimeout s
  | .pageAlloc cxd sl => Sys2Proof.Machine.execPageAlloc cxd sl s
  | .pageFork cxd sl target n => Sys2Proof.Machine.execPageFork cxd sl target n s
  | .pageTruncate cxd sl n => Sys2Proof.Machine.execPageTruncate cxd sl n s
  | .slotAssign cxd sl shape => Sys2Proof.Machine.execSlotAssign cxd sl shape s
  | .slotRelease cxd sl => Sys2Proof.Machine.execSlotRelease cxd sl s
  | .pageOpApply sl => Sys2Proof.Machine.execPageOpApply sl s
  | .pageCopyComplete sl => Sys2Proof.Machine.execPageCopyComplete sl s
  | .kvAppend cxd sl => Sys2Proof.Machine.execKvAppend cxd sl s
  | .attention cxd id sl layer first count tag appends fp32 queries outputs => Sys2Proof.Machine.execAttention cxd id sl layer first count tag appends fp32 queries outputs s
  | .attentionStart id => Sys2Proof.Machine.execAttentionStart id s
  | .attentionComplete id => Sys2Proof.Machine.execAttentionComplete id s
  | .patrolRead k addr kind demand other hit last holders => Sys2Proof.Machine.execPatrolRead k addr kind demand other hit last holders s
  | .pageRebuildComplete sl j data => Sys2Proof.Machine.execPageRebuildComplete sl j data s
  | .stackRefresh k => Sys2Proof.Machine.execStackRefresh k s
  | .stackTempReadout k v => Sys2Proof.Machine.execStackTempReadout k v s
  | .stackBandFall k => Sys2Proof.Machine.execStackBandFall k s
  | .admitRequest j => Sys2Proof.Machine.execAdmit j s
  | .admitAskTimeout sl => Sys2Proof.Machine.execAdmitAskTimeout sl s
  | .stepIssue e items jobs vecs => Sys2Proof.Machine.execStepIssue e items jobs vecs s
  | .commit sl main draft => Sys2Proof.Machine.execCommit sl main draft s
  | .balanceWindow => Sys2Proof.Machine.execBalanceWindow s
  | .cancel j => Sys2Proof.Machine.execCancel j s
  | .cancelMark cxd => Sys2Proof.Machine.execCancelMark cxd s
  | .timeLimitExpire sl => Sys2Proof.Machine.execTimeLimitExpire sl s
  | .requestQuery j => Sys2Proof.Machine.execRequestQuery j s
  | .grammarLoad j => Sys2Proof.Machine.execGrammarLoad j s
  | .grammarUnload j => Sys2Proof.Machine.execGrammarUnload j s
  | .kvFork j => Sys2Proof.Machine.execKvFork j s
  | .kvTruncate j => Sys2Proof.Machine.execKvTruncate j s
  | .kvRelease j => Sys2Proof.Machine.execKvRelease j s
  | .kvQuery j => Sys2Proof.Machine.execKvQuery j s
  | .submissionWrite off b => Sys2Proof.Machine.execSubmissionWrite off b s
  | .packetTake j => Sys2Proof.Machine.execPacketTake j s
  | .commandStart j => Sys2Proof.Machine.execCommandStart j s
  | .nop j => Sys2Proof.Machine.execNop j s
  | .sessionOpen j => Sys2Proof.Machine.execSessionOpen j s
  | .sessionClose j => Sys2Proof.Machine.execSessionClose j s
  | .sessionResync j => Sys2Proof.Machine.execSessionResync j s
  | .credit j => Sys2Proof.Machine.execCredit j s
  | .partInfo j => Sys2Proof.Machine.execPartInfo j s
  | .seedSet j => Sys2Proof.Machine.execSeedSet j s
  | .noticeMask j => Sys2Proof.Machine.execNoticeMask j s
  | .replyWrite j => Sys2Proof.Machine.execReplyWrite j s
  | .creditReply j => Sys2Proof.Machine.execCreditReply j s
  | .msixHoldoffExpire j => Sys2Proof.Machine.execMsixHoldoffExpire j s
  | .dieCommandTimeout tag seq => Sys2Proof.Machine.execDieCommandTimeout tag seq s
  | .laneFail l lane peer => Sys2Proof.Machine.execLaneFail l lane peer s
  | .laneRetrain l lane => Sys2Proof.Machine.execLaneRetrain l lane s
  | .laneGood l lane peer => Sys2Proof.Machine.execLaneGood l lane peer s
  | .linkSignal l => Sys2Proof.Machine.execLinkSignal l s
  | .linkTrained l peerPart dx dy dz peerPort peerLink good peerGood credits => Sys2Proof.Machine.execLinkTrained l peerPart dx dy dz peerPort peerLink good peerGood credits s
  | .linkTrainingTimeout l => Sys2Proof.Machine.execLinkTrainingTimeout l s
  | .linkRetry l => Sys2Proof.Machine.execLinkRetry l s
  | .linkSilent l => Sys2Proof.Machine.execLinkSilent l s
  | .linkResizeDone l => Sys2Proof.Machine.execLinkResizeDone l s
  | .linkResizeTimeout l => Sys2Proof.Machine.execLinkResizeTimeout l s
  | .flitReceive l b corr uncorr => Sys2Proof.Machine.execFlitReceive l b corr uncorr s
  | .packetRoute port k => Sys2Proof.Machine.execPacketRoute port k s
  | .packetHoldRetry => Sys2Proof.Machine.execPacketHoldRetry s
  | .noRoute => Sys2Proof.Machine.execNoRoute s
  | .e2eAck => Sys2Proof.Machine.execE2eAck s
  | .e2eResend => Sys2Proof.Machine.execE2eResend s
  | .unreachable d => Sys2Proof.Machine.execUnreachable d s
  | .gapSkip src cls => Sys2Proof.Machine.execGapSkip src cls s
  | .portCfg j => Sys2Proof.Machine.execPortCfg j s
  | .fabricQuery j => Sys2Proof.Machine.execFabricQuery j s
  | .sliceJoin j => Sys2Proof.Machine.execSliceJoin j s
  | .sliceLeave j => Sys2Proof.Machine.execSliceLeave j s
  | .sliceDescriptor => Sys2Proof.Machine.execSliceDescriptor s
  | .sliceActive => Sys2Proof.Machine.execSliceActive s
  | .lendRequest => Sys2Proof.Machine.execLendRequest s
  | .rackOffsetExchange id rack offset => Sys2Proof.Machine.execRackOffsetExchange id rack offset s
  | .barrierArrive => Sys2Proof.Machine.execBarrierArrive s
  | .barrierGo => Sys2Proof.Machine.execBarrierGo s
  | .roundStart id => Sys2Proof.Machine.execRoundStart id s
  | .arriveTimeout id => Sys2Proof.Machine.execArriveTimeout id s
  | .ethCfg j => Sys2Proof.Machine.execEthCfg j s
  | .ingressClaim l conn b => Sys2Proof.Machine.execIngressClaim l conn b s
  | .ingressLost loss => Sys2Proof.Machine.execIngressLost loss s
  | .nvmeConnect j => Sys2Proof.Machine.execNvmeConnect j s
  | .nvmeConnectTimeout c => Sys2Proof.Machine.execNvmeConnectTimeout c s
  | .nvmeDisconnect j => Sys2Proof.Machine.execNvmeDisconnect j s
  | .journalRecord => Sys2Proof.Machine.execJournalRecord s
  | .journalAck => Sys2Proof.Machine.execJournalAck s
  | .journalRefusal => Sys2Proof.Machine.execJournalRefusal s
  | .journalSet j => Sys2Proof.Machine.execJournalSet j s
  | .journalClear j => Sys2Proof.Machine.execJournalClear j s
  | .journalSeal j => Sys2Proof.Machine.execJournalSeal j s
  | .journalAdopt j => Sys2Proof.Machine.execJournalAdopt j s
  | .journalRelease j => Sys2Proof.Machine.execJournalRelease j s
  | .mboxSend c dest => Sys2Proof.Machine.execMboxSend c dest s
  | .mboxPop c => Sys2Proof.Machine.execMboxPop c s
  | .polRingPop c => Sys2Proof.Machine.execPolRingPop c s
  | .polRank slot rank => Sys2Proof.Machine.execPolRank slot rank s
  | .eventMessage => Sys2Proof.Machine.execEventMessage s
  | .evcDeliver => Sys2Proof.Machine.execEvcDeliver s
  | .evcClaim c => Sys2Proof.Machine.execEvcClaim c s
  | .evcComplete c j => Sys2Proof.Machine.execEvcComplete c j s
  | .fastSret c => Sys2Proof.Machine.execFastSret c s
  | .modTimerExpire j => Sys2Proof.Machine.execModTimerExpire j s
  | .evcGate by_ v => Sys2Proof.Machine.execEvcGate by_ v s
  | .evcSoftSet mask => Sys2Proof.Machine.execEvcSoftSet mask s
  | .policyFault c cause => Sys2Proof.Machine.execPolicyFault c cause s
  | .policyLoad j => Sys2Proof.Machine.execPolicyLoad j s
  | .powerOn => Sys2Proof.Machine.execPowerOn s
  | .powerDown => Sys2Proof.Machine.execPowerDown s
  | .resetNLow => Sys2Proof.Machine.execResetNLow s
  | .resetNHigh => Sys2Proof.Machine.execResetNHigh s
  | .perstNLow holders => Sys2Proof.Machine.execPerstNLow holders s
  | .pcieLinkDown holders => Sys2Proof.Machine.execPcieLinkDown holders s
  | .busMasterEnable v => Sys2Proof.Machine.execBusMasterEnable v s
  | .pllLockLoss d => Sys2Proof.Machine.execPllLockLoss d s
  | .refclkLoss => Sys2Proof.Machine.execRefclkLoss s
  | .partReset j => Sys2Proof.Machine.execPartReset j s
  | .partResetHalt j => Sys2Proof.Machine.execPartResetHalt j s
  | .resetDelayExpire => Sys2Proof.Machine.execResetDelayExpire s
  | .haltComplete => Sys2Proof.Machine.execHaltComplete s
  | .haltTimeout => Sys2Proof.Machine.execHaltTimeout s
  | .rstCtlReset key => Sys2Proof.Machine.execRstCtlReset key s
  | .rstCtlHalt key => Sys2Proof.Machine.execRstCtlHalt key s
  | .stageFirmware => Sys2Proof.Machine.execStageFirmware s
  | .calRoundStart a => Sys2Proof.Machine.execCalRoundStart a s
  | .calRoundComplete a fail tiles => Sys2Proof.Machine.execCalRoundComplete a fail tiles s
  | .domainSleep j => Sys2Proof.Machine.execDomainSleep j s
  | .domainWake j => Sys2Proof.Machine.execDomainWake j s
  | .pwrWake key => Sys2Proof.Machine.execPwrWake key s
  | .rampStart => Sys2Proof.Machine.execRampStart s
  | .rampEnd d => Sys2Proof.Machine.execRampEnd d s
  | .rampTimeout d => Sys2Proof.Machine.execRampTimeout d s
  | .domainOn d => Sys2Proof.Machine.execDomainOn d s
  | .domainSleepComplete d => Sys2Proof.Machine.execDomainSleepComplete d s
  | .regulatorFault d => Sys2Proof.Machine.execRegulatorFault d s
  | .maintenanceWake => Sys2Proof.Machine.execMaintenanceWake s
  | .wsdIdleSleep => Sys2Proof.Machine.execWsdIdleSleep s
  | .powerInterval uj vinMv iinCa pace clamp domClamp => Sys2Proof.Machine.execPowerInterval uj vinMv iinCa pace clamp domClamp s
  | .powerQuery j => Sys2Proof.Machine.execPowerQuery j s
  | .powerLimit j => Sys2Proof.Machine.execPowerLimit j s
  | .sensorSample die raws => Sys2Proof.Machine.execSensorSample die raws s
  | .throttleUpdate => Sys2Proof.Machine.execThrottleUpdate s
  | .remoteSenseMeasure j v => Sys2Proof.Machine.execRemoteSenseMeasure j v s
  | .thermalQuery j => Sys2Proof.Machine.execThermalQuery j s
  | .quenchClear j => Sys2Proof.Machine.execQuenchClear j s
  | .attest j => Sys2Proof.Machine.execAttest j s
  | .certRead j => Sys2Proof.Machine.execCertRead j s
  | .keyInstall j => Sys2Proof.Machine.execKeyInstall j s
  | .keyRemove j => Sys2Proof.Machine.execKeyRemove j s
  | .debugAuthPhase0 j => Sys2Proof.Machine.execDebugAuthPhase0 j s
  | .debugAuthPhase1 j => Sys2Proof.Machine.execDebugAuthPhase1 j s
  | .debugChallengeExpire => Sys2Proof.Machine.execDebugChallengeExpire s
  | .freezeNLow => Sys2Proof.Machine.execFreezeNLow s
  | .freeze j => Sys2Proof.Machine.execFreeze j s
  | .stopAckTimeout acks => Sys2Proof.Machine.execStopAckTimeout acks s
  | .extest n din => Sys2Proof.Machine.execExtest n din s
  | .samplePreload n din => Sys2Proof.Machine.execSamplePreload n din s
  | .idcode n din => Sys2Proof.Machine.execIdcode n din s
  | .fzStatus n din => Sys2Proof.Machine.execFzStatus n din s
  | .dieSel n din => Sys2Proof.Machine.execDieSel n din s
  | .scanRead n din => Sys2Proof.Machine.execScanRead n din s
  | .arrayRead n din inputs => Sys2Proof.Machine.execArrayRead n din inputs s
  | .bypass code n din => Sys2Proof.Machine.execBypass code n din s
  | .traceCfg j => Sys2Proof.Machine.execTraceCfg j s
  | .traceRead j => Sys2Proof.Machine.execTraceRead j s
  | .diagMvm j => Sys2Proof.Machine.execDiagMvm j s
  | .fallbackComplete c => Sys2Proof.Machine.execFallbackComplete c s
  | .perstNHigh => Sys2Proof.Machine.execPerstNHigh s
  | .pcieLinkUp => Sys2Proof.Machine.execPcieLinkUp s
  | .refclk156Present lockFail => Sys2Proof.Machine.execRefclk156Present lockFail s
  | .refclkWaitTimeout => Sys2Proof.Machine.execRefclkWaitTimeout s
  | .partnerSetTimeout => Sys2Proof.Machine.execPartnerSetTimeout s
  | .nvmeKeepAlive c => Sys2Proof.Machine.execNvmeKeepAlive c s
  | .ethLinkUp l => Sys2Proof.Machine.execEthLinkUp l s
  | .ethFrameReceive l f => Sys2Proof.Machine.execEthFrameReceive l f s
  | .ingressData conn b => Sys2Proof.Machine.execIngressData conn b s
  | .stopAck => Sys2Proof.Machine.execStopAck s
  | .arrayReadComplete => Sys2Proof.Machine.execArrayReadComplete s
  | .tapReset => Sys2Proof.Machine.execTapReset s
  | .ucieLaneRepair d q => Sys2Proof.Machine.execUcieLaneRepair d q s
  | .adapterCrcRetry d q => Sys2Proof.Machine.execAdapterCrcRetry d q s

end Sys2Proof.Machine
end

