-- ==== Sys2Proof/WellFormed.lean ====
section
/-! DEFINITION. WellFormed: which commands name objects that the part has. Every range is the one the manual gives that kind of
object. A command that is not well formed cannot occur: `exec` answers it with the fault noSuchObject. -/
namespace Sys2Proof

/-- The 20 dies (R13). -/
def isDie (d : Nat) : Bool := decide (d < 20)
/-- The UCIe module ports of each die, by die number (R14, R18). -/
def portCounts : List Nat := [5, 1, 3, 3, 3, 3, 3, 3, 20, 23, 23, 20, 8, 8, 8, 8, 8, 8, 8, 8]
/-- A port of a die (R18). -/
def isPort (d q : Nat) : Bool := decide (q < portCounts.getD d 0)
/-- An anneal compute die, by ACD number. -/
def isAcd (a : Nat) : Bool := decide (a < 8)
/-- A tile of the part: 1,024 on each ACD. -/
def isTile (t : Nat) : Bool := decide (t < 8 * 1024)
/-- A bank of the part: two on each tile. -/
def isBank (k : Nat) : Bool := decide (k < 8 * 1024 * 2)
/-- A cluster, and its slice: 16 on each ACD. -/
def isCluster (c : Nat) : Bool := decide (c < 8 * 16)
/-- A column group of a slice (R136). -/
def isColumnGroup (g : Nat) : Bool := decide (g < 512)
/-- A tile-bank unit of an ACD, as a bank command names it (R34). -/
def isBankUnit (die unit : Nat) : Bool := decide (12 ≤ die ∧ die < 20 ∧ unit < 2048)
/-- A tile unit of an ACD, as a calibration command names it (R34, R80). -/
def isTileUnit (die unit : Nat) : Bool := decide (12 ≤ die ∧ die < 20 ∧ 2048 ≤ unit ∧ unit < 3072)
/-- A CXD, by CXD number. -/
def isCxd (c : Nat) : Bool := decide (c < 4)
/-- An HBM stack: eight on each CXD. -/
def isStack (k : Nat) : Bool := decide (k < 4 * 8)
/-- A sequence slot (R174). -/
def isSlot (sl : Nat) : Bool := decide (sl < 16384)
/-- An entry of the model table. -/
def isVersion (e : Nat) : Bool := decide (e < 8192)
/-- A shard of a version or, above the versions, a grammar image. -/
def isShard (e sh : Nat) : Bool := decide (e < 8192 + 256 ∧ sh < 65536)
/-- An NVMe controller number (R152). -/
def isController (c : Nat) : Bool := decide (c < 8)
/-- A host session (R236). -/
def isSession (i : Nat) : Bool := decide (i < 64)
/-- A control core of CTL (R349). -/
def isCore (c : Nat) : Bool := decide (c < 24)
/-- A policy core of CTL (R349). -/
def isPolicyCore (c : Nat) : Bool := decide (16 ≤ c ∧ c < 24)
/-- A line of the event controller (R359). -/
def isLine (i : Nat) : Bool := decide (i < 512)
/-- A power domain other than the AON island (R400). -/
def isDomain (d : Nat) : Bool := decide (1 ≤ d ∧ d ≤ 19)
/-- A remote-sense pair (R425). -/
def isSensePair (i : Nat) : Bool := decide (i < 4)
/-- A link of the part, four on each LKD. -/
def isLink (l : Nat) : Bool := decide (l < 16)
/-- A lane of a link (R295). -/
def isLane (n : Nat) : Bool := decide (n < 8)
/-- A link that carries Ethernet (R317). -/
def isEthLink (l : Nat) : Bool := decide (12 ≤ l ∧ l < 16)
/-- A port of the torus. -/
def isFabPort (q : Nat) : Bool := decide (q < 6)
/-- A part number on the fabric. -/
def isPart (d : Nat) : Bool := decide (d < 65536)

/-- Who accesses a register: the host, or a core that exists. -/
def Accessor.wf : Accessor → Bool
  | .host => true
  | .core c => isCore c

/-- The objects that a command names exist. -/
def Instr.wf : Instr → Bool
  | .registerWrite by_ _ _ _ => by_.wf
  | .moduleTrained d q _ => isPort d q
  | .moduleTrainingFail d q => isPort d q
  | .moduleDown d q => isPort d q
  | .dieMessageAck holder _ _ _ _ => isDie holder
  | .dieMessageArrive at_ port _ => isPort at_ port
  | .dieReplyArrive => true
  | .dieDeliveryTimeout src dst _ _ => isDie src && isDie dst
  | .mvm t => isTile t
  | .mvmGrant c => isCluster c
  | .mvmStart t => isTile t
  | .mvmResult t _ => isTile t
  | .ladderExecComplete c => isCluster c
  | .tileResultArrive c => isCluster c
  | .setDrainEnd c g _ => isCluster c && isColumnGroup g
  | .vectorStage _ _ _ => true
  | .writeShallow die unit => isBankUnit die unit
  | .refresh die unit => isBankUnit die unit
  | .writeDeep die unit => isBankUnit die unit
  | .erase die unit => isBankUnit die unit
  | .release die unit => isBankUnit die unit
  | .releaseTakeEffect k => isBank k
  | .epochWaitEnd die unit => isBankUnit die unit
  | .tileWriteStart t => isTile t
  | .hotDeferEnd t => isTile t
  | .shallowRowArrive t => isTile t
  | .shallowWriteComplete t => isTile t
  | .deepClearPassEnd t => isTile t
  | .deepRowVerify t _ => isTile t
  | .eraseDone t => isTile t
  | .mapUpdateComplete t => isTile t
  | .lifeTick c => isCluster c
  | .bankExpire k => isBank k
  | .deepAgeTick c => isCluster c
  | .ageAlert k => isBank k
  | .deepAgeMilestone k => isBank k
  | .dieResetExit d _ => isDie d
  | .blankCheckComplete k => isBank k
  | .dieResetTimeout d => isDie d
  | .calCmd die unit => isTileUnit die unit
  | .convCalCmd _ t _ => isTile t
  | .calComplete t _ => isTile t
  | .calAbort _ t => isTile t
  | .capClear _ t => isTile t
  | .convCfg _ t _ => isTile t
  | .captureEmpty t => isTile t
  | .convQueue _ t _ => isTile t
  | .loadProbeFit k => isBank k
  | .annealDue k => isBank k
  | .annealTask k _ => isBank k
  | .columnCheckComplete a _ => isAcd a
  | .load i => isSession i
  | .stageShard e sh _ => isShard e sh
  | .shardStageStart _ _ => true
  | .nvmePduReceive c _ _ => isController c
  | .hostReadComplete _ _ => true
  | .hostReadError _ _ => true
  | .fetchTimeout e sh _ => isShard e sh
  | .shardChecksDone e sh _ _ => isShard e sh
  | .scrubDue e sh => isShard e sh
  | .scrubShard e sh => isShard e sh
  | .scrubComplete e sh _ _ => isShard e sh
  | .pipelineChunk _ => true
  | .pipelineWaitTimeout e => isVersion e
  | .broadcastShard _ => true
  | .tierCopyComplete e sh => isShard e sh
  | .tierReadbackComplete e sh _ _ => isShard e sh
  | .unload i => isSession i
  | .setCurrent i => isSession i
  | .modelQuery i => isSession i
  | .tierAdd i => isSession i
  | .tierRemove i => isSession i
  | .deepOrphanTimeout => true
  | .pageAlloc cxd sl => isCxd cxd && isSlot sl
  | .pageFork cxd sl _ _ => isCxd cxd && isSlot sl
  | .pageTruncate cxd sl _ => isCxd cxd && isSlot sl
  | .slotAssign cxd sl _ => isCxd cxd && isSlot sl
  | .slotRelease cxd sl => isCxd cxd && isSlot sl
  | .pageOpApply sl => isSlot sl
  | .pageCopyComplete sl => isSlot sl
  | .kvAppend cxd sl => isCxd cxd && isSlot sl
  | .attention cxd _ sl _ _ _ _ _ _ _ _ => isCxd cxd && isSlot sl
  | .attentionStart _ => true
  | .attentionComplete _ => true
  | .patrolRead k _ _ _ _ _ _ _ => isStack k
  | .pageRebuildComplete sl _ _ => isSlot sl
  | .stackRefresh k => isStack k
  | .stackTempReadout k _ => isStack k
  | .stackBandFall k => isStack k
  | .admitRequest i => isSession i
  | .admitAskTimeout sl => isSlot sl
  | .stepIssue e _ _ _ => isVersion e
  | .commit sl _ _ => isSlot sl
  | .balanceWindow => true
  | .cancel i => isSession i
  | .cancelMark cxd => isCxd cxd
  | .timeLimitExpire sl => isSlot sl
  | .requestQuery i => isSession i
  | .grammarLoad i => isSession i
  | .grammarUnload i => isSession i
  | .kvFork i => isSession i
  | .kvTruncate i => isSession i
  | .kvRelease i => isSession i
  | .kvQuery i => isSession i
  | .submissionWrite _ _ => true
  | .packetTake i => isSession i
  | .commandStart i => isSession i
  | .nop i => isSession i
  | .sessionOpen i => isSession i
  | .sessionClose i => isSession i
  | .sessionResync i => isSession i
  | .credit i => isSession i
  | .partInfo i => isSession i
  | .seedSet i => isSession i
  | .noticeMask i => isSession i
  | .replyWrite i => isSession i
  | .creditReply i => isSession i
  | .msixHoldoffExpire i => isSession i
  | .dieCommandTimeout _ _ => true
  | .laneFail l lane _ => isLink l && isLane lane
  | .laneRetrain l lane => isLink l && isLane lane
  | .laneGood l lane _ => isLink l && isLane lane
  | .linkSignal l => isLink l
  | .linkTrained l _ _ _ _ _ _ _ _ _ => isLink l
  | .linkTrainingTimeout l => isLink l
  | .linkRetry l => isLink l
  | .linkSilent l => isLink l
  | .linkResizeDone l => isLink l
  | .linkResizeTimeout l => isLink l
  | .flitReceive l _ _ _ => isLink l
  | .packetRoute port _ => port.all isFabPort
  | .packetHoldRetry => true
  | .noRoute => true
  | .e2eAck => true
  | .e2eResend => true
  | .unreachable d => isPart d
  | .gapSkip _ _ => true
  | .portCfg i => isSession i
  | .fabricQuery i => isSession i
  | .sliceJoin i => isSession i
  | .sliceLeave i => isSession i
  | .sliceDescriptor => true
  | .sliceActive => true
  | .lendRequest => true
  | .rackOffsetExchange _ _ _ => true
  | .barrierArrive => true
  | .barrierGo => true
  | .roundStart _ => true
  | .arriveTimeout _ => true
  | .ethCfg i => isSession i
  | .ingressClaim l _ _ => isEthLink l
  | .ingressLost _ => true
  | .nvmeConnect i => isSession i
  | .nvmeConnectTimeout c => isController c
  | .nvmeDisconnect i => isSession i
  | .journalRecord => true
  | .journalAck => true
  | .journalRefusal => true
  | .journalSet i => isSession i
  | .journalClear i => isSession i
  | .journalSeal i => isSession i
  | .journalAdopt i => isSession i
  | .journalRelease i => isSession i
  | .mboxSend c _ => isCore c
  | .mboxPop c => isCore c
  | .polRingPop c => isCore c
  | .polRank slot _ => isSlot slot
  | .eventMessage => true
  | .evcDeliver => true
  | .evcClaim c => isCore c
  | .evcComplete c _ => isCore c
  | .fastSret c => isCore c
  | .modTimerExpire i => isLine i
  | .evcGate _ _ => true
  | .evcSoftSet _ => true
  | .policyFault c _ => isPolicyCore c
  | .policyLoad i => isSession i
  | .powerOn => true
  | .powerDown => true
  | .resetNLow => true
  | .resetNHigh => true
  | .perstNLow _ => true
  | .pcieLinkDown _ => true
  | .busMasterEnable _ => true
  | .pllLockLoss d => isDie d
  | .refclkLoss => true
  | .partReset i => isSession i
  | .partResetHalt i => isSession i
  | .resetDelayExpire => true
  | .haltComplete => true
  | .haltTimeout => true
  | .rstCtlReset _ => true
  | .rstCtlHalt _ => true
  | .stageFirmware => true
  | .calRoundStart a => isAcd a
  | .calRoundComplete a _ _ => isAcd a
  | .domainSleep i => isSession i
  | .domainWake i => isSession i
  | .pwrWake _ => true
  | .rampStart => true
  | .rampEnd d => isDomain d
  | .rampTimeout d => isDomain d
  | .domainOn d => isDomain d
  | .domainSleepComplete d => isDomain d
  | .regulatorFault d => isDomain d
  | .maintenanceWake => true
  | .wsdIdleSleep => true
  | .powerInterval _ _ _ _ _ _ => true
  | .powerQuery i => isSession i
  | .powerLimit i => isSession i
  | .sensorSample die _ => isDie die
  | .throttleUpdate => true
  | .remoteSenseMeasure i _ => isSensePair i
  | .thermalQuery i => isSession i
  | .quenchClear i => isSession i
  | .attest i => isSession i
  | .certRead i => isSession i
  | .keyInstall i => isSession i
  | .keyRemove i => isSession i
  | .debugAuthPhase0 i => isSession i
  | .debugAuthPhase1 i => isSession i
  | .debugChallengeExpire => true
  | .freezeNLow => true
  | .freeze i => isSession i
  | .stopAckTimeout _ => true
  | .extest _ _ => true
  | .samplePreload _ _ => true
  | .idcode _ _ => true
  | .fzStatus _ _ => true
  | .dieSel _ _ => true
  | .scanRead _ _ => true
  | .arrayRead _ _ _ => true
  | .bypass _ _ _ => true
  | .traceCfg i => isSession i
  | .traceRead i => isSession i
  | .diagMvm i => isSession i
  | .fallbackComplete c => isCluster c
  | .perstNHigh => true
  | .pcieLinkUp => true
  | .refclk156Present _ => true
  | .refclkWaitTimeout => true
  | .partnerSetTimeout => true
  | .nvmeKeepAlive c => isController c
  | .ethLinkUp l => isEthLink l
  | .ethFrameReceive l _ => isEthLink l
  | .ingressData _ _ => true
  | .stopAck => true
  | .arrayReadComplete => true
  | .tapReset => true
  | .ucieLaneRepair d q => isPort d q
  | .adapterCrcRetry d q => isPort d q

end Sys2Proof
end

