-- ==== Sys2Proof/Safety.lean ====
section
/-! DEFINITION. Safety: what claims call a safe step, the invariant of the byte memories, the few commands that write them or act on a part
that stands still, and the pieces of a part that each command can change. -/
namespace Sys2Proof

/-- The commands that can change the bytes of the stacks: a shard that passes its checks, a copy stored for a borrower and a copy read back
(R151, R162). -/
def Instr.writesStacks : Instr → Bool
  | .registerWrite _ _ _ _ => false
  | .moduleTrained _ _ _ => false
  | .moduleTrainingFail _ _ => false
  | .moduleDown _ _ => false
  | .dieMessageAck _ _ _ _ _ => false
  | .dieMessageArrive _ _ _ => false
  | .dieReplyArrive => false
  | .dieDeliveryTimeout _ _ _ _ => false
  | .mvm _ => false
  | .mvmGrant _ => false
  | .mvmStart _ => false
  | .mvmResult _ _ => false
  | .ladderExecComplete _ => false
  | .tileResultArrive _ => false
  | .setDrainEnd _ _ _ => false
  | .vectorStage _ _ _ => false
  | .writeShallow _ _ => false
  | .refresh _ _ => false
  | .writeDeep _ _ => false
  | .erase _ _ => false
  | .release _ _ => false
  | .releaseTakeEffect _ => false
  | .epochWaitEnd _ _ => false
  | .tileWriteStart _ => false
  | .hotDeferEnd _ => false
  | .shallowRowArrive _ => false
  | .shallowWriteComplete _ => false
  | .deepClearPassEnd _ => false
  | .deepRowVerify _ _ => false
  | .eraseDone _ => false
  | .mapUpdateComplete _ => false
  | .lifeTick _ => false
  | .bankExpire _ => false
  | .deepAgeTick _ => false
  | .ageAlert _ => false
  | .deepAgeMilestone _ => false
  | .dieResetExit _ _ => false
  | .blankCheckComplete _ => false
  | .dieResetTimeout _ => false
  | .calCmd _ _ => false
  | .convCalCmd _ _ _ => false
  | .calComplete _ _ => false
  | .calAbort _ _ => false
  | .capClear _ _ => false
  | .convCfg _ _ _ => false
  | .captureEmpty _ => false
  | .convQueue _ _ _ => false
  | .loadProbeFit _ => false
  | .annealDue _ => false
  | .annealTask _ _ => false
  | .columnCheckComplete _ _ => false
  | .load _ => false
  | .stageShard _ _ _ => false
  | .shardStageStart _ _ => false
  | .nvmePduReceive _ _ _ => false
  | .hostReadComplete _ _ => false
  | .hostReadError _ _ => false
  | .fetchTimeout _ _ _ => false
  | .shardChecksDone _ _ _ _ => true
  | .scrubDue _ _ => false
  | .scrubShard _ _ => false
  | .scrubComplete _ _ _ _ => false
  | .pipelineChunk _ => false
  | .pipelineWaitTimeout _ => false
  | .broadcastShard _ => false
  | .tierCopyComplete _ _ => false
  | .tierReadbackComplete _ _ _ _ => true
  | .unload _ => false
  | .setCurrent _ => false
  | .modelQuery _ => false
  | .tierAdd _ => false
  | .tierRemove _ => false
  | .deepOrphanTimeout => false
  | .pageAlloc _ _ => false
  | .pageFork _ _ _ _ => false
  | .pageTruncate _ _ _ => false
  | .slotAssign _ _ _ => false
  | .slotRelease _ _ => false
  | .pageOpApply _ => false
  | .pageCopyComplete _ => false
  | .kvAppend _ _ => false
  | .attention _ _ _ _ _ _ _ _ _ _ _ => false
  | .attentionStart _ => false
  | .attentionComplete _ => false
  | .patrolRead _ _ _ _ _ _ _ _ => false
  | .pageRebuildComplete _ _ _ => false
  | .stackRefresh _ => false
  | .stackTempReadout _ _ => false
  | .stackBandFall _ => false
  | .admitRequest _ => false
  | .admitAskTimeout _ => false
  | .stepIssue _ _ _ _ => false
  | .commit _ _ _ => false
  | .balanceWindow => false
  | .cancel _ => false
  | .cancelMark _ => false
  | .timeLimitExpire _ => false
  | .requestQuery _ => false
  | .grammarLoad _ => false
  | .grammarUnload _ => false
  | .kvFork _ => false
  | .kvTruncate _ => false
  | .kvRelease _ => false
  | .kvQuery _ => false
  | .submissionWrite _ _ => false
  | .packetTake _ => false
  | .commandStart _ => false
  | .nop _ => false
  | .sessionOpen _ => false
  | .sessionClose _ => false
  | .sessionResync _ => false
  | .credit _ => false
  | .partInfo _ => false
  | .seedSet _ => false
  | .noticeMask _ => false
  | .replyWrite _ => false
  | .creditReply _ => false
  | .msixHoldoffExpire _ => false
  | .dieCommandTimeout _ _ => false
  | .laneFail _ _ _ => false
  | .laneRetrain _ _ => false
  | .laneGood _ _ _ => false
  | .linkSignal _ => false
  | .linkTrained _ _ _ _ _ _ _ _ _ _ => false
  | .linkTrainingTimeout _ => false
  | .linkRetry _ => false
  | .linkSilent _ => false
  | .linkResizeDone _ => false
  | .linkResizeTimeout _ => false
  | .flitReceive _ _ _ _ => false
  | .packetRoute _ _ => false
  | .packetHoldRetry => false
  | .noRoute => false
  | .e2eAck => false
  | .e2eResend => false
  | .unreachable _ => false
  | .gapSkip _ _ => false
  | .portCfg _ => false
  | .fabricQuery _ => false
  | .sliceJoin _ => false
  | .sliceLeave _ => false
  | .sliceDescriptor => false
  | .sliceActive => false
  | .lendRequest => true
  | .rackOffsetExchange _ _ _ => false
  | .barrierArrive => false
  | .barrierGo => false
  | .roundStart _ => false
  | .arriveTimeout _ => false
  | .ethCfg _ => false
  | .ingressClaim _ _ _ => false
  | .ingressLost _ => false
  | .nvmeConnect _ => false
  | .nvmeConnectTimeout _ => false
  | .nvmeDisconnect _ => false
  | .journalRecord => false
  | .journalAck => false
  | .journalRefusal => false
  | .journalSet _ => false
  | .journalClear _ => false
  | .journalSeal _ => false
  | .journalAdopt _ => false
  | .journalRelease _ => false
  | .mboxSend _ _ => false
  | .mboxPop _ => false
  | .polRingPop _ => false
  | .polRank _ _ => false
  | .eventMessage => false
  | .evcDeliver => false
  | .evcClaim _ => false
  | .evcComplete _ _ => false
  | .fastSret _ => false
  | .modTimerExpire _ => false
  | .evcGate _ _ => false
  | .evcSoftSet _ => false
  | .policyFault _ _ => false
  | .policyLoad _ => false
  | .powerOn => false
  | .powerDown => false
  | .resetNLow => false
  | .resetNHigh => false
  | .perstNLow _ => false
  | .pcieLinkDown _ => false
  | .busMasterEnable _ => false
  | .pllLockLoss _ => false
  | .refclkLoss => false
  | .partReset _ => false
  | .partResetHalt _ => false
  | .resetDelayExpire => false
  | .haltComplete => false
  | .haltTimeout => false
  | .rstCtlReset _ => false
  | .rstCtlHalt _ => false
  | .stageFirmware => false
  | .calRoundStart _ => false
  | .calRoundComplete _ _ _ => false
  | .domainSleep _ => false
  | .domainWake _ => false
  | .pwrWake _ => false
  | .rampStart => false
  | .rampEnd _ => false
  | .rampTimeout _ => false
  | .domainOn _ => false
  | .domainSleepComplete _ => false
  | .regulatorFault _ => false
  | .maintenanceWake => false
  | .wsdIdleSleep => false
  | .powerInterval _ _ _ _ _ _ => false
  | .powerQuery _ => false
  | .powerLimit _ => false
  | .sensorSample _ _ => false
  | .throttleUpdate => false
  | .remoteSenseMeasure _ _ => false
  | .thermalQuery _ => false
  | .quenchClear _ => false
  | .attest _ => false
  | .certRead _ => false
  | .keyInstall _ => false
  | .keyRemove _ => false
  | .debugAuthPhase0 _ => false
  | .debugAuthPhase1 _ => false
  | .debugChallengeExpire => false
  | .freezeNLow => false
  | .freeze _ => false
  | .stopAckTimeout _ => false
  | .extest _ _ => false
  | .samplePreload _ _ => false
  | .idcode _ _ => false
  | .fzStatus _ _ => false
  | .dieSel _ _ => false
  | .scanRead _ _ => false
  | .arrayRead _ _ _ => false
  | .bypass _ _ _ => false
  | .traceCfg _ => false
  | .traceRead _ => false
  | .diagMvm _ => false
  | .fallbackComplete _ => false
  | .perstNHigh => false
  | .pcieLinkUp => false
  | .refclk156Present _ => false
  | .refclkWaitTimeout => false
  | .partnerSetTimeout => false
  | .nvmeKeepAlive _ => false
  | .ethLinkUp _ => false
  | .ethFrameReceive _ _ => false
  | .ingressData _ _ => false
  | .stopAck => false
  | .arrayReadComplete => false
  | .tapReset => false
  | .ucieLaneRepair _ _ => false
  | .adapterCrcRetry _ _ => false

/-- The commands that can change the bytes of the KV pages: appends, also those that an attention request lets in, copies and rebuilt pages
(R183, R186, R193). -/
def Instr.writesPages : Instr → Bool
  | .registerWrite _ _ _ _ => false
  | .moduleTrained _ _ _ => false
  | .moduleTrainingFail _ _ => false
  | .moduleDown _ _ => false
  | .dieMessageAck _ _ _ _ _ => false
  | .dieMessageArrive _ _ _ => false
  | .dieReplyArrive => false
  | .dieDeliveryTimeout _ _ _ _ => false
  | .mvm _ => false
  | .mvmGrant _ => false
  | .mvmStart _ => false
  | .mvmResult _ _ => false
  | .ladderExecComplete _ => false
  | .tileResultArrive _ => false
  | .setDrainEnd _ _ _ => false
  | .vectorStage _ _ _ => false
  | .writeShallow _ _ => false
  | .refresh _ _ => false
  | .writeDeep _ _ => false
  | .erase _ _ => false
  | .release _ _ => false
  | .releaseTakeEffect _ => false
  | .epochWaitEnd _ _ => false
  | .tileWriteStart _ => false
  | .hotDeferEnd _ => false
  | .shallowRowArrive _ => false
  | .shallowWriteComplete _ => false
  | .deepClearPassEnd _ => false
  | .deepRowVerify _ _ => false
  | .eraseDone _ => false
  | .mapUpdateComplete _ => false
  | .lifeTick _ => false
  | .bankExpire _ => false
  | .deepAgeTick _ => false
  | .ageAlert _ => false
  | .deepAgeMilestone _ => false
  | .dieResetExit _ _ => false
  | .blankCheckComplete _ => false
  | .dieResetTimeout _ => false
  | .calCmd _ _ => false
  | .convCalCmd _ _ _ => false
  | .calComplete _ _ => false
  | .calAbort _ _ => false
  | .capClear _ _ => false
  | .convCfg _ _ _ => false
  | .captureEmpty _ => false
  | .convQueue _ _ _ => false
  | .loadProbeFit _ => false
  | .annealDue _ => false
  | .annealTask _ _ => false
  | .columnCheckComplete _ _ => false
  | .load _ => false
  | .stageShard _ _ _ => false
  | .shardStageStart _ _ => false
  | .nvmePduReceive _ _ _ => false
  | .hostReadComplete _ _ => false
  | .hostReadError _ _ => false
  | .fetchTimeout _ _ _ => false
  | .shardChecksDone _ _ _ _ => false
  | .scrubDue _ _ => false
  | .scrubShard _ _ => false
  | .scrubComplete _ _ _ _ => false
  | .pipelineChunk _ => false
  | .pipelineWaitTimeout _ => false
  | .broadcastShard _ => false
  | .tierCopyComplete _ _ => false
  | .tierReadbackComplete _ _ _ _ => false
  | .unload _ => false
  | .setCurrent _ => false
  | .modelQuery _ => false
  | .tierAdd _ => false
  | .tierRemove _ => false
  | .deepOrphanTimeout => false
  | .pageAlloc _ _ => false
  | .pageFork _ _ _ _ => false
  | .pageTruncate _ _ _ => false
  | .slotAssign _ _ _ => false
  | .slotRelease _ _ => false
  | .pageOpApply _ => false
  | .pageCopyComplete _ => true
  | .kvAppend _ _ => true
  | .attention _ _ _ _ _ _ _ _ _ _ _ => false
  | .attentionStart _ => true
  | .attentionComplete _ => false
  | .patrolRead _ _ _ _ _ _ _ _ => false
  | .pageRebuildComplete _ _ _ => true
  | .stackRefresh _ => false
  | .stackTempReadout _ _ => false
  | .stackBandFall _ => false
  | .admitRequest _ => false
  | .admitAskTimeout _ => false
  | .stepIssue _ _ _ _ => false
  | .commit _ _ _ => false
  | .balanceWindow => false
  | .cancel _ => false
  | .cancelMark _ => false
  | .timeLimitExpire _ => false
  | .requestQuery _ => false
  | .grammarLoad _ => false
  | .grammarUnload _ => false
  | .kvFork _ => false
  | .kvTruncate _ => false
  | .kvRelease _ => false
  | .kvQuery _ => false
  | .submissionWrite _ _ => false
  | .packetTake _ => false
  | .commandStart _ => false
  | .nop _ => false
  | .sessionOpen _ => false
  | .sessionClose _ => false
  | .sessionResync _ => false
  | .credit _ => false
  | .partInfo _ => false
  | .seedSet _ => false
  | .noticeMask _ => false
  | .replyWrite _ => false
  | .creditReply _ => false
  | .msixHoldoffExpire _ => false
  | .dieCommandTimeout _ _ => false
  | .laneFail _ _ _ => false
  | .laneRetrain _ _ => false
  | .laneGood _ _ _ => false
  | .linkSignal _ => false
  | .linkTrained _ _ _ _ _ _ _ _ _ _ => false
  | .linkTrainingTimeout _ => false
  | .linkRetry _ => false
  | .linkSilent _ => false
  | .linkResizeDone _ => false
  | .linkResizeTimeout _ => false
  | .flitReceive _ _ _ _ => false
  | .packetRoute _ _ => false
  | .packetHoldRetry => false
  | .noRoute => false
  | .e2eAck => false
  | .e2eResend => false
  | .unreachable _ => false
  | .gapSkip _ _ => false
  | .portCfg _ => false
  | .fabricQuery _ => false
  | .sliceJoin _ => false
  | .sliceLeave _ => false
  | .sliceDescriptor => false
  | .sliceActive => false
  | .lendRequest => false
  | .rackOffsetExchange _ _ _ => false
  | .barrierArrive => false
  | .barrierGo => false
  | .roundStart _ => false
  | .arriveTimeout _ => false
  | .ethCfg _ => false
  | .ingressClaim _ _ _ => false
  | .ingressLost _ => false
  | .nvmeConnect _ => false
  | .nvmeConnectTimeout _ => false
  | .nvmeDisconnect _ => false
  | .journalRecord => false
  | .journalAck => false
  | .journalRefusal => false
  | .journalSet _ => false
  | .journalClear _ => false
  | .journalSeal _ => false
  | .journalAdopt _ => false
  | .journalRelease _ => false
  | .mboxSend _ _ => false
  | .mboxPop _ => false
  | .polRingPop _ => false
  | .polRank _ _ => false
  | .eventMessage => false
  | .evcDeliver => false
  | .evcClaim _ => false
  | .evcComplete _ _ => false
  | .fastSret _ => false
  | .modTimerExpire _ => false
  | .evcGate _ _ => false
  | .evcSoftSet _ => false
  | .policyFault _ _ => false
  | .policyLoad _ => false
  | .powerOn => false
  | .powerDown => false
  | .resetNLow => false
  | .resetNHigh => false
  | .perstNLow _ => false
  | .pcieLinkDown _ => false
  | .busMasterEnable _ => false
  | .pllLockLoss _ => false
  | .refclkLoss => false
  | .partReset _ => false
  | .partResetHalt _ => false
  | .resetDelayExpire => false
  | .haltComplete => false
  | .haltTimeout => false
  | .rstCtlReset _ => false
  | .rstCtlHalt _ => false
  | .stageFirmware => false
  | .calRoundStart _ => false
  | .calRoundComplete _ _ _ => false
  | .domainSleep _ => false
  | .domainWake _ => false
  | .pwrWake _ => false
  | .rampStart => false
  | .rampEnd _ => false
  | .rampTimeout _ => false
  | .domainOn _ => false
  | .domainSleepComplete _ => false
  | .regulatorFault _ => false
  | .maintenanceWake => false
  | .wsdIdleSleep => false
  | .powerInterval _ _ _ _ _ _ => false
  | .powerQuery _ => false
  | .powerLimit _ => false
  | .sensorSample _ _ => false
  | .throttleUpdate => false
  | .remoteSenseMeasure _ _ => false
  | .thermalQuery _ => false
  | .quenchClear _ => false
  | .attest _ => false
  | .certRead _ => false
  | .keyInstall _ => false
  | .keyRemove _ => false
  | .debugAuthPhase0 _ => false
  | .debugAuthPhase1 _ => false
  | .debugChallengeExpire => false
  | .freezeNLow => false
  | .freeze _ => false
  | .stopAckTimeout _ => false
  | .extest _ _ => false
  | .samplePreload _ _ => false
  | .idcode _ _ => false
  | .fzStatus _ _ => false
  | .dieSel _ _ => false
  | .scanRead _ _ => false
  | .arrayRead _ _ _ => false
  | .bypass _ _ _ => false
  | .traceCfg _ => false
  | .traceRead _ => false
  | .diagMvm _ => false
  | .fallbackComplete _ => false
  | .perstNHigh => false
  | .pcieLinkUp => false
  | .refclk156Present _ => false
  | .refclkWaitTimeout => false
  | .partnerSetTimeout => false
  | .nvmeKeepAlive _ => false
  | .ethLinkUp _ => false
  | .ethFrameReceive _ _ => false
  | .ingressData _ _ => false
  | .stopAck => false
  | .arrayReadComplete => false
  | .tapReset => false
  | .ucieLaneRepair _ _ => false
  | .adapterCrcRetry _ _ => false

/-- The commands that act on the pins, the AON island, a ramp, the die sensors or the TAP, also while no unit of the part runs (R374, R397,
R432, R466, R468, R471). -/
def Instr.actsWhenStopped : Instr → Bool
  | .registerWrite _ _ _ _ => false
  | .moduleTrained _ _ _ => false
  | .moduleTrainingFail _ _ => false
  | .moduleDown _ _ => false
  | .dieMessageAck _ _ _ _ _ => false
  | .dieMessageArrive _ _ _ => false
  | .dieReplyArrive => false
  | .dieDeliveryTimeout _ _ _ _ => false
  | .mvm _ => false
  | .mvmGrant _ => false
  | .mvmStart _ => false
  | .mvmResult _ _ => false
  | .ladderExecComplete _ => false
  | .tileResultArrive _ => false
  | .setDrainEnd _ _ _ => false
  | .vectorStage _ _ _ => false
  | .writeShallow _ _ => false
  | .refresh _ _ => false
  | .writeDeep _ _ => false
  | .erase _ _ => false
  | .release _ _ => false
  | .releaseTakeEffect _ => false
  | .epochWaitEnd _ _ => false
  | .tileWriteStart _ => false
  | .hotDeferEnd _ => false
  | .shallowRowArrive _ => false
  | .shallowWriteComplete _ => false
  | .deepClearPassEnd _ => false
  | .deepRowVerify _ _ => false
  | .eraseDone _ => false
  | .mapUpdateComplete _ => false
  | .lifeTick _ => false
  | .bankExpire _ => false
  | .deepAgeTick _ => false
  | .ageAlert _ => false
  | .deepAgeMilestone _ => false
  | .dieResetExit _ _ => false
  | .blankCheckComplete _ => false
  | .dieResetTimeout _ => false
  | .calCmd _ _ => false
  | .convCalCmd _ _ _ => false
  | .calComplete _ _ => false
  | .calAbort _ _ => false
  | .capClear _ _ => false
  | .convCfg _ _ _ => false
  | .captureEmpty _ => false
  | .convQueue _ _ _ => false
  | .loadProbeFit _ => false
  | .annealDue _ => false
  | .annealTask _ _ => false
  | .columnCheckComplete _ _ => false
  | .load _ => false
  | .stageShard _ _ _ => false
  | .shardStageStart _ _ => false
  | .nvmePduReceive _ _ _ => false
  | .hostReadComplete _ _ => false
  | .hostReadError _ _ => false
  | .fetchTimeout _ _ _ => false
  | .shardChecksDone _ _ _ _ => false
  | .scrubDue _ _ => false
  | .scrubShard _ _ => false
  | .scrubComplete _ _ _ _ => false
  | .pipelineChunk _ => false
  | .pipelineWaitTimeout _ => false
  | .broadcastShard _ => false
  | .tierCopyComplete _ _ => false
  | .tierReadbackComplete _ _ _ _ => false
  | .unload _ => false
  | .setCurrent _ => false
  | .modelQuery _ => false
  | .tierAdd _ => false
  | .tierRemove _ => false
  | .deepOrphanTimeout => false
  | .pageAlloc _ _ => false
  | .pageFork _ _ _ _ => false
  | .pageTruncate _ _ _ => false
  | .slotAssign _ _ _ => false
  | .slotRelease _ _ => false
  | .pageOpApply _ => false
  | .pageCopyComplete _ => false
  | .kvAppend _ _ => false
  | .attention _ _ _ _ _ _ _ _ _ _ _ => false
  | .attentionStart _ => false
  | .attentionComplete _ => false
  | .patrolRead _ _ _ _ _ _ _ _ => false
  | .pageRebuildComplete _ _ _ => false
  | .stackRefresh _ => false
  | .stackTempReadout _ _ => false
  | .stackBandFall _ => false
  | .admitRequest _ => false
  | .admitAskTimeout _ => false
  | .stepIssue _ _ _ _ => false
  | .commit _ _ _ => false
  | .balanceWindow => false
  | .cancel _ => false
  | .cancelMark _ => false
  | .timeLimitExpire _ => false
  | .requestQuery _ => false
  | .grammarLoad _ => false
  | .grammarUnload _ => false
  | .kvFork _ => false
  | .kvTruncate _ => false
  | .kvRelease _ => false
  | .kvQuery _ => false
  | .submissionWrite _ _ => false
  | .packetTake _ => false
  | .commandStart _ => false
  | .nop _ => false
  | .sessionOpen _ => false
  | .sessionClose _ => false
  | .sessionResync _ => false
  | .credit _ => false
  | .partInfo _ => false
  | .seedSet _ => false
  | .noticeMask _ => false
  | .replyWrite _ => false
  | .creditReply _ => false
  | .msixHoldoffExpire _ => false
  | .dieCommandTimeout _ _ => false
  | .laneFail _ _ _ => false
  | .laneRetrain _ _ => false
  | .laneGood _ _ _ => false
  | .linkSignal _ => false
  | .linkTrained _ _ _ _ _ _ _ _ _ _ => false
  | .linkTrainingTimeout _ => false
  | .linkRetry _ => false
  | .linkSilent _ => false
  | .linkResizeDone _ => false
  | .linkResizeTimeout _ => false
  | .flitReceive _ _ _ _ => false
  | .packetRoute _ _ => false
  | .packetHoldRetry => false
  | .noRoute => false
  | .e2eAck => false
  | .e2eResend => false
  | .unreachable _ => false
  | .gapSkip _ _ => false
  | .portCfg _ => false
  | .fabricQuery _ => false
  | .sliceJoin _ => false
  | .sliceLeave _ => false
  | .sliceDescriptor => false
  | .sliceActive => false
  | .lendRequest => false
  | .rackOffsetExchange _ _ _ => false
  | .barrierArrive => false
  | .barrierGo => false
  | .roundStart _ => false
  | .arriveTimeout _ => false
  | .ethCfg _ => false
  | .ingressClaim _ _ _ => false
  | .ingressLost _ => false
  | .nvmeConnect _ => false
  | .nvmeConnectTimeout _ => false
  | .nvmeDisconnect _ => false
  | .journalRecord => false
  | .journalAck => false
  | .journalRefusal => false
  | .journalSet _ => false
  | .journalClear _ => false
  | .journalSeal _ => false
  | .journalAdopt _ => false
  | .journalRelease _ => false
  | .mboxSend _ _ => false
  | .mboxPop _ => false
  | .polRingPop _ => false
  | .polRank _ _ => false
  | .eventMessage => false
  | .evcDeliver => false
  | .evcClaim _ => false
  | .evcComplete _ _ => false
  | .fastSret _ => false
  | .modTimerExpire _ => false
  | .evcGate _ _ => false
  | .evcSoftSet _ => false
  | .policyFault _ _ => false
  | .policyLoad _ => false
  | .powerOn => true
  | .powerDown => true
  | .resetNLow => true
  | .resetNHigh => true
  | .perstNLow _ => true
  | .pcieLinkDown _ => false
  | .busMasterEnable _ => false
  | .pllLockLoss _ => false
  | .refclkLoss => true
  | .partReset _ => false
  | .partResetHalt _ => false
  | .resetDelayExpire => false
  | .haltComplete => false
  | .haltTimeout => false
  | .rstCtlReset _ => false
  | .rstCtlHalt _ => false
  | .stageFirmware => false
  | .calRoundStart _ => false
  | .calRoundComplete _ _ _ => false
  | .domainSleep _ => false
  | .domainWake _ => false
  | .pwrWake _ => false
  | .rampStart => false
  | .rampEnd _ => true
  | .rampTimeout _ => false
  | .domainOn _ => false
  | .domainSleepComplete _ => false
  | .regulatorFault _ => false
  | .maintenanceWake => false
  | .wsdIdleSleep => false
  | .powerInterval _ _ _ _ _ _ => false
  | .powerQuery _ => false
  | .powerLimit _ => false
  | .sensorSample _ _ => true
  | .throttleUpdate => false
  | .remoteSenseMeasure _ _ => false
  | .thermalQuery _ => false
  | .quenchClear _ => false
  | .attest _ => false
  | .certRead _ => false
  | .keyInstall _ => false
  | .keyRemove _ => false
  | .debugAuthPhase0 _ => false
  | .debugAuthPhase1 _ => false
  | .debugChallengeExpire => false
  | .freezeNLow => true
  | .freeze _ => false
  | .stopAckTimeout _ => true
  | .extest _ _ => true
  | .samplePreload _ _ => true
  | .idcode _ _ => true
  | .fzStatus _ _ => true
  | .dieSel _ _ => true
  | .scanRead _ _ => true
  | .arrayRead _ _ _ => true
  | .bypass _ _ _ => true
  | .traceCfg _ => false
  | .traceRead _ => false
  | .diagMvm _ => false
  | .fallbackComplete _ => false
  | .perstNHigh => true
  | .pcieLinkUp => false
  | .refclk156Present _ => true
  | .refclkWaitTimeout => false
  | .partnerSetTimeout => false
  | .nvmeKeepAlive _ => false
  | .ethLinkUp _ => false
  | .ethFrameReceive _ _ => false
  | .ingressData _ _ => false
  | .stopAck => true
  | .arrayReadComplete => true
  | .tapReset => true
  | .ucieLaneRepair _ _ => false
  | .adapterCrcRetry _ _ => false

/-- The pieces of a part: its fields, one constructor each. -/
inductive Piece where
  | freeTick
  | clk
  | pins
  | boot
  | log
  | evcCopy
  | image
  | pwr
  | therm
  | host
  | sess
  | d2d
  | ctl
  | sec
  | frz
  | trace
  | regs
  | an
  | clusters
  | hbm
  | flash
  | failedDie
  | fabCfg
  | fab
  | models
  | kv
  | serv
  | jrn
deriving DecidableEq, Repr

/-- A piece is the same in two parts. -/
def Piece.same (p q : Machine.Part) : Piece → Prop
  | .freeTick => p.freeTick = q.freeTick
  | .clk => p.clk = q.clk
  | .pins => p.pins = q.pins
  | .boot => p.boot = q.boot
  | .log => p.log = q.log
  | .evcCopy => p.evcCopy = q.evcCopy
  | .image => p.image = q.image
  | .pwr => p.pwr = q.pwr
  | .therm => p.therm = q.therm
  | .host => p.host = q.host
  | .sess => p.sess = q.sess
  | .d2d => p.d2d = q.d2d
  | .ctl => p.ctl = q.ctl
  | .sec => p.sec = q.sec
  | .frz => p.frz = q.frz
  | .trace => p.trace = q.trace
  | .regs => p.regs = q.regs
  | .an => p.an = q.an
  | .clusters => p.clusters = q.clusters
  | .hbm => p.hbm = q.hbm
  | .flash => p.flash = q.flash
  | .failedDie => p.failedDie = q.failedDie
  | .fabCfg => p.fabCfg = q.fabCfg
  | .fab => p.fab = q.fab
  | .models => p.models = q.models
  | .kv => p.kv = q.kv
  | .serv => p.serv = q.serv
  | .jrn => p.jrn = q.jrn

/-- The pieces of a part that a command can change: every other piece is as it was. -/
def Instr.changes : Instr → List Piece
  | .registerWrite _ _ _ _ => [.freeTick, .clk, .pins, .boot, .image, .pwr, .therm, .host, .sess, .d2d, .ctl, .sec, .frz, .trace, .regs, .an, .clusters, .hbm, .failedDie, .fabCfg, .fab, .models, .kv, .serv, .jrn]
  | .moduleTrained _ _ _ => [.boot, .sess, .d2d, .regs]
  | .moduleTrainingFail _ _ => [.boot, .pwr, .host, .sess, .d2d, .trace, .regs, .failedDie]
  | .moduleDown _ _ => [.boot, .pwr, .host, .sess, .d2d, .trace, .regs, .failedDie]
  | .dieMessageAck _ _ _ _ _ => [.d2d]
  | .dieMessageArrive _ _ _ => [.boot, .pwr, .host, .sess, .d2d, .ctl, .trace, .regs, .failedDie]
  | .dieReplyArrive => [.pwr, .host, .sess, .d2d, .trace, .regs, .failedDie, .models, .serv]
  | .dieDeliveryTimeout _ _ _ _ => [.boot, .pwr, .host, .sess, .d2d, .regs, .failedDie]
  | .mvm _ => [.freeTick, .sess, .regs, .an]
  | .mvmGrant _ => [.regs, .an, .clusters]
  | .mvmStart _ => [.regs, .an, .clusters]
  | .mvmResult _ _ => [.freeTick, .pwr, .host, .sess, .d2d, .trace, .regs, .an, .clusters, .failedDie]
  | .ladderExecComplete _ => [.freeTick, .pwr, .host, .sess, .d2d, .ctl, .trace, .regs, .an, .failedDie, .fab, .models, .kv, .serv]
  | .tileResultArrive _ => [.d2d, .regs, .an]
  | .setDrainEnd _ _ _ => [.regs, .an]
  | .vectorStage _ _ _ => [.pwr, .host, .sess, .d2d, .trace, .regs, .an, .failedDie]
  | .writeShallow _ _ => [.pwr, .host, .sess, .d2d, .trace, .regs, .an, .failedDie]
  | .refresh _ _ => [.pwr, .host, .sess, .d2d, .trace, .regs, .an, .failedDie]
  | .writeDeep _ _ => [.pwr, .host, .sess, .d2d, .trace, .regs, .an, .failedDie]
  | .erase _ _ => [.pwr, .host, .sess, .d2d, .trace, .regs, .an, .failedDie]
  | .release _ _ => [.pwr, .host, .sess, .d2d, .trace, .regs, .an, .failedDie]
  | .releaseTakeEffect _ => [.pwr, .host, .sess, .d2d, .trace, .regs, .an, .failedDie]
  | .epochWaitEnd _ _ => [.pwr, .host, .sess, .d2d, .trace, .regs, .an, .failedDie]
  | .tileWriteStart _ => [.boot, .sess, .regs, .an, .models]
  | .hotDeferEnd _ => [.boot, .sess, .regs, .an, .models]
  | .shallowRowArrive _ => [.regs, .an, .models]
  | .shallowWriteComplete _ => [.pwr, .host, .sess, .d2d, .trace, .regs, .an, .clusters, .failedDie]
  | .deepClearPassEnd _ => [.an]
  | .deepRowVerify _ _ => [.pwr, .host, .sess, .d2d, .trace, .regs, .an, .clusters, .failedDie, .models]
  | .eraseDone _ => [.an, .clusters]
  | .mapUpdateComplete _ => [.pwr, .host, .sess, .d2d, .trace, .regs, .an, .clusters, .failedDie]
  | .lifeTick _ => [.an, .clusters]
  | .bankExpire _ => [.sess, .regs, .an]
  | .deepAgeTick _ => [.an, .clusters]
  | .ageAlert _ => [.freeTick, .pwr, .host, .sess, .d2d, .ctl, .trace, .regs, .an, .failedDie]
  | .deepAgeMilestone _ => [.an]
  | .dieResetExit _ _ => [.freeTick, .clk, .pins, .boot, .pwr, .therm, .host, .sess, .d2d, .regs, .an, .hbm, .failedDie]
  | .blankCheckComplete _ => [.sess, .regs, .an]
  | .dieResetTimeout _ => [.boot, .pwr, .host, .sess, .regs, .failedDie]
  | .calCmd _ _ => [.pwr, .host, .sess, .d2d, .trace, .regs, .an, .failedDie]
  | .convCalCmd _ _ _ => [.regs, .an]
  | .calComplete _ _ => [.freeTick, .pwr, .host, .sess, .d2d, .trace, .regs, .an, .failedDie]
  | .calAbort _ _ => [.an]
  | .capClear _ _ => [.an]
  | .convCfg _ _ _ => [.regs, .an]
  | .captureEmpty _ => [.an]
  | .convQueue _ _ _ => [.regs, .an]
  | .loadProbeFit _ => [.boot, .pwr, .host, .sess, .d2d, .trace, .regs, .an, .failedDie]
  | .annealDue _ => [.pwr, .host, .sess, .d2d, .trace, .regs, .an, .failedDie]
  | .annealTask _ _ => [.pwr, .host, .sess, .d2d, .trace, .regs, .an, .failedDie, .models]
  | .columnCheckComplete _ _ => [.boot, .pwr, .host, .sess, .d2d, .trace, .regs, .an, .failedDie]
  | .load _ => [.freeTick, .pwr, .host, .sess, .ctl, .regs, .fab, .models]
  | .stageShard _ _ _ => [.freeTick, .pwr, .host, .ctl, .fab, .models, .kv]
  | .shardStageStart _ _ => [.freeTick, .pwr, .host, .sess, .d2d, .ctl, .trace, .regs, .failedDie, .fab, .models, .kv, .serv]
  | .nvmePduReceive _ _ _ => [.freeTick, .pwr, .host, .sess, .d2d, .ctl, .trace, .regs, .failedDie, .fab, .models, .kv, .serv]
  | .hostReadComplete _ _ => [.freeTick, .log, .pwr, .host, .sess, .d2d, .ctl, .trace, .regs, .failedDie, .fab, .models, .kv, .serv]
  | .hostReadError _ _ => [.freeTick, .pwr, .host, .sess, .d2d, .ctl, .trace, .regs, .failedDie, .fab, .models, .kv, .serv]
  | .fetchTimeout _ _ _ => [.freeTick, .pwr, .host, .sess, .d2d, .ctl, .trace, .regs, .failedDie, .fab, .models, .kv, .serv]
  | .shardChecksDone _ _ _ _ => [.freeTick, .pwr, .host, .sess, .d2d, .ctl, .trace, .regs, .an, .failedDie, .fab, .models, .kv, .serv]
  | .scrubDue _ _ => [.pwr, .models]
  | .scrubShard _ _ => [.pwr, .models]
  | .scrubComplete _ _ _ _ => [.freeTick, .pwr, .host, .sess, .d2d, .ctl, .trace, .regs, .failedDie, .fab, .models, .kv, .serv]
  | .pipelineChunk _ => [.freeTick, .pwr, .ctl, .fab, .models, .kv]
  | .pipelineWaitTimeout _ => [.freeTick, .fab, .models]
  | .broadcastShard _ => [.freeTick, .pwr, .ctl, .fab, .models, .kv]
  | .tierCopyComplete _ _ => [.pwr, .ctl, .models, .kv]
  | .tierReadbackComplete _ _ _ _ => [.freeTick, .pwr, .host, .sess, .d2d, .ctl, .trace, .regs, .failedDie, .fab, .models, .kv, .serv]
  | .unload _ => [.freeTick, .pwr, .host, .sess, .d2d, .ctl, .trace, .regs, .failedDie, .fab, .models, .kv]
  | .setCurrent _ => [.freeTick, .pwr, .host, .sess, .d2d, .ctl, .trace, .regs, .failedDie, .fab, .models, .kv]
  | .modelQuery _ => [.sess, .regs]
  | .tierAdd _ => [.sess, .regs, .models]
  | .tierRemove _ => [.sess, .regs, .models]
  | .deepOrphanTimeout => [.pwr, .host, .sess, .d2d, .trace, .regs, .failedDie, .models]
  | .pageAlloc _ _ => [.freeTick, .pwr, .host, .sess, .d2d, .ctl, .trace, .regs, .failedDie, .fab, .models, .kv, .serv]
  | .pageFork _ _ _ _ => [.freeTick, .pwr, .host, .sess, .d2d, .ctl, .trace, .regs, .failedDie, .fab, .models, .kv, .serv]
  | .pageTruncate _ _ _ => [.freeTick, .pwr, .host, .sess, .d2d, .ctl, .trace, .regs, .failedDie, .fab, .models, .kv, .serv]
  | .slotAssign _ _ _ => [.pwr, .host, .sess, .d2d, .trace, .regs, .failedDie, .kv]
  | .slotRelease _ _ => [.freeTick, .pwr, .host, .sess, .d2d, .ctl, .trace, .regs, .failedDie, .fab, .models, .kv, .serv]
  | .pageOpApply _ => [.freeTick, .pwr, .host, .sess, .d2d, .ctl, .trace, .regs, .failedDie, .fab, .models, .kv, .serv]
  | .pageCopyComplete _ => [.freeTick, .pwr, .host, .sess, .d2d, .ctl, .trace, .regs, .failedDie, .fab, .models, .kv, .serv]
  | .kvAppend _ _ => [.freeTick, .pwr, .host, .sess, .d2d, .ctl, .trace, .regs, .failedDie, .fab, .models, .kv, .serv]
  | .attention _ _ _ _ _ _ _ _ _ _ _ => [.pwr, .host, .sess, .d2d, .trace, .regs, .failedDie, .kv]
  | .attentionStart _ => [.freeTick, .pwr, .host, .sess, .d2d, .ctl, .trace, .regs, .failedDie, .fab, .models, .kv, .serv]
  | .attentionComplete _ => [.pwr, .host, .sess, .d2d, .trace, .regs, .an, .failedDie, .kv]
  | .patrolRead _ _ _ _ _ _ _ _ => [.freeTick, .pwr, .host, .sess, .d2d, .ctl, .trace, .regs, .hbm, .failedDie, .fab, .models, .kv, .serv, .jrn]
  | .pageRebuildComplete _ _ _ => [.freeTick, .pwr, .host, .sess, .d2d, .ctl, .trace, .regs, .failedDie, .fab, .models, .kv, .serv]
  | .stackRefresh _ => [.hbm]
  | .stackTempReadout _ _ => [.clk, .pins, .boot, .log, .evcCopy, .image, .pwr, .therm, .host, .sess, .d2d, .ctl, .sec, .frz, .trace, .regs, .an, .clusters, .hbm, .failedDie, .fabCfg, .fab, .models, .kv, .serv, .jrn]
  | .stackBandFall _ => [.hbm]
  | .admitRequest _ => [.freeTick, .pwr, .host, .sess, .d2d, .ctl, .trace, .regs, .failedDie, .fab, .models, .kv, .serv]
  | .admitAskTimeout _ => [.freeTick, .pwr, .host, .sess, .d2d, .ctl, .trace, .regs, .failedDie, .fab, .models, .kv, .serv]
  | .stepIssue _ _ _ _ => [.freeTick, .pwr, .host, .sess, .d2d, .ctl, .trace, .regs, .an, .failedDie, .fab, .models, .kv, .serv]
  | .commit _ _ _ => [.freeTick, .pwr, .host, .sess, .d2d, .ctl, .trace, .regs, .failedDie, .fab, .models, .kv, .serv]
  | .balanceWindow => [.ctl, .an, .clusters]
  | .cancel _ => [.freeTick, .pwr, .host, .sess, .d2d, .ctl, .trace, .regs, .failedDie, .fab, .models, .kv, .serv]
  | .cancelMark _ => [.pwr, .host, .sess, .d2d, .trace, .regs, .failedDie, .kv]
  | .timeLimitExpire _ => [.freeTick, .pwr, .host, .sess, .d2d, .ctl, .trace, .regs, .failedDie, .fab, .models, .kv, .serv]
  | .requestQuery _ => [.sess, .regs]
  | .grammarLoad _ => [.host, .sess, .regs, .models]
  | .grammarUnload _ => [.sess, .ctl, .regs, .models, .kv]
  | .kvFork _ => [.freeTick, .pwr, .host, .sess, .d2d, .ctl, .trace, .regs, .failedDie, .fab, .models, .kv, .serv]
  | .kvTruncate _ => [.freeTick, .pwr, .host, .sess, .d2d, .ctl, .trace, .regs, .failedDie, .fab, .models, .kv, .serv]
  | .kvRelease _ => [.freeTick, .pwr, .host, .sess, .d2d, .ctl, .trace, .regs, .failedDie, .fab, .models, .kv, .serv]
  | .kvQuery _ => [.sess, .regs]
  | .submissionWrite _ _ => [.freeTick, .sess, .regs]
  | .packetTake _ => [.freeTick, .boot, .sess, .trace, .regs, .fab, .serv]
  | .commandStart _ => [.boot, .sess, .regs]
  | .nop _ => [.sess, .regs]
  | .sessionOpen _ => [.sess, .regs]
  | .sessionClose _ => [.sess, .regs]
  | .sessionResync _ => [.sess, .regs]
  | .credit _ => [.sess]
  | .partInfo _ => [.sess, .regs]
  | .seedSet _ => [.freeTick, .sess, .regs, .an]
  | .noticeMask _ => [.sess, .regs]
  | .replyWrite _ => [.boot, .host, .sess, .sec, .serv]
  | .creditReply _ => [.host, .sess]
  | .msixHoldoffExpire _ => [.host, .sess]
  | .dieCommandTimeout _ _ => [.boot, .pwr, .host, .sess, .d2d, .regs, .failedDie]
  | .laneFail _ _ _ => [.boot, .sess, .regs, .fab]
  | .laneRetrain _ _ => [.fab]
  | .laneGood _ _ _ => [.boot, .sess, .regs, .fab]
  | .linkSignal _ => [.boot, .sess, .regs, .fab]
  | .linkTrained _ _ _ _ _ _ _ _ _ _ => [.boot, .sess, .regs, .fab]
  | .linkTrainingTimeout _ => [.boot, .sess, .regs, .fab]
  | .linkRetry _ => [.boot, .sess, .regs, .fab]
  | .linkSilent _ => [.boot, .sess, .regs, .fab]
  | .linkResizeDone _ => [.boot, .sess, .regs, .fab]
  | .linkResizeTimeout _ => [.boot, .sess, .regs, .fab]
  | .flitReceive _ _ _ _ => [.regs, .fab]
  | .packetRoute _ _ => [.freeTick, .pwr, .host, .sess, .d2d, .trace, .regs, .failedDie, .fab]
  | .packetHoldRetry => [.freeTick, .pwr, .host, .sess, .d2d, .trace, .regs, .failedDie, .fab]
  | .noRoute => [.regs, .fab]
  | .e2eAck => [.fab]
  | .e2eResend => [.regs, .fab]
  | .unreachable _ => [.freeTick, .pwr, .host, .sess, .d2d, .ctl, .trace, .regs, .failedDie, .fab, .models, .kv, .serv, .jrn]
  | .gapSkip _ _ => [.freeTick, .pwr, .host, .sess, .d2d, .trace, .regs, .failedDie, .fab]
  | .portCfg _ => [.boot, .sess, .regs, .fabCfg, .fab]
  | .fabricQuery _ => [.sess, .regs]
  | .sliceJoin _ => [.freeTick, .sess, .regs, .fab]
  | .sliceLeave _ => [.freeTick, .sess, .regs, .fab]
  | .sliceDescriptor => [.freeTick, .sess, .regs, .fab]
  | .sliceActive => [.freeTick, .sess, .regs, .fab]
  | .lendRequest => [.freeTick, .sess, .ctl, .regs, .fab, .kv]
  | .rackOffsetExchange _ _ _ => [.fab]
  | .barrierArrive => [.freeTick, .fab]
  | .barrierGo => [.freeTick, .regs, .fab]
  | .roundStart _ => [.freeTick, .fab]
  | .arriveTimeout _ => [.freeTick, .sess, .regs, .fab]
  | .ethCfg _ => [.boot, .sess, .regs, .fab]
  | .ingressClaim _ _ _ => [.sess, .fab]
  | .ingressLost _ => [.sess, .fab]
  | .nvmeConnect _ => [.pwr, .sess, .regs, .fab]
  | .nvmeConnectTimeout _ => [.sess, .regs, .fab]
  | .nvmeDisconnect _ => [.sess, .regs, .fab]
  | .journalRecord => [.freeTick, .ctl, .fab, .kv, .jrn]
  | .journalAck => [.freeTick, .pwr, .host, .sess, .d2d, .ctl, .trace, .regs, .failedDie, .fab, .models, .kv, .serv, .jrn]
  | .journalRefusal => [.freeTick, .pwr, .host, .sess, .d2d, .ctl, .trace, .regs, .failedDie, .fab, .models, .kv, .serv, .jrn]
  | .journalSet _ => [.freeTick, .sess, .regs, .fab, .jrn]
  | .journalClear _ => [.freeTick, .pwr, .host, .sess, .d2d, .ctl, .trace, .regs, .failedDie, .fab, .models, .kv, .serv, .jrn]
  | .journalSeal _ => [.freeTick, .sess, .ctl, .regs, .fab, .kv, .jrn]
  | .journalAdopt _ => [.freeTick, .pwr, .host, .sess, .d2d, .ctl, .trace, .regs, .failedDie, .fab, .models, .kv, .serv, .jrn]
  | .journalRelease _ => [.sess, .ctl, .regs, .kv, .jrn]
  | .mboxSend _ _ => [.freeTick, .pwr, .host, .sess, .d2d, .ctl, .trace, .regs, .failedDie, .fab, .models, .kv, .serv]
  | .mboxPop _ => [.freeTick, .pwr, .host, .sess, .d2d, .ctl, .trace, .regs, .failedDie, .fab, .models, .kv, .serv]
  | .polRingPop _ => [.ctl]
  | .polRank _ _ => [.ctl]
  | .eventMessage => [.freeTick, .evcCopy, .pwr, .ctl, .trace, .regs]
  | .evcDeliver => [.freeTick, .ctl, .regs]
  | .evcClaim _ => [.ctl]
  | .evcComplete _ _ => [.ctl]
  | .fastSret _ => [.ctl]
  | .modTimerExpire _ => [.ctl]
  | .evcGate _ _ => [.ctl]
  | .evcSoftSet _ => [.freeTick, .ctl, .regs]
  | .policyFault _ _ => [.sess, .ctl, .regs]
  | .policyLoad _ => [.host, .sess, .ctl, .regs]
  | .powerOn => [.clk, .pins, .boot, .evcCopy, .image, .pwr, .therm, .frz, .failedDie]
  | .powerDown => [.clk, .pins, .boot, .evcCopy, .image, .pwr, .therm, .host, .sess, .d2d, .ctl, .sec, .frz, .trace, .regs, .an, .clusters, .hbm, .failedDie, .fabCfg, .fab, .models, .kv, .serv, .jrn]
  | .resetNLow => [.clk, .pins, .boot, .image, .pwr, .therm, .host, .sess, .d2d, .ctl, .sec, .frz, .trace, .regs, .an, .clusters, .hbm, .failedDie, .fabCfg, .fab, .models, .kv, .serv, .jrn]
  | .resetNHigh => [.pins, .boot, .pwr]
  | .perstNLow _ => [.freeTick, .clk, .pins, .boot, .image, .pwr, .therm, .host, .sess, .d2d, .ctl, .sec, .frz, .trace, .regs, .an, .clusters, .hbm, .failedDie, .fabCfg, .fab, .models, .kv, .serv, .jrn]
  | .pcieLinkDown _ => [.freeTick, .pwr, .host, .sess, .d2d, .ctl, .trace, .regs, .failedDie, .fab, .models, .kv, .serv]
  | .busMasterEnable _ => [.host]
  | .pllLockLoss _ => [.clk, .boot, .pwr, .host, .sess, .regs, .failedDie]
  | .refclkLoss => [.clk, .boot, .pwr, .host, .sess, .regs, .failedDie]
  | .partReset _ => [.boot, .sess, .regs]
  | .partResetHalt _ => [.boot, .sess, .an]
  | .resetDelayExpire => [.clk, .pins, .boot, .image, .pwr, .therm, .host, .sess, .d2d, .ctl, .sec, .frz, .trace, .regs, .an, .clusters, .hbm, .failedDie, .fabCfg, .fab, .models, .kv, .serv, .jrn]
  | .haltComplete => [.clk, .boot, .log, .pwr, .therm, .host, .sess, .d2d, .ctl, .sec, .trace, .regs, .an, .clusters, .hbm, .failedDie, .fabCfg, .fab, .models, .kv, .serv, .jrn]
  | .haltTimeout => [.clk, .pins, .boot, .image, .pwr, .therm, .host, .sess, .d2d, .ctl, .sec, .frz, .trace, .regs, .an, .clusters, .hbm, .failedDie, .fabCfg, .fab, .models, .kv, .serv, .jrn]
  | .rstCtlReset _ => [.clk, .pins, .boot, .image, .pwr, .therm, .host, .sess, .d2d, .ctl, .sec, .frz, .trace, .regs, .an, .clusters, .hbm, .failedDie, .fabCfg, .fab, .models, .kv, .serv, .jrn]
  | .rstCtlHalt _ => [.boot, .an]
  | .stageFirmware => [.freeTick, .pins, .boot, .log, .pwr, .host, .sess, .sec, .regs, .failedDie]
  | .calRoundStart _ => [.regs, .an]
  | .calRoundComplete _ _ _ => [.boot, .sess, .ctl, .regs, .an, .clusters]
  | .domainSleep _ => [.freeTick, .boot, .image, .pwr, .host, .sess, .d2d, .trace, .regs, .failedDie, .fab, .models]
  | .domainWake _ => [.freeTick, .pwr, .sess, .regs]
  | .pwrWake _ => [.pwr]
  | .rampStart => [.pins, .pwr]
  | .rampEnd _ => [.pwr]
  | .rampTimeout _ => [.boot, .pwr, .host, .sess, .regs, .failedDie]
  | .domainOn _ => [.freeTick, .clk, .pins, .boot, .log, .evcCopy, .image, .pwr, .therm, .host, .sess, .d2d, .ctl, .sec, .frz, .trace, .regs, .an, .clusters, .hbm, .failedDie, .fabCfg, .fab, .models, .kv, .serv, .jrn]
  | .domainSleepComplete _ => [.freeTick, .clk, .boot, .evcCopy, .image, .pwr, .therm, .host, .sess, .d2d, .ctl, .sec, .trace, .regs, .an, .clusters, .hbm, .failedDie, .fabCfg, .fab, .models, .kv, .serv, .jrn]
  | .regulatorFault _ => [.boot, .pwr, .host, .sess, .regs, .failedDie]
  | .maintenanceWake => [.pwr]
  | .wsdIdleSleep => [.boot, .pwr, .sess, .regs]
  | .powerInterval _ _ _ _ _ _ => [.pwr, .regs]
  | .powerQuery _ => [.sess, .regs]
  | .powerLimit _ => [.pwr, .sess, .regs]
  | .sensorSample _ _ => [.clk, .pins, .boot, .log, .evcCopy, .image, .pwr, .therm, .host, .sess, .d2d, .ctl, .sec, .frz, .trace, .regs, .an, .clusters, .hbm, .failedDie, .fabCfg, .fab, .models, .kv, .serv, .jrn]
  | .throttleUpdate => [.pins, .therm, .sess, .regs]
  | .remoteSenseMeasure _ _ => [.therm, .sess, .regs]
  | .thermalQuery _ => [.sess, .regs]
  | .quenchClear _ => [.boot, .log, .pwr, .sess, .regs]
  | .attest _ => [.sess, .regs]
  | .certRead _ => [.sess, .regs]
  | .keyInstall _ => [.sess, .sec, .regs]
  | .keyRemove _ => [.sess, .sec, .regs]
  | .debugAuthPhase0 _ => [.freeTick, .sess, .sec, .regs]
  | .debugAuthPhase1 _ => [.sess, .sec, .regs]
  | .debugChallengeExpire => [.sec]
  | .freezeNLow => [.freeTick, .host, .frz, .an]
  | .freeze _ => [.freeTick, .host, .sess, .frz, .an]
  | .stopAckTimeout _ => [.pins, .frz]
  | .extest _ _ => [.freeTick, .frz]
  | .samplePreload _ _ => [.freeTick, .frz]
  | .idcode _ _ => [.frz]
  | .fzStatus _ _ => [.frz]
  | .dieSel _ _ => [.freeTick, .frz]
  | .scanRead _ _ => [.frz]
  | .arrayRead _ _ _ => [.frz]
  | .bypass _ _ _ => [.frz]
  | .traceCfg _ => [.sess, .trace, .regs]
  | .traceRead _ => [.sess, .regs]
  | .diagMvm _ => [.freeTick, .sess, .regs, .an]
  | .fallbackComplete _ => [.freeTick, .pwr, .host, .sess, .d2d, .ctl, .trace, .regs, .an, .failedDie, .fab, .models, .kv, .serv]
  | .perstNHigh => [.pins, .boot, .pwr]
  | .pcieLinkUp => [.host]
  | .refclk156Present _ => [.clk, .boot, .pwr, .host, .sess, .regs, .failedDie]
  | .refclkWaitTimeout => [.boot, .pwr, .host, .sess, .regs, .failedDie]
  | .partnerSetTimeout => [.sess, .regs, .jrn]
  | .nvmeKeepAlive _ => [.fab]
  | .ethLinkUp _ => [.boot, .sess, .regs, .fab]
  | .ethFrameReceive _ _ => [.fab]
  | .ingressData _ _ => [.freeTick, .sess, .regs, .fab]
  | .stopAck => [.pins, .frz]
  | .arrayReadComplete => [.frz]
  | .tapReset => [.frz]
  | .ucieLaneRepair _ _ => [.d2d]
  | .adapterCrcRetry _ _ => [.regs]

/-- The byte memories are in canonical form. -/
def Machine.State.canonical (s : Machine.State) : Bool := Machine.Memory.wf s.mem && Machine.Memory.wf s.kvmem

/-- A step is safe when the command in front, if there is one, names objects that the part has: it then answers a next state. -/
def Machine.State.safeStep (s : Machine.State) : Bool :=
  match s.pending with
  | [] => true
  | c :: _ => c.wf

end Sys2Proof
end

