-- ==== Sys2Proof/Certificates/Slice0/Obligations.lean ====
section
/-! DEFINITION. The statements about the model. A clause that rests on a choice of the model names the log entry in its docstring. -/

namespace Sys2Proof

open Sys2Proof.Machine

/-- The state with another part and the same queue and memories. -/
def withPart (s : State) (p : Machine.Part) : State := { s with part := p }

/-- A host command with opcode `op` is in execution on session `i`: its packet is `k` (R244). -/
abbrev Running (s : State) (i op : Nat) (k : Bytes) : Prop :=
  isSession i = true ∧ s.part.alive 1 = true ∧ (s.part.ses i).cur = some k ∧ pkOp k = op

/-- The five bank operations and their opcodes (R278). -/
def bankOpcode : Instr → Option (Nat × Nat × Nat)
  | .writeShallow die unit => some (0xA0, die, unit)
  | .refresh die unit => some (0xA1, die, unit)
  | .writeDeep die unit => some (0xA2, die, unit)
  | .erase die unit => some (0xA3, die, unit)
  | .release die unit => some (0xA4, die, unit)
  | _ => none

/-- The tile and cluster as an MVM's codes leave for the slice (R35). -/
def mvmLeaves (p : Machine.Part) (t : Nat) (rest : List MvmRun) : Machine.Part :=
  (p.setTile t { p.tile t with runs := rest }).setCluster (tileCluster t)
    { p.cluster (tileCluster t) with mvmCount := ((p.cluster (tileCluster t)).mvmCount + 1) % 2 ^ 48 }

end Sys2Proof

section

open Sys2Proof Sys2Proof.Machine

/-- The step of the block (the row's queue; on an empty queue log entry 8's cycle): a command at the front of the queue runs on the
state with the queue's rest, and with no command waiting one cycle of REFCLK_156 passes. -/
def Obligations.StepRunsTheFrontCommand : Prop :=
  (∀ (c : Instr) (s : State), step (s.push c) = exec c s) ∧
  (∀ (c : Instr) (l : List Instr) (s : State), s.pending = c :: l → step s = exec c { s with pending := l }) ∧
  (∀ s : State, s.pending = [] → step s = .next { s with part := s.part.tick })

/-- The state right after reset, as the spec gives it (R10, R241, R374, R399): no power, no session open, every domain in SLEEP, part time 0, every stored register
word at its reset value, and memories in canonical form; what the model chose (log entries 5 and 6) is not stated. -/
def Obligations.ResetState : Prop :=
  State.reset.pending = [] ∧ State.reset.canonical = true ∧ State.reset.part.pins.pgIn = false ∧ State.reset.part.now = 0 ∧
    State.reset.part.failedDie = none ∧ (∀ a, State.reset.part.regGet a = regReset a) ∧
    (∀ d, isDomain d = true → State.reset.part.domSt d = .sleep) ∧
    (∀ i, isSession i = true → (State.reset.part.ses i).st = .closed) ∧ ∀ d, State.reset.part.alive d = false

/-- No command is refused, and a command faults exactly when it names an object that the part does not have (R5, R13, R14, R18): a command
that is well formed answers a next state in every state. -/
def Obligations.CommandsCompleteExactlyWhenWellFormed : Prop :=
  ∀ (c : Instr) (s : State),
    (c.wf = true → ∃ t, exec c s = .next t) ∧ (c.wf = false → exec c s = .fault .noSuchObject)

/-- A command leaves the queue as it is: every command that answers a next state keeps the commands that wait, in order.

The frame of the byte memories (R151, R162, R183, R186, R193): only a shard that passes its checks, a copy stored for a borrower and a
copy read back change a byte of the stacks, and only appends, page copies and rebuilt pages change a byte of the KV pages. -/
def Obligations.CommandsKeepQueueAndMemories : Prop :=
  (∀ (c : Instr) (s t : State), exec c s = .next t → t.pending = s.pending) ∧
  (∀ (c : Instr) (s t : State), exec c s = .next t →
      (c.writesStacks = false → t.mem = s.mem ∧ ∀ a, memRead t.mem a = memRead s.mem a) ∧
      (c.writesPages = false → t.kvmem = s.kvmem ∧ ∀ a, memRead t.kvmem a = memRead s.kvmem a))

/-- The frame of every command, by the effect that the spec gives its row of the opcode table: of the 28 pieces of a part, a command that answers a next state changes none but those that
`Instr.changes` names for it; the boot flash is changed by none. -/
def Obligations.CommandsChangeOnlyTheirPieces : Prop :=
  (∀ (c : Instr) (s t : State), exec c s = .next t → ∀ x : Piece, x ∉ c.changes → Piece.same s.part t.part x) ∧
  ∀ c : Instr, Piece.flash ∉ c.changes

/-- The canonical form of the byte memories is kept by every step from every state, whichever command is in front (the model's own
invariant, R177 and R278 for what the memories hold). -/
def Obligations.StepsKeepTheMemoriesCanonical : Prop :=
  ∀ s t : State, s.canonical = true → step s = .next t → t.canonical = true

/-- A part that stands still does nothing (R374, R378, R397, R431, R465, R469): while it is unpowered, held in reset, quenched or frozen,
every well-formed command but those of its pins, its AON island, its sensors and its TAP leaves it as it is; and none of its
domains can act. -/
def Obligations.AStoppedPartDoesNothing : Prop :=
  ∀ (s : State), (s.part.pins.pgIn = false ∨ s.part.boot.held = true ∨ s.part.boot.perstHeld = true ∨
      s.part.therm.quenched = true ∨ s.part.frz.active = true) →
    (∀ d, s.part.alive d = false) ∧
    ∀ c : Instr, c.wf = true → c.actsWhenStopped = false → exec c s = .next s

/-- How a command of a session completes (R242, R244, R249, R261): it is no longer in execution; unless QUIET leaves it out, exactly one reply
waits behind the others with the command's OPCODE, TAG and SEQ, its status and its body, and the session holds for that reply; a status other than OK and ALREADY_DONE is
counted in REJECTED; no other session changes. -/
def Obligations.CommandsEndWithOneReply : Prop :=
  ∀ (p : Machine.Part) (i status : Nat) (body k : Bytes), (p.ses i).cur = some k → (p.ses i).st ≠ .closed →
    ((p.finish i status body).ses i).cur = none ∧
    (quieted (pkOp k) (pkFlags k) status body = false →
      ((p.finish i status body).ses i).waiting = (p.ses i).waiting ++
        [{ op := pkOp k, kind := 0, tag := pkTag k, seq := pkSeq k, status := status, body := body, owner := 0, id := (p.ses i).serial }] ∧
      ((p.finish i status body).ses i).hold = some (p.ses i).serial) ∧
    (quieted (pkOp k) (pkFlags k) status body = true → ((p.finish i status body).ses i).waiting = (p.ses i).waiting) ∧
    (status ≠ stOk → status ≠ stAlreadyDone →
      (p.finish i status body).regFld aCmdCnt 48 16 = satAdd 16 (p.regFld aCmdCnt 48 16) 1) ∧
    (status = stOk ∨ status = stAlreadyDone → (p.finish i status body).regs = p.regs) ∧
    ∀ j, j ≠ i → (p.finish i status body).ses j = p.ses j

/-- Counters (R8): counting adds to its own field, saturating at the field's maximum, and changes no other bit of the register and no other
register; a 1 written to the field in the same cycle leaves what it counted in that cycle. -/
def Obligations.CountersSaturate : Prop :=
  ∀ (p : Machine.Part) (a lo w n : Nat), lo + w ≤ 64 →
    (p.bump a lo w n).regFld a lo w = min (2 ^ w - 1) (p.regFld a lo w + n) ∧
    (∀ l v, l + v ≤ 64 → l + v ≤ lo ∨ lo + w ≤ l → (p.bump a lo w n).regFld a l v = p.regFld a l v) ∧
    (∀ b, b ≠ a → (p.bump a lo w n).regGet b = p.regGet b) ∧
    ∀ (v : Word64) (f : RegField), f.lo = lo → f.width = w → f.acc = .wc → getBits v lo w ≠ 0 →
      getBits (writeField ((p.bump a lo w n).regHits a) ((p.bump a lo w n).regGet a) v f) lo w =
        min (2 ^ w - 1) (getBits (p.regHits a) lo w + n)

/-- PART_ID (R302): every 16-bit value is one part, with x in its bits 15 to 10, y in 9 to 5 and z in 4 to 0; part (7, 1, 0) is 0x1C20; and a
PORT_CFG that passes its checks has each coordinate below its torus dimension. -/
def Obligations.PartIdsAreCoordinates : Prop :=
  (∀ n, n < 65536 → partAt (coord n 0) (coord n 1) (coord n 2) = n ∧ coord n 0 = n >>> 10 ∧ coord n 1 = (n >>> 5) % 32 ∧
    coord n 2 = n % 32) ∧
  (∀ x y z, x < 64 → y < 32 → z < 32 → partAt x y z < 65536 ∧ coord (partAt x y z) 0 = x ∧ coord (partAt x y z) 1 = y ∧
    coord (partAt x y z) 2 = z) ∧
  partAt 7 1 0 = 0x1C20 ∧
  ∀ k : Bytes, portCfgFail k = none → coord (par k 0 2) 0 < par k 2 1 ∧ coord (par k 0 2) 1 < par k 3 1 ∧
    coord (par k 0 2) 2 < par k 4 1

/-- Weights in a row of a bank (R122, with the codes of R121): of a row of 128 bytes, the code of column j sits in byte j / 4, rounded
down, at bits 2 (j mod 4) + 1 and 2 (j mod 4), and the columns determine the row; format 0 is T, 1 is B1 and 2 is I2. -/
def Obligations.WeightsSitInTheirBits : Prop :=
  (∀ (row : Bytes) (j : Nat), row.length = 128 → j < 512 →
    (rowCode row j).testBit 0 = (nth 0 row (j / 4)).toNat.testBit (2 * (j % 4)) ∧
    (rowCode row j).testBit 1 = (nth 0 row (j / 4)).toNat.testBit (2 * (j % 4) + 1) ∧ rowCode row j < 4) ∧
  (∀ a b : Bytes, a.length = 128 → b.length = 128 → (∀ j, j < 512 → rowCode a j = rowCode b j) → a = b) ∧
  (∀ c : Nat, c < 4 → (badCode 0 c = true ↔ c = 2) ∧ (badCode 1 c = true ↔ c = 0 ∨ c = 2) ∧ badCode 2 c = false ∧
    ∀ f : Nat, f < 3 → (badCode f c = true → cellValue f c = 0) ∧
      (badCode f c = false → cellValue f c = if c < 2 then (c : Int) else (c : Int) - 4))

/-- The FP8 formats of keys and values (R130, R131): sign, exponent, bias and mantissa, subnormals, infinities, NaN and the largest finite
magnitude of each byte, and the sign of a zero, E4M3 in units of 2^-9 and E5M2 in units of 2^-16. -/
def Obligations.FloatingElementsDecode : Prop :=
  ∀ v : Nat, v < 256 →
    (kvValue 0 v = .nan ↔ v = 0x7F ∨ v = 0xFF) ∧
    (v ≠ 0x7F → v ≠ 0xFF → ∃ q : Q, kvValue 0 v = .fin q ∧ 0 < q.d ∧ q.n * 512 =
      (if v.testBit 7 then -1 else 1) * (q.d : Int) *
        (if v / 8 % 16 = 0 then ((v % 8 : Nat) : Int) else ((8 + v % 8 : Nat) : Int) * 2 ^ (v / 8 % 16 - 1)) ∧
      q.n.natAbs ≤ 448 * q.d ∧ (v = 0x7E → q.n = 448 * (q.d : Int)) ∧ (q.n = 0 → (q.nz = true ↔ v = 0x80))) ∧
    (v / 4 % 32 = 31 → (v % 4 = 0 → kvValue 1 v = .inf (v.testBit 7)) ∧ (v % 4 ≠ 0 → kvValue 1 v = .nan)) ∧
    (v / 4 % 32 ≠ 31 → ∃ q : Q, kvValue 1 v = .fin q ∧ 0 < q.d ∧ q.n * 65536 =
      (if v.testBit 7 then -1 else 1) * (q.d : Int) *
        (if v / 4 % 32 = 0 then ((v % 4 : Nat) : Int) else ((4 + v % 4 : Nat) : Int) * 2 ^ (v / 4 % 32 - 1)) ∧
      q.n.natAbs ≤ 57344 * q.d ∧ (v = 0x7B → q.n = 57344 * (q.d : Int)) ∧ (q.n = 0 → (q.nz = true ↔ v = 0x80)))

/-- CERT_READ (R459): KIND 1 to 3 reply with the record of that kind, KIND 4 with the configuration certificate; any other KIND is rejected
with BAD_PARAM as the command starts, and so are reserved bytes that are not zero. -/
def Obligations.CertificatesAreRead : Prop :=
  (∀ (s : State) (i : Nat) (k : Bytes), Running s i 0x0D k →
    (par k 0 1 = 1 → exec (.certRead i) s = .next (withPart s (s.part.finish i stOk s.part.sec.devRecord))) ∧
    (par k 0 1 = 2 → exec (.certRead i) s = .next (withPart s (s.part.finish i stOk s.part.aliasRecord))) ∧
    (par k 0 1 = 3 → exec (.certRead i) s = .next (withPart s (s.part.finish i stOk s.part.installRecord))) ∧
    (par k 0 1 = 4 → exec (.certRead i) s = .next (withPart s (s.part.finish i stOk s.part.sec.cert)))) ∧
  (∀ (part feat0 feat2 minor : Nat) (k : Bytes), pkOp k = 0x0D → pkFlags k = 0 → pkEpoch k = 0 → pkLen k = 32 →
    (par k 0 1 = 0 ∨ 4 < par k 0 1 → checkFail part 3 feat0 feat2 minor k = some stBadParam) ∧
    (parZ k 1 15 = false → checkFail part 3 feat0 feat2 minor k = some stBadParam) ∧
    (1 ≤ par k 0 1 → par k 0 1 ≤ 4 → parZ k 1 15 = true → checkFail part 3 feat0 feat2 minor k = none))

/-- Temperature bands (R424), in units of 0.25 °C: T0 below 45.00 °C, T1 from there to 69.75, T2 from 70.00 to 89.75 and T3 from 90.00 upwards;
above 100 °C means 100.25 °C or more; a cluster's band is the band of its latest reading, whatever it was before. -/
def Obligations.BandsFollowTheReading : Prop :=
  (∀ t : Int, (bandOf t = 0 ↔ t < 4 * 45) ∧ (bandOf t = 1 ↔ 4 * 45 ≤ t ∧ t ≤ 4 * 70 - 1) ∧
    (bandOf t = 2 ↔ 4 * 70 ≤ t ∧ t ≤ 4 * 90 - 1) ∧ (bandOf t = 3 ↔ 4 * 90 ≤ t) ∧ (isHot t = true ↔ 4 * 100 + 1 ≤ t)) ∧
  bandOf (4 * 100) = 3 ∧ isHot (4 * 100) = false ∧
  ∀ (p : Machine.Part) (c : Nat) (t : Int), ((p.clusterTemp c t).cluster c).band = bandOf t ∧ ((p.clusterTemp c t).cluster c).temp = t

/-- MVM_RESULT of an undriven MVM (R40, R92): whatever the converters would have read, the analogue part of the tile result is zero
for every column, and no code, reference measurement or column parameter is used. -/
def Obligations.UndrivenMvmsAreZero : Prop :=
  ∀ (s : State) (t : Nat) (r : MvmRun) (rest : List MvmRun) (xs : List (List Int)), isTile t = true →
    s.part.alive (3 + t / 1024) = true → (s.part.tile t).runs = r :: rest → r.start + 8 * r.phases + 24 ≤ s.part.now →
    r.driven = 0 → r.m.kind = .layer → r.m.half = 0 →
    exec (.mvmResult t xs) s =
      .next { s with part := (mvmLeaves s.part t rest).finishResult t r.m (List.replicate 512 0) }

/-- Before stage FIRMWARE (R384), for addresses of BAR2: writes of BAR0 are discarded, and the host reaches the IOD window of BAR2 alone: any other window reads zero
and its writes are discarded. -/
def Obligations.BeforeFirmware : Prop :=
  ∀ (s : State) (a n : Nat) (v : Word64), s.part.boot.stage < 2 →
    (∀ o b, exec (.submissionWrite o b) s = .next s) ∧
    (a < bar4Base → a / windowBytes ≠ 1 → exec (.registerWrite .host a n v) s = .next s ∧ s.part.regRead .host a n = 0) ∧
    s.part.hostReaches 1 = true

/-- MODULE_TRAINED, MODULE_TRAINING_FAIL and MODULE_DOWN (R16, R19, R23): a module in training becomes active at 32 GT/s, or at
16 GT/s once it has failed at 32, with the peer, module index and initial credits that the sideband exchanged at both ends; a failure at
32 GT/s only lowers the rate at both ends; a module that fails at 16 GT/s or goes down reads DOWN at both ends (that PEER_DIE, PEER_MOD and
REPAIRED then read 0 is the model's choice, log entry 145), and every other module keeps its state. UCIE_LANE_REPAIR and ADAPTER_CRC_RETRY
(R15, R19): a repair raises REPAIRED at both ends of a module that is not down and has a redundant lane left; a flit that fails CRC on an
active module is counted in CRC_ERR and in RETRY of the port. All five complete under conditions on the state and operands alone, and an
event whose condition does not hold changes no module. -/
def Obligations.ModulesTrainFallAndRetry : Prop :=
  ∀ (s : State) (d q e r : Nat) (cr : List Nat), isPort d q = true → s.part.alive (dieDomain d) = true →
    farEnd d q = some (e, r) →
    ((s.part.port d q).st = 1 → ∃ t, exec (.moduleTrained d q cr) s = .next t ∧
      (t.part.port d q).st = (if (s.part.port d q).slow then 3 else 2) ∧
      (t.part.port e r).st = (if (s.part.port e r).slow then 3 else 2) ∧
      (t.part.port d q).peerDie = e ∧ (t.part.port e r).peerDie = d ∧ (t.part.port d q).peerMod = (t.part.port e r).peerMod ∧
      (t.part.port d q).credits = cr ∧ (t.part.port e r).credits = cr ∧ t.part.d2d.held = s.part.d2d.held ∧
      ∀ a b, portKey a b ≠ portKey d q → portKey a b ≠ portKey e r → t.part.port a b = s.part.port a b) ∧
    ((s.part.port d q).st ≠ 1 → exec (.moduleTrained d q cr) s = .next (withPart s s.part.readiness) ∧
      exec (.moduleTrainingFail d q) s = .next (withPart s s.part.readiness)) ∧
    ((s.part.port d q).st = 1 → (s.part.port d q).slow = false → exec (.moduleTrainingFail d q) s =
      .next (withPart s (s.part.bothEnds d q fun x => { x with slow := true }).readiness)) ∧
    (((s.part.port d q).st = 1 ∧ (s.part.port d q).slow = true → ∃ t, exec (.moduleTrainingFail d q) s = .next t ∧
      (t.part.port d q).st = 0 ∧ (t.part.port e r).st = 0 ∧ (t.part.port d q).peerDie = 0 ∧ (t.part.port d q).repaired = 0 ∧
      ∀ a b, portKey a b ≠ portKey d q → portKey a b ≠ portKey e r → (t.part.port a b).st = (s.part.port a b).st) ∧
    ((s.part.port d q).st ≠ 0 → ∃ t, exec (.moduleDown d q) s = .next t ∧
      (t.part.port d q).st = 0 ∧ (t.part.port e r).st = 0 ∧ (t.part.port d q).peerDie = 0 ∧ (t.part.port d q).repaired = 0 ∧
      ∀ a b, portKey a b ≠ portKey d q → portKey a b ≠ portKey e r → (t.part.port a b).st = (s.part.port a b).st)) ∧
    ((s.part.port d q).st = 0 → exec (.moduleDown d q) s = .next (withPart s s.part.readiness)) ∧
    ((s.part.port d q).st ≠ 0 → (s.part.port d q).repaired < 8 → exec (.ucieLaneRepair d q) s =
      .next (withPart s (s.part.bothEnds d q fun x => { x with repaired := x.repaired + 1 }))) ∧
    ((s.part.port d q).st = 0 ∨ 8 ≤ (s.part.port d q).repaired → exec (.ucieLaneRepair d q) s = .next s) ∧
    (s.part.active d q = true → ∃ t, exec (.adapterCrcRetry d q) s = .next t ∧
      t.part.regFld (aD2dPortStatus d q) 16 16 = min 65535 (s.part.regFld (aD2dPortStatus d q) 16 16 + 1) ∧
      t.part.regFld (aD2dPortStatus d q) 32 16 = min 65535 (s.part.regFld (aD2dPortStatus d q) 32 16 + 1) ∧
      t.part.d2d = s.part.d2d) ∧
    (s.part.active d q = false → exec (.adapterCrcRetry d q) s = .next s)

/-- DIE_MESSAGE_ARRIVE (R17, R20, R21, R22, R23, R506): it completes in every state for every message. Over a module that is not active
nothing arrives. A message whose LEN is not a multiple of 16 or exceeds 4,096, whose CLASS is 7 or whose DST_DIE is above 19 is
discarded by the die that receives it: MSG_ERR of the port of arrival counts it, it goes back with the status of R21 where R21 returns
one, and no unit, queue of CTL or sequence counter sees it. A message for another die is posted on the port of its path, and where no
path remains its destination fails. At its destination one already accepted changes nothing but its receive buffer; one that is not the
next of its source, destination and class waits for those before it; the next one is accepted, its credits reach the port, and the order
advances: a reply or an event reaches CTL's queues, a command its unit's inbox unless the unit gives it back with BAD_UNIT, STALE_ROLE,
BAD_OPCODE or the status of its failed fields. -/
def Obligations.DieMessagesAreCheckedAndOrdered : Prop :=
  ∀ (s : State) (d q : Nat) (m : DieMsg), isPort d q = true → s.part.alive (dieDomain d) = true →
    (s.part.active d q = false → exec (.dieMessageArrive d q m) s = .next (withPart s s.part.readiness)) ∧
    (s.part.active d q = true →
      ((m.len % 16 ≠ 0 ∨ 4096 < m.len ∨ m.cls = 7 ∨ 19 < m.dst) →
        let p := (s.part.bump (aD2dPortStatus d q) 48 16 1).freeRx d q m
        ∃ t, exec (.dieMessageArrive d q m) s = .next t ∧
          t.part.d2d.inbox = s.part.d2d.inbox ∧ t.part.d2d.rxSeq = s.part.d2d.rxSeq ∧ t.part.d2d.early = s.part.d2d.early ∧
          t.part.d2d.ctlReplies = s.part.d2d.ctlReplies ∧ t.part.ctl = s.part.ctl ∧
          (m.cls = 7 → t = withPart s (p.giveBack d m 0 stBadClass).readiness) ∧
          (m.cls = 0 → m.len % 16 ≠ 0 ∨ 4096 < m.len → t = withPart s (p.giveBack d m 0 stLenRange).readiness) ∧
          (m.cls = 0 → m.len % 16 = 0 → m.len ≤ 4096 → t = withPart s (p.giveBack d m 0 stBadParam).readiness) ∧
          (m.cls ≠ 0 → m.cls ≠ 7 → t = withPart s p.readiness)) ∧
      (m.len % 16 = 0 → m.len ≤ 4096 → m.cls ≠ 7 → m.dst < 20 →
        (m.dst ≠ d →
          (∀ r, (s.part.applyCr d q m).nextPort d m.src m.dst = some r → exec (.dieMessageArrive d q m) s =
            .next (withPart s ((s.part.applyCr d q m).post
              { m := m, holder := d, port := r, since := (s.part.applyCr d q m).now, inPort := q, sent := false }).readiness)) ∧
          ((s.part.applyCr d q m).nextPort d m.src m.dst = none → exec (.dieMessageArrive d q m) s =
            .next (withPart s (((s.part.applyCr d q m).freeRx d q m).dieFailed m.dst).readiness))) ∧
        (m.dst = d → (s.part.acceptedOnce m || (s.part.early d).any fun a => a.m.src == m.src && a.m.cls == m.cls && a.m.seq == m.seq) =
          true → exec (.dieMessageArrive d q m) s =
          .next (withPart s (s.part.freeRx d q m).readiness)) ∧
        (m.dst = d → s.part.d2d.early = [] → m.crCount = 0 → s.part.acceptedOnce m = false →
          (mget 0 s.part.d2d.rxSeq (seqKey m.src m.dst m.cls) ≠ m.seq → ∃ t, exec (.dieMessageArrive d q m) s = .next t ∧
            t.part.early d = [{ m := m, cycle := s.part.clk.cycles, port := q }] ∧ t.part.d2d.rxSeq = s.part.d2d.rxSeq ∧
            t.part.d2d.inbox = s.part.d2d.inbox ∧ t.part.d2d.ctlReplies = s.part.d2d.ctlReplies ∧ t.part.ctl = s.part.ctl) ∧
          (mget 0 s.part.d2d.rxSeq (seqKey m.src m.dst m.cls) = m.seq →
            ∃ t, exec (.dieMessageArrive d q m) s = .next t ∧
              mget 0 t.part.d2d.rxSeq (seqKey m.src m.dst m.cls) = (m.seq + 1) % 2 ^ 32 ∧
              (m.len = 0 → t.part.d2d.inbox = s.part.d2d.inbox ∧ t.part.d2d.ctlReplies = s.part.d2d.ctlReplies) ∧
              (d = 0 → 0 < m.len → m.cls = 1 → t.part.d2d.ctlReplies = s.part.d2d.ctlReplies ++ [m]) ∧
              (d = 0 → 0 < m.len → m.cls = 5 → m.unit = 0x100 →
                t.part.ctl.events = s.part.ctl.events ++ [padTo 16 (m.payload.take 16)]) ∧
              (0 < m.len → m.cls = 0 → unitThere d m.unit = true → s.part.slotGone m = false →
                m.epoch = s.part.unitEpoch d m.unit → unitTakes d m.unit (msgOpcode m) = true → commandFail m = none →
                t.part.inbox d m.unit = inboxInsert { m := m, cycle := s.part.clk.cycles, port := q } (s.part.inbox d m.unit)))))) ∧
    (∀ (p : Machine.Part), m.dst = d →
      (unitThere d m.unit = false → p.unitTake q m = p.giveBack d m 0 stBadUnit) ∧
      (unitThere d m.unit = true → p.slotGone m = true ∨ m.epoch ≠ p.unitEpoch d m.unit →
        p.unitTake q m = (p.noteCommand m).backStale m) ∧
      (unitThere d m.unit = true → p.slotGone m = false → m.epoch = p.unitEpoch d m.unit → m.cls = 0 →
        (unitTakes d m.unit (msgOpcode m) = false →
          p.unitTake q m = (p.noteCommand m).giveBack d m (p.unitEpoch d m.unit) stBadOpcode) ∧
        (∀ st, unitTakes d m.unit (msgOpcode m) = true → commandFail m = some st →
          p.unitTake q m = (p.noteCommand m).giveBack d m (p.unitEpoch d m.unit) st)))

/-- DIE_MESSAGE_ACK and DIE_DELIVERY_TIMEOUT (R17, R286): an acknowledgement releases the message, once it has gone out, at its holder and
changes nothing else; a message held for more than 100 ms is dropped and its destination fails, and one held for less stays.
DIE_REPLY_ARRIVE and DIE_COMMAND_TIMEOUT (R288, R289, R290): the oldest reply is taken; one that matches no outstanding command by TAG and
CMD_SEQ is discarded and counted in LATE_REPLY; one that matches stops that command's timer, and the timers that waited behind it start;
a STALE_ROLE return is counted in STALE_RX. A command whose timer runs and has passed its limit is removed, counted in TIMEOUTS, its die is
treated as failed, and the host command that waited completes with TIMEOUT; a timer that has not passed it expires nothing. All four
complete under conditions on the state and operands alone. -/
def Obligations.DieMessagesAndCommandsEnd : Prop :=
  (∀ (s : State) (h src dst cls seq : Nat), h < 20 → s.part.alive (dieDomain h) = true →
    exec (.dieMessageAck h src dst cls seq) s = .next (withPart s { s.part with d2d := { s.part.d2d with
      held := s.part.d2d.held.filter fun x =>
        !(x.sent && x.holder == h && x.m.src == src && x.m.dst == dst && x.m.cls == cls && x.m.seq == seq) } })) ∧
  (∀ (s : State) (src dst cls seq : Nat) (x : HeldMsg) (rest : List HeldMsg), src < 20 → dst < 20 →
    s.part.alive (dieDomain src) = true →
    takeFirst (fun y : HeldMsg => y.m.src == src && y.m.dst == dst && y.m.cls == cls && y.m.seq == seq) s.part.d2d.held =
      some (x, rest) →
    (x.since + 100000000 < s.part.now → ∃ t, exec (.dieDeliveryTimeout src dst cls seq) s = .next t ∧
      t = withPart s ({ s.part with d2d := { s.part.d2d with held := rest } }.dieFailed dst).readiness ∧
      t.part.d2d.held = rest ∧ t.part.failedDie = some (s.part.failedDie.getD dst)) ∧
    (s.part.now ≤ x.since + 100000000 → exec (.dieDeliveryTimeout src dst cls seq) s = .next (withPart s s.part.readiness))) ∧
  (∀ (s : State), s.part.alive 1 = true →
    (s.part.d2d.ctlReplies = [] → exec .dieReplyArrive s = .next s) ∧
    (∀ m rest, s.part.d2d.ctlReplies = m :: rest → ∃ t, exec .dieReplyArrive s = .next t ∧ t.part.d2d.ctlReplies = rest ∧
      t.part.regFld aCmdCnt 32 16 =
        satAdd 16 (s.part.regFld aCmdCnt 32 16) (if fld m.payload 12 2 = stStaleRole then 1 else 0) ∧
      ((∀ c ∈ s.part.d2d.outstanding, ¬(c.tag = fld m.payload 4 4 ∧ c.seq = fld m.payload 8 4)) →
        t.part.d2d.outstanding = s.part.d2d.outstanding ∧
        t.part.regFld aCmdCnt 16 16 = satAdd 16 (s.part.regFld aCmdCnt 16 16) (if fld m.payload 0 1 = 0 then 0 else 1)) ∧
      (∀ c l, takeFirst (fun c : CtlCmd => c.tag == fld m.payload 4 4 && c.seq == fld m.payload 8 4) s.part.d2d.outstanding =
          some (c, l) →
        t.part.regFld aCmdCnt 16 16 = s.part.regFld aCmdCnt 16 16 ∧
        ∃ more, t.part.d2d.outstanding = restartTimers s.part.now c l ++ more))) ∧
  (∀ (s : State) (tag seq : Nat) (c : CtlCmd) (rest : List CtlCmd), s.part.alive 1 = true →
    takeFirst (fun c : CtlCmd => c.tag == tag && c.seq == seq) s.part.d2d.outstanding = some (c, rest) →
    (timerRuns c s.part.d2d.outstanding = true → c.start + s.part.cmdLimit c.opcode < s.part.now →
      ∃ t, exec (.dieCommandTimeout tag seq) s = .next t ∧ t.part.d2d.outstanding = restartTimers s.part.now c rest ∧
        t.part.failedDie = some (s.part.failedDie.getD c.die) ∧
        t.part.regFld aCmdCnt 0 16 = satAdd 16 (s.part.regFld aCmdCnt 0 16) 1 ∧
        (∀ a l, c.sess < 64 → takeFirst (fun a : ACmd => a.tag == c.tag) (s.part.ses c.sess).running = some (a, l) →
          (t.part.ses c.sess).running = l ∧
          ((s.part.ses c.sess).st ≠ .closed → ∃ r ∈ (t.part.ses c.sess).waiting,
            r.op = a.op ∧ r.kind = 0 ∧ r.tag = a.tag ∧ r.seq = a.seq ∧ r.status = stTimeout ∧ r.body = []))) ∧
    (timerRuns c s.part.d2d.outstanding = false ∨ s.part.now ≤ c.start + s.part.cmdLimit c.opcode →
      exec (.dieCommandTimeout tag seq) s = .next (withPart s s.part.readiness)))

/-- WRITE_SHALLOW, REFRESH, WRITE_DEEP, ERASE and RELEASE (R42, R43, R46, R47, R278, R285). Without such a message at the head of the
bank's inbox, while a RELEASE of the bank waits, within 2 µs of its last epoch change (REFRESH, which changes none, does not wait) and
while the SLOT_PARAMS record that the checks read is not verified (R151), nothing happens. Otherwise the message is taken: one that a
check refuses is returned with that status and no bank, tile or slice changes; a write or an erase that passes takes the bank to its
writing or erasing state, advances the epoch (REFRESH alone does not), records the owner (ERASE alone does not), makes every MVM that
waits for the bank come before it, and queues behind the tile's other writes; a RELEASE advances the epoch and makes the bank EMPTY with no
owner and no range table at once when no MVM of the bank waits or runs, and else waits for them. All five complete. -/
def Obligations.BankOperations : Prop :=
  ∀ (s : State) (c : Instr) (op die unit k : Nat) (b : Bank), bankOpcode c = some (op, die, unit) →
    isBankUnit die unit = true → s.part.alive (dieDomain die) = true → k = bankOf die unit → b = s.part.bank k →
    (s.part.headCmd die unit op = none → exec c s = .next s) ∧
    (∀ m, s.part.headCmd die unit op = some m →
      (b.releasing ≠ none ∨ (op ≠ 0xA1 ∧ b.tooSoon s.part.now = true) ∨ s.part.bankOpWaits b m = true → exec c s = .next s) ∧
      (b.releasing = none → (op = 0xA1 ∨ b.tooSoon s.part.now = false) → s.part.bankOpWaits b m = false →
        (∀ st, bankOpFail (s.part.opParams s.mem b m) b m = some st → ∃ t, exec c s = .next t ∧ t.part.an = s.part.an ∧
          t.part.inbox die unit = (s.part.inbox die unit).drop 1 ∧
          t = withPart s ((s.part.popInbox die unit).bankReply k m st)) ∧
        (bankOpFail (s.part.opParams s.mem b m) b m = none → op ≠ 0xA4 → ∃ t w, exec c s = .next t ∧
          t.part.inbox die unit = (s.part.inbox die unit).drop 1 ∧
          (t.part.bank k).st = (if op = 0xA3 then .erasing else if op = 0xA2 then .writingDeep else .writingShallow) ∧
          (t.part.bank k).epoch = (if op = 0xA1 then b.epoch else (b.epoch + 1) % 65536) ∧
          (t.part.bank k).model = (if op = 0xA3 then b.model else par m.payload 0 4) ∧
          (t.part.bank k).version = (if op = 0xA3 then b.version else par m.payload 4 2) ∧
          (t.part.bank k).slot = (if op = 0xA3 then b.slot else par m.payload 6 2) ∧
          (t.part.bank k).cells = b.cells ∧ (t.part.bank k).ranges = b.ranges ∧
          (t.part.tile (k / 2)).wq = (s.part.tile (k / 2)).wq ++ [w] ∧ w.kind = opKind op ∧ w.bank = unit % 2 ∧ w.msg = some m ∧
          (∀ x ∈ (t.part.tile (k / 2)).queue, x.req.bank = unit % 2 → x.due = true) ∧
          (t.part.tile (k / 2)).queue.map Mvm.req = (s.part.tile (k / 2)).queue.map Mvm.req ∧
          (t.part.tile (k / 2)).runs = (s.part.tile (k / 2)).runs ∧
          (∀ j, j ≠ k → t.part.bank j = s.part.bank j) ∧ ∀ j, j ≠ k / 2 → t.part.tile j = s.part.tile j) ∧
        (bankOpFail (s.part.opParams s.mem b m) b m = none → op = 0xA4 →
          ((∀ x ∈ (s.part.tile (k / 2)).queue, x.req.bank ≠ unit % 2) → (∀ r ∈ (s.part.tile (k / 2)).runs, r.m.req.bank ≠ unit % 2) →
            ∃ t, exec c s = .next t ∧ (t.part.bank k).st = .empty ∧ (t.part.bank k).epoch = (b.epoch + 1) % 65536 ∧
              (t.part.bank k).model = 0 ∧ (t.part.bank k).version = 0 ∧ (t.part.bank k).slot = 0 ∧ (t.part.bank k).ranges = [] ∧
              ∀ j, j ≠ k → t.part.bank j = s.part.bank j) ∧
          ((∃ x ∈ (s.part.tile (k / 2)).queue, x.req.bank = unit % 2) ∨ (∃ r ∈ (s.part.tile (k / 2)).runs, r.m.req.bank = unit % 2) →
            ∃ t, exec c s = .next t ∧
              t.part.bank k = { b with epoch := (b.epoch + 1) % 65536, epochAt := some s.part.now, releasing := some m } ∧
              (∀ x ∈ (t.part.tile (k / 2)).queue, x.req.bank = unit % 2 → x.due = true) ∧
              ∀ j, j ≠ k → t.part.bank j = s.part.bank j))))

/-- RELEASE_TAKE_EFFECT (R47): a RELEASE that waited makes its bank EMPTY, with no owner, no contents and no range table, once no earlier
MVM of the bank is left, and changes no other bank; with none waiting or an MVM left nothing happens. EPOCH_WAIT_END (R285): a bank
operation at the head of an inbox is taken as its own row takes it; with another head or none nothing happens. TILE_WRITE_START and
HOT_DEFER_END (R45, R46, R48, R51, R52, R53, R57, R62, R70, R379, R507): the next entry of a tile's queue of writes is its head, or the
first map update behind a head that waits for the cluster to fall to 100 °C or below or for a halt to end; it starts when no other
runs, no earlier MVM of its bank is left and the sections that it loads are verified, and then the band at the start is held: a map
update erases the copy that it writes and takes 290 µs, an erase takes 2.25 ms, a deep write runs its clearing pass for 16,384 ns or
row 0 for 40 µs, and a shallow write or a refresh begins with LIFE 600,000. Otherwise no tile, bank or slice changes. HOT_DEFER_END starts a
deferred write or erase alone. All four complete. -/
def Obligations.TileWritesStart : Prop :=
  (∀ (s : State) (k : Nat), isBank k = true → s.part.alive (3 + k / 2048) = true →
    ((s.part.bank k).releasing = none ∨ (s.part.tile (k / 2)).mvmPending (k % 2) = true →
      exec (.releaseTakeEffect k) s = .next s) ∧
    (∀ m, (s.part.bank k).releasing = some m → (s.part.tile (k / 2)).mvmPending (k % 2) = false →
      ∃ t, exec (.releaseTakeEffect k) s = .next t ∧
        t.part.bank k = { s.part.bank k with
          st := .empty, model := 0, version := 0, slot := 0, life := 0, ranges := [], releasing := none, cells := [] } ∧
        ∀ j, j ≠ k → t.part.bank j = s.part.bank j)) ∧
  (∀ (s : State) (die unit : Nat), isBankUnit die unit = true → s.part.alive (dieDomain die) = true →
    (s.part.inbox die unit = [] → exec (.epochWaitEnd die unit) s = .next s) ∧
    (∀ a rest, s.part.inbox die unit = a :: rest →
      (a.m.cls ≠ 0 ∨ msgOpcode a.m < 0xA0 ∨ 0xA4 < msgOpcode a.m → exec (.epochWaitEnd die unit) s = .next s) ∧
      (∀ c, a.m.cls = 0 → bankOpcode c = some (msgOpcode a.m, die, unit) → exec (.epochWaitEnd die unit) s = exec c s))) ∧
  (∀ (s : State) (t : Nat), isTile t = true → s.part.alive (3 + t / 1024) = true →
    ((s.part.tile t).wq = [] → s.part.nextWrite t = none) ∧
    (∀ w rest, (s.part.tile t).wq = w :: rest →
      ((w.kind = .map ∨ s.part.boot.halt = none) → (w.kind.defers = false ∨ s.part.tileHot t = false) →
        s.part.nextWrite t = some (w, rest)) ∧
      ((w.kind ≠ .map ∧ s.part.boot.halt ≠ none) ∨ (w.kind.defers = true ∧ s.part.tileHot t = true) →
        s.part.nextWrite t = takeFirst (fun x : Wr => x.kind == .map) (w :: rest))) ∧
    ((s.part.tile t).wr ≠ none ∨ s.part.nextWrite t = none →
      exec (.tileWriteStart t) s = .next (withPart s s.part.readiness) ∧
      exec (.hotDeferEnd t) s = .next (withPart s s.part.readiness)) ∧
    (∀ w rest, (s.part.tile t).wr = none → s.part.nextWrite t = some (w, rest) →
      (w.kind.defers = false → exec (.hotDeferEnd t) s = .next (withPart s s.part.readiness)) ∧
      (w.kind ≠ .map → (s.part.tile t).mvmPending w.bank = true ∨ s.part.beginWaits (2 * t + w.bank) w = true →
        exec (.tileWriteStart t) s = .next (withPart s s.part.readiness) ∧
        exec (.hotDeferEnd t) s = .next (withPart s s.part.readiness)) ∧
      (∀ c, (c = Instr.tileWriteStart t ∨ (c = Instr.hotDeferEnd t ∧ w.kind.defers = true)) →
        (w.kind = .map ∨ ((s.part.tile t).mvmPending w.bank = false ∧ s.part.beginWaits (2 * t + w.bank) w = false)) →
        ∃ u v, exec c s = .next u ∧ (u.part.tile t).wr = some v ∧ (u.part.tile t).wq = rest ∧ (u.part.tile t).buf = [] ∧
          (u.part.tile t).rowAt = s.part.now ∧ v.kind = w.kind ∧ v.bank = w.bank ∧ v.msg = w.msg ∧ v.band = s.part.tileBand t ∧
          (w.kind = .map → v.due = s.part.now + 290000 ∧ v.copy = (s.part.bank (2 * t + w.bank)).updateRow ∧
            copyOk (if v.copy = 6 then (u.part.bank (2 * t + w.bank)).copy6 else (u.part.bank (2 * t + w.bank)).copy7) = false) ∧
          (w.kind = .erase ∨ w.kind = .blankErase → v.due = s.part.now + 2250000 ∧
            u.part.bank (2 * t + w.bank) = s.part.bank (2 * t + w.bank)) ∧
          (∀ m, w.msg = some m → w.kind = .deep → v.clearing = (s.part.bank (2 * t + w.bank)).clear ∧
            v.due = s.part.now + (if (s.part.bank (2 * t + w.bank)).clear then 16384 else 40000)) ∧
          (∀ m, w.msg = some m → w.kind = .shallow ∨ w.kind = .refresh → (u.part.bank (2 * t + w.bank)).life = 600000) ∧
          ∀ j, j ≠ 2 * t + w.bank → u.part.bank j = s.part.bank j)))

/-- SHALLOW_ROW_ARRIVE and SHALLOW_WRITE_COMPLETE (R33, R53 to R55, R70, R95, R96, R97, R122, R172). While a shallow write or a refresh runs
whose rows are verified in the stacks, the next row may arrive up to 96 ns before its time: it joins the row write buffer, which holds
the last two, and begins at its time, or, when the row before it left the drivers waiting, at the next 8 ns step, counted in WRITE_STALL
(row 0 begins when it arrives, and counts nothing: the model's choice, log entry 153); the row before it goes into the physical row of its
logical row with its weights, its reference columns and the band at its start, and into the probe sums. At the end of row 511 that row
goes into the cells too, the bank is SHALLOW with D 1.0 and A 0, under the epoch and owner of the write, a write that is no refresh
brings its range table into force, eight probe MVMs queue, and the drivers are free; a bank whose shard is gone everywhere is sent RELEASE.
A command whose conditions do not hold changes nothing. Both complete. -/
def Obligations.ShallowWritesProgramTheRows : Prop :=
  ∀ (s : State) (t : Nat), isTile t = true → s.part.alive (3 + t / 1024) = true →
    ((s.part.tile t).wr = none → exec (.shallowRowArrive t) s = .next s ∧ exec (.shallowWriteComplete t) s = .next s) ∧
    (∀ w k b, (s.part.tile t).wr = some w → k = 2 * t + w.bank → b = s.part.bank k →
      (w.kind ≠ .shallow → w.kind ≠ .refresh →
        exec (.shallowRowArrive t) s = .next s ∧ exec (.shallowWriteComplete t) s = .next s) ∧
      (512 ≤ w.row ∨ s.part.now + 96 < (s.part.tile t).rowAt ∨ s.part.rowsWait k = true →
        exec (.shallowRowArrive t) s = .next s) ∧
      (w.row ≠ 512 ∨ s.part.now < (s.part.tile t).rowAt → exec (.shallowWriteComplete t) s = .next s) ∧
      (w.kind = .shallow ∨ w.kind = .refresh → w.row < 512 → (s.part.tile t).rowAt ≤ s.part.now + 96 → s.part.rowsWait k = false →
        ∃ u, exec (.shallowRowArrive t) s = .next u ∧
          (u.part.tile t).wr = some { w with row := w.row + 1, band := s.part.tileBand t } ∧
          (u.part.tile t).buf = ((s.part.tile t).buf ++ [s.part.streamRow s.mem k w.row]).drop ((s.part.tile t).buf.length - 1) ∧
          (s.part.now ≤ (s.part.tile t).rowAt → (u.part.tile t).rowAt = (s.part.tile t).rowAt + 96) ∧
          ((s.part.tile t).rowAt < s.part.now → w.row = 0 → (u.part.tile t).rowAt = s.part.now + 96) ∧
          ((s.part.tile t).rowAt < s.part.now → 0 < w.row →
            (u.part.tile t).rowAt = (s.part.tile t).rowAt + 8 * cdiv (s.part.now - (s.part.tile t).rowAt) 8 + 96 ∧
            u.part.regFld (tileStatusAddr t) 56 8 = satAdd 8 (s.part.regFld (tileStatusAddr t) 56 8) 1) ∧
          (w.row = 0 → u.part.bank k = b) ∧
          (0 < w.row → mget CellRow.blank (u.part.bank k).cells (b.physRow (w.row - 1)) =
              { levels := b.rowLevels (w.row - 1) (nth [] (s.part.tile t).buf ((s.part.tile t).buf.length - 1)),
                deep := false, band := w.band } ∧
            (∀ r, r ≠ b.physRow (w.row - 1) → mget CellRow.blank (u.part.bank k).cells r = mget CellRow.blank b.cells r) ∧
            (u.part.bank k).sums =
              addProbeRow b.wfmt (w.row - 1) (nth [] (s.part.tile t).buf ((s.part.tile t).buf.length - 1)) b.sums) ∧
          ∀ j, j ≠ k → u.part.bank j = s.part.bank j) ∧
      (w.kind = .shallow ∨ w.kind = .refresh → w.row = 512 → (s.part.tile t).rowAt ≤ s.part.now →
        ∃ u, exec (.shallowWriteComplete t) s = .next u ∧ (u.part.tile t).wr = none ∧ (u.part.tile t).buf = [] ∧
          (u.part.bank k).st = .shallow ∧ (u.part.bank k).d = 0x4000 ∧ (u.part.bank k).a = 0 ∧
          (u.part.bank k).epoch = b.epoch ∧ (u.part.bank k).model = b.model ∧ (u.part.bank k).version = b.version ∧
          (u.part.bank k).slot = b.slot ∧ (u.part.bank k).ranges = (if w.kind = .shallow then b.nextRanges else b.ranges) ∧
          mget CellRow.blank (u.part.bank k).cells (b.physRow 511) =
            { levels := b.rowLevels 511 (nth [] (s.part.tile t).buf ((s.part.tile t).buf.length - 1)), deep := false, band := w.band } ∧
          (∀ r, r ≠ b.physRow 511 → mget CellRow.blank (u.part.bank k).cells r = mget CellRow.blank b.cells r) ∧
          (∃ l r, (u.part.tile t).queue = l ++ r ∧ r.map Mvm.kind = (List.range 8).map MvmKind.probe) ∧
          (s.part.rowsLost k = true → ∃ c, u.part.d2d.outstanding = s.part.d2d.outstanding ++ [c] ∧ c.opcode = 0xA4) ∧
          ∀ j, j ≠ k → u.part.bank j = s.part.bank j))

/-- DEEP_CLEAR_PASS_END, DEEP_ROW_VERIFY, ERASE_DONE and MAP_UPDATE_COMPLETE (R48 to R51, R58, R60 to R62, R507). When its clearing pass has
run, a deep write's bank has no charge left and row 0 begins; when a row's 40 µs have run it is in its physical row with the band at its
start: one that verifies enters the probe sums and is followed by the next, and the last by a map update of 290 µs; one that fails takes the
lowest free spare row, is counted, and runs again, and with no spare row free the bank is RETIRED with no owner, its epoch advances and a map update
follows. An erase leaves no charge and is followed by a map update. A map update writes its copy with the GENERATION after the
other copy's, and makes the bank DEEP with DEEP_AGE 0, D 1.0 and one deep cycle more, or two when a row was written in band T3; or EMPTY with no owner
and no range table; or, after the erase of bring-up, EMPTY and loaded; or leaves its state. A row whose bytes are not verified waits, and a
command whose time has not come or whose write is of another kind changes nothing. All four complete. -/
def Obligations.DeepWritesAndErases : Prop :=
  ∀ (s : State) (t : Nat), isTile t = true → s.part.alive (3 + t / 1024) = true →
    ((s.part.tile t).wr = none → exec (.deepClearPassEnd t) s = .next s ∧ (∀ ok, exec (.deepRowVerify t ok) s = .next s) ∧
      exec (.eraseDone t) s = .next s ∧ exec (.mapUpdateComplete t) s = .next s) ∧
    (∀ w k b, (s.part.tile t).wr = some w → k = 2 * t + w.bank → b = s.part.bank k →
      (w.kind ≠ .deep ∨ w.clearing = false ∨ s.part.now < w.due → exec (.deepClearPassEnd t) s = .next s) ∧
      (∀ ok, w.kind ≠ .deep ∨ w.clearing = true ∨ s.part.now < w.due ∨ s.part.rowsWait k = true →
        exec (.deepRowVerify t ok) s = .next s) ∧
      ((w.kind ≠ .erase ∧ w.kind ≠ .blankErase) ∨ s.part.now < w.due → exec (.eraseDone t) s = .next s) ∧
      (w.kind ≠ .map ∨ s.part.now < w.due → exec (.mapUpdateComplete t) s = .next s) ∧
      (w.kind = .deep → w.clearing = true → w.due ≤ s.part.now → ∃ u, exec (.deepClearPassEnd t) s = .next u ∧
        u.part.bank k = { b with cells := [] } ∧
        (u.part.tile t).wr = some { w with clearing := false, band := s.part.tileBand t, due := w.due + 40000 } ∧
        ∀ j, j ≠ k → u.part.bank j = s.part.bank j) ∧
      (w.kind = .deep → w.clearing = false → w.due ≤ s.part.now → s.part.rowsWait k = false →
        (∃ u, exec (.deepRowVerify t true) s = .next u ∧
          mget CellRow.blank (u.part.bank k).cells (b.physRow w.row) =
            { levels := b.rowLevels w.row (s.part.streamRow s.mem k w.row), deep := true, band := w.band } ∧
          (∀ r, r ≠ b.physRow w.row → mget CellRow.blank (u.part.bank k).cells r = mget CellRow.blank b.cells r) ∧
          (u.part.bank k).sums = addProbeRow b.wfmt w.row (s.part.streamRow s.mem k w.row) b.sums ∧ (u.part.bank k).st = b.st ∧
          (w.row < 511 → (u.part.tile t).wr = some { w with row := w.row + 1, band := s.part.tileBand t, due := w.due + 40000 }) ∧
          (511 ≤ w.row → ∃ v, (u.part.tile t).wr = some v ∧ v.kind = .map ∧ v.completes = some .deep ∧ v.due = s.part.now + 290000 ∧
            v.copy = b.updateRow) ∧ ∀ j, j ≠ k → u.part.bank j = s.part.bank j) ∧
        (∀ i, b.freeRow = some i → ∃ u, exec (.deepRowVerify t false) s = .next u ∧
          (u.part.bank k).rowMap = setNth (mapEntries 6 b.rowMap) i (0x8000 + w.row) ∧ (u.part.bank k).sums = b.sums ∧
          (u.part.bank k).st = b.st ∧
          u.part.regFld (tileStatusAddr t) 48 8 = satAdd 8 (s.part.regFld (tileStatusAddr t) 48 8) 1 ∧
          (u.part.tile t).wr = some { w with band := s.part.tileBand t, due := w.due + 40000 } ∧
          ∀ j, j ≠ k → u.part.bank j = s.part.bank j) ∧
        (b.freeRow = none → ∃ u v, exec (.deepRowVerify t false) s = .next u ∧
          (u.part.bank k).st = .retired ∧ (u.part.bank k).epoch = (b.epoch + 1) % 65536 ∧ (u.part.bank k).model = 0 ∧
          (u.part.bank k).version = 0 ∧ (u.part.bank k).slot = 0 ∧ (u.part.bank k).ranges = [] ∧
          (u.part.tile t).wr = some v ∧ v.kind = .map ∧ v.completes = none ∧ v.due = s.part.now + 290000 ∧
          ∀ j, j ≠ k → u.part.bank j = s.part.bank j)) ∧
      (w.kind = .erase ∨ w.kind = .blankErase → w.due ≤ s.part.now → ∃ u v, exec (.eraseDone t) s = .next u ∧
        (u.part.bank k).cells = [] ∧ (u.part.bank k).st = b.st ∧ (u.part.tile t).wr = some v ∧ v.kind = .map ∧
        v.completes = some w.kind ∧ v.due = s.part.now + 290000 ∧ v.copy = b.updateRow ∧
        ∀ j, j ≠ k → u.part.bank j = s.part.bank j) ∧
      (w.kind = .map → w.due ≤ s.part.now → ∃ u, exec (.mapUpdateComplete t) s = .next u ∧ (u.part.tile t).wr = none ∧
        (w.copy = 6 → (u.part.bank k).copy7 = b.copy7 ∧ copyGen (u.part.bank k).copy6 = (copyGen b.copy7 + 1) % 65536) ∧
        (w.copy ≠ 6 → (u.part.bank k).copy6 = b.copy6 ∧ copyGen (u.part.bank k).copy7 = (copyGen b.copy6 + 1) % 65536) ∧
        (u.part.bank k).epoch = b.epoch ∧ (u.part.bank k).cells = b.cells ∧
        (w.completes = some .deep → (u.part.bank k).st = .deep ∧ (u.part.bank k).age = 0 ∧ (u.part.bank k).d = 0x4000 ∧
          (u.part.bank k).a = 0 ∧ (u.part.bank k).cycles = min (b.cycles + (if b.t3 then 2 else 1)) 65535 ∧
          (u.part.bank k).ranges = b.nextRanges) ∧
        (w.completes = some .erase → (u.part.bank k).st = .empty ∧ (u.part.bank k).model = 0 ∧ (u.part.bank k).version = 0 ∧
          (u.part.bank k).slot = 0 ∧ (u.part.bank k).ranges = []) ∧
        (w.completes = some .blankErase → (u.part.bank k).st = .empty ∧ (u.part.bank k).loaded = true) ∧
        (w.completes = none → (u.part.bank k).st = b.st ∧ (u.part.bank k).model = b.model) ∧
        ∀ j, j ≠ k → u.part.bank j = s.part.bank j))

/-- LIFE_TICK and DEEP_AGE_TICK (R57, R58): at the first tick of a whole millisecond of part time that has not been counted, every
SHALLOW or WRITING_SHALLOW bank of the cluster loses LIFE at the rate of the highest temperature that the cluster held in the millisecond
before, and every DEEP bank gains DEEP_AGE at its own; a second tick changes nothing. BANK_EXPIRE, AGE_ALERT, DEEP_AGE_MILESTONE and
BLANK_CHECK_COMPLETE (R57, R59, R62, R64): a SHALLOW bank with LIFE 0 is EXPIRED and keeps its epoch, its owner and its contents; a
DEEP bank that reaches 87,600 h raises one event, once (the data bytes are the bank's number: the model's choice, log entry 154, and the line is
free, as the manual numbers none); a whole 1,000 h that the map does not record queues one map update; 52 µs after the maps loaded a bank whose
DEPTH is erased is EMPTY when its cells are blank, and else an erase queues for it, once. Otherwise each changes nothing. All six
complete. -/
def Obligations.BanksAge : Prop :=
  (∀ (s : State) (c : Nat), isCluster c = true → s.part.alive (3 + c / 16) = true →
    ((s.part.cluster c).lifeMs < s.part.now / 1000000 → exec (.lifeTick c) s =
      .next (withPart s ((s.part.setCluster c { s.part.cluster c with lifeMs := s.part.now / 1000000 }).mapBanks c fun b =>
        if b.st = .shallow ∨ b.st = .writingShallow then
          { b with life := b.life - lifeRate ((s.part.cluster c).tempOf (s.part.now / 1000000 - 1)) } else b))) ∧
    (s.part.now / 1000000 ≤ (s.part.cluster c).lifeMs → exec (.lifeTick c) s = .next s) ∧
    ((s.part.cluster c).ageMs < s.part.now / 1000000 → exec (.deepAgeTick c) s =
      .next (withPart s ((s.part.setCluster c { s.part.cluster c with ageMs := s.part.now / 1000000 }).mapBanks c fun b =>
        if b.st = .deep then { b with age := b.age + ageRate ((s.part.cluster c).tempOf (s.part.now / 1000000 - 1)) } else b))) ∧
    (s.part.now / 1000000 ≤ (s.part.cluster c).ageMs → exec (.deepAgeTick c) s = .next s)) ∧
  (∀ (s : State) (k : Nat), isBank k = true → s.part.alive (3 + k / 2048) = true →
    ((s.part.bank k).st = .shallow → (s.part.bank k).life = 0 → ∃ t, exec (.bankExpire k) s = .next t ∧
      t.part.bank k = { s.part.bank k with st := .expired } ∧ ∀ j, j ≠ k → t.part.bank j = s.part.bank j) ∧
    ((s.part.bank k).st ≠ .shallow ∨ (s.part.bank k).life ≠ 0 → exec (.bankExpire k) s = .next s) ∧
    ((s.part.bank k).st = .deep → 87600 ≤ (s.part.bank k).ageHours → (s.part.bank k).alerted = false →
      ∃ t, exec (.ageAlert k) s = .next t ∧ t.part.bank k = { s.part.bank k with alerted := true } ∧
        (∀ j, j ≠ k → t.part.bank j = s.part.bank j) ∧
        ∀ q, s.part.nextPort (12 + k / 2048) (12 + k / 2048) 0 = some q → ∃ h, t.part.d2d.held = s.part.d2d.held ++ [h] ∧
          h.m.src = 12 + k / 2048 ∧ h.m.dst = 0 ∧ h.m.cls = 5 ∧ h.m.unit = 0x100 ∧ h.m.len = 16 ∧ slice h.m.payload 4 4 = leBytes 4 k) ∧
    ((s.part.bank k).st ≠ .deep ∨ (s.part.bank k).ageHours < 87600 ∨ (s.part.bank k).alerted = true →
      exec (.ageAlert k) s = .next s) ∧
    ((s.part.bank k).st = .deep → fld (s.part.bank k).mapCopy 16 4 / 1000 < (s.part.bank k).ageHours / 1000 →
      (∀ w ∈ (s.part.tile (k / 2)).wq, ¬(w.kind = .map ∧ w.bank = k % 2)) → ∃ t w, exec (.deepAgeMilestone k) s = .next t ∧
        (t.part.tile (k / 2)).wq = (s.part.tile (k / 2)).wq ++ [w] ∧ w.kind = .map ∧ w.bank = k % 2 ∧ w.completes = none ∧
        (∀ j, t.part.bank j = s.part.bank j) ∧ ∀ j, j ≠ k / 2 → t.part.tile j = s.part.tile j) ∧
    ((s.part.bank k).st ≠ .deep ∨ (s.part.bank k).ageHours / 1000 ≤ fld (s.part.bank k).mapCopy 16 4 / 1000 ∨
      (∃ w ∈ (s.part.tile (k / 2)).wq, w.kind = .map ∧ w.bank = k % 2) → exec (.deepAgeMilestone k) s = .next s) ∧
    ((s.part.acd (k / 2 / 1024)).mapAt = none ∨ (s.part.bank k).loaded = true ∨ (s.part.bank k).st ≠ .erasing →
      exec (.blankCheckComplete k) s = .next s) ∧
    (∀ a, (s.part.acd (k / 2 / 1024)).mapAt = some a → (s.part.bank k).loaded = false → (s.part.bank k).st = .erasing →
      (s.part.now < a + 52000 ∨ (∃ w ∈ (s.part.tile (k / 2)).wq, w.kind = .blankErase ∧ w.bank = k % 2) ∨
        (∃ w, (s.part.tile (k / 2)).wr = some w ∧ w.bank = k % 2) → exec (.blankCheckComplete k) s = .next s) ∧
      (a + 52000 ≤ s.part.now → (∀ w ∈ (s.part.tile (k / 2)).wq, ¬(w.kind = .blankErase ∧ w.bank = k % 2)) →
        (∀ w, (s.part.tile (k / 2)).wr = some w → w.bank ≠ k % 2) → ∃ t, exec (.blankCheckComplete k) s = .next t ∧
          ((s.part.bank k).cells = [] → (t.part.bank k).st = .empty ∧ (t.part.bank k).loaded = true ∧
            (t.part.tile (k / 2)).wq = (s.part.tile (k / 2)).wq) ∧
          ((s.part.bank k).cells ≠ [] → t.part.bank k = s.part.bank k ∧ ∃ w, w.kind = .blankErase ∧ w.bank = k % 2 ∧
            (t.part.tile (k / 2)).wq = (s.part.tile (k / 2)).wq ++ [w]) ∧ ∀ j, j ≠ k → t.part.bank j = s.part.bank j)))

/-- MVM_GRANT (R136, R201, R214, R357): the work that the grant rule chooses waits in the cluster, and no other waiting work of its class
comes before it in the order of rank and deadline. When its output vector can be bound to sets it leaves the slice's lists and is granted,
with the bank's present epoch when it waited for its weights; the sets are bound at its home slice, no other slice changes, and a
generation MVM adds the time that it waited in this window. Otherwise it is held, and counted once in ACC_WAIT. With nothing to grant nothing
changes. BALANCE_WINDOW (R214): in a window of 10 ms that has not begun yet every cluster's time counts restart, its prompt share is at
least an eighth of the window and is what generation work left of the window before, and line 267 is raised; in a window that has begun
nothing changes. Both complete. -/
def Obligations.GrantsAndWindows : Prop :=
  ∀ (s : State),
    (∀ (c : Nat), isCluster c = true → s.part.alive (3 + c / 16) = true →
      (s.part.choose c = none → exec (.mvmGrant c) s = .next s) ∧
      (∀ r w, s.part.choose c = some (r, w) →
        (r, w) ∈ s.part.waiting c r.cls ∧ (∀ y ∈ s.part.waiting c r.cls, s.part.before y (r, w) = false) ∧
        (s.part.job r.job = none → exec (.mvmGrant c) s = .next s) ∧
        (∀ j h g, s.part.job r.job = some j → nth (0, 0) j.job.homes r.block = (h, g) →
          (∀ hs, (s.part.slice h).bind r.job (512 * r.block) (blockGroups g) = some hs → ∃ t, exec (.mvmGrant c) s = .next t ∧
            (t.part.slice c).granted = (s.part.slice c).granted ++
              [if r.await then { r with epoch := (s.part.bank (2 * r.tile + r.bank)).epoch, await := false } else r] ∧
            (t.part.slice c).want = (s.part.slice c).want.filter (fun x => x.1 != r) ∧
            (t.part.slice c).held = (s.part.slice c).held.filter (fun x => x != r) ∧ (t.part.slice c).lastCls = r.cls ∧
            (t.part.slice h).sets = hs.sets ∧ (∀ e, e ≠ c → e ≠ h → t.part.slice e = s.part.slice e) ∧
            (r.cls = .generation → (t.part.cluster c).genWait =
              (s.part.cluster c).genWait + (s.part.now - max w (s.part.cluster c).window)) ∧
            (r.cls = .prompt → t.part.clusters = s.part.clusters)) ∧
          ((s.part.slice h).bind r.job (512 * r.block) (blockGroups g) = none →
            (r ∈ (s.part.slice c).held → exec (.mvmGrant c) s = .next s) ∧
            (r ∉ (s.part.slice c).held → exec (.mvmGrant c) s = .next (withPart s
              ((s.part.setSlice c { s.part.slice c with held := (s.part.slice c).held ++ [r] }).bump
                (aNumSliceCnt (12 + c / 16) (c % 16)) 16 16 1))))))) ∧
    (s.part.alive 1 = true →
      (s.part.now / 10000000 * 10000000 ≤ (s.part.cluster 0).window → 0 < s.part.now / 10000000 →
        exec .balanceWindow s = .next s) ∧
      ((s.part.cluster 0).window < s.part.now / 10000000 * 10000000 ∨ s.part.now < 10000000 → ∃ t e, exec .balanceWindow s = .next t ∧
        t.part.ctl.events = s.part.ctl.events ++ [e] ∧ fld e 0 2 = 267 ∧
        ∀ c, c < 128 → (t.part.cluster c).window = s.part.now / 10000000 * 10000000 ∧ (t.part.cluster c).promptUsed = 0 ∧
          (t.part.cluster c).genBusy = 0 ∧ (t.part.cluster c).genWait = 0 ∧ 1250000 ≤ (t.part.cluster c).share ∧
          ((∀ x ∈ s.part.an.tiles, tileCluster x.1 = c → x.2.wr = none) → (t.part.cluster c).share =
            max 1250000 (10000000 - min 10000000 (((s.part.cluster c).genBusy + ((s.part.cluster c).genWait +
              sumNat (((s.part.slice c).want.filter fun r => r.1.cls == .generation).map fun r =>
                s.part.now / 10000000 * 10000000 - max r.2 (s.part.cluster c).window))) / 64)))))

/-- MVM (R36, R38, R43, R44): the oldest MVM granted for a tile arrives there, with its inputs and with a wake time when its cluster is
clock-gated. One with the bank's epoch waits in the tile's queue while the bank holds or is being given weights, is returned with
BANK_STATE from a bank that is EMPTY or RETIRED, and is asked for again, to wait for the bank's refresh, from one that is EXPIRED (R215; log
entry 175); one with another epoch is returned with STALE_ROLE, unless it came in the very ACD cycle of the operation that changed it:
that is a free value (log entry 163). MVM_START (R35, R36, R38, R94, R103, R104, R106): the first MVM of the queue that may begin leaves it once
the rows are free in the next phase and the governor does not pace: its phase 0 lies at or after now, the end of the rows' use and the
end of the residual and outlier work before it, 16 ns later in a cluster that was gated, and 8 ns after the rows' use by the other bank;
D, gains and offsets are taken then, and a layer MVM takes the tile's outlier rows as its mask. Otherwise nothing changes. Both complete. -/
def Obligations.MvmsQueueAndStart : Prop :=
  ∀ (s : State) (t c : Nat), isTile t = true → s.part.alive (3 + t / 1024) = true → c = tileCluster t →
    (takeFirst (fun r : MvmReq => r.tile == t) (s.part.slice c).granted = none → exec (.mvm t) s = .next s) ∧
    (∀ r rest b, takeFirst (fun r : MvmReq => r.tile == t) (s.part.slice c).granted = some (r, rest) → r.bank < 2 →
      b = s.part.bank (2 * t + r.bank) →
      ((∀ m : Mvm, m.req = r → s.part.sameCycle t m = false) → ∃ u, exec (.mvm t) s = .next u ∧
        (u.part.slice c).granted = rest ∧ u.part.freeTick = s.part.freeTick ∧
        (r.epoch = b.epoch → b.st ≠ .empty → b.st ≠ .retired → b.st ≠ .expired → ∃ m,
          (u.part.tile t).queue = (s.part.tile t).queue ++ [m] ∧ m.req = r ∧ m.kind = .layer ∧ m.half = 0 ∧ m.blocks = 0xFF ∧
          m.due = false ∧ m.wake = s.part.gated c) ∧
        (r.epoch ≠ b.epoch → (r, stStaleRole) ∈ (u.part.slice c).back) ∧
        (r.epoch = b.epoch → b.st = .empty ∨ b.st = .retired → (r, stBankState) ∈ (u.part.slice c).back) ∧
        (r.epoch = b.epoch → b.st = .expired → (r, s.part.now) ∈ (u.part.slice c).want)) ∧
      ((∀ m : Mvm, m.req = r → s.part.sameCycle t m = true) → ∃ u, exec (.mvm t) s = .next u ∧
        (u.part.slice c).granted = rest ∧ u.part.freeTick = s.part.freeTick + 1 ∧
        ((∃ m, (u.part.tile t).queue = (s.part.tile t).queue ++ [m] ∧ m.req = r ∧ m.kind = .layer ∧ m.due = true) ∨
          (r, stStaleRole) ∈ (u.part.slice c).back))) ∧
    (takeFirst (s.part.startable t) (s.part.tile t).queue = none ∨ s.part.pwr.paced = true ∨ s.part.now + 8 ≤ (s.part.tile t).freeAt →
      exec (.mvmStart t) s = .next s) ∧
    (∀ m rest b, takeFirst (s.part.startable t) (s.part.tile t).queue = some (m, rest) → s.part.pwr.paced = false →
      (s.part.tile t).freeAt < s.part.now + 8 → b = s.part.bank (2 * t + m.req.bank) →
      ∃ u x, exec (.mvmStart t) s = .next u ∧ (u.part.tile t).queue = rest ∧ (u.part.tile t).runs = (s.part.tile t).runs ++ [x] ∧
        x.m = (if m.kind = .layer then { m with req := { m.req with mask := b.outRows } } else m) ∧
        x.d = b.d ∧ x.colcorr = b.colcorr ∧ x.band = s.part.tileBand t ∧
        x.driven = x.m.driven (s.part.regFld (aTileCfg (tileDie t) (t % 1024)) 1 1 == 1) ∧
        s.part.now ≤ x.start ∧ (s.part.tile t).freeAt ≤ x.start ∧ (s.part.tile t).residAt ≤ x.start ∧
        (m.wake = true → s.part.now + 16 ≤ x.start) ∧
        (m.half = 0 ∨ x.driven ≠ 0 →
          (0 < (s.part.tile t).freeAt → (s.part.tile t).lastBank ≠ m.req.bank → (s.part.tile t).freeAt + 8 ≤ x.start) ∧
          (u.part.tile t).freeAt = x.start + 8 * x.phases ∧ (u.part.tile t).lastBank = m.req.bank) ∧
        (∀ k, u.part.bank k = s.part.bank k) ∧ ∀ j, j ≠ t → u.part.tile j = s.part.tile j)

/-- MVM_RESULT (R35, R77, R93, R110, R111): with no MVM on its way, or before 24 ns after its last phase, nothing happens; else the oldest
leaves the tile and is counted, and a layer MVM with a clipped column is repeated in two halves ahead of every MVM that waits. TILE_RESULT_ARRIVE
(R135, R137, R138): the oldest tile result on its way to a slice, or the one that the message at the head of its unit carries, is added to
the job's sets, or is discarded and counted once a ladder re-execution has cleared them. SET_DRAIN_END (R136, R139): a complete set is
free and its 64 outputs belong to its job. VECTOR_STAGE (R109, R140, R177, R185, R204): a whole output vector leaves its job and becomes the
requantised input of a layer, an append to a sequence slot, or a vector for attention. LADDER_EXEC_COMPLETE and FALLBACK_COMPLETE
(R105, R112, R114, R138, R171, R172, R392): once the requests have ended whose work needs a shard that is gone, the first ladder re-execution that waits for no shard writes every column of its sets, which may then drain, and no
slice works on it any more; the first MVM that the array runs in place of a tile is done. LOAD_PROBE_FIT (R98): after its last probe
a bank is probed. DIAG_MVM (R479): an MVM of the command waits at the tile with the bank's epoch, or the command ends with the status of
the first check that fails. All eight complete. -/
def Obligations.ResultsReachTheOutputStage : Prop :=
  (∀ (s : State) (t : Nat) (xs : List (List Int)), isTile t = true → s.part.alive (3 + t / 1024) = true →
    ((s.part.tile t).runs = [] → exec (.mvmResult t xs) s = .next s) ∧
    (∀ r rest b, (s.part.tile t).runs = r :: rest → b = s.part.bank (2 * t + r.m.req.bank) →
      (s.part.now < r.start + 8 * r.phases + 24 → exec (.mvmResult t xs) s = .next s) ∧
      (r.start + 8 * r.phases + 24 ≤ s.part.now → ∃ u, exec (.mvmResult t xs) s = .next u ∧
        (u.part.tile t).runs.map MvmRun.m = rest.map MvmRun.m ∧ (u.part.tile t).runs.map MvmRun.start = rest.map MvmRun.start ∧
        (u.part.cluster (tileCluster t)).mvmCount = ((s.part.cluster (tileCluster t)).mvmCount + 1) % 2 ^ 48 ∧
        (r.driven = 0 → u.part.freeTick = s.part.freeTick) ∧
        (r.driven ≠ 0 → r.m.kind = .layer → r.m.half = 0 →
          (∃ j, j < 512 ∧ Codes.clipped (b.codes r s.part.freeTick xs) j = true) →
          (u.part.tile t).queue = halves r.m ++ (s.part.tile t).queue)))) ∧
  (∀ (s : State) (c : Nat), isCluster c = true → s.part.alive (3 + c / 16) = true →
    (∀ f rest, takeFirst (fun f : Flying => f.home == c) s.part.an.flying = some (f, rest) →
      exec (.tileResultArrive c) s = .next (withPart s ({ s.part with an := { s.part.an with flying := rest } }.addResult f))) ∧
    (takeFirst (fun f : Flying => f.home == c) s.part.an.flying = none →
      (s.part.inbox (12 + c / 16) (0xC00 + c % 16) = [] → exec (.tileResultArrive c) s = .next s) ∧
      (∀ a rest, s.part.inbox (12 + c / 16) (0xC00 + c % 16) = a :: rest →
        (a.m.cls ≠ 3 → exec (.tileResultArrive c) s = .next s) ∧
        (a.m.cls = 3 → exec (.tileResultArrive c) s =
          .next (withPart s ((s.part.popInbox (12 + c / 16) (0xC00 + c % 16)).addResult (resultOf c a.m)))))) ∧
    (∀ (f : Flying) j g, s.part.job f.job = some j → g = (nth (0, 0) j.job.homes f.block).2 →
      (j.ladder = true → s.part.addResult f = s.part.bump (aNumSliceCnt (12 + f.home / 16) (f.home % 16)) 32 16 1) ∧
      (j.ladder = false → ∀ i x, i < 8 → (s.part.slice f.home).setOf f.job (g + i) = some x →
        ((s.part.addResult f).slice f.home).setOf f.job (g + i) =
          some (x.add (s.part.chainOf j.job f.block) f.pos ((f.vals.drop (64 * i)).take 64))))) ∧
  (∀ (s : State) (c g : Nat) (y : Bool), isCluster c = true → isColumnGroup g = true → s.part.alive (3 + c / 16) = true →
    (((s.part.slice c).sets.find? fun x => x.group == g && x.y == y && x.drain) = none → exec (.setDrainEnd c g y) s = .next s) ∧
    (∀ x, ((s.part.slice c).sets.find? fun x => x.group == g && x.y == y && x.drain) = some x →
      ∃ u, exec (.setDrainEnd c g y) s = .next u ∧
        (u.part.slice c).sets = (s.part.slice c).sets.filter (fun z => !(z.group == g && z.y == y)) ∧
        ∀ j, s.part.job x.job = some j → ∃ j', u.part.job x.job = some j' ∧ j'.job = j.job ∧
          ∀ i, i < 64 → x.col + i < j.job.outputs → mfind j'.outs (x.col + i) =
            some (toF32 (outputOf (nth 0 x.acc i) (columnStep j.params (x.col + i) x.ladder)
              (ofBf16 (s.part.vect j.job.vec).step) (columnBias j.params (x.col + i)))))) ∧
  (∀ (s : State) (id : Nat) (fns : List VecFn) (dest : Dest),
    (s.part.job id = none → exec (.vectorStage id fns dest) s = .next s) ∧
    (∀ j, s.part.job id = some j → s.part.alive (3 + jobHome j.job 0 / 16) = true →
      (j.whole = false → exec (.vectorStage id fns dest) s = .next s) ∧
      (j.whole = true → ∃ u, exec (.vectorStage id fns dest) s = .next u ∧ u.part.job id = none ∧
        (∀ f v, dest = .cxd f v → (u.part.vect v).raw =
          (s.part.staged j.job.placement fns j.outs).zs.map fun z => if f then toF32 z else toBf16 z) ∧
        (∀ cxd slot epoch position layer head count kind q, dest = .append cxd slot epoch position layer head count kind →
          s.part.nextPort (12 + jobHome j.job 0 / 16) (12 + jobHome j.job 0 / 16) (8 + cxd) = some q →
          ∃ h, u.part.d2d.held = s.part.d2d.held ++ [h] ∧ h.m.dst = 8 + cxd ∧ h.m.cls = 4 ∧ h.m.unit = slot ∧ h.m.epoch = epoch ∧
            h.m.payload = (appendMsg 0 cxd slot epoch position layer head count kind (s.part.kvFormat j.job.placement layer kind).2
              (j.job.step % 65536) (s.part.kvFormat j.job.placement layer kind).1
              (s.part.staged j.job.placement fns j.outs).zs).payload) ∧
        (∀ w st ol v, dest = .layer w st ol v →
          let f := ({ s.part with an := { s.part.an with jobs := s.part.an.jobs.filter fun k => k.job.id != id } } : Machine.Part).inputFormat v w st ol
          let r := requantVector f.1 f.2.1 f.2.2 (s.part.regFld (aTpCtl (12 + jobHome j.job 0 / 16)) 0 1 == 0)
            (stochasticR j.seed j.job.layer j.job.slot j.job.position) (s.part.staged j.job.placement fns j.outs).zs
          (u.part.vect v).codes = r.vec.codes ∧ (u.part.vect v).step = r.vec.step ∧ (u.part.vect v).side = r.vec.side)))) ∧
  (∀ (s : State) (c : Nat) (q : Machine.Part), isCluster c = true → s.part.alive (3 + c / 16) = true → q = s.part.endLostWork c →
    ((∀ w ∈ (s.part.slice c).work, s.part.workLost w = false) → q = s.part) ∧
    (takeFirst (fun w => w.isLadder && !q.workWaits w) (q.slice c).work = none →
      exec (.ladderExecComplete c) s = .next (withPart s q)) ∧
    (∀ id rest, takeFirst (fun w => w.isLadder && !q.workWaits w) (q.slice c).work = some (.ladder id, rest) →
      (q.job id = none → exec (.ladderExecComplete c) s =
        .next (withPart s (q.setSlice c { q.slice c with work := rest }))) ∧
      (∀ r, q.job id = some r →
        (q.bindAll r.job (List.range r.job.homes.length) = none → exec (.ladderExecComplete c) s = .next (withPart s q)) ∧
        (∀ p, q.bindAll r.job (List.range r.job.homes.length) = some p → ∃ u, exec (.ladderExecComplete c) s = .next u ∧
          (∀ e, e = c ∨ e ∈ jobSlices r.job → FbWork.ladder id ∉ (u.part.slice e).work) ∧
          ∀ b h g i, b < r.job.homes.length → nth (0, 0) r.job.homes b = (h, g) → i < 8 → ∃ o,
            (u.part.slice h).setOf id (g + i) = some o ∧ o.drain = true ∧ o.ladder = true ∧
            o.acc = (List.range 64).map fun n => ladderSum s.mem (q.ladderAt r.job) r.job (q.vect r.job.vec) (o.col + n)))) ∧
    (∀ work, work = (q.slice c).work.filter FbWork.isLadder ++ (q.slice c).work.filter (fun w => !w.isLadder) →
      (takeFirst (fun w => !q.workWaits w) work = none → exec (.fallbackComplete c) s = .next (withPart s q)) ∧
      (∀ id rest, takeFirst (fun w => !q.workWaits w) work = some (.ladder id, rest) → exec (.fallbackComplete c) s = .next (withPart s q)) ∧
      (∀ r rest, takeFirst (fun w => !q.workWaits w) work = some (.mvm r, rest) →
        (q.job r.job = none → exec (.fallbackComplete c) s =
          .next (withPart s (q.setSlice c { q.slice c with work := rest }))) ∧
        (∀ j h g, q.job r.job = some j → nth (0, 0) j.job.homes r.block = (h, g) →
          ((q.slice h).bind r.job (512 * r.block) (blockGroups g) = none → exec (.fallbackComplete c) s = .next (withPart s q)) ∧
          (∀ hs, (q.slice h).bind r.job (512 * r.block) (blockGroups g) = some hs →
            ∃ u, exec (.fallbackComplete c) s = .next u ∧ (u.part.slice c).work = rest ∧
              (h ≠ c → h / 16 = c / 16 → ∃ f, u.part.an.flying = q.an.flying ++ [f] ∧ f.home = h ∧ f.job = r.job ∧
                f.block = r.block ∧ f.pos = r.pos)))))) ∧
  (∀ (s : State) (k : Nat), isBank k = true → s.part.alive (3 + k / 2048) = true →
    ((s.part.bank k).probing = false ∨ s.part.probesLeft k = true → exec (.loadProbeFit k) s = .next s) ∧
    ((s.part.bank k).probing = true → s.part.probesLeft k = false → ∃ u, exec (.loadProbeFit k) s = .next u ∧
      (u.part.bank k).probed = true ∧ (u.part.bank k).probing = false ∧ (u.part.bank k).st = (s.part.bank k).st ∧
      (u.part.bank k).d = (s.part.bank k).d ∧ (u.part.bank k).a = (s.part.bank k).a ∧ (u.part.bank k).meas = [])) ∧
  (∀ (s : State) (i t k : Nat) (pk : Bytes), Running s i 0xF4 pk → par pk 1 1 < 2 → t = 1024 * par pk 0 1 + par pk 2 2 →
    k = 2 * t + par pk 1 1 →
    (s.part.tileService t = false ∨ (s.part.tile t).ready = false →
      exec (.diagMvm i) s = .next (withPart s (s.part.finish i stNotReady []))) ∧
    (s.part.tileService t = true → (s.part.tile t).ready = true → (s.part.bank k).st ≠ .shallow → (s.part.bank k).st ≠ .deep →
      exec (.diagMvm i) s = .next (withPart s (s.part.finish i stBadParam []))) ∧
    (s.part.tileService t = true → (s.part.tile t).ready = true → (s.part.bank k).st = .shallow ∨ (s.part.bank k).st = .deep →
      ∃ u m, exec (.diagMvm i) s = .next u ∧ (u.part.tile t).queue = (s.part.tile t).queue ++ [m] ∧
        (u.part.ses i).cur = some pk ∧ m.kind = .diag i ∧ m.half = 0 ∧ m.req.epoch = (s.part.bank k).epoch ∧ m.req.bank = par pk 1 1 ∧
        m.req.cls = .generation))

/-- CAL_CMD and CONV_CAL_CMD (R72, R80, R83, R279): a calibration command is answered LEN_RANGE, BAD_PARAM or BUSY by the first check that it
fails, and OK at once when it asks for no phase; one that asks for phases starts at the next array phase boundary, with the band held there;
written as a register it is discarded with CMD_ERR where a check fails, and a host write of a tile in service is discarded. CAL_COMPLETE
(R80): a command that has run its phases is over, and is answered when a message brought it. CAL_ABORT, CAP_CLEAR, CONV_CFG,
CAPTURE_EMPTY and CONV_QUEUE (R80 to R82, R85 to R88): an abort leaves only the phases begun; clearing and a change of CAP_MODE empty the
capture memory at the next phase boundary; a write of RD_PTR frees the entries that it passes, or is discarded with CMD_ERR when it passes
the count. A command whose condition does not hold changes nothing. All eight complete. -/
def Obligations.CalibrationCommandsRun : Prop :=
  (∀ (s : State) (die unit t : Nat), isTileUnit die unit = true → s.part.alive (dieDomain die) = true →
    t = (die - 12) * 1024 + (unit - 0x800) →
    (s.part.headCmd die unit 0xB0 = none → exec (.calCmd die unit) s = .next s) ∧
    (∀ m w, s.part.headCmd die unit 0xB0 = some m → w = par m.payload 0 8 →
      (∀ st, calFail w (s.part.tile t).calBusy = some st →
        exec (.calCmd die unit) s = .next (withPart s ((s.part.popInbox die unit).answer die m 0 st []))) ∧
      (calFail w (s.part.tile t).calBusy = none → calRepeat w = 0 →
        exec (.calCmd die unit) s = .next (withPart s ((s.part.popInbox die unit).answer die m 0 stOk []))) ∧
      (calFail w (s.part.tile t).calBusy = none → 0 < calRepeat w → ∃ u x, exec (.calCmd die unit) s = .next u ∧
        (u.part.tile t).cal = some x ∧ x.word = w ∧ x.msg = some m ∧ x.start = (s.part.now / 8 + 1) * 8 ∧
        x.band = s.part.tileBand t ∧ x.phases = calRepeat w ∧ u.part.inbox die unit = (s.part.inbox die unit).drop 1 ∧
        ∀ j, j ≠ t → u.part.tile j = s.part.tile j))) ∧
  (∀ (s : State) (t : Nat) (b : Accessor) (w : Nat), isTile t = true → s.part.alive (3 + t / 1024) = true →
    (b = .host → s.part.tileService t = true → exec (.convCalCmd b t w) s = .next s ∧ exec (.calAbort b t) s = .next s ∧
      exec (.capClear b t) s = .next s ∧ exec (.convCfg b t w) s = .next s ∧ exec (.convQueue b t w) s = .next s) ∧
    (b ≠ .host ∨ s.part.tileService t = false →
      (∀ st, calFail w (s.part.tile t).calBusy = some st → ∃ u, exec (.convCalCmd b t w) s = .next u ∧
        u.part.regFld (convStatusAddr t) 1 1 = 1 ∧ u.part.an = s.part.an) ∧
      (calFail w (s.part.tile t).calBusy = none → calRepeat w = 0 → exec (.convCalCmd b t w) s = .next s) ∧
      (calFail w (s.part.tile t).calBusy = none → 0 < calRepeat w → ∃ u x, exec (.convCalCmd b t w) s = .next u ∧
        (u.part.tile t).cal = some x ∧ x.word = w ∧ x.msg = none ∧ x.start = (s.part.now / 8 + 1) * 8 ∧ x.phases = calRepeat w) ∧
      ((s.part.tile t).cal = none → exec (.calAbort b t) s = .next s) ∧
      (∀ c, (s.part.tile t).cal = some c → ∃ u x, exec (.calAbort b t) s = .next u ∧ (u.part.tile t).cal = some x ∧
        (s.part.now < c.start → x.phases = 0) ∧
        (c.start ≤ s.part.now → x.phases = min c.phases ((s.part.now - c.start) / 8 + 1)) ∧
        x.drops = c.drops.filter (fun j => decide (j < x.phases)) ∧ x.start = c.start ∧ x.word = c.word ∧ x.counted = c.counted ∧
        u.part.regs = s.part.regs) ∧
      (∃ u, exec (.capClear b t) s = .next u ∧ (u.part.tile t).cap.emptyAt = some ((s.part.now / 8 + 1) * 8) ∧
        (u.part.tile t).cap.ring = (s.part.tile t).cap.ring ∧ (u.part.tile t).cap.acc = (s.part.tile t).cap.acc) ∧
      (∃ u, exec (.convCfg b t w) s = .next u ∧ u.part.regGet (convCfgAddr t) = BitVec.ofNat 64 (w % 2 ^ 15) ∧
        (s.part.regFld (convCfgAddr t) 0 2 = w % 4 → u.part.tile t = s.part.tile t) ∧
        (s.part.regFld (convCfgAddr t) 0 2 ≠ w % 4 → (u.part.tile t).cap.emptyAt = some ((s.part.now / 8 + 1) * 8))) ∧
      ((w % 512 + 512 - (s.part.tile t).cap.rd) % 512 ≤ (s.part.tile t).cap.count →
        ∃ u, exec (.convQueue b t w) s = .next u ∧ (u.part.tile t).cap.rd = w % 512 ∧
          (u.part.tile t).cap.count = (s.part.tile t).cap.count - (w % 512 + 512 - (s.part.tile t).cap.rd) % 512 ∧
          (u.part.tile t).cap.ring = (s.part.tile t).cap.ring) ∧
      ((s.part.tile t).cap.count < (w % 512 + 512 - (s.part.tile t).cap.rd) % 512 →
        ∃ u, exec (.convQueue b t w) s = .next u ∧ u.part.tile t = s.part.tile t ∧
          u.part.regFld (convStatusAddr t) 1 1 = 1)) ∧
    ((s.part.tile t).cap.emptyAt = none → exec (.captureEmpty t) s = .next s) ∧
    (∀ a, (s.part.tile t).cap.emptyAt = some a →
      (s.part.now < a → exec (.captureEmpty t) s = .next s) ∧
      (a ≤ s.part.now → ∃ u, exec (.captureEmpty t) s = .next u ∧
        (u.part.tile t).cap.count = 0 ∧ (u.part.tile t).cap.ring = [] ∧ (u.part.tile t).cap.acc = [] ∧ (u.part.tile t).cap.since = a ∧
        (u.part.tile t).cap.emptyAt = none ∧ (u.part.tile t).cap.mode = capMode (s.part.regFld (convCfgAddr t) 0 2))) ∧
    (∀ devs, ((s.part.tile t).cal = none → exec (.calComplete t devs) s = .next s) ∧
      (∀ c, (s.part.tile t).cal = some c →
        (s.part.now < c.start + 8 * c.phases → exec (.calComplete t devs) s = .next s) ∧
        (c.start + 8 * c.phases ≤ s.part.now → ∃ u, exec (.calComplete t devs) s = .next u ∧
          u.part.freeTick = s.part.freeTick + 260 * c.phases ∧
          ((c.msg ≠ none ∨ s.part.checkOn t = none) → (u.part.tile t).cal = none) ∧
          (∀ x, (u.part.tile t).cal = some x → x.msg = none ∧ x.start = (s.part.now / 8 + 1) * 8)))))

/-- ANNEAL_DUE (R117, R118, R120): in a cluster in service what has fallen due for a bank is marked, a refresh that may
go is sent, and no other bank changes; out of service nothing changes. ANNEAL_TASK (R116, R117, R120): without a message at the anneal unit's head, while the
unit is busy, while request work claims the tile, while a command runs on the tile of a check, and while the rows of a probe are not
verified, nothing happens; else a column check starts its first command, a deep probe of a DEEP bank queues eight probe MVMs, and a deep probe of
another bank is answered BANK_STATE. COLUMN_CHECK_COMPLETE (R84, R116): a check whose five commands are done frees the unit, and a
converter fault takes the tile out of service. CAL_ROUND_START and CAL_ROUND_COMPLETE (R389, R391): a round starts when both of its clusters
are at 95 °C or below and otherwise waits; one that ends well brings both clusters into service, and one that fails leaves them out with calibration
done. SEED_SET (R109, R277): the seed, or a free value with ENTROPY, is held for all eight ACDs for the next step and the command completes.
All six complete. -/
def Obligations.AnnealAndCalibrationRounds : Prop :=
  (∀ (s : State) (k : Nat), isBank k = true → s.part.alive (3 + k / 2048) = true →
    ((s.part.cluster (tileCluster (k / 2))).service = false → exec (.annealDue k) s = .next s) ∧
    ((s.part.cluster (tileCluster (k / 2))).service = true → s.part.ownerVer (s.part.bank k) = none →
      ∃ u, exec (.annealDue k) s = .next u ∧
        u.part.bank k = { s.part.bank k with
          checkDue := (s.part.bank k).checkDue || s.part.checkDueNow k, probeDue := (s.part.bank k).probeDue || s.part.probeDueNow k,
          refreshDue := (s.part.bank k).refreshDue || (s.part.bank k).refreshDueNow } ∧
        ∀ j, j ≠ k → u.part.bank j = s.part.bank j) ∧
    (∀ v, (s.part.cluster (tileCluster (k / 2))).service = true → s.part.ownerVer (s.part.bank k) = some v →
      ∃ u, exec (.annealDue k) s = .next u ∧ (u.part.bank k).st = (s.part.bank k).st ∧
        (u.part.bank k).epoch = (s.part.bank k).epoch ∧ (u.part.bank k).cells = (s.part.bank k).cells ∧
        (u.part.bank k).checkDue = ((s.part.bank k).checkDue || s.part.checkDueNow k) ∧
        (∀ j, j ≠ k → u.part.bank j = s.part.bank j) ∧
        ((u.part.bank k).refreshDue = true ∨ (s.part.bank k).refreshDueNow = false ∨
          ∃ c ∈ u.part.d2d.outstanding, c.opcode = 0xA1)) ∧
    (∀ probe, s.part.headCmd (12 + k / 2048) 0xC10 0xB8 = none → exec (.annealTask k probe) s = .next s) ∧
    (∀ m a, s.part.headCmd (12 + k / 2048) 0xC10 0xB8 = some m → a = s.part.acd (k / 2048) →
      (∀ probe, a.anneal ≠ none ∨ s.part.tileIdle (k / 2) = false → exec (.annealTask k probe) s = .next s) ∧
      ((s.part.tile (k / 2)).cal ≠ none → exec (.annealTask k false) s = .next s) ∧
      (s.part.rowsWait k = true ∨ s.part.rowsLost k = true → exec (.annealTask k true) s = .next s) ∧
      (a.anneal = none → s.part.tileIdle (k / 2) = true → (s.part.tile (k / 2)).cal = none →
        ∃ u x y, exec (.annealTask k false) s = .next u ∧ (u.part.acd (k / 2048)).anneal = some x ∧ x.bank = k ∧ x.msg = m ∧
          x.probe = false ∧ x.words = [] ∧ (u.part.tile (k / 2)).cal = some y ∧ y.phases = 64 ∧ calDac y.word = 300 ∧
          y.start = (s.part.now / 8 + 1) * 8 ∧ (u.part.bank k).checkDue = false ∧ (u.part.bank k).lastCheck = s.part.now ∧
          ∀ j, j ≠ k → u.part.bank j = s.part.bank j) ∧
      (a.anneal = none → s.part.tileIdle (k / 2) = true → s.part.rowsWait k = false → s.part.rowsLost k = false →
        ((s.part.bank k).st ≠ .deep → exec (.annealTask k true) s =
          .next (withPart s ((s.part.popInbox (12 + k / 2048) 0xC10).answer (12 + k / 2048) m 0 stBankState []))) ∧
        ((s.part.bank k).st = .deep → ∃ u x l, exec (.annealTask k true) s = .next u ∧ (u.part.acd (k / 2048)).anneal = some x ∧
          x.probe = true ∧ x.bank = k ∧ x.msg = m ∧ (u.part.tile (k / 2)).queue = (s.part.tile (k / 2)).queue ++ l ∧
          l.map Mvm.kind = (List.range 8).map MvmKind.probe ∧ (u.part.bank k).probing = true ∧ (u.part.bank k).probeDue = false ∧
          ∀ j, j ≠ k → u.part.bank j = s.part.bank j)))) ∧
  (∀ (s : State) (a : Nat) (l : List ColMeas), isAcd a = true → s.part.alive (3 + a) = true →
    ((s.part.acd a).anneal = none → exec (.columnCheckComplete a l) s = .next s) ∧
    (∀ r, (s.part.acd a).anneal = some r →
      (r.probe = true ∨ r.words.length < 5 → exec (.columnCheckComplete a l) s = .next s) ∧
      (r.probe = false → 5 ≤ r.words.length → ∃ u, exec (.columnCheckComplete a l) s = .next u ∧ (u.part.acd a).anneal = none ∧
        (converterFault r.words = true →
          (u.part.tile (r.bank / 2)).ready = false ∧ (u.part.tile (r.bank / 2)).convFault = true) ∧
        ∀ k, k / 2 ≠ r.bank / 2 → u.part.bank k = s.part.bank k))) ∧
  (∀ (s : State) (a : Nat), isAcd a = true → s.part.alive (3 + a) = true →
    ((s.part.acd a).mapAt = none ∨ (s.part.acd a).calActive = true ∨ 8 ≤ (s.part.acd a).calRound ∨ s.part.boot.stage < 2 →
      exec (.calRoundStart a) s = .next s) ∧
    ((s.part.acd a).mapAt ≠ none → (s.part.acd a).calActive = false → (s.part.acd a).calRound < 8 → 2 ≤ s.part.boot.stage →
      ∃ u, exec (.calRoundStart a) s = .next u ∧
        (s.part.hotPair a (s.part.acd a).calRound = false → (u.part.acd a).calActive = true ∧ (u.part.acd a).calWaiting = false) ∧
        (s.part.hotPair a (s.part.acd a).calRound = true → (u.part.acd a).calActive = false ∧ (u.part.acd a).calWaiting = true) ∧
        (u.part.acd a).calRound = (s.part.acd a).calRound ∧ ∀ b, b ≠ a → u.part.acd b = s.part.acd b) ∧
    (∀ fail l, (s.part.acd a).calActive = false → exec (.calRoundComplete a fail l) s = .next s) ∧
    (∀ l c, (s.part.acd a).calActive = true → c = 16 * a + 2 * (s.part.acd a).calRound →
      (∃ u, exec (.calRoundComplete a false l) s = .next u ∧ (u.part.acd a).calRound = (s.part.acd a).calRound + 1 ∧
        (u.part.acd a).calActive = false ∧ (u.part.cluster c).service = true ∧ (u.part.cluster (c + 1)).service = true ∧
        (u.part.cluster c).calDone = true ∧ (u.part.cluster (c + 1)).calDone = true) ∧
      (∃ u, exec (.calRoundComplete a true l) s = .next u ∧ (u.part.acd a).calRound = (s.part.acd a).calRound + 1 ∧
        (u.part.acd a).calActive = false ∧
        u.part.cluster c = { s.part.cluster c with calDone := true, calFailed := true } ∧
        u.part.cluster (c + 1) = { s.part.cluster (c + 1) with calDone := true, calFailed := true } ∧
        u.part.an.banks = s.part.an.banks))) ∧
  (∀ (s : State) (i : Nat) (k : Bytes), Running s i 0x07 k →
    ∃ u, exec (.seedSet i) s = .next u ∧ (u.part.ses i).cur = none ∧
      ((par k 8 1).testBit 0 = false → u.part.freeTick = s.part.freeTick ∧
        ∀ a, a < 8 → (u.part.acd a).nextSeed = BitVec.ofNat 64 (par k 0 8) ∧ (u.part.acd a).seed = (s.part.acd a).seed) ∧
      ((par k 8 1).testBit 0 = true → u.part.freeTick = s.part.freeTick + 1 ∧
        ∀ a, a < 8 → (u.part.acd a).nextSeed = Config.freeValue s.part.freeTick ∧ (u.part.acd a).seed = (s.part.acd a).seed))

/-- LOAD (R164, R268, R270, R271): while the source table of the session's load is being read, nothing more happens; with SRC_ADDR the
table is asked for from host memory and no version is made yet; a load that a check refuses ends with that status; one that is
accepted makes a LOADING version with the fields of its command and the shards that SHARD_COUNT asks for, whose shards wait for
engines in their order where this part takes the ingots from a source, and the command runs on. UNLOAD, SET_CURRENT and MODEL_QUERY (R166, R168,
R272): what each answers for a version that is absent, loading, retiring, unavailable or available. DEEP_ORPHAN_TIMEOUT (R169): once,
60 s after bring-up, the DEEP banks without an owner present are erased; before that, and again, it changes nothing. All five complete. -/
def Obligations.VersionsAreLoadedAndRetired : Prop :=
  (∀ (s : State) (i : Nat) (k : Bytes), Running s i 0x20 k →
    ((∃ r ∈ s.part.host.reads, r.kind = 6 ∧ r.sess = i) → exec (.load i) s = .next s) ∧
    ((∀ r ∈ s.part.host.reads, ¬(r.kind = 6 ∧ r.sess = i)) →
      (loadSources s.part.fabCfg.partId k = true → par k 24 8 ≠ 0 → ∃ u r, exec (.load i) s = .next u ∧
        u.part.host.reads = s.part.host.reads ++ [r] ∧
        u = withPart s { s.part with host := { s.part.host with reads := s.part.host.reads ++ [r] } } ∧ r.kind = 6 ∧ r.sess = i ∧ r.addr = par k 24 8 ∧ r.len = 32 * par k 8 2) ∧
      (loadSources s.part.fabCfg.partId k = false ∨ par k 24 8 = 0 → ∀ table,
        table = k.drop (80 + 16 * cdiv (2 * par k 10 1) 16) →
        (∀ st, s.part.loadFail (s.part.ses i).feat0 k table = some st →
          exec (.load i) s = .next (withPart s (s.part.finish i st []))) ∧
        (s.part.loadFail (s.part.ses i).feat0 k table = none → ∀ e, ((List.range 8192).find? fun e => (s.part.ver e).isNone) = some e →
          ∃ u v, exec (.load i) s = .next u ∧ u.part.ver e = some v ∧ v.st = .loading ∧ v.model = par k 0 4 ∧
            v.version = par k 4 2 ∧ v.count = par k 8 2 ∧ v.shards.map Prod.fst = List.range (par k 8 2) ∧
            (∀ x ∈ v.shards, x.2.st = .waiting ∧ x.2.held = false) ∧ v.pins = 0 ∧ v.current = false ∧
            v.mode = par k 6 2 / 4 % 4 ∧ v.timeoutMs = par k 16 4 ∧ (u.part.ses i).cur = none ∧
            (∃ a ∈ (u.part.ses i).running, a.op = 0x20 ∧ a.key = e) ∧
            u.part.models.queue = s.part.models.queue ++
              (if loadSources s.part.fabCfg.partId k then (List.range (par k 8 2)).map (fun j => (e, j)) else []) ∧
            ∀ x, x ≠ e → u.part.ver x = s.part.ver x)))) ∧
  (∀ (s : State) (i : Nat) (k : Bytes), Running s i 0x21 k →
    (s.part.entryOf (par k 0 4) (par k 4 2) = none →
      exec (.unload i) s = .next (withPart s (s.part.finish i stBadParam []))) ∧
    (∀ e v, s.part.entryOf (par k 0 4) (par k 4 2) = some e → s.part.ver e = some v →
      (v.st = .loading → exec (.unload i) s = .next (withPart s (s.part.finish i stBusy []))) ∧
      (v.st = .retiring → exec (.unload i) s = .next (withPart s (s.part.finish i stAlreadyDone []))) ∧
      (v.st = .unavailable → v.pins ≠ 0 → exec (.unload i) s = .next (withPart s (s.part.finish i stBusy []))) ∧
      (v.st = .unavailable → v.pins = 0 →
        exec (.unload i) s = .next (withPart s ((s.part.retireFree e).finish i stOk []))) ∧
      (v.st = .available → s.part.baseProtected e = true →
        exec (.unload i) s = .next (withPart s (s.part.finish i stBadParam []))) ∧
      (v.st = .available → s.part.baseProtected e = false → exec (.unload i) s =
        .next (withPart s (((s.part.modVer e fun x => { x with current := false }).retire e).finish i stOk []))))) ∧
  (∀ (s : State) (i : Nat) (k : Bytes), Running s i 0x22 k →
    (s.part.entryOf (par k 0 4) (par k 4 2) = none →
      exec (.setCurrent i) s = .next (withPart s (s.part.finish i stBadParam []))) ∧
    (∀ e v, s.part.entryOf (par k 0 4) (par k 4 2) = some e → s.part.ver e = some v →
      (v.st ≠ .available → exec (.setCurrent i) s = .next (withPart s (s.part.finish i stModelUnavailable []))) ∧
      (v.st = .available → v.current = false → s.part.switchBlocked e v.model ((par k 6 1).testBit 0) = true →
        exec (.setCurrent i) s = .next (withPart s (s.part.finish i stBadParam []))) ∧
      (v.st = .available → v.current = true ∨ s.part.switchBlocked e v.model ((par k 6 1).testBit 0) = false →
        exec (.setCurrent i) s = .next (withPart s ((s.part.makeCurrent e ((par k 6 1).testBit 0)).finish i stOk []))))) ∧
  (∀ (s : State) (i : Nat) (k : Bytes), Running s i 0x23 k →
    (s.part.entryOf (par k 0 4) (par k 4 2) = none →
      exec (.modelQuery i) s = .next (withPart s (s.part.finish i stBadParam []))) ∧
    (∀ e, s.part.entryOf (par k 0 4) (par k 4 2) = some e → exec (.modelQuery i) s = .next (withPart s
      (s.part.finish i stOk ((List.range 4).flatMap fun n => wordBytes (s.part.modelEnt e n)))))) ∧
  (∀ s : State, s.part.alive 1 = true →
    (s.part.boot.stage ≠ 4 ∨ s.part.models.orphansDone = true ∨ s.part.now < s.part.boot.fullAt + 60000000000 →
      exec .deepOrphanTimeout s = .next s) ∧
    (s.part.boot.stage = 4 → s.part.models.orphansDone = false → s.part.boot.fullAt + 60000000000 ≤ s.part.now →
      exec .deepOrphanTimeout s = .next (withPart s
        ((s.part.an.banks.filter fun b => b.2.st == .deep && (s.part.entryOf b.2.model b.2.version).isNone).foldl
          (fun q b => q.bankCommand 0xA3 b.1) { s.part with models := { s.part.models with orphansDone := true } }))))

/-- STAGE_SHARD (R155, R409): the shard at the head of the arrival order takes the lowest free engine and stack space, or goes on waiting
where engine or space is missing; while domain 19 sleeps and shards wait, CTL wakes it. FETCH_TIMEOUT (R152, R160): a piece that has not come
within the load's fetch timeout ends the attempt with cause FETCH, and earlier nothing happens. SHARD_CHECKS_DONE (R150, R151): a shard
whose bytes have all come lies in the stacks at its base, VERIFIED and its engine free, with no other byte changed, or enters the
failure chain with the cause of the first check that it fails. SCRUB_DUE (R157, R408, R409): a held, verified shard whose scrub falls due, or a
grammar, waits for an engine or is scrubbed at once. SCRUB_SHARD: a scrub takes an engine of the shard's WSD and restarts its interval; a
grammar's scrub takes none (log entry 41). SCRUB_COMPLETE (R158, R222): a scrub that reads what was stored passes; any other sends
the shard into the failure chain with cause SCRUB, and makes a grammar unusable. All six complete. -/
def Obligations.ShardsAreStagedAndScrubbed : Prop :=
  (∀ (s : State) (e sh base : Nat), isShard e sh = true → s.part.alive 1 = true →
    (s.part.alive 19 = false →
      (s.part.models.queue = [] → exec (.stageShard e sh base) s = .next s) ∧
      (s.part.models.queue ≠ [] → exec (.stageShard e sh base) s = .next (withPart s (s.part.requestWake 19)))) ∧
    (s.part.alive 19 = true →
      (s.part.models.queue.head? ≠ some (e, sh) ∨ s.part.stageHead e sh base = none → exec (.stageShard e sh base) s = .next s) ∧
      (∀ q, s.part.models.queue.head? = some (e, sh) → s.part.stageHead e sh base = some q →
        exec (.stageShard e sh base) s = .next (withPart s q) ∧ q.models.queue = s.part.models.queue.drop 1 ∧
        ∃ n y, (s.part.freeSpace e sh).arrivalEngine = some n ∧ q.shard e sh = some y ∧ y.st = .staging ∧ y.engine = n ∧ y.base = base ∧
          y.held = true ∧ y.got = [] ∧ y.whole = false))) ∧
  (∀ (s : State) (e sh : Nat) (l : List Nat), isShard e sh = true → s.part.alive 1 = true →
    (s.part.shard e sh = none → exec (.fetchTimeout e sh l) s = .next s) ∧
    (∀ v x, s.part.ver e = some v → s.part.shard e sh = some x →
      (s.part.now ≤ x.askedAt + v.timeout ∨ x.st = .verified ∨ x.st = .failed ∨ (x.st = .staging ∧ x.whole = true) ∨
        (x.st = .waiting ∧ (v.mode = 0 ∨ (e, sh) ∈ s.part.models.queue)) → exec (.fetchTimeout e sh l) s = .next s) ∧
      (x.askedAt + v.timeout < s.part.now →
        (x.st = .staging → x.whole = false → x.kind ≠ 0 →
          exec (.fetchTimeout e sh l) s = .next (withPart s (s.part.shardFail e sh causeFetch l))) ∧
        (x.st = .staging → x.whole = false → x.kind = 0 → exec (.fetchTimeout e sh l) s = .next (withPart s
          ((s.part.bump (aNvmeConn (nvmeDie (fld x.src 1 1)) (fld x.src 1 1)) 16 16 1).shardFail e sh causeFetch l))) ∧
        (x.st = .waiting → v.mode ≠ 0 → (e, sh) ∉ s.part.models.queue →
          exec (.fetchTimeout e sh l) s = .next (withPart s (s.part.shardFail e sh causeFetch l)))))) ∧
  (∀ (s : State) (e sh : Nat) (g : Option Graph) (l : List Nat), isShard e sh = true → s.part.alive 19 = true →
    (s.part.shard e sh = none → exec (.shardChecksDone e sh g l) s = .next s) ∧
    (∀ v x, s.part.ver e = some v → s.part.shard e sh = some x →
      (x.st ≠ .staging ∨ x.whole = false → exec (.shardChecksDone e sh g l) s = .next s) ∧
      (x.st = .staging → x.whole = true →
        (∀ c, ingotCheck v sh (mfind s.part.sec.keys (fld x.got 28 4)) x.got = .inr c →
          exec (.shardChecksDone e sh g l) s = .next (withPart s (s.part.shardFail e sh c l))) ∧
        (∀ b, ingotCheck v sh (mfind s.part.sec.keys (fld x.got 28 4)) x.got = .inl b → ∃ u, exec (.shardChecksDone e sh g l) s = .next u ∧
          u.mem = memWriteN s.mem x.base b ∧ u.kvmem = s.kvmem ∧ memReadN u.mem x.base b.length = b ∧
          ∀ a, a < x.base ∨ x.base + b.length ≤ a → memRead u.mem a = memRead s.mem a)))) ∧
  (∀ (s : State) (e sh : Nat), isShard e sh = true → s.part.alive 1 = true →
    (s.part.alive 19 = false →
      (s.part.scrubNear e sh = false → exec (.scrubDue e sh) s = .next s) ∧
      (s.part.scrubNear e sh = true → exec (.scrubDue e sh) s = .next (withPart s (s.part.requestWake 19)))) ∧
    (s.part.alive 19 = true → (e, sh) ∈ s.part.models.scrubQueue → exec (.scrubDue e sh) s = .next s) ∧
    (s.part.alive 19 = true → e < 8192 → s.part.shard e sh = none → exec (.scrubDue e sh) s = .next s) ∧
    (∀ x, s.part.alive 19 = true → e < 8192 → s.part.shard e sh = some x → (e, sh) ∉ s.part.models.scrubQueue →
      (x.st ≠ .verified ∨ x.held = false ∨ x.scrubbing = true → exec (.scrubDue e sh) s = .next s) ∧
      (s.part.pwr.maint = false → s.part.now < x.scrubAt + 890000000000 → exec (.scrubDue e sh) s = .next s) ∧
      (x.st = .verified → x.held = true → x.scrubbing = false → x.scrubAt + 890000000000 ≤ s.part.now →
        (s.part.engineOf (s.part.scrubWsd e sh) = none → exec (.scrubDue e sh) s = .next (withPart s
          { s.part with models := { s.part.models with scrubQueue := s.part.models.scrubQueue ++ [(e, sh)] } })) ∧
        (∀ n, s.part.engineOf (s.part.scrubWsd e sh) = some n → ∃ u y, exec (.scrubDue e sh) s = .next u ∧
          u.part.shard e sh = some y ∧ y = { x with scrubbing := true, engine := n, scrubAt := s.part.now } ∧
          u.part.models.scrubQueue = s.part.models.scrubQueue.filter (fun z => z != (e, sh))))) ∧
    (∀ g, s.part.alive 19 = true → 8192 ≤ e → g = s.part.gram (e - 8192) → (e, sh) ∉ s.part.models.scrubQueue →
      (g.st ≠ 2 → exec (.scrubDue e sh) s = .next s) ∧
      (s.part.pwr.maint = false → s.part.now < g.scrubAt + 890000000000 → exec (.scrubDue e sh) s = .next s) ∧
      (g.st = 2 → g.scrubbing = false → g.scrubAt + 890000000000 ≤ s.part.now → ∃ u, exec (.scrubDue e sh) s = .next u ∧
        u.part.gram (e - 8192) = { g with scrubbing := true, scrubAt := s.part.now }))) ∧
  (∀ (s : State) (e sh : Nat), isShard e sh = true → s.part.alive 19 = true →
    (e < 8192 → s.part.shard e sh = none ∨ s.part.engineOf (s.part.scrubWsd e sh) = none →
      exec (.scrubShard e sh) s = .next s) ∧
    (∀ x n, e < 8192 → s.part.shard e sh = some x → s.part.engineOf (s.part.scrubWsd e sh) = some n →
      (x.st ≠ .verified ∨ x.held = false ∨ x.scrubbing = true → exec (.scrubShard e sh) s = .next s) ∧
      (x.st = .verified → x.held = true → x.scrubbing = false → ∃ u, exec (.scrubShard e sh) s = .next u ∧
        u.part.shard e sh = some { x with scrubbing := true, engine := n, scrubAt := s.part.now } ∧ n / 48 = s.part.scrubWsd e sh ∧
        (e, sh) ∉ u.part.models.scrubQueue ∧ u.mem = s.mem)) ∧
    (8192 ≤ e →
      ((s.part.gram (e - 8192)).st ≠ 2 ∨ (s.part.gram (e - 8192)).scrubbing = true → exec (.scrubShard e sh) s = .next s) ∧
      ((s.part.gram (e - 8192)).st = 2 → (s.part.gram (e - 8192)).scrubbing = false → ∃ u, exec (.scrubShard e sh) s = .next u ∧
        u.part.gram (e - 8192) = { s.part.gram (e - 8192) with scrubbing := true, scrubAt := s.part.now } ∧
        (e, sh) ∉ u.part.models.scrubQueue ∧ u.part.models.table = s.part.models.table))) ∧
  (∀ (s : State) (e sh : Nat) (bad : Bool) (l : List Nat), isShard e sh = true → s.part.alive 19 = true →
    (e < 8192 → s.part.shard e sh = none → exec (.scrubComplete e sh bad l) s = .next s) ∧
    (∀ x, e < 8192 → s.part.shard e sh = some x →
      (x.scrubbing = false → exec (.scrubComplete e sh bad l) s = .next s) ∧
      (x.scrubbing = true →
        (bad = false → sha (memReadN s.mem x.base x.payload) = bytesAt x.header 128 64 →
          ∃ u, exec (.scrubComplete e sh bad l) s = .next u ∧
            u.part.shard e sh = some { x with scrubbing := false, engine := 96, passAt := x.scrubAt } ∧ u.mem = s.mem) ∧
        (bad = true ∨ sha (memReadN s.mem x.base x.payload) ≠ bytesAt x.header 128 64 → exec (.scrubComplete e sh bad l) s =
          .next (withPart s (((s.part.modShard e sh fun y => { y with scrubbing := false, engine := 96 }).bump
            (aScrubStatus (2 + x.engine / 48)) 32 16 1).shardFail e sh causeScrub l))))) ∧
    (8192 ≤ e →
      ((s.part.gram (e - 8192)).scrubbing = false → exec (.scrubComplete e sh bad l) s = .next s) ∧
      ((s.part.gram (e - 8192)).scrubbing = true → exec (.scrubComplete e sh bad l) s = .next (withPart s
        (s.part.setGram (e - 8192) { s.part.gram (e - 8192) with scrubbing := false, st := if bad = true then 3 else 2 })))))

/-- PIPELINE_CHUNK (R155, R159, R160): the first message of the pipeline that can be dealt with is taken: a chunk of a shard on an
engine is taken in at its offset, one of a shard that is not taken here is discarded; a part that asks for a shard is served; an acceptance lets the
chunks go that waited. PIPELINE_WAIT_TIMEOUT (R160): a downstream part that has not accepted in time is skipped. BROADCAST_SHARD (R161): a piece of
a broadcast is taken in by a part with a BROADCAST load of that version from that root and discarded by any other. SHARD_STAGE_START
(R155, R163): the shard at the head starts where engine and space are free, waits for an engine or a copy on its way, and fails with
cause SPACE where nothing can be demoted. TIER_COPY_COMPLETE (R162): a copy that is written completely frees its
stack space. TIER_READBACK_COMPLETE (R162): a copy is asked for; once it is back, a good one lies in the stacks at its new base with no other byte
changed, and one that is not good enters the failure chain with cause TIER. While domain 19 sleeps, such work wakes it (R409). All six complete. -/
def Obligations.IngotsAndTierCopiesTravel : Prop :=
  (∀ (s : State) (base : Nat) (p : Machine.Part), p = s.part.joinQueue → s.part.alive 1 = true →
    (s.part.alive 19 = false →
      (s.part.fab.inbox.any (s.part.pipelineMsg base) = false → exec (.pipelineChunk base) s = .next s) ∧
      (s.part.fab.inbox.any (s.part.pipelineMsg base) = true →
        exec (.pipelineChunk base) s = .next (withPart s (s.part.requestWake 19)))) ∧
    (s.part.alive 19 = true →
      (p.takeMsg (p.pipelineMsg base) = none → exec (.pipelineChunk base) s = .next (withPart s p)) ∧
      (∀ x m v sh off last d q, p.takeMsg (p.pipelineMsg base) = some ((x, .chunk m v sh off last d), q) →
        (q.entryOf m v = none → exec (.pipelineChunk base) s = .next (withPart s q)) ∧
        (∀ e y, q.entryOf m v = some e → q.shard e sh = some y → y.st = .staging → (q.ver e).isSome = true →
          (off = y.got.length → exec (.pipelineChunk base) s = .next (withPart s (q.gotBytes e sh d last))) ∧
          (off ≠ y.got.length → exec (.pipelineChunk base) s = .next (withPart s q))) ∧
        (∀ e y, q.entryOf m v = some e → q.shard e sh = some y → y.st = .verified ∨ y.st = .failed →
          exec (.pipelineChunk base) s = .next (withPart s q)) ∧
        (∀ e y, q.entryOf m v = some e → q.shard e sh = some y → y.st = .waiting → off = 0 → (q.ver e).isSome = true →
          ∀ r, q.stageAt e sh base (if d.length < 28 then y.need else min (fld d 24 4) (2 ^ 28)) = some r →
            exec (.pipelineChunk base) s = .next (withPart s
              ({ r with models := { r.models with queue := r.models.queue.filter fun z => z != (e, sh) } }.gotBytes e sh d last)))) ∧
      (∀ x m v sh q, p.takeMsg (p.pipelineMsg base) = some ((x, .shardAsk m v sh), q) →
        (q.entryOf m v = none → exec (.pipelineChunk base) s = .next (withPart s q)) ∧
        (∀ e, q.entryOf m v = some e → exec (.pipelineChunk base) s = .next (withPart s (q.serveShard s.mem x e sh)))) ∧
      (∀ x m v q, p.takeMsg (p.pipelineMsg base) = some ((x, .accepted m v), q) →
        ∀ e, q.entryOf m v = some e → exec (.pipelineChunk base) s = .next (withPart s (q.acceptedBy s.mem x e))))) ∧
  (∀ (s : State) (e : Nat), isVersion e = true → s.part.alive 1 = true →
    (s.part.ver e = none → exec (.pipelineWaitTimeout e) s = .next s) ∧
    (∀ v, s.part.ver e = some v →
      (v.downstream = none ∨ v.downOk = true ∨ s.part.now < v.downSince + v.timeout → exec (.pipelineWaitTimeout e) s = .next s) ∧
      (∀ d, v.downstream = some d → v.downOk = false → v.downSince + v.timeout ≤ s.part.now →
        ∃ u w, exec (.pipelineWaitTimeout e) s = .next u ∧ u.part.ver e = some w ∧ w.down = v.down + 1 ∧ w.downOk = false ∧
          w.downSince = s.part.now ∧ (w.downstream.isSome = true → w.fwd = v.fwd) ∧ (w.downstream = none → w.fwd = []) ∧ w.shards = v.shards))) ∧
  (∀ (s : State) (base : Nat) (p : Machine.Part), p = s.part.joinQueue → s.part.alive 1 = true →
    (s.part.alive 19 = false →
      (s.part.fab.inbox.any isBroadcast = false → exec (.broadcastShard base) s = .next s) ∧
      (s.part.fab.inbox.any isBroadcast = true → exec (.broadcastShard base) s = .next (withPart s (s.part.requestWake 19)))) ∧
    (s.part.alive 19 = true →
      ((p.takeMsg fun x => isBroadcast x && p.pieceReady base x) = none → exec (.broadcastShard base) s = .next (withPart s p)) ∧
      (∀ x m v sh off last d q, (p.takeMsg fun x => isBroadcast x && p.pieceReady base x) = some ((x, .broadcast m v sh off last d), q) →
        (q.entryOf m v = none → exec (.broadcastShard base) s = .next (withPart s q)) ∧
        (∀ e w, q.entryOf m v = some e → q.ver e = some w →
          (¬(w.mode = 2 ∧ w.root = x) → exec (.broadcastShard base) s = .next (withPart s q)) ∧
          (∀ y, w.mode = 2 → w.root = x → q.shard e sh = some y →
            (y.st = .staging → off = y.got.length → exec (.broadcastShard base) s = .next (withPart s (q.gotBytes e sh d last))) ∧
            (y.st = .staging → off ≠ y.got.length → exec (.broadcastShard base) s = .next (withPart s q)) ∧
            (y.st = .verified ∨ y.st = .failed → exec (.broadcastShard base) s = .next (withPart s q))))))) ∧
  (∀ (s : State) (base : Nat) (lender : Option (Nat × Nat)), s.part.alive 1 = true →
    (s.part.alive 19 = false →
      (s.part.models.queue = [] → exec (.shardStageStart base lender) s = .next s) ∧
      (s.part.models.queue ≠ [] → exec (.shardStageStart base lender) s = .next (withPart s (s.part.requestWake 19)))) ∧
    (s.part.alive 19 = true →
      (s.part.models.queue = [] → exec (.shardStageStart base lender) s = .next s) ∧
      (∀ e sh rest, s.part.models.queue = (e, sh) :: rest →
        (∀ q, s.part.stageHead e sh base = some q → exec (.shardStageStart base lender) s = .next (withPart s q)) ∧
        (s.part.stageHead e sh base = none →
          (s.part.shard e sh = none → exec (.shardStageStart base lender) s =
            .next (withPart s { s.part with models := { s.part.models with queue := rest } })) ∧
          (∀ x, s.part.shard e sh = some x →
            (s.part.arrivalEngine = none ∨ s.part.roomFor (s.part.roomOf e sh x) = true ∨ s.part.demoting = true →
              exec (.shardStageStart base lender) s = .next s) ∧
            (s.part.arrivalEngine ≠ none → s.part.roomFor (s.part.roomOf e sh x) = false → s.part.demoting = false →
              (s.part.demotable = none → exec (.shardStageStart base lender) s = .next (withPart s
                ({ s.part with models := { s.part.models with queue := rest } }.shardFail e sh causeSpace []))) ∧
              (∀ a b t, s.part.demotable = some (a, b) → s.demote a b lender = (t, true) →
                exec (.shardStageStart base lender) s = .next t) ∧
              (∀ a b t, s.part.demotable = some (a, b) → s.demote a b lender = (t, false) →
                exec (.shardStageStart base lender) s = .next (withPart t
                  ({ t.part with models := { t.part.models with queue := t.part.models.queue.drop 1 } }.shardFail e sh causeSpace []))))))))) ∧
  (∀ (s : State) (e sh : Nat), isShard e sh = true → s.part.alive 1 = true →
    (((s.part.shard e sh).bind fun x => x.tier) = none → exec (.tierCopyComplete e sh) s = .next s) ∧
    (∀ x t, s.part.shard e sh = some x → x.tier = some t →
      (t.written = true → exec (.tierCopyComplete e sh) s = .next s) ∧
      (t.written = false → exec (.tierCopyComplete e sh) s =
        .next (withPart s ((s.part.modShard e sh fun y => { y with tier := some { t with written := true } }).freeSpace e sh))))) ∧
  (∀ (s : State) (e sh base : Nat) (l : List Nat), isShard e sh = true → s.part.alive 1 = true →
    (∀ x, s.part.shard e sh = some x → x.tier ≠ none → s.part.alive 19 = false →
      exec (.tierReadbackComplete e sh base l) s = .next (withPart s (s.part.requestWake 19))) ∧
    (((s.part.shard e sh).bind fun x => x.tier) = none → exec (.tierReadbackComplete e sh base l) s = .next s) ∧
    (∀ x t, s.part.alive 19 = true → s.part.shard e sh = some x → x.tier = some t →
      (t.written = false ∨ x.held = true → exec (.tierReadbackComplete e sh base l) s = .next s) ∧
      (t.written = true → x.held = false → t.peer = false → x.got = [] →
        ((∃ r ∈ s.part.host.reads, r.kind = 8 ∧ r.key = shardRef e sh) → exec (.tierReadbackComplete e sh base l) s = .next s) ∧
        ((∀ r ∈ s.part.host.reads, ¬(r.kind = 8 ∧ r.key = shardRef e sh)) → ∃ u r,
          exec (.tierReadbackComplete e sh base l) s = .next u ∧ u.part.host.reads = s.part.host.reads ++ [r] ∧
          u = withPart s { s.part with host := { s.part.host with reads := s.part.host.reads ++ [r] } } ∧ r.kind = 8 ∧ r.key = shardRef e sh ∧ r.len = t.data.length ∧
          ∀ g, mfind s.part.models.tiers t.place = some g → r.addr = g.addr + t.off)) ∧
      (t.written = true → x.held = false → t.peer = true → s.part.takeMsg (tierDataFor t.place t.off) = none → x.got = [] →
        exec (.tierReadbackComplete e sh base l) s = .next (withPart s (s.part.control t.place (.tierAsk t.off t.data.length)))) ∧
      (t.written = true → x.held = false → t.peer = false → x.got ≠ [] → ∀ o, o = (Config.gcmOpen s.part.tierKey (x.got.take 12) []
          (bytesAt x.got 12 (x.got.length - 16 - 12)) (x.got.drop (x.got.length - 16))) →
        (∀ b q, o = some b → sha b = bytesAt x.header 128 64 → s.part.takeSpace base b.length = some q →
          ∃ u, exec (.tierReadbackComplete e sh base l) s = .next u ∧ u.mem = memWriteN s.mem base b ∧ u.kvmem = s.kvmem ∧
            memReadN u.mem base b.length = b ∧
            ∀ a, a < base ∨ base + b.length ≤ a → memRead u.mem a = memRead s.mem a) ∧
        (o = none ∨ (∃ b, o = some b ∧ sha b ≠ bytesAt x.header 128 64) → exec (.tierReadbackComplete e sh base l) s =
          .next (withPart s ((s.part.shardFail e sh causeTier l).regionsEmpty))))))

/-- NVME_PDU_RECEIVE (R152, R324): a controller that connects is CONNECTED with what both sides allow, or failed; data of a
read goes to its shard; a read that ends well asks for the next piece, and one that ends badly ends its attempt with cause FETCH; a
termination request, a digest error and a connection that drops lose the connection; a keep-alive answer restarts its clock; PDUs that the
controller's state does not wait for change nothing. HOST_READ_COMPLETE and HOST_READ_ERROR (R263, R330): bytes that were asked for go where they are wanted, and
a read that fails is logged through AER and ends what asked for it. TIER_ADD and TIER_REMOVE (R273): a region takes the lowest free
number within 16 regions and 64 GiB; removing one closes it, with BUSY while it closes already (log entry 180). GRAMMAR_LOAD and GRAMMAR_UNLOAD (R222, R274): a grammar in use or
loading is busy, else its image is read from host memory, or its slot is free again. All seven complete. -/
def Obligations.ReadsTiersAndGrammars : Prop :=
  (∀ (s : State) (c : Nat) (l : List Nat) (n : NvmeConn), isController c = true → s.part.alive 19 = true → n = s.part.nvme c →
    (n.st = 1 →
      (∀ h d mdts spaces, exec (.nvmePduReceive c (.connected 0 h d mdts spaces) l) s = .next s) ∧
      (∀ ioq h d mdts spaces, 1 ≤ ioq → ∃ u, exec (.nvmePduReceive c (.connected ioq h d mdts spaces) l) s = .next u ∧
        u.part.nvme c = { n with
          st := 2, ioq := min ioq (fld n.cfg 22 1), hdgst := h && (fld n.cfg 3 1).testBit 0, ddgst := d && (fld n.cfg 3 1).testBit 1,
          aliveAt := s.part.now, mdts := mdts, spaces := spaces.filter fun x => x.2 == 512 || x.2 == 4096 }) ∧
      (∀ status, ∃ u, exec (.nvmePduReceive c (.connectFailed status) l) s = .next u ∧ u.part.nvme c = { n with st := 3 }) ∧
      (∃ u, exec (.nvmePduReceive c .termReq l) s = .next u ∧ u.part.nvme c = { n with st := 3 }) ∧
      (∃ u, exec (.nvmePduReceive c .dropped l) s = .next u ∧ u.part.nvme c = { n with st := 3 }) ∧
      exec (.nvmePduReceive c .badDigest l) s = .next s ∧ exec (.nvmePduReceive c .alive l) s = .next s) ∧
    (n.st ≠ 1 →
      (∀ ioq h d mdts spaces, exec (.nvmePduReceive c (.connected ioq h d mdts spaces) l) s = .next s) ∧
      (∀ status, exec (.nvmePduReceive c (.connectFailed status) l) s = .next s)) ∧
    (n.st ≠ 1 → n.st ≠ 2 → exec (.nvmePduReceive c .termReq l) s = .next s ∧ exec (.nvmePduReceive c .dropped l) s = .next s ∧
      exec (.nvmePduReceive c .badDigest l) s = .next s ∧ exec (.nvmePduReceive c .alive l) s = .next s) ∧
    (n.reads = [] ∨ n.st ≠ 2 → (∀ b, exec (.nvmePduReceive c (.data b) l) s = .next s) ∧
      ∀ ok, exec (.nvmePduReceive c (.response ok) l) s = .next s) ∧
    (n.st = 2 →
      exec (.nvmePduReceive c .alive l) s = .next (withPart s (s.part.setNvme c { n with aliveAt := s.part.now })) ∧
      exec (.nvmePduReceive c .termReq l) s = .next (withPart s (s.part.nvmeLost c true l)) ∧
      exec (.nvmePduReceive c .dropped l) s = .next (withPart s (s.part.nvmeLost c false l)) ∧
      exec (.nvmePduReceive c .badDigest l) s =
        .next (withPart s ((s.part.bump (aNvmeConn (nvmeDie c) c) 32 16 1).nvmeLost c false l)) ∧
      (∀ r rest, n.reads = r :: rest →
        (∀ b, r.len < r.got + b.length → exec (.nvmePduReceive c (.data b) l) s = .next s) ∧
        (∀ b, r.got + b.length ≤ r.len → exec (.nvmePduReceive c (.data b) l) s = .next (withPart s
          ((s.part.setNvme c { n with reads := { r with got := r.got + b.length } :: rest }).gotBytes (r.ref / 65536) (r.ref % 65536) b false))) ∧
        (r.got ≠ r.len → exec (.nvmePduReceive c (.response true) l) s = .next s) ∧
        (r.got = r.len → exec (.nvmePduReceive c (.response true) l) s =
          .next (withPart s ((s.part.setNvme c { n with reads := rest }).fetchNext (r.ref / 65536) (r.ref % 65536)))) ∧
        exec (.nvmePduReceive c (.response false) l) s = .next (withPart s
          (((s.part.setNvme c { n with reads := rest }).bump (aNvmeConn (nvmeDie c) c) 16 16 1).fetchFail r.ref l))))) ∧
  (∀ (s : State) (j : Nat) (d : Bytes) (l : List Nat), s.part.alive 1 = true →
    (s.part.takeRead j = none → exec (.hostReadComplete j d) s = .next s ∧ exec (.hostReadError j l) s = .next s) ∧
    (∀ r q, s.part.takeRead j = some (r, q) →
      (d.length ≠ r.len ∨ s.part.canWrite = false → exec (.hostReadComplete j d) s = .next s) ∧
      (d.length = r.len → s.part.canWrite = true →
        (r.kind = 1 → exec (.hostReadComplete j d) s = .next (withPart s
          ((q.gotBytes (refEntry r.key) (r.key % 65536) d false).fetchNext (refEntry r.key) (r.key % 65536)))) ∧
        (r.kind = 2 ∨ r.kind = 3 → exec (.hostReadComplete j d) s = .next (withPart s (q.admitList r.kind r.sess d))) ∧
        (r.kind = 4 → exec (.hostReadComplete j d) s = .next (withPart s (q.policyImage d))) ∧
        (r.kind = 5 → exec (.hostReadComplete j d) s = .next (withPart s (q.grammarImage r.key d))) ∧
        (∀ k, r.kind = 6 → (q.ses r.sess).cur = some k → exec (.hostReadComplete j d) s = .next (withPart s (q.loadStart r.sess k d))) ∧
        (r.kind = 8 → ∃ u, exec (.hostReadComplete j d) s = .next u ∧
          ∀ x, s.part.shard (refEntry r.key) (r.key % 65536) = some x →
            u.part.shard (refEntry r.key) (r.key % 65536) = some { x with got := d })) ∧
      (∃ u, exec (.hostReadError j l) s = .next u ∧ u.part.host.aer = s.part.host.aer + 1) ∧
      (∀ q', q' = { q with host := { q.host with aer := q.host.aer + 1 } } →
        (r.kind = 1 → exec (.hostReadError j l) s = .next (withPart s (q'.fetchFail r.key l))) ∧
        (r.kind = 6 → exec (.hostReadError j l) s = .next (withPart s (q'.finish r.sess stBadParam []))) ∧
        (r.kind = 5 → exec (.hostReadError j l) s = .next (withPart s
          ((q'.freeGram r.key).completeA (s.part.gram r.key).sess (s.part.gram r.key).seq stBadParam []))) ∧
        (r.kind = 8 → exec (.hostReadError j l) s =
          .next (withPart s ((q'.shardFail (refEntry r.key) (r.key % 65536) causeTier l).regionsEmpty)))))) ∧
  (∀ (s : State) (i : Nat) (k : Bytes), Running s i 0x26 k →
    (((List.range 16).find? fun r => (mfind s.part.models.tiers r).isNone) = none ∨
        2 ^ 36 < sumNat (s.part.models.tiers.map fun g => g.2.len) + par k 8 8 →
      exec (.tierAdd i) s = .next (withPart s (s.part.finish i stLenRange []))) ∧
    (∀ r, ((List.range 16).find? fun r => (mfind s.part.models.tiers r).isNone) = some r →
      sumNat (s.part.models.tiers.map fun g => g.2.len) + par k 8 8 ≤ 2 ^ 36 → ∃ u, exec (.tierAdd i) s = .next u ∧
        mfind u.part.models.tiers r = some { addr := par k 0 8, len := par k 8 8, closed := false } ∧ (u.part.ses i).cur = none ∧
        ∀ n, n ≠ r → mfind u.part.models.tiers n = mfind s.part.models.tiers n)) ∧
  (∀ (s : State) (i : Nat) (k : Bytes), Running s i 0x27 k →
    (mfind s.part.models.tiers (par k 0 1) = none →
      exec (.tierRemove i) s = .next (withPart s (s.part.finish i stBadParam []))) ∧
    (∀ g, mfind s.part.models.tiers (par k 0 1) = some g →
      (g.closed = true → exec (.tierRemove i) s = .next (withPart s (s.part.finish i stBusy []))) ∧
      (g.closed = false → exec (.tierRemove i) s = .next (withPart s (({ s.part with models := { s.part.models with
          tiers := minsert s.part.models.tiers (par k 0 1) { g with closed := true } } }.startA i (par k 0 1)).regionsEmpty))))) ∧
  (∀ (s : State) (i : Nat) (k : Bytes), Running s i 0x48 k →
    ((s.part.gram (par k 0 1)).pins ≠ 0 ∨ (s.part.gram (par k 0 1)).st = 1 →
      exec (.grammarLoad i) s = .next (withPart s (s.part.finish i stBusy []))) ∧
    ((s.part.gram (par k 0 1)).pins = 0 → (s.part.gram (par k 0 1)).st ≠ 1 → ∃ u r, exec (.grammarLoad i) s = .next u ∧
      (u.part.gram (par k 0 1)).st = 1 ∧ (u.part.gram (par k 0 1)).image = (s.part.gram (par k 0 1)).image ∧
      u.part.host.reads = s.part.host.reads ++ [r] ∧ r.kind = 5 ∧ r.addr = par k 8 8 ∧ r.len = par k 4 4 ∧ (u.part.ses i).cur = none ∧
      (∃ a ∈ (u.part.ses i).running, a.op = 0x48 ∧ a.key = par k 0 1) ∧
      ∀ n, n ≠ par k 0 1 → u.part.gram n = s.part.gram n)) ∧
  (∀ (s : State) (i : Nat) (k : Bytes), Running s i 0x49 k →
    ((s.part.gram (par k 0 1)).st = 0 → exec (.grammarUnload i) s = .next (withPart s (s.part.finish i stAlreadyDone []))) ∧
    ((s.part.gram (par k 0 1)).st ≠ 0 → (s.part.gram (par k 0 1)).pins ≠ 0 ∨ (s.part.gram (par k 0 1)).st = 1 →
      exec (.grammarUnload i) s = .next (withPart s (s.part.finish i stBusy []))) ∧
    ((s.part.gram (par k 0 1)).st ≠ 0 → (s.part.gram (par k 0 1)).pins = 0 → (s.part.gram (par k 0 1)).st ≠ 1 →
      exec (.grammarUnload i) s = .next (withPart s ((s.part.freeGram (par k 0 1)).finish i stOk []))))

/-- PAGE_ALLOC, PAGE_FORK, PAGE_TRUNCATE and SLOT_RELEASE (R175, R183, R184, R285): the operation at the head of the slot's own unit or, for the
first three, of the page unit, leaves the inbox and applies, or waits for the slot's step boundary; under another epoch, or for a slot that is not assigned
there, it goes back with STALE_ROLE and the slot does not change; a release waits 2 µs after the last change of the epoch; with
no such message at the head nothing happens. SLOT_ASSIGN makes the slot's record anew on that context die and raises its epoch; an
assigned slot is answered NO_SLOT. PAGE_OP_APPLY applies the first operation that waits, once nothing holds it back. What each operation does (R182,
R183): an allocation appends one page; a truncation to whole pages keeps the pages that stay; a release leaves the slot unassigned under a new epoch; a fork of whole pages shares
them, with LEN as far as they reach (R181). PAGE_COPY_COMPLETE and PAGE_REBUILD_COMPLETE (R183, R193): a copy and a rebuilt page put their bytes into their frame
and change no other byte. All eight complete. -/
def Obligations.PagesAreOperatedOn : Prop :=
  (∀ (s : State) (cxd sl : Nat) (c : Instr) (op u : Nat) (o : PageOp), isCxd cxd = true → isSlot sl = true →
    s.part.alive (11 + cxd) = true → u = s.part.pageUnit cxd sl op →
    (c = .pageAlloc cxd sl ∧ op = 0xC0 ∧ o = .alloc) ∨ (∃ t n, c = .pageFork cxd sl t n ∧ op = 0xC1 ∧ o = .fork t n) ∨
      (∃ n, c = .pageTruncate cxd sl n ∧ op = 0xC2 ∧ o = .truncate n) ∨ (c = .slotRelease cxd sl ∧ op = 0xC4 ∧ o = .release) →
    (s.part.headCmd (8 + cxd) u op = none → exec c s = .next s) ∧
    (∀ m, s.part.headCmd (8 + cxd) u op = some m →
      (op = 0xC4 → s.part.epochSoon cxd sl = true → exec c s = .next s) ∧
      (op ≠ 0xC4 ∨ s.part.epochSoon cxd sl = false →
        ((s.part.kvSlot sl).assigned = true → (s.part.kvSlot sl).home = cxd → u ≠ sl ∨ m.epoch = s.part.slotEpoch cxd sl →
          exec c s = .next (withPart s ((s.part.popInbox (8 + cxd) u).pageOp sl (msgOp o m)))) ∧
        ((s.part.kvSlot sl).assigned = false ∨ (s.part.kvSlot sl).home ≠ cxd ∨ (u = sl ∧ m.epoch ≠ s.part.slotEpoch cxd sl) →
          exec c s = .next (withPart s ((s.part.popInbox (8 + cxd) u).slotStale cxd sl m)) ∧
            ((s.part.popInbox (8 + cxd) u).slotStale cxd sl m).kv = s.part.kv)))) ∧
  (∀ (s : State) (cxd sl shape : Nat), isCxd cxd = true → isSlot sl = true → s.part.alive (11 + cxd) = true →
    (s.part.headCmd (8 + cxd) sl 0xC3 = none → exec (.slotAssign cxd sl shape) s = .next s) ∧
    (∀ m, s.part.headCmd (8 + cxd) sl 0xC3 = some m →
      (s.part.epochSoon cxd sl = true → exec (.slotAssign cxd sl shape) s = .next s) ∧
      (s.part.epochSoon cxd sl = false → (s.part.kvSlot sl).assigned = true → ∃ u, exec (.slotAssign cxd sl shape) s = .next u ∧
        u.part.kv = s.part.kv) ∧
      (s.part.epochSoon cxd sl = false → (s.part.kvSlot sl).assigned = false → ∃ u, exec (.slotAssign cxd sl shape) s = .next u ∧
        u.part.kvSlot sl = { KvSlot.reset with assigned := true, home := cxd, shape := shape } ∧
        u.part.slotEpoch cxd sl = (s.part.slotEpoch cxd sl + 1) % 65536 ∧
        ∀ x, x ≠ sl → u.part.kvSlot x = s.part.kvSlot x))) ∧
  (∀ (s : State) (sl : Nat), isSlot sl = true → s.part.alive (11 + (s.part.kvSlot sl).home) = true →
    ((s.part.kvSlot sl).ops = [] → exec (.pageOpApply sl) s = .next s) ∧
    (∀ w rest, (s.part.kvSlot sl).ops = w :: rest →
      (s.part.opHeld sl w = true → exec (.pageOpApply sl) s = .next s) ∧
      (s.part.opHeld sl w = false → exec (.pageOpApply sl) s =
        .next (withPart s ((s.part.setKvSlot sl { s.part.kvSlot sl with ops := rest }).applyOp sl w))))) ∧
  (∀ (p : Machine.Part) (sl : Nat) (w : WaitingOp) (m : DieMsg), w.msg = some m →
    ((p.kvSlot sl).inStep = true → p.pageOp sl w = p.setKvSlot sl { p.kvSlot sl with ops := (p.kvSlot sl).ops ++ [w] }) ∧
    (∀ g q, w.op = .alloc → (p.kvSlot sl).pages.length < 2048 → p.takeFrame (p.kvSlot sl).home (p.slotPage sl) = some (g, q) →
      ((p.applyOp sl w).kvSlot sl).pages = (p.kvSlot sl).pages ++ [g]) ∧
    (∀ n, w.op = .truncate n → n ≤ (p.kvSlot sl).len → n % 64 = 0 →
      ((p.applyOp sl w).kvSlot sl).len = n ∧ ((p.applyOp sl w).kvSlot sl).pages = (p.kvSlot sl).pages.take (cdiv n 64)) ∧
    (∀ t n, w.op = .fork t n → 0 < n → n ≤ (p.kvSlot sl).len → n % 64 = 0 → t < 16384 → t ≠ sl → (p.kvSlot t).assigned = false →
      ((p.applyOp sl w).kvSlot t).len = n ∧ ((p.applyOp sl w).kvSlot t).pages = (p.kvSlot sl).pages.take (n / 64) ∧
      ((p.applyOp sl w).kvSlot t).home = (p.kvSlot sl).home ∧ (p.applyOp sl w).kvSlot sl = p.kvSlot sl) ∧
    (w.op = .release → (p.kvSlot sl).assigned = true → (p.kvSlot sl).ops = [] →
      (p.applyOp sl w).kvSlot sl = KvSlot.reset ∧
      (p.applyOp sl w).slotEpoch (p.kvSlot sl).home sl = (p.slotEpoch (p.kvSlot sl).home sl + 1) % 65536)) ∧
  (∀ (s : State) (sl : Nat), isSlot sl = true → s.part.alive (11 + (s.part.kvSlot sl).home) = true →
    (takeFirst (fun c : PageCopy => c.slot == sl) s.part.kv.copies = none → exec (.pageCopyComplete sl) s = .next s) ∧
    (∀ c rest, takeFirst (fun c : PageCopy => c.slot == sl) s.part.kv.copies = some (c, rest) →
      (s.part.now < c.done ∨ (∃ i ∈ (s.part.kvSlot sl).rebuild, (s.part.kvSlot sl).pages[i]? = some c.src) →
        exec (.pageCopyComplete sl) s = .next s) ∧
      (c.done ≤ s.part.now → (∀ i ∈ (s.part.kvSlot sl).rebuild, (s.part.kvSlot sl).pages[i]? ≠ some c.src) →
        (∃ t n, c.op.op = .fork t n) ∨ (∃ n, c.op.op = .truncate n) → ∃ u, exec (.pageCopyComplete sl) s = .next u ∧
          u.kvmem = memWriteN s.kvmem (pageAddr c.cxd (s.part.slotPage sl) c.dst)
            (memReadN s.kvmem (pageAddr c.cxd (s.part.slotPage sl) c.src) (s.part.slotPage sl)) ∧ u.mem = s.mem ∧
          ∀ a, a < pageAddr c.cxd (s.part.slotPage sl) c.dst ∨
              pageAddr c.cxd (s.part.slotPage sl) c.dst + s.part.slotPage sl ≤ a → memRead u.kvmem a = memRead s.kvmem a)) ∧
    (∀ i b, (s.part.kvSlot sl).pages[i]? = none ∨ i ∉ (s.part.kvSlot sl).rebuild ∨
        s.part.takeFrame (s.part.kvSlot sl).home (s.part.slotPage sl) = none →
      exec (.pageRebuildComplete sl i b) s = .next s) ∧
    (∀ i g d q b, (s.part.kvSlot sl).pages[i]? = some g →
      s.part.takeFrame (s.part.kvSlot sl).home (s.part.slotPage sl) = some (d, q) → i ∈ (s.part.kvSlot sl).rebuild →
      ∃ u, exec (.pageRebuildComplete sl i b) s = .next u ∧ u.mem = s.mem ∧
        u.kvmem = memWriteN s.kvmem (pageAddr (s.part.kvSlot sl).home (s.part.slotPage sl) d) (b.take (s.part.slotPage sl)) ∧
        ∀ a, a < pageAddr (s.part.kvSlot sl).home (s.part.slotPage sl) d ∨
            pageAddr (s.part.kvSlot sl).home (s.part.slotPage sl) d + s.part.slotPage sl ≤ a → memRead u.kvmem a = memRead s.kvmem a))

/-- KV_FORK, KV_TRUNCATE, KV_RELEASE and KV_QUERY (R275, R276, R287): a stale epoch is answered STALE_ROLE, a slot that the session does not
hold BAD_PARAM, except that a fork also takes the slot of a live request of the session in PREFILL or DECODE, and a fork beyond MAX_SEQ
NO_SLOT; what passes is a page operation whose end is the command's reply, and KV_QUERY replies with the slot's KV_SEQ word; a command
whose page operation waits already is not run a second time. All four complete. -/
def Obligations.HostKvCommands : Prop :=
  (∀ (s : State) (i op : Nat) (k : Bytes) (n : Nat) (c : Instr), Running s i op k → n = par k 0 2 →
    (c = .kvFork i ∧ op = 0x60) ∨ (c = .kvTruncate i ∧ op = 0x61) ∨ (c = .kvRelease i ∧ op = 0x62) →
    (s.part.opWaits i n = true → exec c s = .next s) ∧
    (s.part.opWaits i n = false →
      (s.part.epochOk k n = false → exec c s = .next (withPart s (s.part.finish i stStaleRole []))) ∧
      (s.part.epochOk k n = true → s.part.heldBy i n = false → op ≠ 0x60 ∨ s.part.runsFor i n = false →
        exec c s = .next (withPart s (s.part.finish i stBadParam []))) ∧
      (op = 0x60 → s.part.epochOk k n = true → s.part.heldBy i n = true ∨ s.part.runsFor i n = true →
        (s.part.slotsLeft 1 = false → exec c s = .next (withPart s (s.part.finish i stNoSlot []))) ∧
        (s.part.slotsLeft 1 = true → exec c s =
          .next (withPart s (s.part.pageOp n (hostOp (.fork 16384 (par k 4 4)) i k))))) ∧
      (op = 0x61 → s.part.epochOk k n = true → s.part.heldBy i n = true → exec c s =
        .next (withPart s (s.part.pageOp n (hostOp (.truncate (par k 4 4)) i k)))) ∧
      (op = 0x62 → s.part.epochOk k n = true → s.part.heldBy i n = true → exec c s =
        .next (withPart s (s.part.pageOp n (hostOp .release i k)))))) ∧
  (∀ (s : State) (i : Nat) (k : Bytes), Running s i 0x63 k →
    (s.part.epochOk k (par k 0 2) = false → exec (.kvQuery i) s = .next (withPart s (s.part.finish i stStaleRole []))) ∧
    (s.part.epochOk k (par k 0 2) = true → s.part.heldBy i (par k 0 2) = false →
      exec (.kvQuery i) s = .next (withPart s (s.part.finish i stBadParam []))) ∧
    (s.part.epochOk k (par k 0 2) = true → s.part.heldBy i (par k 0 2) = true → exec (.kvQuery i) s = .next (withPart s (s.part.finish i stOk
      (pad16 (wordBytes (s.part.kvSeq (s.part.kvSlot (par k 0 2)).home (par k 0 2))))))))

/-- KV_APPEND (R175, R177, R185, R186, R206): with no append at the slot unit's head nothing arrives; an append in range, under the slot's
epoch and with its page there, puts its elements at the places of R177 and changes no other byte, unless the slot tracks four other tags of which the
oldest still has requests to start: then it is held; one out of range is answered LEN_RANGE, one without its page PAGE_FAULT, and one under
another epoch goes back with STALE_ROLE, none of them writing a byte. The acceptance of the last append of a chunk that samples nothing is
the commit point of its step. -/
def Obligations.AppendsAreWritten : Prop :=
  ∀ (s : State) (cxd sl : Nat), isCxd cxd = true → isSlot sl = true → s.part.alive (11 + cxd) = true →
    (s.part.inbox (8 + cxd) sl = [] ∨ (∃ a rest, s.part.inbox (8 + cxd) sl = a :: rest ∧ a.m.cls ≠ 4) →
      exec (.kvAppend cxd sl) s = .next (s.chunkDone sl)) ∧
    (∀ a rest v n, s.part.inbox (8 + cxd) sl = a :: rest → a.m.cls = 4 → v = s.part.kvSlot sl → n = fld a.m.payload 0 4 →
      (v.assigned = false ∨ v.home ≠ cxd ∨ a.m.epoch ≠ s.part.slotEpoch cxd sl →
        exec (.kvAppend cxd sl) s = .next ((withPart s ((s.part.popInbox (8 + cxd) sl).slotStale cxd sl a.m)).chunkDone sl)) ∧
      (v.assigned = true → v.home = cxd → a.m.epoch = s.part.slotEpoch cxd sl → ∀ g, s.part.shapeOf sl = some g →
        (∀ st, appendFail g a.m = some st → exec (.kvAppend cxd sl) s = .next ((withPart s
          (((s.part.popInbox (8 + cxd) sl).giveBack (8 + cxd) a.m (s.part.slotEpoch cxd sl) st).bump (aKvCnt (8 + cxd)) 48 16 1)).chunkDone sl)) ∧
        (appendFail g a.m = none → v.pages.length ≤ n / 64 → exec (.kvAppend cxd sl) s = .next ((withPart s
          (((s.part.popInbox (8 + cxd) sl).giveBack (8 + cxd) a.m (s.part.slotEpoch cxd sl) stPageFault).bump (aKvCnt (8 + cxd)) 48 16 1)).chunkDone sl)) ∧
        (∀ t more, appendFail g a.m = none → n / 64 < v.pages.length → v.tagList = t :: more → 3 ≤ more.length →
          v.tagList.contains (fld a.m.payload 10 2) = false → s.part.tagDone sl t = false → v.chunk = false →
          ∃ u, exec (.kvAppend cxd sl) s = .next u ∧ u.kvmem = s.kvmem ∧ u.mem = s.mem ∧
            u.part.kvSlot sl = { v with heldAppends := v.heldAppends ++ [a.m] }) ∧
        (∀ pg, appendFail g a.m = none → v.pages[n / 64]? = some pg →
          v.tagList.length < 4 ∨ v.tagList.contains (fld a.m.payload 10 2) = true →
          ∃ u, exec (.kvAppend cxd sl) s = .next u ∧ u.mem = s.mem ∧
            u.kvmem = memWrites s.kvmem (appendWrites g (pageAddr cxd (pageBytes g) pg) a.m.payload) ∧
            (∀ b, (∀ w ∈ appendWrites g (pageAddr cxd (pageBytes g) pg) a.m.payload, b < w.1 ∨ w.1 + w.2.length ≤ b) →
              memRead u.kvmem b = memRead s.kvmem b) ∧
            (v.chunk = false → (u.part.kvSlot sl).pages = v.pages ∧ (u.part.kvSlot sl).len = v.len ∧
              (u.part.kvSlot sl).tags = countTag v.tags (fld a.m.payload 10 2) (fld a.m.payload 4 2) ∧
              u.part.inbox (8 + cxd) sl = rest ∧ ∀ x, x ≠ sl → u.part.kvSlot x = s.part.kvSlot x))))

/-- ATTENTION (R187, R204): without a message at the engine's head, or under a STEP_TAG that the slot does not track, nothing happens; a request
out of range is answered LEN_RANGE and one in range joins the engine's list. ATTENTION_START (R187, R193): it starts once its appends are in and no page
that it reads is being rebuilt, and waits while the part is paced. ATTENTION_COMPLETE (R189): a started request leaves the list and no page
changes. PATROL_READ (R191 to R195): a read without an error changes nothing but the passes of the patrol; a corrected one is counted, and
an uncorrectable one leaves its address and owner in the stack's record. STACK_REFRESH (R194): a refresh that is due is made now, and a
rise in band takes effect. STACK_TEMP_READOUT (R421, R422, R430): a readout in range is the stack's temperature and ends its blindness; ten in
a row out of range make it blind; two at the limit in a row quench the part. STACK_BAND_FALL (R194): the band falls to the lowest in which the stack has
read for 1 s. All seven complete. -/
def Obligations.AttentionAndStacks : Prop :=
  (∀ (s : State) (cxd id sl layer first count tag app : Nat) (f : Bool) (qs outs : Nat) (v : KvSlot), isCxd cxd = true → isSlot sl = true →
    s.part.alive (11 + cxd) = true → v = s.part.kvSlot sl →
    (s.part.headCmd (8 + cxd) 0x4000 0xC8 = none → exec (.attention cxd id sl layer first count tag app f qs outs) s = .next s) ∧
    (∀ m, s.part.headCmd (8 + cxd) 0x4000 0xC8 = some m →
      (tag ≠ v.tag → v.tagList.contains tag = false → exec (.attention cxd id sl layer first count tag app f qs outs) s = .next s) ∧
      (tag = v.tag ∨ v.tagList.contains tag = true →
        (count = 0 ∨ 4096 < count ∨ v.home ≠ cxd ∨ v.len < first + count ∨ (∃ g, s.part.shapeOf sl = some g ∧ g.layersKv ≤ layer) →
          exec (.attention cxd id sl layer first count tag app f qs outs) s =
            .next (withPart s ((s.part.popInbox (8 + cxd) 0x4000).answer (8 + cxd) m 0 stLenRange []))) ∧
        (∀ g, 0 < count → count ≤ 4096 → v.home = cxd → first + count ≤ v.len → s.part.shapeOf sl = some g → layer < g.layersKv →
          ((∃ r ∈ s.part.kv.atts, r.id = id) → exec (.attention cxd id sl layer first count tag app f qs outs) s = .next s) ∧
          ((∀ r ∈ s.part.kv.atts, r.id ≠ id) → ∃ u r, exec (.attention cxd id sl layer first count tag app f qs outs) s = .next u ∧
            u.part.kv.atts = s.part.kv.atts ++ [r] ∧ u.part.kv = { s.part.kv with atts := s.part.kv.atts ++ [r] } ∧ r.id = id ∧ r.slot = sl ∧ r.layer = layer ∧ r.first = first ∧
            r.count = count ∧ r.tag = tag ∧ r.appends = app ∧ r.started = false ∧ r.msg = some m ∧
            u.part.inbox (8 + cxd) 0x4000 = (s.part.inbox (8 + cxd) 0x4000).drop 1))))) ∧
  (∀ (s : State) (id : Nat), s.part.alive (s.attDomain id) = true →
    ((s.part.kv.atts.find? fun r => r.id == id) = none → (s.part.kvSlot 0).chunk = false →
      exec (.attentionStart id) s = .next s ∧ exec (.attentionComplete id) s = .next s) ∧
    (∀ r v, (s.part.kv.atts.find? fun r => r.id == id) = some r → v = s.part.kvSlot r.slot → v.chunk = false →
      (r.started = true ∨ s.part.pwr.paced = true ∨ v.appends r.tag r.layer < r.appends ∨ s.part.attBlocked r = true →
        exec (.attentionStart id) s = .next s) ∧
      (r.started = false → s.part.pwr.paced = false → r.appends ≤ v.appends r.tag r.layer → s.part.attBlocked r = false →
        ∃ u x, exec (.attentionStart id) s = .next u ∧ (u.part.kv.atts.find? fun r => r.id == id) = some x ∧
          x = { r with started := true } ∧ u.mem = s.mem ∧
          (v.heldAppends = [] → u.kvmem = s.kvmem ∧ u.part.kvSlot r.slot = { v with tags := countTag v.tags r.tag 65536 })) ∧
      (r.started = false ∨ s.part.shapeOf r.slot = none → exec (.attentionComplete id) s = .next s) ∧
      (∀ g, r.started = true → s.part.shapeOf r.slot = some g → ∃ u, exec (.attentionComplete id) s = .next u ∧
        u.part.kv = { s.part.kv with atts := s.part.kv.atts.filter fun x => x.id != id } ∧ u.kvmem = s.kvmem ∧ u.mem = s.mem))) ∧
  (∀ (s : State) (k addr hit : Nat) (demand other last : Bool) (l : List Nat), isStack k = true → s.part.alive (11 + k / 8) = true →
    (last = false ∨ demand = true → exec (.patrolRead k addr 0 demand other hit last l) s = .next s) ∧
    (exec (.patrolRead k addr 0 false other hit true l) s = .next (withPart s { s.part with kv := { s.part.kv with
      passes := mset 0 s.part.kv.passes (k / 8) ((mget 0 s.part.kv.passes (k / 8) + 1) % 65536) } })) ∧
    (exec (.patrolRead k addr 1 false other hit false l) s =
      .next (withPart s ((s.part.bump (aStackStatus (8 + k / 8) (k % 8)) 16 32 1).bump (aPatrol (8 + k / 8)) 16 32 1))) ∧
    (exec (.patrolRead k addr 1 true other hit last l) s = .next (withPart s (s.part.bump (aStackStatus (8 + k / 8) (k % 8)) 16 32 1))) ∧
    (∃ u, exec (.patrolRead k addr 2 demand other hit last l) s = .next u ∧ (u.part.stack k).ueAddr = addr ∧
      (u.part.stack k).ueOwner = (s.part.blockOwner k addr).code ∧ u.mem = s.mem ∧ u.kvmem = s.kvmem)) ∧
  (∀ (s : State) (k : Nat), isStack k = true → s.part.alive (11 + k / 8) = true →
    ((s.part.stack k).ready = false ∨ 1000 * s.part.now < 1000 * (s.part.stack k).refreshAt + (s.part.stack k).refreshPs →
      exec (.stackRefresh k) s = .next s) ∧
    ((s.part.stack k).ready = true → 1000 * (s.part.stack k).refreshAt + (s.part.stack k).refreshPs ≤ 1000 * s.part.now →
      exec (.stackRefresh k) s = .next (withPart s (s.part.setStack k { s.part.stack k with
        refreshAt := s.part.now, band := (s.part.stack k).rise.getD (s.part.stack k).band, rise := none }))) ∧
    (((s.part.stack k).lower.find? fun x => decide (x.2 + 1000000000 ≤ s.part.now)) = none → exec (.stackBandFall k) s = .next s) ∧
    (∀ x, ((s.part.stack k).lower.find? fun x => decide (x.2 + 1000000000 ≤ s.part.now)) = some x → exec (.stackBandFall k) s = .next
      (withPart s (s.part.setStack k { s.part.stack k with band := x.1, lower := (s.part.stack k).lower.filter fun y => decide (y.1 < x.1) })))) ∧
  (∀ (s : State) (k : Nat), isStack k = true → s.part.alive (11 + k / 8) = true → s.part.therm.quenched = false →
    (∀ t : Int, 0 ≤ t → t ≤ 600 → (s.part.stack k).hot = false ∨ (s.part.stack k).blind = true ∨ t < 420 →
      ∃ u, exec (.stackTempReadout k (some t)) s = .next u ∧
        u.part.stack k = { ((s.part.stack k).readBand t s.part.now) with temp := t, invalid := 0, blind := false, hot := decide (420 ≤ t) } ∧
        u.part.therm.quenched = false ∧ ∀ j, j ≠ k → u.part.stack j = s.part.stack j) ∧
    (∀ t : Int, 420 ≤ t → t ≤ 600 → (s.part.stack k).hot = true → (s.part.stack k).blind = false →
      ∃ u, exec (.stackTempReadout k (some t)) s = .next u ∧ u.part.therm.quenched = true) ∧
    (∀ t : Option Int, (∀ x, t = some x → x < 0 ∨ 600 < x) → ∃ u, exec (.stackTempReadout k t) s = .next u ∧
      u.part.stack k = { s.part.stack k with
        invalid := min ((s.part.stack k).invalid + 1) 10,
        blind := (s.part.stack k).blind || decide (9 ≤ (s.part.stack k).invalid), hot := false }))

/-- LANE_FAIL, LANE_RETRAIN and LANE_GOOD (R293 to R295, R317): a failed lane is not good at the end that says so; a used one narrows an
ACTIVE Efylink link (RESIZING) or, with no common lane left, takes it DOWN with cause 3, and takes an Ethernet link down; a lane that has failed is retrained every
10 s and is good again after 1 s of lock, and a wider width makes the link RESIZING. LINK_SIGNAL, LINK_TRAINED,
LINK_TRAINING_TIMEOUT, LINK_RETRY, LINK_SILENT, LINK_RESIZE_DONE and LINK_RESIZE_TIMEOUT (R294 to R296): each is the change of state that
R294 gives its condition, with the state's cause and width, and changes nothing where the condition does not hold. FLIT_RECEIVE (R299, R300):
a flit that fails its CRC or is not the next expected delivers nothing and asks for a resend; one that is good and next in order is
acknowledged, returns the credits it carries and releases the replay buffer up to its ACK. All eleven complete. -/
def Obligations.LinksAndFlits : Prop :=
  (∀ (s : State) (l lane : Nat) (peer : Bool) (k : Link), isLink l = true → isLane lane = true → s.part.alive (15 + l / 4) = true →
    k = s.part.link l →
    (k.mode ≠ 2 → k.st ≠ 2 ∨ k.uses lane = false → ∃ u, exec (.laneFail l lane peer) s = .next u ∧
      (peer = false → (u.part.link l).good.testBit lane = false ∧ (u.part.link l).peerGood = k.peerGood) ∧
      (peer = true → (u.part.link l).peerGood.testBit lane = false ∧ (u.part.link l).good = k.good) ∧
      (u.part.link l).st = k.st ∧ (u.part.link l).width = k.width ∧ u.part.fab.ports = s.part.fab.ports ∧
      ∀ j, j ≠ l → u.part.link j = s.part.link j) ∧
    (k.mode ≠ 2 → k.st = 2 → k.uses lane = true → ∃ u, exec (.laneFail l lane peer) s = .next u ∧
      (peer = false → (u.part.link l).good.testBit lane = false) ∧ (peer = true → (u.part.link l).peerGood.testBit lane = false) ∧
      (((u.part.link l).st = 3 ∧ (u.part.link l).width = k.width) ∨
        ((u.part.link l).st = 0 ∧ (u.part.link l).cause = 3 ∧ (u.part.link l).width = 0 ∧ (u.part.link l).retry = false)) ∧
      (u.part.link l).since = s.part.now ∧ ∀ j, j ≠ l → u.part.link j = s.part.link j) ∧
    (k.mode = 2 → ∃ u, exec (.laneFail l lane peer) s = .next u ∧ (mget EthLink.reset u.part.fab.eth l).up = false ∧
      ((mget EthLink.reset s.part.fab.eth l).up = true → (u.part.link l).st = 0)) ∧
    ((k.st ≠ 2 ∧ k.st ≠ 3) ∨ k.good.testBit lane = true ∨
        (∃ t, mfind k.retrain lane = some t ∧ s.part.now < t + 10000000000) → exec (.laneRetrain l lane) s = .next s) ∧
    (k.st = 2 ∨ k.st = 3 → k.good.testBit lane = false →
      mfind k.retrain lane = none ∨ (∃ t, mfind k.retrain lane = some t ∧ t + 10000000000 ≤ s.part.now) →
      exec (.laneRetrain l lane) s = .next (withPart s (s.part.setLink l { k with retrain := minsert k.retrain lane s.part.now }))) ∧
    (mfind k.retrain lane = none ∨ (∃ t, mfind k.retrain lane = some t ∧ s.part.now < t + 1000000000) →
      exec (.laneGood l lane false) s = .next s) ∧
    (∀ n, n = (if peer then { k with peerGood := k.peerGood ||| 2 ^ lane }
          else { k with good := k.good ||| 2 ^ lane, retrain := merase k.retrain lane }) →
      peer = true ∨ (∃ t, mfind k.retrain lane = some t ∧ t + 1000000000 ≤ s.part.now) →
      (¬(k.st = 2 ∧ k.mode = 1 ∧ k.width < n.wide) → exec (.laneGood l lane peer) s = .next (withPart s (s.part.setLink l n))) ∧
      (k.st = 2 → k.mode = 1 → k.width < n.wide → ∃ u, exec (.laneGood l lane peer) s = .next u ∧
        u.part.link l = { n with st := 3, since := s.part.now }))) ∧
  (∀ (s : State) (l : Nat) (k : Link), isLink l = true → s.part.alive (15 + l / 4) = true → k = s.part.link l →
    (¬(s.part.fabCfg.configured = true ∧ k.mode = 1 ∧ k.st = 0 ∧ k.retry = false ∧ s.part.domSt (15 + l / 4) = .on) →
      exec (.linkSignal l) s = .next s) ∧
    (s.part.fabCfg.configured = true → k.mode = 1 → k.st = 0 → k.retry = false → s.part.domSt (15 + l / 4) = .on →
      exec (.linkSignal l) s = .next (withPart s (s.part.linkTo l { k with st := 1, retrain := [] }))) ∧
    (∀ pp dx dy dz q j g pg cr, k.st ≠ 1 ∨ k.since + 100000000 < s.part.now → exec (.linkTrained l pp dx dy dz q j g pg cr) s = .next s) ∧
    (∀ pp q j g pg cr, k.st = 1 → s.part.now ≤ k.since + 100000000 → pp = s.part.fabCfg.neighbourOf s.part.fabCfg.partId k.port →
      pp < 65536 → q = oppositePort k.port →
      (ones8 ((g % 256) &&& (pg % 256)) = 0 → exec (.linkTrained l pp s.part.fabCfg.dimX s.part.fabCfg.dimY s.part.fabCfg.dimZ q j g pg cr) s =
        .next (withPart s (s.part.setLink l { k with peerPart := pp % 65536, peerLink := j % 16, good := g % 256, peerGood := pg % 256 }))) ∧
      (0 < ones8 ((g % 256) &&& (pg % 256)) → ∃ u,
        exec (.linkTrained l pp s.part.fabCfg.dimX s.part.fabCfg.dimY s.part.fabCfg.dimZ q j g pg cr) s = .next u ∧
          u.part.link l = { k with
            peerPart := pp, peerLink := j % 16, good := g % 256, peerGood := pg % 256, st := 2, since := s.part.now,
            width := widthOf (ones8 ((g % 256) &&& (pg % 256))), lastRx := s.part.now })) ∧
    (∀ pp dx dy dz q j g pg cr, k.st = 1 → s.part.now ≤ k.since + 100000000 →
      pp ≠ s.part.fabCfg.neighbourOf s.part.fabCfg.partId k.port ∨ dx ≠ s.part.fabCfg.dimX ∨ dy ≠ s.part.fabCfg.dimY ∨
        dz ≠ s.part.fabCfg.dimZ ∨ q ≠ oppositePort k.port →
      ∃ u, exec (.linkTrained l pp dx dy dz q j g pg cr) s = .next u ∧ (u.part.link l).st = 0 ∧ (u.part.link l).cause = 1 ∧
        (u.part.link l).width = 0 ∧ (u.part.link l).retry = true) ∧
    (k.st ≠ 1 ∨ k.mode ≠ 1 ∨ s.part.now ≤ k.since + 100000000 → exec (.linkTrainingTimeout l) s = .next s) ∧
    (k.st = 1 → k.mode = 1 → k.since + 100000000 < s.part.now →
      exec (.linkTrainingTimeout l) s = .next (withPart s (s.part.linkDown l 2 true))) ∧
    (¬(k.st = 0 ∧ k.retry = true ∧ k.since + 1000000000 ≤ s.part.now ∧ s.part.domSt (15 + l / 4) = .on) →
      exec (.linkRetry l) s = .next s) ∧
    (k.st = 0 → k.retry = true → k.since + 1000000000 ≤ s.part.now → s.part.domSt (15 + l / 4) = .on →
      exec (.linkRetry l) s = .next (withPart s (s.part.linkTo l { k with st := 1, retry := false }))) ∧
    (k.isActive = false ∨ s.part.now < k.lastRx + 1000000 → exec (.linkSilent l) s = .next s) ∧
    (k.isActive = true → k.lastRx + 1000000 ≤ s.part.now → exec (.linkSilent l) s = .next (withPart s (s.part.linkDown l 4 false))) ∧
    (k.st ≠ 3 ∨ k.since + 50000 < s.part.now → exec (.linkResizeDone l) s = .next s) ∧
    (k.st = 3 → s.part.now ≤ k.since + 50000 → ∃ u, exec (.linkResizeDone l) s = .next u ∧
      u.part.link l = { k with st := 2, width := k.wide, since := s.part.now, lastRx := s.part.now }) ∧
    (k.st ≠ 3 ∨ s.part.now ≤ k.since + 50000 → exec (.linkResizeTimeout l) s = .next s) ∧
    (k.st = 3 → k.since + 50000 < s.part.now → exec (.linkResizeTimeout l) s = .next (withPart s (s.part.linkDown l 2 false)))) ∧
  (∀ (s : State) (l : Nat) (b : Bytes) (c n : Nat), isLink l = true → s.part.alive (15 + l / 4) = true →
    ((s.part.link l).isActive = false → exec (.flitReceive l b c n) s = .next s) ∧
    (∀ f, f = s.part.fport (s.part.link l).port → (s.part.link l).isActive = true →
      ∃ u, exec (.flitReceive l b c n) s = .next u ∧ (u.part.link l).lastRx = s.part.now ∧ u.part.fab.held = s.part.fab.held ∧
        (fld b 252 4 ≠ crc32c (b.take 252) ∨ b.length ≠ 256 ∨ fld b 0 4 ≠ f.rxNext →
          (u.part.fport (s.part.link l).port).rxNext = f.rxNext ∧ (u.part.fport (s.part.link l).port).rxPkts = f.rxPkts ∧
          (u.part.fport (s.part.link l).port).rxBuf = f.rxBuf ∧
          ((u.part.fport (s.part.link l).port).nak = true ∨
            ∃ x, (u.part.fport (s.part.link l).port).sent = f.sent ++ [x] ∧ x.nak = true)) ∧
        (fld b 252 4 = crc32c (b.take 252) → b.length = 256 → fld b 0 4 = f.rxNext →
          (u.part.fport (s.part.link l).port).rxNext = (f.rxNext + 1) % 2 ^ 32 ∧
          (u.part.fport (s.part.link l).port).nak = false ∧
          (f.wait = [] → (∀ x ∈ f.replay, (fld b 4 4 + 2 ^ 32 - x.fseq) % 2 ^ 32 < 2 ^ 31 →
              x ∈ (u.part.fport (s.part.link l).port).replay → x.fseq = f.txSeq) ∧
            mget 0 (u.part.fport (s.part.link l).port).credits (creditKey (fld b 8 1 % 8) (fld b 8 1 / 8 % 4)) =
              mget 0 f.credits (creditKey (fld b 8 1 % 8) (fld b 8 1 / 8 % 4)) + fld b 10 2))))

/-- PACKET_ROUTE (R303, R304, R306): the next packet of the part, class 0 first, or the oldest of a port is routed, and nothing is in part fault: a malformed one is
discarded and counted, one that has made 128 hops too, one for this part is delivered, and one with a way to go along x first takes
the shorter way round on it. PACKET_HOLD_RETRY and NO_ROUTE (R306): a held packet is tried again every 10 µs and discarded after 1 ms.
E2E_ACK, E2E_RESEND, UNREACHABLE and GAP_SKIP (R305): an acknowledgement releases the packet it names; a packet that is not
acknowledged is sent again after 200 µs; a destination silent for 100 ms is unreachable and its packets are given up; a gap of class 3
to 5 is skipped after 1 ms. Each changes nothing where its packet, message or time is not there. All seven complete. -/
def Obligations.PacketsTravelTheFabric : Prop :=
  (∀ (s : State) (k : FabPkt), s.part.alive 1 = true →
    (∀ o, (∀ q, o = some q → isFabPort q = true) → s.part.faulted = true → exec (.packetRoute o k) s = .next s) ∧
    (s.part.faulted = false →
      (s.part.fab.out = [] → exec (.packetRoute none k) s = .next s) ∧
      (∀ x xs, s.part.fab.nextOut = some (x, xs) → exec (.packetRoute none k) s =
        .next (withPart s (Part.routePkt { s.part with fab := { s.part.fab with out := xs } } 6 x none))) ∧
      (∀ x xs, s.part.fab.out = x :: xs → x.cls = 0 → s.part.fab.nextOut = some (x, byPriority FabPkt.cls xs)) ∧
      (∀ q, isFabPort q = true → (s.part.fport q).rxPkts = [] → exec (.packetRoute (some q) k) s = .next s) ∧
      (∀ q b l, isFabPort q = true → (s.part.fport q).rxPkts = b :: l →
        (pktIs b k = false → exec (.packetRoute (some q) k) s = .next s) ∧
        (pktIs b k = true → exec (.packetRoute (some q) k) s = .next (withPart s
          ((s.part.setFPort q { s.part.fport q with rxPkts := l }).routePkt q k
            (some { port := q, pair := creditKey k.cls k.vc, flits := pktFlits k }))))))) ∧
  (∀ (p : Machine.Part) (q : Nat) (k : FabPkt) (owe : Option Owe),
    (pktOk k = false → p.routePkt q k owe = (p.bump aFabCnt2 32 16 1).freeBuffer owe) ∧
    (pktOk k = true → k.bcast = false →
      (k.dst = p.fabCfg.partId → p.routePkt q k owe = (p.deliver q k).freeBuffer owe) ∧
      (k.dst ≠ p.fabCfg.partId → k.long = 0 → 128 ≤ k.hops → p.routePkt q k owe = (p.bump aFabCnt 0 16 1).freeBuffer owe) ∧
      (k.slice = 0xFFFF → k.long = 0 → k.detour = 0 → k.hops < 128 → coord k.dst 0 ≠ coord p.fabCfg.partId 0 →
        2 * ((coord k.dst 0 + max 1 p.fabCfg.dimX - coord p.fabCfg.partId 0) % max 1 p.fabCfg.dimX) < max 1 p.fabCfg.dimX →
        p.portUp 0 = true → p.routePkt q k owe = p.transmit 0 (p.fabCfg.hop k q 0 true) owe))) ∧
  (∀ (s : State), s.part.alive 1 = true →
    (takeFirst (fun h : HeldPkt => decide (h.tried + 10000 ≤ s.part.now)) s.part.fab.held = none → exec .packetHoldRetry s = .next s) ∧
    (∀ h l, takeFirst (fun h : HeldPkt => decide (h.tried + 10000 ≤ s.part.now)) s.part.fab.held = some (h, l) →
      (∀ k, s.part.routeHop (s.part.area h.k.slice) h.port 3 h.k = .hold k → exec .packetHoldRetry s = .next (withPart s
        { s.part with fab := { s.part.fab with held := l ++ [{ h with k := k, tried := s.part.now }] } })) ∧
      ((∀ k, s.part.routeHop (s.part.area h.k.slice) h.port 3 h.k ≠ .hold k) → exec .packetHoldRetry s =
        .next (withPart s (Part.routePkt { s.part with fab := { s.part.fab with held := l } } h.port h.k h.owe)))) ∧
    (takeFirst (fun h : HeldPkt => decide (h.since + 1000000 ≤ s.part.now)) s.part.fab.held = none → s.part.vc2Stuck = none →
      exec .noRoute s = .next s) ∧
    (∀ h l, takeFirst (fun h : HeldPkt => decide (h.since + 1000000 ≤ s.part.now)) s.part.fab.held = some (h, l) →
      exec .noRoute s = .next (withPart s
        ((Part.bump { s.part with fab := { s.part.fab with held := l } } aFabCnt 16 16 1).freeBuffer h.owe))) ∧
    (∀ q w l, takeFirst (fun h : HeldPkt => decide (h.since + 1000000 ≤ s.part.now)) s.part.fab.held = none → s.part.vc2Stuck = some q →
      takeFirst (fun w : WaitPkt => w.k.vc == 2 && decide (w.since + 1000000 ≤ s.part.now)) (s.part.fport q).wait = some (w, l) →
      exec .noRoute s = .next (withPart s
        (((s.part.setFPort q { s.part.fport q with wait := l }).bump aFabCnt 16 16 1).freeBuffer w.owe))) ∧
    ((∀ x ∈ s.part.fab.inbox, ∀ cls n, x.2 ≠ .ack cls n) → exec .e2eAck s = .next s) ∧
    (∀ src cls n l, s.part.fab.inbox = (src, .ack cls n) :: l → ∃ u, exec .e2eAck s = .next u ∧ u.part.fab.inbox = l ∧
      u.part.fab.kept = s.part.fab.kept.filter fun k => !(k.k.dst == src && k.k.cls == cls && k.k.pseq == n)) ∧
    (s.part.faulted = true ∨ takeFirst (fun k : Kept => decide (k.last + 200000 ≤ s.part.now)) s.part.fab.kept = none →
      exec .e2eResend s = .next s) ∧
    (∀ k l, s.part.faulted = false → takeFirst (fun k : Kept => decide (k.last + 200000 ≤ s.part.now)) s.part.fab.kept = some (k, l) →
      ∃ u, exec .e2eResend s = .next u ∧ u.part.fab.out = s.part.fab.out ++ [k.k] ∧
        u.part.fab.kept = l ++ [{ k with last := s.part.now }] ∧
        u.part.regFld aFabCnt2 0 32 = satAdd 32 (s.part.regFld aFabCnt2 0 32) 1) ∧
    (∀ d, isPart d = true →
      (mfind s.part.fab.lastAck d = none ∨ s.part.fab.unreachable.contains d = true ∨
          (∃ t, mfind s.part.fab.lastAck d = some t ∧ s.part.now < t + 100000000) → exec (.unreachable d) s = .next s) ∧
      (∀ t, mfind s.part.fab.lastAck d = some t → t + 100000000 ≤ s.part.now → s.part.fab.unreachable.contains d = false →
        (∃ u, exec (.unreachable d) s = .next u ∧ u.mem = s.mem ∧ u.kvmem = s.kvmem) ∧
        (s.part.jrn.partner ≠ some d → s.part.jsrc d = none → s.part.fab.slices = [] → s.part.models.table = [] →
          exec (.unreachable d) s = .next (withPart s (Part.bump { s.part with fab := { s.part.fab with
            unreachable := s.part.fab.unreachable ++ [d], lastAck := merase s.part.fab.lastAck d,
            kept := s.part.fab.kept.filter fun x => x.k.dst != d } } aFabCnt2 48 16 1))))) ∧
    (∀ src cls f, f = mget RxFlow.reset s.part.fab.psRx (psKey src cls) →
      (f.gap = none ∨ cls < 3 ∨ 5 < cls ∨ (∃ t, f.gap = some t ∧ s.part.now < t + 1000000) ∨ f.early = [] →
        exec (.gapSkip src cls) s = .next s) ∧
      (∀ t n, f.gap = some t → 3 ≤ cls → cls ≤ 5 → t + 1000000 ≤ s.part.now →
        lowest (f.early.map fun k => (k.pseq + 2 ^ 32 - f.next) % 2 ^ 32) = some n →
        exec (.gapSkip src cls) s = .next (withPart s ((Part.bump { s.part with fab := { s.part.fab with
          psRx := mset RxFlow.reset s.part.fab.psRx (psKey src cls) { f with next := (f.next + n) % 2 ^ 32, gap := none } } }
            aFabCnt 48 16 1).deliverRun (psKey src cls) 4 (f.early.length + 1))))))

/-- PORT_CFG and FABRIC_QUERY (R319, R320): a torus dimension or coordinate out of range, a port with 3 links or an unknown port value
ends PORT_CFG with the status of R319 and changes nothing; while the part is in a slice, or a link that would change is in use, it ends BUSY; otherwise the
configuration is in force and the links take their assignments. A query of a slice that the part is not in ends BAD_PARAM. SLICE_JOIN, SLICE_LEAVE, SLICE_DESCRIPTOR and SLICE_ACTIVE
(R311, R321, R322): a join that R321 rejects ends with its status and changes no slice, in the order of log entry 182, else the part is JOINING and its descriptor
goes to the root; the root answers a descriptor that differs with BAD_PARAM; ACTIVE makes the slice active and a refusal ends the entry;
leaving a slice that is not held is already done. Without a message the root and the member change nothing. All six complete. -/
def Obligations.FabricAndSlices : Prop :=
  (∀ (s : State) (i : Nat) (k : Bytes), Running s i 0x73 k →
    (∀ st, portCfgFail k = some st → exec (.portCfg i) s = .next (withPart s (s.part.finish i st []))) ∧
    (par k 2 1 > 64 → portCfgFail k = some stLenRange) ∧
    (portCfgFail k = none →
      (s.part.fab.slices ≠ [] ∨ (∃ l, l < 16 ∧ s.part.assignChanges k l = true ∧ s.part.linkInUse l = true) →
        exec (.portCfg i) s = .next (withPart s (s.part.finish i stBusy []))) ∧
      (s.part.fab.slices = [] → (∀ l, l < 16 → s.part.assignChanges k l = true → s.part.linkInUse l = false) →
        ∃ u, exec (.portCfg i) s = .next u ∧ (u.part.ses i).cur = none ∧
          u.part.fabCfg = { partId := par k 0 2, dimX := par k 2 1, dimY := par k 3 1, dimZ := par k 4 1, rackId := par k 6 2,
                            configured := true } ∧
          ∀ l, l < 16 → ((u.part.link l).mode, (u.part.link l).port) = linkAssign (linkPort k l) ∧
            (s.part.assignChanges k l = true → (u.part.link l).st = 0)))) ∧
  (∀ (s : State) (i : Nat) (k : Bytes), Running s i 0x72 k →
    (∀ b, s.part.fabricBody (par k 0 1) (par k 2 2) = some b → exec (.fabricQuery i) s = .next (withPart s (s.part.finish i stOk b))) ∧
    (par k 0 1 ≠ 1 → ∃ b, s.part.fabricBody (par k 0 1) (par k 2 2) = some b) ∧
    (par k 0 1 = 1 → s.part.sliceRec (par k 2 2) = none → exec (.fabricQuery i) s =
      .next (withPart s (s.part.finish i stBadParam [])))) ∧
  (∀ (s : State) (i : Nat) (k : Bytes) (d : SliceDesc), Running s i 0x70 k →
    d = { slice := par k 0 2, origin := par k 4 2, ex := par k 6 1, ey := par k 7 1, ez := par k 8 1 } →
    (∀ st, s.part.joinRejected d ((par k 2 1).testBit 0) (par k 10 2) = some st →
      exec (.sliceJoin i) s = .next (withPart s (s.part.finish i st []))) ∧
    (s.part.joinRejected d ((par k 2 1).testBit 0) (par k 10 2) = none → ∃ u r, exec (.sliceJoin i) s = .next u ∧
      u.part.fab.slices = s.part.fab.slices ++ [r] ∧ r.desc = d ∧ r.st = 1 ∧ r.root = par k 10 2 ∧ r.round = 0 ∧ r.joined = [] ∧
      r.tight = (par k 2 1).testBit 0 ∧ r.lend = (par k 2 1).testBit 1 ∧ r.lendMib = par k 16 4 ∧
      r.marginUs = (if par k 12 2 = 0 then 20 else par k 12 2) ∧ (u.part.ses i).cur = none ∧
      ∃ a ∈ (u.part.ses i).running, a.op = 0x70 ∧ a.key = par k 0 2)) ∧
  (∀ (s : State) (i : Nat) (k : Bytes), Running s i 0x71 k →
    (s.part.sliceRec (par k 0 2) = none → exec (.sliceLeave i) s = .next (withPart s (s.part.finish i stAlreadyDone []))) ∧
    (∀ r, s.part.sliceRec (par k 0 2) = some r →
      (r.st ≠ 1 → exec (.sliceLeave i) s = .next (withPart s
        (((s.part.modSlice (par k 0 2) fun x => { x with st := 3 }).startA i (par k 0 2)).leaveCheck (par k 0 2)))) ∧
      (r.st = 1 → exec (.sliceLeave i) s = .next (withPart s
        ((((s.part.completeA r.sess r.seq stAlreadyDone []).modSlice (par k 0 2) fun x => { x with st := 3 }).startA i (par k 0 2)).leaveCheck (par k 0 2)))))) ∧
  (∀ (s : State), s.part.alive 1 = true →
    ((s.part.takeMsg fun x => s.part.rootsHere x.2) = none → exec .sliceDescriptor s = .next s) ∧
    (∀ src d rack p r, s.part.takeMsg (fun x => s.part.rootsHere x.2) = some ((src, .descriptor d rack), p) →
      p.sliceRec d.slice = some r →
      (∀ st, r.joinFail d src rack = some st → exec .sliceDescriptor s =
        .next (withPart s (p.control src (.active r.desc.slice st 0 [])))) ∧
      (d ≠ r.desc → r.joinFail d src rack = some stBadParam) ∧
      (r.joinFail d src rack = none → exec .sliceDescriptor s = .next (withPart s (p.joinAt r src rack d)))) ∧
    ((∀ x ∈ s.part.fab.inbox, ∀ id st leader mates, x.2 ≠ .active id st leader mates) → exec .sliceActive s = .next s) ∧
    (∀ src id st leader mates l, s.part.fab.inbox = (src, .active id st leader mates) :: l →
      (s.part.sliceRec id = none → exec .sliceActive s = .next (withPart s { s.part with fab := { s.part.fab with inbox := l } })) ∧
      (∀ r, s.part.sliceRec id = some r →
        (st ≠ stOk → r.st = 1 → ∃ u, exec .sliceActive s = .next u ∧ u.part.sliceRec id = none ∧ u.part.fab.inbox = l) ∧
        (st ≠ stOk → r.st ≠ 1 → exec .sliceActive s = .next (withPart s { s.part with fab := { s.part.fab with inbox := l } })) ∧
        (st = stOk → r.tight = false → ∃ u v, exec .sliceActive s = .next u ∧ u.part.sliceRec id = some v ∧
          v.st = (if r.st = 1 then 2 else r.st) ∧ v.leader = leader ∧ v.desc = r.desc ∧ v.root = r.root ∧ u.part.fab.inbox = l))))

/-- LEND_REQUEST (R162, R313): a lender that is not in the slice grants nothing; a copy is stored only at stripes lent to its sender, and
changes no other byte; a copy is read back from there, and stripes are given back. BARRIER_ARRIVE, BARRIER_GO, ROUND_START, ARRIVE_TIMEOUT and RACK_OFFSET_EXCHANGE
(R315, R316): an ARRIVE of an earlier round is discarded and one of a later round waits; a GO before its instant waits for it, and one at or
after it starts the round at once; a round that starts makes the member ready for the next (log entry 32); members that have not arrived after
10 ms are dropped by their leader; the root keeps the measured offset. Without a message, a slice or its time nothing changes. All six complete. -/
def Obligations.StripesAndRounds : Prop :=
  (∀ (s : State) (src : Nat) (l : List (Nat × FabMsg)), s.part.alive 1 = true →
    ((∀ x ∈ s.part.fab.inbox, lenderMsg x = false) → exec .lendRequest s = .next s) ∧
    (∀ id n, s.part.fab.inbox = (src, .lendAsk id n) :: l → exec .lendRequest s =
      .next (withPart s (Part.lend { s.part with fab := { s.part.fab with inbox := l } } src id n))) ∧
    (∀ id n, s.part.fab.inbox = (src, .lendAsk id n) :: l → s.part.sliceRec id = none → exec .lendRequest s =
      .next (withPart s (Part.control { s.part with fab := { s.part.fab with inbox := l } } src (.lendGrant id none)))) ∧
    (∀ a k, s.part.fab.inbox = (src, .lendFree a k) :: l → exec .lendRequest s =
      .next (withPart s (Part.lendFreed { s.part with fab := { s.part.fab with inbox := l } } src a k))) ∧
    (∀ a d, s.part.fab.inbox = (src, .tierPut a d) :: l →
      (s.part.lentTo src a = none → exec .lendRequest s =
        .next (withPart s { s.part with fab := { s.part.fab with inbox := l } })) ∧
      (∀ x, s.part.lentTo src a = some x → ∃ u, exec .lendRequest s = .next u ∧ u.mem = memWriteN s.mem a d ∧
        u.kvmem = s.kvmem ∧ ∀ b, b < a ∨ a + d.length ≤ b → memRead u.mem b = memRead s.mem b)) ∧
    (∀ a n, s.part.fab.inbox = (src, .tierAsk a n) :: l →
      (s.part.lentTo src a = none → exec .lendRequest s =
        .next (withPart s { s.part with fab := { s.part.fab with inbox := l } })) ∧
      (∀ x, s.part.lentTo src a = some x → exec .lendRequest s =
        .next (withPart s (Part.fabSend { s.part with fab := { s.part.fab with inbox := l } } src 4 0xFFFF
          (.tierData a (memReadN s.mem a n))))))) ∧
  (∀ (s : State), s.part.alive 1 = true →
    ((∀ x ∈ s.part.fab.inbox, s.part.arriveNow x.2 = false) → exec .barrierArrive s = .next s) ∧
    ((∀ x ∈ s.part.fab.inbox, ∀ id n t, x.2 ≠ .go id n t) → exec .barrierGo s = .next s) ∧
    (∀ id, s.part.sliceRec id = none → exec (.roundStart id) s = .next s ∧ exec (.arriveTimeout id) s = .next s) ∧
    (∀ src id n rack l, s.part.fab.inbox = (src, .arrive id n rack) :: l → s.part.sliceRec id = none →
      exec .barrierArrive s = .next (withPart s { s.part with fab := { s.part.fab with inbox := l } })) ∧
    (∀ src id n t l, s.part.fab.inbox = (src, .go id n t) :: l → s.part.sliceRec id = none →
      exec .barrierGo s = .next (withPart s { s.part with fab := { s.part.fab with inbox := l } }))) ∧
  (∀ (s : State) (id : Nat) (r : SliceRec), s.part.alive 1 = true → s.part.sliceRec id = some r →
    (∀ src n rack l, s.part.fab.inbox = (src, .arrive id n rack) :: l →
      (n < r.round → exec .barrierArrive s = .next (withPart s { s.part with fab := { s.part.fab with inbox := l } })) ∧
      (n = r.round → rack = true → r.root ≠ s.part.fabCfg.partId → ∃ u v, exec .barrierArrive s = .next u ∧
        u.part.sliceRec id = some v ∧ v.rackArrived.contains src = true ∧ v.round = r.round ∧ u.part.fab.inbox = l) ∧
      (n = r.round → rack = false → ∃ u v, exec .barrierArrive s = .next u ∧ u.part.sliceRec id = some v ∧ v.round = r.round ∧
        (v.arrived.contains src = true ∨ (v.arrived = [] ∧ v.firstAt = none)) ∧ u.part.fab.inbox = l)) ∧
    (∀ src n t l, s.part.fab.inbox = (src, .go id n t) :: l →
      (n ≠ r.round → ∃ u, exec .barrierGo s = .next u ∧ u.part.sliceRec id = some r ∧ u.part.fab.inbox = l) ∧
      (n = r.round → s.part.now < t → ∃ u v, exec .barrierGo s = .next u ∧ u.part.sliceRec id = some v ∧ v.go = some (n, t) ∧
        v.round = r.round) ∧
      (n = r.round → t ≤ s.part.now → ∃ u v, exec .barrierGo s = .next u ∧ u.part.sliceRec id = some v ∧ v.go = none ∧
        v.round = n + 1 ∧ v.started = true)) ∧
    (r.go = none ∨ (∃ n t, r.go = some (n, t) ∧ s.part.now < t) → exec (.roundStart id) s = .next s) ∧
    (∀ n t, r.go = some (n, t) → t ≤ s.part.now → ∃ u, exec (.roundStart id) s = .next u ∧ u.part.sliceRec id =
      some { r with round := n + 1, started := true, go := none }) ∧
    (s.part.tenMs r.firstAt = false → s.part.tenMs r.rackFirstAt = false ∨ r.root ≠ s.part.fabCfg.partId →
      exec (.arriveTimeout id) s = .next s) ∧
    (s.part.tenMs r.firstAt = true → r.root ≠ s.part.fabCfg.partId → ∃ u v, exec (.arriveTimeout id) s = .next u ∧
      u.part.sliceRec id = some v ∧ (∀ m ∈ v.mates, r.arrived.contains m.1 = true) ∧ v.round = r.round) ∧
    (s.part.tenMs r.rackFirstAt = true → s.part.tenMs r.firstAt = false → r.root = s.part.fabCfg.partId →
      ∃ u v, exec (.arriveTimeout id) s = .next u ∧ u.part.sliceRec id = some v ∧ v.racks.length = r.racks.length ∧
        ∀ x ∈ r.racks, r.rackArrived.contains x.2.1 = true → x ∈ v.racks) ∧
    (∀ rack o, ∃ u v, exec (.rackOffsetExchange id rack o) s = .next u ∧ u.part.sliceRec id = some v ∧
      (r.tight = false ∨ r.root ≠ s.part.fabCfg.partId → v = r) ∧
      (r.tight = true → r.root = s.part.fabCfg.partId → v.offsetAt = s.part.now ∧ (∀ x ∈ v.racks, x.1 = rack → x.2.2 = some o) ∧
        v.racks.map Prod.fst = r.racks.map Prod.fst)))

/-- ETH_CFG (R323): a link that is not in Ethernet mode is BAD_PARAM; an ingress range that holds a session opened otherwise, and a
change of a link in use, are BUSY; else the configuration is in force. ETH_LINK_UP and ETH_FRAME_RECEIVE (R317): an enabled link comes up with its width;
a request to the link's own address within the MTU and VLAN is answered and any other frame changes nothing (log entry 183). INGRESS_CLAIM, INGRESS_DATA and INGRESS_LOST
(R318): a claim of a session of the link's range that is neither OPEN nor claimed binds it to the connection, and any other claim binds nothing;
bytes stand in for the session's window; the loss of a claimed connection faults an OPEN session with CAUSE 5. All six complete. -/
def Obligations.EthernetAndIngress : Prop :=
  (∀ (s : State) (i l : Nat) (k : Bytes), Running s i 0x74 k → l = par k 0 1 → isEthLink l = true →
    ((s.part.link l).mode ≠ 2 → exec (.ethCfg i) s = .next (withPart s (s.part.finish i stBadParam []))) ∧
    ((s.part.link l).mode = 2 → (par k 1 1).testBit 2 = true →
      (∃ n, par k 56 1 ≤ n ∧ n < par k 56 1 + par k 57 1 ∧ (s.part.ses n).st = .opened ∧ (s.part.ses n).ingress = false) →
      exec (.ethCfg i) s = .next (withPart s (s.part.finish i stBusy []))) ∧
    ((s.part.link l).mode = 2 → s.part.linkInUse l = true → bytesAt k 16 64 ≠ (s.part.eth l).cfg →
      exec (.ethCfg i) s = .next (withPart s (s.part.finish i stBusy []))) ∧
    ((s.part.link l).mode = 2 → (par k 1 1).testBit 2 = false ∨
        (∀ n, par k 56 1 ≤ n → n < par k 56 1 + par k 57 1 → (s.part.ses n).st ≠ .opened ∨ (s.part.ses n).ingress = true) →
      s.part.linkInUse l = false ∨ bytesAt k 16 64 = (s.part.eth l).cfg → ∃ u, exec (.ethCfg i) s = .next u ∧
        (u.part.eth l).cfg = bytesAt k 16 64 ∧ (u.part.eth l).enabled = (par k 1 1).testBit 0 ∧ (u.part.ses i).cur = none ∧
        ∀ j, j ≠ l → u.part.eth j = s.part.eth j)) ∧
  (∀ (s : State) (l : Nat), isEthLink l = true → s.part.alive 18 = true →
    ((s.part.link l).mode ≠ 2 ∨ (s.part.eth l).enabled = false ∨ (s.part.eth l).up = true ∨ s.part.domSt (15 + l / 4) ≠ .on →
      exec (.ethLinkUp l) s = .next s) ∧
    ((s.part.link l).mode = 2 → (s.part.eth l).enabled = true → (s.part.eth l).up = false → s.part.domSt (15 + l / 4) = .on →
      ∃ u, exec (.ethLinkUp l) s = .next u ∧ u.part.eth l = { s.part.eth l with up := true } ∧ u.part.link l = { s.part.link l with
        st := 2, width := if (fld (s.part.eth l).cfg 1 1).testBit 1 then 4 else 8, since := s.part.now }) ∧
    (∀ vlan len f, (s.part.eth l).up = false ∨ fld (s.part.eth l).cfg 2 2 < len ∨ vlan ≠ fld (s.part.eth l).cfg 4 2 ∨
        (s.part.eth l).reply f = none → exec (.ethFrameReceive l ⟨vlan, len, f⟩) s = .next s) ∧
    (∀ len f g, (s.part.eth l).up = true → len ≤ fld (s.part.eth l).cfg 2 2 → (s.part.eth l).reply f = some g →
      exec (.ethFrameReceive l ⟨fld (s.part.eth l).cfg 4 2, len, f⟩) s =
        .next (withPart s { s.part with fab := { s.part.fab with ethOut := s.part.fab.ethOut ++ [(l, g)] } }))) ∧
  (∀ (s : State) (l conn : Nat) (b : Bytes), isEthLink l = true → s.part.alive 1 = true →
    ((s.part.eth l).up = false ∨ (∃ c ∈ s.part.fab.ingress, c.conn = conn) ∨ 256 ≤ s.part.tcpCount ∨ claimSession b = none →
      exec (.ingressClaim l conn b) s = .next s) ∧
    (∀ i, claimSession b = some i →
      ((s.part.eth l).ingressHas i = false ∨ (s.part.ses i).st = .opened ∨ (s.part.ses i).claimed = true →
        exec (.ingressClaim l conn b) s = .next s) ∧
      ((s.part.eth l).up = true → (∀ c ∈ s.part.fab.ingress, c.conn ≠ conn) → s.part.tcpCount < 256 → (s.part.eth l).ingressHas i = true →
        (s.part.ses i).st ≠ .opened → (s.part.ses i).claimed = false → ∃ u, exec (.ingressClaim l conn b) s = .next u ∧
          u.part.ses i = { s.part.ses i with claimed := true, out := (s.part.ses i).out ++ (s.part.ses i).resend, resend := [] } ∧
          u.part.fab.ingress = s.part.fab.ingress ++ [{ conn := conn, link := l, sess := i, carry := [] }] ∧
          ∀ j, j ≠ i → u.part.ses j = s.part.ses j))) ∧
  (∀ (s : State) (conn : Nat), s.part.alive 1 = true →
    ((s.part.fab.ingress.find? fun c => c.conn == conn) = none →
      (∀ b, exec (.ingressData conn b) s = .next s) ∧ ∀ n, exec (.ingressLost ⟨conn, n⟩) s = .next s) ∧
    (∀ c, s.part.fab.ingress.find? (fun c => c.conn == conn) = some c →
      (∀ b, c.carry.length + b.length < 16 → exec (.ingressData conn b) s =
        .next (withPart s { s.part with fab := { s.part.fab with ingress := s.part.fab.ingress.map fun x =>
          if x.conn = conn then { x with carry := c.carry ++ b } else x } })) ∧
      (∀ b q r, s.part.streamPackets c.sess (c.carry.length + b.length) (c.carry ++ b) = (q, r) → exec (.ingressData conn b) s =
        .next (withPart s { q with fab := { q.fab with ingress := q.fab.ingress.map fun x =>
          if x.conn = conn then { x with carry := r } else x } })) ∧
      (∀ n, (s.part.ses c.sess).st = .opened → ∃ u, exec (.ingressLost ⟨conn, n⟩) s = .next u ∧ (u.part.ses c.sess).st = .faulted ∧
        (u.part.ses c.sess).cause = 5 ∧ (u.part.ses c.sess).claimed = false ∧ ∀ x ∈ u.part.fab.ingress, x.conn ≠ conn) ∧
      (∀ n, (s.part.ses c.sess).st ≠ .opened → ∃ u, exec (.ingressLost ⟨conn, n⟩) s = .next u ∧
        u.part.ses c.sess = { s.part.ses c.sess with
          claimed := false, resend := (s.part.ses c.sess).out.drop ((s.part.ses c.sess).out.length - n) } ∧
        ∀ x ∈ u.part.fab.ingress, x.conn ≠ conn)))

/-- NVME_CONNECT, NVME_CONNECT_TIMEOUT, NVME_DISCONNECT and NVME_KEEP_ALIVE (R317, R324): a controller in use, and one whose queues would
pass the 256 connections, answer BUSY, a link that is not enabled BAD_PARAM; else the controller connects; no answer within 2,000 ms ends the
connect with BUSY, and before that nothing happens; a controller with reads outstanding is not disconnected, nor one that still connects (log entry 183), an
unused one is already done; a keep-alive is sent when KATO runs out. All four complete. -/
def Obligations.NvmeControllers : Prop :=
  (∀ (s : State) (i c : Nat) (k : Bytes), Running s i 0x28 k → c = par k 0 1 →
    ((s.part.nvme c).st ≠ 0 ∨ 256 < s.part.tcpCount + 1 + par k 22 1 →
      exec (.nvmeConnect i) s = .next (withPart s (s.part.finish i stBusy []))) ∧
    ((s.part.nvme c).st = 0 → s.part.tcpCount + 1 + par k 22 1 ≤ 256 → (s.part.eth (par k 1 1)).enabled = false →
      exec (.nvmeConnect i) s = .next (withPart s (s.part.finish i stBadParam []))) ∧
    ((s.part.nvme c).st = 0 → s.part.tcpCount + 1 + par k 22 1 ≤ 256 → (s.part.eth (par k 1 1)).enabled = true →
      ∃ u, exec (.nvmeConnect i) s = .next u ∧ u.part.nvme c = { NvmeConn.reset with
          st := 1, cfg := bytesAt k 16 64, nqn := bytesAt k 80 (par k 28 2), sess := i, seq := (s.part.ses i).serial, since := s.part.now,
          kato := if par k 26 2 = 0 then 10 else par k 26 2 } ∧ (u.part.ses i).cur = none ∧
        (∃ a ∈ (u.part.ses i).running, a.op = 0x28 ∧ a.key = c) ∧ ∀ j, j ≠ c → u.part.nvme j = s.part.nvme j)) ∧
  (∀ (s : State) (c : Nat) (n : NvmeConn), isController c = true → s.part.alive 1 = true → n = s.part.nvme c →
    (n.st ≠ 1 ∨ s.part.now < n.since + 2000000000 → exec (.nvmeConnectTimeout c) s = .next s) ∧
    (n.st = 1 → n.since + 2000000000 ≤ s.part.now → exec (.nvmeConnectTimeout c) s =
      .next (withPart s (s.part.connectEnd c { n with st := 3 } stBusy 0)) ∧
      (s.part.connectEnd c { n with st := 3 } stBusy 0).nvme c = { n with st := 3 }) ∧
    (n.st ≠ 2 ∨ s.part.now < n.aliveAt + 1000000000 * n.kato → exec (.nvmeKeepAlive c) s = .next s) ∧
    (n.st = 2 → n.aliveAt + 1000000000 * n.kato ≤ s.part.now →
      exec (.nvmeKeepAlive c) s = .next (withPart s (s.part.setNvme c { n with aliveAt := s.part.now })))) ∧
  (∀ (s : State) (i : Nat) (k : Bytes) (n : NvmeConn), Running s i 0x29 k → n = s.part.nvme (par k 0 1) →
    (n.st = 0 → exec (.nvmeDisconnect i) s = .next (withPart s (s.part.finish i stAlreadyDone []))) ∧
    (n.st ≠ 0 → n.reads ≠ [] ∨ n.st = 1 → exec (.nvmeDisconnect i) s = .next (withPart s (s.part.finish i stBusy []))) ∧
    (n.st ≠ 0 → n.st ≠ 1 → n.reads = [] → exec (.nvmeDisconnect i) s =
      .next (withPart s ((s.part.setNvme (par k 0 1) NvmeConn.reset).finish i stOk []))))

/-- SUBMISSION_WRITE (R236, R237, R246): while BAR0 is closed, above the windows and for a session of ingress it is discarded; a granule of a held unit is
stored; part of a granule is discarded and counted in BAD_WRITE; a write to a unit that the host does not hold, of part of a granule too, faults
an OPEN session with CAUSE 3. PACKET_TAKE (R239, R240, R505): a complete packet with the SEQ expected joins the queue with the state it was taken in; a bad LEN faults an
OPEN session with CAUSE 2 and a bad SEQ with CAUSE 1; a packet that is not there, is not whole, or finds 64 queued waits. COMMAND_START (R244,
R261): the next command starts once none holds it back, and ends at once with the status of the first check of R261 that fails; one taken in CLOSED or FAULTED that
fails resets the submission side (log entry 179). All three complete. -/
def Obligations.SubmissionsAreTaken : Prop :=
  ∀ (s : State) (i : Nat) (x : Session), isSession i = true → s.part.alive 1 = true → x = s.part.ses i →
    (∀ o b, s.part.bar0Open = false ∨ 0x400000 ≤ o ∨ (o / 65536 = i ∧ x.ingress = true) → exec (.submissionWrite o b) s = .next s) ∧
    (∀ g b, g < 4096 → b.length = 16 → s.part.bar0Open = true → x.ingress = false →
      ((g / 4 + 1024 - x.takePtr) % 1024 < x.heldUnits → x.st = .opened → x.granule g = none →
        exec (.submissionWrite (65536 * i + 16 * g) b) s = .next (withPart s (s.part.modSes i fun t => { t with gran := minsert t.gran g b }))) ∧
      (x.heldUnits ≤ (g / 4 + 1024 - x.takePtr) % 1024 → x.st = .opened →
        ∃ u, exec (.submissionWrite (65536 * i + 16 * g) b) s = .next u ∧ (u.part.ses i).st = .faulted ∧
          (u.part.ses i).cause = 3 ∧ (u.part.ses i).gran = [] ∧ (u.part.ses i).takePtr = 0 ∧ (u.part.ses i).queue = x.queue) ∧
      (x.heldUnits ≤ (g / 4 + 1024 - x.takePtr) % 1024 → x.st ≠ .opened →
        exec (.submissionWrite (65536 * i + 16 * g) b) s = .next s)) ∧
    (∀ o b, o < 65536 → 0 < o % 16 → b ≠ [] → b.length < 16 - o % 16 → s.part.bar0Open = true → x.ingress = false →
      ((o / 64 + 1024 - x.takePtr) % 1024 < x.heldUnits →
        exec (.submissionWrite (65536 * i + o) b) s = .next (withPart s (s.part.bump (aSessCnt i) 0 16 1))) ∧
      (x.heldUnits ≤ (o / 64 + 1024 - x.takePtr) % 1024 → exec (.submissionWrite (65536 * i + o) b) s =
        .next (withPart s ((s.part.bump (aSessCnt i) 0 16 1).framingFault i 3 stCreditOverrun)))) ∧
    (s.part.boot.noTake = true ∨ x.granule (4 * x.takePtr) = none → exec (.packetTake i) s = .next s) ∧
    (∀ h, s.part.boot.noTake = false → x.granule (4 * x.takePtr) = some h →
      (x.st = .opened →
        (pkLen h % 16 ≠ 0 ∨ pkLen h < 16 ∨ 16384 < pkLen h → ∃ u, exec (.packetTake i) s = .next u ∧
          (u.part.ses i).st = .faulted ∧ (u.part.ses i).cause = 2) ∧
        (pkLen h % 16 = 0 → 16 ≤ pkLen h → pkLen h ≤ 16384 →
          (pkSeq h ≠ x.seqExpect → ∃ u, exec (.packetTake i) s = .next u ∧ (u.part.ses i).st = .faulted ∧ (u.part.ses i).cause = 1) ∧
          (pkSeq h = x.seqExpect → x.granules (4 * x.takePtr) (pkLen h / 16) = false ∨ 64 ≤ x.queue.length →
            exec (.packetTake i) s = .next s) ∧
          (pkSeq h = x.seqExpect → x.granules (4 * x.takePtr) (pkLen h / 16) = true → x.queue.length < 64 →
            ∃ u, exec (.packetTake i) s = .next u ∧
              (u.part.ses i).queue = x.queue ++ [(x.granuleBytes (4 * x.takePtr) (pkLen h / 16), .opened)] ∧
              (u.part.ses i).seqExpect = (x.seqExpect + 1) % 2 ^ 32 ∧ (u.part.ses i).st = .opened ∧
              (u.part.ses i).takePtr = (x.takePtr + cdiv (pkLen h) 64) % 1024 ∧
              (u.part.ses i).unreported = x.unreported + cdiv (pkLen h) 64))) ∧
      (x.st ≠ .opened → x.takePtr = 0 → pkOp h = allowedOp x.st → pkSeq h = 0 → pkLen h % 16 = 0 → 16 ≤ pkLen h → pkLen h ≤ 1024 →
        (x.granules 0 (pkLen h / 16) = false ∨ 64 ≤ x.queue.length → exec (.packetTake i) s = .next s) ∧
        (x.granules 0 (pkLen h / 16) = true → x.queue.length < 64 → ∃ u, exec (.packetTake i) s = .next u ∧
          (u.part.ses i).queue = x.queue ++ [(x.granuleBytes 0 (pkLen h / 16), x.st)] ∧ (u.part.ses i).st = x.st)) ∧
      (x.st ≠ .opened → x.takePtr ≠ 0 → exec (.packetTake i) s = .next s)) ∧
    (x.cur ≠ none ∨ x.hold ≠ none ∨ x.queue = [] → exec (.commandStart i) s = .next s) ∧
    (∀ k st rest y, x.cur = none → x.hold = none → x.queue = (k, st) :: rest →
      y = { x with queue := rest, cur := some k, curIn := st, serial := x.serial + 1 } →
      (st ≠ .opened → pkOp k = 0x02 → exec (.commandStart i) s = .next (withPart s (s.part.setSes i y))) ∧
      (checkFail s.part.fabCfg.partId s.part.boot.stage x.feat0 x.feat2 x.ifMinor k = none →
        exec (.commandStart i) s = .next (withPart s (s.part.setSes i y))) ∧
      (∀ e, checkFail s.part.fabCfg.partId s.part.boot.stage x.feat0 x.feat2 x.ifMinor k = some e →
        (st = .opened → pkOp k ≠ 0x0A → pkOp k ≠ 0xF0 → pkOp k ≠ 0x05 →
          exec (.commandStart i) s = .next (withPart s ((s.part.setSes i y).finish i e []))) ∧
        (st = .opened → pkOp k = 0xF0 ∨ pkOp k = 0x05 → exec (.commandStart i) s =
          .next (withPart s (((s.part.setSes i y).setSes i { y with cur := none }).bump aCmdCnt 48 16 1))) ∧
        (st = .opened → pkOp k = 0x0A → ∃ u, exec (.commandStart i) s = .next u ∧ u.part.boot.noTake = false ∧ (u.part.ses i).cur = none) ∧
        (st ≠ .opened → pkOp k ≠ 0x02 → pkOp k ≠ 0x0A → pkOp k ≠ 0xF0 → pkOp k ≠ 0x05 →
          exec (.commandStart i) s = .next (withPart s ((s.part.setSes i y.resetSub).finish i e [])))))

/-- NOP, SESSION_OPEN, SESSION_CLOSE, SESSION_RESYNC, CREDIT, PART_INFO and NOTICE_MASK (R253, R254, R258, R259, R277): an open taken on an OPEN
session is BAD_PARAM; one with a bad ring leaves the session as it was with CAUSE 4 and writes nothing; another failed open is answered at ring offset 0
once the part may write; a good one opens the session with the ring and grants that it asks for. A session with a request, held slot or running
command does not close. A resync taken in FAULTED opens the session, one taken on an OPEN session is already done. The rest end at
once and change no other session. All seven complete. -/
def Obligations.SessionCommands : Prop :=
  (∀ (s : State) (i : Nat) (k : Bytes), Running s i 0x01 k → exec (.nop i) s = .next (withPart s (s.part.finish i stOk []))) ∧
  (∀ (s : State) (i : Nat) (k : Bytes) (x : Session), Running s i 0x02 k → x = s.part.ses i →
    (x.curIn = .opened → exec (.sessionOpen i) s = .next (withPart s (s.part.finish i stBadParam []))) ∧
    (x.curIn ≠ .opened → ringOk k = false → ∃ u, exec (.sessionOpen i) s = .next u ∧
      u.part.ses i = { x.resetSub with cause := 4, cur := none, hold := none }) ∧
    (∀ st, x.curIn ≠ .opened → ringOk k = true → s.part.openFail x.ingress k = some st →
      (s.part.canReply i = false → exec (.sessionOpen i) s = .next s) ∧
      (s.part.canReply i = true → ∃ u, exec (.sessionOpen i) s = .next u ∧ u.part.ses i = { x.resetSub with
        cur := none, hold := none, out := x.out ++ replyWrites 0 (replyTo k st []) true 0 })) ∧
    (x.curIn ≠ .opened → ringOk k = true → s.part.openFail x.ingress k = none → ∃ u, exec (.sessionOpen i) s = .next u ∧
      (u.part.ses i).st = .opened ∧ (u.part.ses i).cause = 0 ∧ (u.part.ses i).ringAddr = par k 24 8 ∧
      (u.part.ses i).ringUnits = par k 32 4 / 64 ∧ (u.part.ses i).replyHeld = par k 32 4 / 64 ∧
      (u.part.ses i).noticeMask = par k 40 4 ∧ (u.part.ses i).holdoff = par k 38 2 ∧ (u.part.ses i).ifMinor = min (par k 2 2) 3 ∧
      (u.part.ses i).feat0 = s.part.grantFeat0 (par k 4 4) (par k 2 2) ∧ (u.part.ses i).cur = none ∧
      (u.part.ses i).waiting.length = 1 ∧ ∀ j, j ≠ i → u.part.ses j = s.part.ses j)) ∧
  (∀ (s : State) (i : Nat) (k : Bytes), Running s i 0x03 k →
    (s.part.sessionBusy i = true ∨ (s.part.ses i).running ≠ [] →
      exec (.sessionClose i) s = .next (withPart s (s.part.finish i stBusy []))) ∧
    (s.part.sessionBusy i = false → (s.part.ses i).running = [] → exec (.sessionClose i) s =
      .next (withPart s ((s.part.modSes i fun x => { x with closing := true }).finish i stOk [])))) ∧
  (∀ (s : State) (i : Nat) (k : Bytes), Running s i 0x04 k →
    ((s.part.ses i).curIn = .opened → exec (.sessionResync i) s = .next (withPart s (s.part.finish i stAlreadyDone []))) ∧
    ((s.part.ses i).curIn ≠ .opened → ∃ u, exec (.sessionResync i) s = .next u ∧ (u.part.ses i).st = .opened ∧ (u.part.ses i).cur = none ∧
      ∀ j, j ≠ i → u.part.ses j = s.part.ses j)) ∧
  (∀ (s : State) (i : Nat) (k : Bytes), Running s i 0x05 k →
    exec (.credit i) s = .next (withPart s (s.part.setSes i { s.part.ses i with cur := none }))) ∧
  (∀ (s : State) (i : Nat) (k : Bytes), Running s i 0x06 k → exec (.partInfo i) s =
    .next (withPart s (s.part.finish i stOk (s.part.infoBody (s.part.ses i).feat0 (s.part.ses i).feat2)))) ∧
  (∀ (s : State) (i : Nat) (k : Bytes), Running s i 0x08 k → ∃ u, exec (.noticeMask i) s = .next u ∧
    (u.part.ses i).noticeMask = par k 0 4 ∧ (u.part.ses i).cur = none ∧ (u.part.ses i).feat0 = (s.part.ses i).feat0 ∧
    ∀ j, j ≠ i → u.part.ses j = s.part.ses j)

/-- REPLY_WRITE (R247, R250, R251, R318): the oldest reply is written at the ring's pointer, its body first and then its header with PHASE and the
units taken, when replies may leave and the part holds its units with one to spare, and waits otherwise; at the ring's end a PAD goes
first. CREDIT_REPLY (R248): once units have been taken and 10 µs have passed or 256 are unreported, a CREDIT reply reports them, and it may use the last unit.
MSIX_HOLDOFF_EXPIRE (R252): a vector held back is signalled when its holdoff ends. Without its condition each changes nothing. All three
complete. -/
def Obligations.RepliesAreWritten : Prop :=
  ∀ (s : State) (i : Nat) (x : Session), isSession i = true → s.part.alive 1 = true → x = s.part.ses i →
    (x.waiting = [] → exec (.replyWrite i) s = .next s) ∧
    (∀ r rest, x.waiting = r :: rest →
      (s.part.canReply i = false ∨ x.replyHeld < replyUnits r + 1 → exec (.replyWrite i) s = .next s) ∧
      (s.part.canReply i = true → x.ingress = true → replyUnits r + 1 ≤ x.replyHeld → x.granted = true → x.closing = false →
        ∃ u, exec (.replyWrite i) s = .next u ∧ (u.part.ses i).waiting = rest ∧ (u.part.ses i).unreported = 0 ∧
          (u.part.ses i).out = x.out ++ [(64 * x.replyPtr, replyHeader r true x.unreported ++ pad16 r.body)]) ∧
      (s.part.canReply i = true → x.ingress = false → x.replyPtr + replyUnits r ≤ x.ringUnits → replyUnits r + 1 ≤ x.replyHeld →
        x.granted = true → x.closing = false →
        ∃ u, exec (.replyWrite i) s = .next u ∧ (u.part.ses i).waiting = rest ∧
          (u.part.ses i).out = x.out ++ replyWrites (64 * x.replyPtr) r x.phase x.unreported ∧
          (u.part.ses i).replyHeld = x.replyHeld - replyUnits r ∧ (u.part.ses i).unreported = 0 ∧
          (x.replyPtr + replyUnits r < x.ringUnits → (u.part.ses i).replyPtr = x.replyPtr + replyUnits r ∧ (u.part.ses i).phase = x.phase) ∧
          (x.replyPtr + replyUnits r = x.ringUnits → (u.part.ses i).replyPtr = 0 ∧ (u.part.ses i).phase = !x.phase)) ∧
      (∀ pad, x.ingress = false → pad = x.ringUnits - x.replyPtr → x.ringUnits < x.replyPtr + replyUnits r →
        (x.replyHeld < pad + replyUnits r + 1 → exec (.replyWrite i) s = .next s) ∧
        (s.part.canReply i = true → pad + replyUnits r + 1 ≤ x.replyHeld → 0 < pad → replyUnits r < x.ringUnits → x.granted = true →
          x.closing = false →
          ∃ u, exec (.replyWrite i) s = .next u ∧ (u.part.ses i).waiting = rest ∧
            (u.part.ses i).out = x.out ++ replyWrites (64 * x.replyPtr) (freeReply 7 (zpad (64 * pad - 16))) x.phase 0 ++
              replyWrites 0 r (!x.phase) x.unreported ∧
            (u.part.ses i).replyHeld = x.replyHeld - pad - replyUnits r ∧ (u.part.ses i).replyPtr = replyUnits r))) ∧
    (x.unreported = 0 ∨ x.replyHeld = 0 ∨ x.ringUnits = 0 ∨ s.part.canReply i = false ∨
      (s.part.now < x.lastReply + 10000 ∧ x.unreported < 256) → exec (.creditReply i) s = .next s) ∧
    (0 < x.unreported → 0 < x.replyHeld → 0 < x.ringUnits → s.part.canReply i = true →
      x.lastReply + 10000 ≤ s.part.now ∨ 256 ≤ x.unreported → ∃ u, exec (.creditReply i) s = .next u ∧
        (u.part.ses i).unreported = 0 ∧ (u.part.ses i).replyHeld = x.replyHeld - 1 ∧ (u.part.ses i).waiting = x.waiting ∧
        (x.ingress = false → (u.part.ses i).out = x.out ++ replyWrites (64 * x.replyPtr) (freeReply 6 []) x.phase x.unreported)) ∧
    (x.msixLast = none ∨ x.msixDue = false ∨ (∃ t, x.msixLast = some t ∧ s.part.now < t + 1000 * x.holdoff) →
      exec (.msixHoldoffExpire i) s = .next s) ∧
    (∀ t, x.msixLast = some t → x.msixDue = true → t + 1000 * x.holdoff ≤ s.part.now →
      exec (.msixHoldoffExpire i) s = .next (withPart s
        ((s.part.setSes i { x with msixDue := false, msixLast := some s.part.now }).msix i)))

/-- ADMIT (R196 to R203, R264 to R266): fields that fail end it with the status of the first check; lists in host memory are read first; lists that
fail are BAD_PARAM; a part in fault is NOT_READY; a version that is not available is MODEL_UNAVAILABLE; without draft, prefix, grammar, policy firmware
and partner the request takes the lowest free slot (log entry 23) and is WAITING, or ends with NO_SLOT. ADMIT_ASK_TIMEOUT (R356): an ask without an answer
in time is decided by TIMEOUT_ADMIT. CANCEL (R231, R267): one of a request that is not there, or ends already, is already done; one with a stale epoch is STALE_ROLE; an admitting
request keeps it; any other is stopped, at once or at its next commit point. CANCEL_MARK (R232): a marker is noted with its CXD cycle, or goes back with
STALE_ROLE. TIME_LIMIT_EXPIRE (R233) stops a request as a cancel does. REQUEST_QUERY (R267) replies with the slot's two words. Without its
condition each changes nothing. All six complete. -/
def Obligations.RequestsAreAdmittedAndStopped : Prop :=
  (∀ (s : State) (i : Nat) (k : Bytes), Running s i 0x40 k →
    ((∃ r ∈ s.part.host.reads, (r.kind = 2 ∨ r.kind = 3) ∧ r.sess = i) → exec (.admitRequest i) s = .next s) ∧
    ((∀ r ∈ s.part.host.reads, ¬((r.kind = 2 ∨ r.kind = 3) ∧ r.sess = i)) →
      (∀ st, s.part.admitFieldFail i k = some st → exec (.admitRequest i) s = .next (withPart s (s.part.finish i st []))) ∧
      (s.part.admitFieldFail i k = none → par k 96 8 ≠ 0 → ∃ u l, exec (.admitRequest i) s = .next u ∧
        u.part.host.reads = s.part.host.reads ++ ({ kind := 2, sess := i, key := 0, addr := par k 96 8, len := 4 * par k 16 4 } :: l) ∧
        u = withPart s { s.part with host := { s.part.host with reads := s.part.host.reads ++
          ({ kind := 2, sess := i, key := 0, addr := par k 96 8, len := 4 * par k 16 4 } :: l) } } ∧
        (l = [] ∨ l = [{ kind := 3, sess := i, key := 0, addr := par k 104 8, len := 4 * par k 46 2 }])) ∧
      (s.part.admitFieldFail i k = none → par k 96 8 = 0 → par k 104 8 ≠ 0 → par k 46 2 ≠ 0 → exec (.admitRequest i) s =
        .next (withPart s { s.part with host := { s.part.host with reads := s.part.host.reads ++
          [{ kind := 3, sess := i, key := 0, addr := par k 104 8, len := 4 * par k 46 2 }] } })) ∧
      (s.part.admitFieldFail i k = none → par k 96 8 = 0 → par k 104 8 = 0 ∨ par k 46 2 = 0 →
        (∀ st, s.part.admitListFail k = some st → exec (.admitRequest i) s = .next (withPart s (s.part.finish i st []))) ∧
        (s.part.admitListFail k = none →
          (s.part.faulted = true → exec (.admitRequest i) s = .next (withPart s (s.part.finish i stNotReady []))) ∧
          (s.part.faulted = false → s.part.boot.noTake = true → exec (.admitRequest i) s = .next s) ∧
          (s.part.faulted = false → s.part.boot.noTake = false →
            (s.part.binds (par k 4 4) (par k 8 2) = none ∨ (par k 12 4 ≠ 0 ∧ s.part.binds (par k 12 4) (par k 10 2) = none) →
              exec (.admitRequest i) s = .next (withPart s (s.part.finish i stModelUnavailable []))) ∧
            (∀ e, s.part.binds (par k 4 4) (par k 8 2) = some e → par k 12 4 = 0 → admitPrefix k = false →
              exec (.admitRequest i) s = .next (withPart s (s.part.admitBound i k e none)) ∧
              ((par k 43 1).testBit 1 = false → s.part.slotsLeft 1 = false ∨ s.part.freeSlot [] = none →
                ∃ u, exec (.admitRequest i) s = .next u ∧ u.part.serv = s.part.serv ∧ u.part.kv = s.part.kv ∧ (u.part.ses i).cur = none) ∧
              (∀ sl, (par k 43 1).testBit 1 = false → s.part.ctl.loaded = false → s.part.jrn.partner = none →
                s.part.slotsLeft 1 = true → s.part.freeSlot [] = some sl → ∃ u r, exec (.admitRequest i) s = .next u ∧
                  u.part.req sl = some r ∧ r.st = .waiting ∧ r.id = par k 0 4 ∧ r.sess = i ∧ r.ver = e ∧
                  r.tokens = tokensAt k (promptOff k) (par k 16 4) ∧ r.admitAt = s.part.now ∧ (u.part.kvSlot sl).assigned = true ∧
                  (u.part.kvSlot sl).home = s.part.homeFor (s.part.verPage e) ∧ (u.part.ses i).cur = none ∧
                  ∀ x, x ≠ sl → u.part.req x = s.part.req x))))))) ∧
  (∀ (s : State) (sl : Nat), isSlot sl = true → s.part.alive 1 = true →
    (s.part.req sl = none → exec (.admitAskTimeout sl) s = .next s ∧ exec (.timeLimitExpire sl) s = .next s) ∧
    (∀ r, s.part.req sl = some r →
      (¬(r.st = .admitting ∧ r.stage = .asking ∧ r.askAt + s.part.askLimit < s.part.now) → exec (.admitAskTimeout sl) s = .next s) ∧
      (r.st = .admitting → r.stage = .asking → r.askAt + s.part.askLimit < s.part.now →
        (s.part.regFld aPolCfg 8 1 = 1 → exec (.admitAskTimeout sl) s = .next (withPart s ((s.part.bump aPolCnt 0 32 1).admitJournal sl))) ∧
        (s.part.regFld aPolCfg 8 1 = 0 → exec (.admitAskTimeout sl) s =
          .next (withPart s ((s.part.bump aPolCnt 0 32 1).admitReject sl stPolicyReject)) ∧
          ((s.part.bump aPolCnt 0 32 1).admitReject sl stPolicyReject).req sl = none)) ∧
      (r.limitNs = none ∨ r.st = .admitting ∨ r.st = .ending ∨ (∃ t, r.limitNs = some t ∧ s.part.now ≤ t) →
        exec (.timeLimitExpire sl) s = .next s) ∧
      (∀ t, r.limitNs = some t → r.st ≠ .admitting → r.st ≠ .ending → t < s.part.now → exec (.timeLimitExpire sl) s = .next (withPart s
        ((s.part.setReq sl { r with limitNs := none }).stopRequest sl { r with limitNs := none } 6))))) ∧
  (∀ (s : State) (i : Nat) (k : Bytes), Running s i 0x41 k →
    ((∃ x ∈ s.part.serv.reqs, ∃ c ∈ x.2.cancels, c.1 = i) → exec (.cancel i) s = .next s) ∧
    ((∀ x ∈ s.part.serv.reqs, ∀ c ∈ x.2.cancels, c.1 ≠ i) →
      (s.part.reqOf (par k 0 4) = none → exec (.cancel i) s =
        .next (withPart s ((s.part.bump aSrvCnt 48 16 1).finish i stAlreadyDone []))) ∧
      (∀ sl r, s.part.reqOf (par k 0 4) = some (sl, r) →
        (r.st = .ending → exec (.cancel i) s = .next (withPart s ((s.part.bump aSrvCnt 48 16 1).finish i stAlreadyDone []))) ∧
        (r.st ≠ .ending → s.part.epochOk k sl = false → exec (.cancel i) s = .next (withPart s (s.part.finish i stStaleRole []))) ∧
        (s.part.epochOk k sl = true → r.st = .admitting → exec (.cancel i) s =
          .next (withPart s (s.part.setReq sl { r with cancels := r.cancels ++ [(i, 0)] }))) ∧
        (s.part.epochOk k sl = true → r.st ≠ .ending → r.st ≠ .admitting → exec (.cancel i) s = .next (withPart s
          ((s.part.setReq sl { r with cancels := r.cancels ++ [(i, 0)] }).stopRequest sl { r with cancels := r.cancels ++ [(i, 0)] } 5)))))) ∧
  (∀ (p : Machine.Part) (sl n : Nat) (r : Req),
    (r.run = none → p.stopRequest sl r n = p.endRequest sl n) ∧
    (r.run ≠ none → r.cancelEnd = 0 → p.stopRequest sl r n = (p.setReq sl { r with cancelEnd := n }).sendMark sl) ∧
    (r.run ≠ none → r.cancelEnd ≠ 0 → p.stopRequest sl r n = p)) ∧
  (∀ (s : State) (cxd : Nat), isCxd cxd = true → s.part.alive (11 + cxd) = true →
    (s.part.headCmd (8 + cxd) 0x4002 0xC9 = none → exec (.cancelMark cxd) s = .next s) ∧
    (∀ m sl, s.part.headCmd (8 + cxd) 0x4002 0xC9 = some m → sl = fld m.payload 16 2 →
      ((s.part.kvSlot sl).assigned = false ∨ (s.part.kvSlot sl).home ≠ cxd ∨ fld m.payload 18 2 ≠ s.part.slotEpoch cxd sl →
        exec (.cancelMark cxd) s = .next (withPart s
          ((s.part.popInbox (8 + cxd) 0x4002).giveBack (8 + cxd) m (s.part.slotEpoch cxd sl) stStaleRole))) ∧
      ((s.part.kvSlot sl).assigned = true → (s.part.kvSlot sl).home = cxd → fld m.payload 18 2 = s.part.slotEpoch cxd sl →
        ∃ u, exec (.cancelMark cxd) s = .next u ∧ mfind u.part.kv.marks sl = some (s.part.clk.cycles * 48 / 5) ∧
          u.part.kv.slots = s.part.kv.slots))) ∧
  (∀ (s : State) (i : Nat) (k : Bytes), Running s i 0x42 k →
    (s.part.reqOf (par k 0 4) = none → exec (.requestQuery i) s = .next (withPart s (s.part.finish i stAlreadyDone []))) ∧
    (∀ sl r, s.part.reqOf (par k 0 4) = some (sl, r) →
      (s.part.epochOk k sl = false → exec (.requestQuery i) s = .next (withPart s (s.part.finish i stStaleRole []))) ∧
      (s.part.epochOk k sl = true → exec (.requestQuery i) s =
        .next (withPart s (s.part.finish i stOk (wordBytes (s.part.srvReq sl) ++ wordBytes (s.part.srvReq2 sl)))))))

/-- STEP_ISSUE (R172, R204, R205, R213, R227): first the requests whose work needs a shard that is gone end; no step is issued in part fault, while PART_RESET waits,
or before the round of a TIGHT slice; a step whose batch takes no item is none; one that takes an item raises the placement's step number to one past
its own (log entry 176), and its cohort is the one that stepped; an item that joins writes its positions and its slot is in that step. COMMIT (R206 to R209, R223,
R232, R234): with no step on the slot, or before the last append of a chunk, nothing happens; a chunk's commit makes its positions stand and no
token; a request cancelled before this CXD cycle commits nothing; a commit that samples only appends to the token
record, within MAX_TOKENS and the drafts of the step and one. Both complete. -/
def Obligations.StepsAreIssuedAndCommitted : Prop :=
  (∀ (s : State) (e : Nat) (items : List BatchItem) (jobs : List LayerJob) (vecs : List (Nat × Vect)) (p : Machine.Part),
    isVersion e = true → s.part.alive 1 = true → p = s.part.endNeedy e →
    (p.ver e = none → exec (.stepIssue e items jobs vecs) s = .next (withPart s p)) ∧
    (∀ v, p.ver e = some v →
      (p.faulted = true ∨ p.boot.noTake = true ∨ p.spanStarted v = false →
        exec (.stepIssue e items jobs vecs) s = .next (withPart s p)) ∧
      (∀ c q l, p.faulted = false → p.boot.noTake = false → p.spanStarted v = true → c = p.stepCohort e v items →
        p.issueItems e (v.stepNo c) c items = (q, l) →
        (l = [] → exec (.stepIssue e items jobs vecs) s = .next (withPart s q)) ∧
        (∀ w, l ≠ [] → q.ver e = some w → ∃ u x, exec (.stepIssue e items jobs vecs) s = .next u ∧ u.part.ver e = some x ∧
          x.steps = (v.stepNo c + 1) % 2 ^ 32 ∧ x.lastCohort = c ∧ x.shards = w.shards ∧ u.mem = s.mem ∧
          ∃ new, u.part.an.jobs = q.an.jobs ++ new ∧ ∀ j ∈ new, j.job.slot ∈ l ∧ j.job.step = v.stepNo c ∧ j.job.placement = e))) ∧
    (s.part.needsLost e = false → s.part.endNeedy e = s.part)) ∧
  (∀ (p : Machine.Part) (sl : Nat) (r : Req) (stop n : Nat), (p.issueMain sl r stop n).2 = true → ∃ g x, r.plan stop n = some g ∧
    (p.issueMain sl r stop n).1.req sl = some x ∧ x.run = some g ∧ (x.st = .prefill ∨ x.st = .decode) ∧
    ((p.issueMain sl r stop n).1.kvSlot sl).inStep = true ∧ ((p.issueMain sl r stop n).1.kvSlot sl).len = g.stop ∧
    ((p.issueMain sl r stop n).1.kvSlot sl).tag = n % 65536) ∧
  (∀ (s : State) (sl : Nat) (main draft : List (List Nat)) (v : KvSlot), isSlot sl = true →
    s.part.alive (11 + (s.part.kvSlot sl).home) = true → v = s.part.kvSlot sl →
    (v.inStep = false ∨ (v.chunk = true ∧ s.part.appendsIn sl = false ∧ s.part.stepLives sl = true) →
      exec (.commit sl main draft) s = .next s) ∧
    (v.inStep = true → v.chunk = false ∨ s.part.appendsIn sl = true ∨ s.part.stepLives sl = false →
      (∀ r, s.part.req sl = some r → r.run = none → exec (.commit sl main draft) s = .next (withPart s (s.part.stepBoundary sl v.len))) ∧
      (s.part.req sl = none → (∀ x ∈ s.part.serv.reqs, x.2.companion ≠ some sl) →
        exec (.commit sl main draft) s = .next (withPart s (s.part.stepBoundary sl v.len))) ∧
      (∀ r g, s.part.req sl = some r → r.run = some g →
        (r.st = .ending → exec (.commit sl main draft) s = .next (withPart s
          (((s.part.stepOver sl).setReq sl { r with run := none }).boundaries sl r g g.first))) ∧
        (r.st ≠ .ending → r.cancelEnd ≠ 0 → s.part.markedBefore sl = true →
          exec (.commit sl main draft) s = .next (withPart s ((s.part.stepOver sl).commitNothing sl r g))) ∧
        (r.st ≠ .ending → r.cancelEnd = 0 → g.samples = false → s.part.gramLost r = false →
          ∃ u x, exec (.commit sl main draft) s = .next u ∧ u.part.req sl = some x ∧ x.run = none ∧
            x.done = g.stop ∧ x.tokens = r.tokens ∧ x.st = r.st ∧ u.mem = s.mem ∧ u.kvmem = s.kvmem) ∧
        (r.st ≠ .ending → r.cancelEnd = 0 ∨ s.part.markedBefore sl = false → g.samples = true →
          (main.length ≠ g.drafts + 1 ∨ draft.length ≠ g.drafts → exec (.commit sl main draft) s = .next s) ∧
          (main.length = g.drafts + 1 → draft.length = g.drafts → r.finalDone = false →
            ∃ u x ts, exec (.commit sl main draft) s = .next u ∧ u.part.req sl = some x ∧ x.run = none ∧
              x.tokens = r.tokens ++ ts ∧ ts.length ≤ r.remaining ∧ ts.length ≤ g.drafts + 1)))))

/-- JOURNAL_RECORD, JOURNAL_ACK and JOURNAL_REFUSAL (R331, R334 to R337, R340, R341): a part in fault serves none; a piece of a record waits for
the rest; a whole record of a part that is no source, or one that cannot be kept, is refused, one of a sealed source answered so, any other is kept and
acknowledged; an acknowledgement or refusal of any part but the partner is ignored; a refused record of a request that the part does not hold loses
the partner; the answer to a SET names the partner or ends the SET with NO_PARTNER.

JOURNAL_SET, PARTNER_SET_TIMEOUT, JOURNAL_CLEAR, JOURNAL_SEAL, JOURNAL_ADOPT and JOURNAL_RELEASE (R338, R340, R341, R343, R344): a SET that names this part is
BAD_PARAM, another is asked and, after 100 ms, NO_PARTNER; CLEAR without a partner is already done; SEAL takes the records that have arrived
and stops the journal of a source; only a sealed source is adopted from and released; an adopted request is PREEMPTED with its journaled tokens.
A command with another ACTION changes nothing. All nine complete. -/
def Obligations.JournalsAndPartners : Prop :=
  (∀ (s : State), s.part.alive 1 = true →
    (s.part.faulted = true → exec .journalRecord s = .next s ∧ exec .journalAck s = .next s ∧ exec .journalRefusal s = .next s) ∧
    ((∀ x ∈ s.part.fab.inbox, partnerMsg x = false) → exec .journalRecord s = .next s) ∧
    ((∀ x ∈ s.part.fab.inbox, ackMsg x = false) → exec .journalAck s = .next s) ∧
    ((∀ x ∈ s.part.fab.inbox, refuseMsg x = false) → exec .journalRefusal s = .next s) ∧
    (s.part.faulted = false →
      (∀ src p, s.part.takeMsg partnerMsg = some ((src, .partnerAsk), p) →
        exec .journalRecord s = .next (withPart s (p.partnerAsked src)) ∧
        (p.jsrc src = none → 2 ≤ p.jrn.sources.length → p.partnerAsked src = p.control src (.partnerAnswer false))) ∧
      (∀ src b p buf, s.part.takeMsg partnerMsg = some ((src, .journal b), p) → buf = mget [] s.part.jrn.partial_ src ++ b →
        (buf.length < 16 + fld buf 8 4 → ∃ u, exec .journalRecord s = .next u ∧ u.part.jrn.sources = s.part.jrn.sources ∧
          mget [] u.part.jrn.partial_ src = buf ∧ u.part.fab = p.fab) ∧
        (16 + fld buf 8 4 ≤ buf.length → p.jsrc src = none → ∃ u m, exec .journalRecord s = .next u ∧
          u.part.jrn.sources = s.part.jrn.sources ∧ u.part.fab.out = s.part.fab.out ++ [m] ∧ m.dst = src ∧
          m.msg = .journalRefuse (fld buf 0 1) (fld buf 4 4)) ∧
        (∀ v, 16 + fld buf 8 4 ≤ buf.length → p.jsrc src = some v →
          (v.isSealed = true → ∃ u m, exec .journalRecord s = .next u ∧ u.part.jrn.sources = s.part.jrn.sources ∧
            u.part.fab.out = s.part.fab.out ++ [m] ∧ m.dst = src ∧ m.msg = .journalSealed) ∧
          (v.isSealed = false → v.after (fld buf 0 1) (fld buf 4 4) (buf.drop 16) = none → ∃ u m, exec .journalRecord s = .next u ∧
            u.part.jrn.sources = s.part.jrn.sources ∧ u.part.fab.out = s.part.fab.out ++ [m] ∧ m.dst = src ∧
            m.msg = .journalRefuse (fld buf 0 1) (fld buf 4 4)) ∧
          (∀ rs, v.isSealed = false → v.after (fld buf 0 1) (fld buf 4 4) (buf.drop 16) = some rs →
            { v with reqs := rs }.need ≤ v.stripes.length → v.stripes.length ≤ 64 → ∃ u w m, exec .journalRecord s = .next u ∧
              u.part.jsrc src = some w ∧ w.reqs = rs ∧ w.isSealed = false ∧ u.part.fab.out = s.part.fab.out ++ [m] ∧ m.dst = src ∧
              m.msg = .journalAck (fld buf 0 1) (fld buf 4 4)))) ∧
      (∀ src kind id p, s.part.takeMsg ackMsg = some ((src, .journalAck kind id), p) →
        (p.isPartner src = false → exec .journalAck s = .next (withPart s p)) ∧
        (p.isPartner src = true → exec .journalAck s = .next (withPart s (p.acked kind id)) ∧
          (kind ≠ 1 → kind ≠ 2 → p.jrn.pending = [] → p.acked kind id = p.bump aJrnCnt 0 32 1))) ∧
      (∀ src ok p, s.part.takeMsg ackMsg = some ((src, .partnerAnswer ok), p) →
        ((∀ x, p.jrn.set = some x → x.part ≠ src ∨ x.answered = true) → exec .journalAck s = .next (withPart s p)) ∧
        (∀ x, p.jrn.set = some x → x.part = src → x.answered = false → exec .journalAck s = .next (withPart s (p.setAccepted x)) ∧
          (p.serv.reqs = [] → (p.setAccepted x).jrn.partner = some src ∧ (p.setAccepted x).jrn.lost = false))) ∧
      (∀ src kind id p, s.part.takeMsg refuseMsg = some ((src, .journalRefuse kind id), p) →
        (p.isPartner src = false → exec .journalRefusal s = .next (withPart s p)) ∧
        (p.isPartner src = true → p.reqOf id = none → exec .journalRefusal s = .next (withPart s p.partnerLost)) ∧
        (∀ sl r, p.isPartner src = true → p.reqOf id = some (sl, r) →
          (kind = 1 → r.st = .admitting → r.stage = .journaling → exec .journalRefusal s =
            .next (withPart s ((p.bump aJrnCnt 32 16 1).admitReject sl stNoPartner))) ∧
          (kind ≠ 1 ∨ r.st ≠ .admitting ∨ r.stage ≠ .journaling → exec .journalRefusal s = .next (withPart s p.partnerLost)))) ∧
      (∀ src p, s.part.takeMsg refuseMsg = some ((src, .journalSealed), p) →
        (p.isPartner src = false → exec .journalRefusal s = .next (withPart s p)) ∧
        (p.isPartner src = true → exec .journalRefusal s = .next (withPart s (p.journalSealed src)))) ∧
      (∀ src ok p, s.part.takeMsg refuseMsg = some ((src, .partnerAnswer ok), p) →
        ((∀ x, p.jrn.set = some x → x.part ≠ src ∨ x.answered = true) → exec .journalRefusal s = .next (withPart s p)) ∧
        (∀ x, p.jrn.set = some x → x.part = src → x.answered = false → exec .journalRefusal s = .next (withPart s (p.endSet stNoPartner)))) ∧
      (∀ d, s.part.jrn.partner = some d → s.part.jrn.lost = false → s.part.jrn.set = none → s.part.serv.reqs = [] →
        s.part.partnerLost.jrn.lost = true ∧ s.part.partnerLost.jrn.partner = some d ∧ s.part.partnerLost.jrn.pending = []))) ∧
  (∀ (s : State),
    (∀ i k, Running s i 0x09 k →
      (par k 0 1 ≠ 0 → exec (.journalSet i) s = .next s) ∧ (par k 0 1 ≠ 1 → exec (.journalSeal i) s = .next s) ∧
      (par k 0 1 ≠ 2 → exec (.journalAdopt i) s = .next s) ∧ (par k 0 1 ≠ 3 → exec (.journalRelease i) s = .next s) ∧
      (par k 0 1 ≠ 4 → exec (.journalClear i) s = .next s)) ∧
    (∀ i k, Running s i 0x09 k → par k 0 1 = 0 →
      (∀ x, s.part.jrn.set = some x →
        (x.sess ≠ i → exec (.journalSet i) s = .next (withPart s (s.part.finish i stBusy []))) ∧
        (x.sess = i → exec (.journalSet i) s = .next s)) ∧
      (s.part.jrn.set = none →
        (par k 2 2 = s.part.fabCfg.partId → exec (.journalSet i) s = .next (withPart s (s.part.finish i stBadParam []))) ∧
        (par k 2 2 ≠ s.part.fabCfg.partId → ∃ u, exec (.journalSet i) s = .next u ∧ u.part.jrn.set =
          some { part := par k 2 2, sess := i, since := s.part.now, answered := false } ∧
          u.part.jrn.partner = s.part.jrn.partner))) ∧
    (s.part.alive 1 = true →
      (s.part.jrn.set = none → exec .partnerSetTimeout s = .next s) ∧
      (∀ x, s.part.jrn.set = some x →
        (x.answered = true ∨ s.part.now ≤ x.since + 100000000 → exec .partnerSetTimeout s = .next s) ∧
        (x.answered = false → x.since + 100000000 < s.part.now → exec .partnerSetTimeout s = .next (withPart s (s.part.endSet stNoPartner)) ∧
          (s.part.endSet stNoPartner).jrn.set = none ∧ (s.part.endSet stNoPartner).jrn.partner = s.part.jrn.partner))) ∧
    (∀ i k, Running s i 0x09 k → par k 0 1 = 4 →
      (s.part.jrn.partner = none → exec (.journalClear i) s = .next (withPart s (s.part.finish i stAlreadyDone []))) ∧
      (∀ d, s.part.jrn.partner = some d → exec (.journalClear i) s = .next (withPart s (s.part.journalClear i)) ∧
        (s.part.serv.reqs = [] → (s.part.journalClear i).jrn.partner = none ∧ (s.part.journalClear i).jrn.lost = false))) ∧
    (∀ i k p, Running s i 0x09 k → par k 0 1 = 1 →
      p = (if s.part.faulted = true then s.part else s.part.takeArrived (par k 2 2) s.part.fab.inbox.length) →
      ((∀ b, (par k 2 2, FabMsg.journal b) ∉ s.part.fab.inbox) → p = s.part) ∧
      (p.jsrc (par k 2 2) = none → exec (.journalSeal i) s = .next (withPart s (p.finish i stBadParam []))) ∧
      (∀ v, p.jsrc (par k 2 2) = some v →
        (v.isSealed = true → exec (.journalSeal i) s = .next (withPart s (p.finish i stAlreadyDone (sealBody v)))) ∧
        (v.isSealed = false → ∃ u w, exec (.journalSeal i) s = .next u ∧ u.part.jsrc (par k 2 2) = some w ∧
          w.isSealed = true ∧ w.adopted = 0 ∧ w.reqs = v.reqs))) ∧
    (∀ i k, Running s i 0x09 k → par k 0 1 = 2 →
      ((∀ v, s.part.jsrc (par k 2 2) = some v → v.isSealed = false) → exec (.journalAdopt i) s =
        .next (withPart s (s.part.finish i stBadParam []))) ∧
      (∀ v q n, s.part.jsrc (par k 2 2) = some v → v.isSealed = true →
        s.part.adoptAll i k (par k 2 2) (List.range (par k 4 2)) [0, 0, 0, 0] = (q, n) →
        exec (.journalAdopt i) s = .next (withPart s (q.finish i stOk (n.flatMap (leBytes 2) ++ zpad 8))) ∧
        (v.reqs = [] → par k 4 2 = 1 → q = s.part ∧ n = [0, 1, 0, 0]))) ∧
    (∀ (p q : Machine.Part) (i part id next : Nat) (k : Bytes) (v : JSrc) (j : JReq), p.jsrc part = some v →
      v.reqs.find? (fun r => r.id == id) = some j →
      (j.lost = true ∨ j.tokens.length < next → p.adoptEntry i k part id next = (p, 1)) ∧
      (j.lost = false → next ≤ j.tokens.length →
        ((p.reqOf id).isSome = true → p.adoptEntry i k part id next = (p, 2)) ∧
        ((p.reqOf id).isSome = false → p.freeSlot [] = none → p.adoptEntry i k part id next = (p, 3)) ∧
        (∀ b, p.adoptEntry i k part id next = (q, 0) → j.end_ = 0 → p.adoptBind j.admission = some b → fld j.admission 32 4 = 0 →
          ∃ sl r, p.freeSlot [] = some sl ∧ q.req sl = some r ∧ r.id = id ∧ r.sess = i ∧ r.st = .preempted ∧
            r.tokens.drop r.prompt = j.tokens))) ∧
    (∀ i k, Running s i 0x09 k → par k 0 1 = 3 →
      ((∀ v, s.part.jsrc (par k 2 2) = some v → v.isSealed = false) → exec (.journalRelease i) s =
        .next (withPart s (s.part.finish i stBadParam []))) ∧
      (∀ v, s.part.jsrc (par k 2 2) = some v → v.isSealed = true → ∃ u, exec (.journalRelease i) s = .next u ∧
        u.part.jsrc (par k 2 2) = none ∧ (u.part.ses i).cur = none)))

/-- EVENT_MESSAGE, EVC_DELIVER, EVC_CLAIM, EVC_COMPLETE, EVC_GATE, EVC_SOFT_SET, FAST_SRET and MOD_TIMER_EXPIRE (R359 to R366): an event on a
line that does not exist is discarded and counted in BAD_LINE, one that comes while domain 1 sleeps goes to the retained copy; the line chosen is
delivered to the core chosen, a fast line into its trap; a claim returns the line and its count and clears it, or 0x3FF; a completion ends
the core's claims of the line and changes no other core; the host does not set GATE, and a core's write counts from the next cycle; a set bit of
EVC_SOFT is an occurrence of its line; sret from the fast trap restores the shadow registers; a moderation timer ends when it is due. Without its condition
each changes nothing. All eight complete. -/
def Obligations.EventsAreDeliveredAndClaimed : Prop :=
  (∀ (s : State), s.part.alive 0 = true →
    (s.part.ctl.events = [] → exec .eventMessage s = .next s) ∧
    (∀ e l, s.part.ctl.events = e :: l →
      (lineOk (fld e 0 2) = false → exec .eventMessage s =
        .next (withPart s (Part.bump { s.part with ctl := { s.part.ctl with events := l } } aEvcCnt 56 8 1))) ∧
      (lineOk (fld e 0 2) = true → s.part.domUp 1 = true → (s.part.line (fld e 0 2)).modUs = 0 → ∃ u, exec .eventMessage s = .next u ∧
        u.part.ctl.events = l ∧
        (u.part.line (fld e 0 2)).count = min ((s.part.line (fld e 0 2)).count + 1) 4095 ∧
        (u.part.line (fld e 0 2)).armed = true) ∧
      (lineOk (fld e 0 2) = true → s.part.domUp 1 = true → ∃ u, exec .eventMessage s = .next u ∧ u.mem = s.mem) ∧
      (lineOk (fld e 0 2) = true → s.part.domUp 1 = false →
        (s.part.evcCopy = none → exec .eventMessage s = .next (withPart s { s.part with ctl := { s.part.ctl with events := l } })) ∧
        (∀ v, s.part.evcCopy = some v → ∃ u w, exec .eventMessage s = .next u ∧ u.part.evcCopy = some w ∧
          (mget Line.reset w.lines (fld e 0 2)).count = min ((mget Line.reset v.lines (fld e 0 2)).count + 1) 4095)))) ∧
  (∀ (s : State), s.part.alive 1 = true →
    (∀ w p, s.part.free = (w, p) →
      (p.nextLine w p.ctl.lines = none → exec .evcDeliver s = .next (withPart s p)) ∧
      (∀ i, p.nextLine w p.ctl.lines = some i → (p.chooseCore w i 24).isSome = true) ∧
      (∀ i c, p.nextLine w p.ctl.lines = some i → p.chooseCore w i 24 = some c → p.canTake i c = true ∧
        ((p.line i).fast = false → ∃ u, exec .evcDeliver s = .next u ∧ (u.part.core c).delivered = (p.core c).delivered ++ [i] ∧
          (u.part.line i).armed = false) ∧
        ((p.line i).fast = true → ∃ u, exec .evcDeliver s = .next u ∧ (u.part.core c).fastActive = true ∧ (u.part.core c).fastLine = i ∧
          (u.part.core c).fastCount = (p.line i).count ∧ (u.part.core c).bank1 = true ∧ (u.part.core c).shadow = (p.core c).csr ∧
          (u.part.line i).count = 0))) ∧
    (∀ c, isCore c = true →
      (s.part.claimLine (s.part.core c).delivered = none → exec (.evcClaim c) s =
        .next (withPart s (s.part.setCore c { s.part.core c with rd := 0x3FF }))) ∧
      (∀ i, s.part.claimLine (s.part.core c).delivered = some i → s.part.lineClaimed i = false ∧ ∃ u, exec (.evcClaim c) s = .next u ∧
        (u.part.core c).rd = BitVec.ofNat 64 (i + (s.part.line i).count * 65536) ∧ (u.part.line i).count = 0 ∧
        (u.part.core c).claimed = (s.part.core c).claimed ++ [(i, (s.part.line i).count)]) ∧
      (∀ i, ∃ u, exec (.evcComplete c i) s = .next u ∧ (∀ x ∈ (u.part.core c).claimed, x.1 ≠ i ∧ x ∈ (s.part.core c).claimed) ∧
        (∀ x ∈ (s.part.core c).claimed, x.1 ≠ i → x ∈ (u.part.core c).claimed) ∧
        (u.part.core c).delivered = (s.part.core c).delivered ∧ u.part.ctl.lines = s.part.ctl.lines ∧
        ∀ d, d ≠ c → u.part.core d = s.part.core d) ∧
      (∀ v, exec (.evcGate .host v) s = .next s ∧ ∃ u, exec (.evcGate (.core c) v) s = .next u ∧ u.part.ctl.gate = v ∧
        u.part.gateNow = s.part.gateNow) ∧
      ((s.part.core c).fastActive = false → exec (.fastSret c) s = .next s) ∧
      ((s.part.core c).fastActive = true → exec (.fastSret c) s = .next (withPart s (s.part.setCore c
        { s.part.core c with fastActive := false, bank1 := false, csr := (s.part.core c).shadow })))) ∧
    (∀ m, exec (.evcSoftSet m) s = .next (withPart s (s.part.softSet m))) ∧
    (exec (.evcSoftSet 0) s = .next s) ∧
    (∀ k, k < 32 → (s.part.line (272 + k)).modUs = 0 → ∃ u, exec (.evcSoftSet (2 ^ k)) s = .next u ∧
      (u.part.line (272 + k)).count = min ((s.part.line (272 + k)).count + 1) 4095 ∧ (u.part.line (272 + k)).armed = true ∧
      ∀ j, j ≠ 272 + k → u.part.line j = s.part.line j) ∧
    (∀ i, isLine i = true →
      ((s.part.line i).timer = none → exec (.modTimerExpire i) s = .next s) ∧
      (∀ t, (s.part.line i).timer = some t →
        (s.part.now < t → exec (.modTimerExpire i) s = .next s) ∧
        (t ≤ s.part.now → exec (.modTimerExpire i) s = .next (withPart s (s.part.setLine i { s.part.line i with timer := none }))))))

/-- MBOX_SEND, MBOX_POP, POL_RING_POP, POL_RANK and POLICY_FAULT (R352 to R358): a send to itself or to no core is status 2,
one to a full mailbox status 1, any other is put behind the messages of its receiver; a pop removes the oldest message, and lets in the first one
that this cycle found the mailbox full; a pop of the ring removes and returns its oldest entry, an empty one reads zero, and of the pops of one cycle the
lower core has the older entry; a rank of a slot without a live request is discarded; a policy fault stops every policy core and unloads the
firmware, once. All five complete. -/
def Obligations.PolicyFirmware : Prop :=
  ∀ (s : State), s.part.alive 1 = true →
    (∀ c d, isCore c = true →
      (23 < d ∨ d = c → ∃ u, exec (.mboxSend c d) s = .next u ∧ (u.part.core c).last = 2 ∧
        (u.part.core c).mbox = (s.part.core c).mbox ∧ ∀ x, x ≠ c → u.part.core x = s.part.core x) ∧
      (d ≤ 23 → d ≠ c → 64 ≤ (s.part.core d).mbox.length → ∃ u, exec (.mboxSend c d) s = .next u ∧ (u.part.core c).last = 1 ∧
        (u.part.core d).mbox = (s.part.core d).mbox) ∧
      (d ≤ 23 → d ≠ c → (s.part.core d).mbox.length < 64 → ∃ u, exec (.mboxSend c d) s = .next u ∧
        (u.part.core c).last = 0 ∧
        (u.part.core d).mbox = (s.part.core d).mbox ++ [{ src := c, words := (s.part.core c).staged }])) ∧
    (∀ c, isCore c = true →
      ((s.part.core c).refusedAt ≠ s.part.clk.cycles ∨ (s.part.core c).refused = [] →
        exec (.mboxPop c) s = .next (withPart s (s.part.setCore c { s.part.core c with mbox := (s.part.core c).mbox.drop 1 }))) ∧
      (∀ m l, (s.part.core c).refusedAt = s.part.clk.cycles → (s.part.core c).refused = m :: l → ∃ u, exec (.mboxPop c) s = .next u ∧
        (u.part.core c).mbox = (s.part.core c).mbox.drop 1 ++ [m] ∧ (u.part.core m.src).last = 0) ∧
      (∃ u, exec (.polRingPop c) s = .next u ∧ u.part.ctl.ring = s.part.ctl.ring.drop 1 ∧
        (s.part.ctl.popsAt ≠ s.part.clk.cycles ∨ s.part.ctl.pops = [] →
          (s.part.ctl.ring = [] → u.part.core c = { s.part.core c with rd := 0 }) ∧
          (∀ e l, s.part.ctl.ring = e :: l → e ≠ [] → u.part.core c =
            { s.part.core c with rd := BitVec.ofNat 64 (fld e 0 8), ringHi := BitVec.ofNat 64 (fld e 8 8) })) ∧
        (∀ d x e l, s.part.ctl.popsAt = s.part.clk.cycles → s.part.ctl.pops = [(d, x)] → d ≠ c → x ≠ [] →
          s.part.ctl.ring = e :: l → e ≠ [] →
          (u.part.core (min c d)).rd = BitVec.ofNat 64 (fld x 0 8) ∧ (u.part.core (max c d)).rd = BitVec.ofNat 64 (fld e 0 8)))) ∧
    (∀ sl r, isSlot sl = true →
      (s.part.slotLive sl = false → exec (.polRank sl r) s = .next s) ∧
      (s.part.slotLive sl = true → ∃ u, exec (.polRank sl r) s = .next u ∧ mget 0x8000 u.part.ctl.ranks sl = r % 65536)) ∧
    (∀ c n, isPolicyCore c = true →
      (s.part.ctl.loaded = false ∨ (s.part.core c).stopped = true → exec (.policyFault c n) s = .next s) ∧
      (s.part.ctl.loaded = true → (s.part.core c).stopped = false → ∃ u, exec (.policyFault c n) s = .next u ∧
        u.part.ctl.loaded = false ∧ u.part.ctl.fault = true ∧ u.part.ctl.faultCore = c ∧ u.part.ctl.faultCause = n % 256 ∧
        ∀ d, isPolicyCore d = true → (u.part.core d).stopped = true))

/-- KEY_INSTALL, KEY_REMOVE, POLICY_LOAD, CERT_READ, ATTEST, DEBUG_AUTH_PHASE0, DEBUG_AUTH_PHASE1 and DEBUG_CHALLENGE_EXPIRE (R454 to R463): a
key that does not unwrap is UNAUTHORISED and installs nothing, one that is held already is done, another key of a model is BAD_PARAM; a key is
removed; a policy load of a good length reads its image while no other runs; CERT_READ answers the record that its field names; an attestation is signed by
the Alias key; phase 0 holds a new challenge; phase 1 uses the held one up, answers the authorised bits to a response that verifies and UNAUTHORISED to
any other; a challenge is gone 60 s after its reply. A DEBUG_AUTH of the other phase, and an expiry that is not due, change nothing. All
eight complete. -/
def Obligations.KeysAndAttestation : Prop :=
  (∀ (s : State) (i op : Nat) (k : Bytes), Running s i op k →
    (op = 0x24 →
      (s.part.unwrapKey k = none → exec (.keyInstall i) s = .next (withPart s (s.part.unauthorised i))) ∧
      (∀ x, s.part.unwrapKey k = some x →
        (mfind s.part.sec.keys (par k 0 4) = some x → exec (.keyInstall i) s =
          .next (withPart s (s.part.finish i stAlreadyDone []))) ∧
        (∀ y, y ≠ x → mfind s.part.sec.keys (par k 0 4) = some y → exec (.keyInstall i) s =
          .next (withPart s (s.part.finish i stBadParam []))) ∧
        (mfind s.part.sec.keys (par k 0 4) = none → 4096 ≤ s.part.sec.keys.length → exec (.keyInstall i) s =
          .next (withPart s (s.part.finish i stNoSpace []))) ∧
        (mfind s.part.sec.keys (par k 0 4) = none → s.part.sec.keys.length < 4096 → ∃ u, exec (.keyInstall i) s = .next u ∧
          mfind u.part.sec.keys (par k 0 4) = some x ∧ (u.part.ses i).cur = none ∧
          ∀ n, n ≠ par k 0 4 → mfind u.part.sec.keys n = mfind s.part.sec.keys n))) ∧
    (op = 0x25 →
      (mfind s.part.sec.keys (par k 0 4) = none → exec (.keyRemove i) s = .next (withPart s (s.part.finish i stAlreadyDone []))) ∧
      ∃ u, exec (.keyRemove i) s = .next u ∧ mfind u.part.sec.keys (par k 0 4) = none ∧ (u.part.ses i).cur = none ∧
        ∀ n, n ≠ par k 0 4 → mfind u.part.sec.keys n = mfind s.part.sec.keys n) ∧
    (op = 0x0C →
      (s.part.ctl.load ≠ none → exec (.policyLoad i) s = .next (withPart s (s.part.finish i stBusy []))) ∧
      (s.part.ctl.load = none → par k 8 4 < 8192 ∨ 397312 < par k 8 4 → exec (.policyLoad i) s =
        .next (withPart s (s.part.finish i stLenRange []))) ∧
      (s.part.ctl.load = none → 8192 ≤ par k 8 4 → par k 8 4 ≤ 397312 → ∃ u l, exec (.policyLoad i) s = .next u ∧
        u.part.ctl.loaded = s.part.ctl.loaded ∧ u.part.ctl.load = some l ∧ l.sess = i ∧ l.addr = par k 0 8 ∧ l.len = par k 8 4 ∧
        l.commit = (par k 12 1).testBit 0 ∧ u.part.host.reads = s.part.host.reads ++
          [{ kind := 4, sess := i, key := 0, addr := par k 0 8, len := par k 8 4 }])) ∧
    (op = 0x0D →
      (par k 0 1 = 1 → exec (.certRead i) s = .next (withPart s (s.part.finish i stOk s.part.sec.devRecord))) ∧
      (par k 0 1 = 2 → exec (.certRead i) s = .next (withPart s (s.part.finish i stOk s.part.aliasRecord))) ∧
      (par k 0 1 = 3 → exec (.certRead i) s = .next (withPart s (s.part.finish i stOk s.part.installRecord))) ∧
      (par k 0 1 ≠ 1 → par k 0 1 ≠ 2 → par k 0 1 ≠ 3 → exec (.certRead i) s = .next (withPart s (s.part.finish i stOk s.part.sec.cert)))) ∧
    (op = 0x0B → exec (.attest i) s = .next (withPart s (s.part.finish i stOk
      (s.part.report (slice k 16 64) ++ signBytes s.part.aliasPrivate (s.part.report (slice k 16 64)) ++ zpad 12)))) ∧
    (op = 0xF3 →
      (par k 0 1 ≠ 0 → exec (.debugAuthPhase0 i) s = .next s) ∧ (par k 0 1 ≠ 1 → exec (.debugAuthPhase1 i) s = .next s) ∧
      (par k 0 1 = 0 → ∃ u c, exec (.debugAuthPhase0 i) s = .next u ∧ u.part.sec.challenge = some c ∧
        c.bytes.length = 64 ∧ c.replied = none ∧ (u.part.ses i).feat2 = (s.part.ses i).feat2 ∧ u.part.freeTick = s.part.freeTick + 8) ∧
      (∀ q, par k 0 1 = 1 → q = { s.part with sec := { s.part.sec with challenge := none } } →
        (s.part.sec.challenge = none → exec (.debugAuthPhase1 i) s = .next (withPart s (q.unauthorised i))) ∧
        (∀ c, s.part.sec.challenge = some c →
          (zeros s.part.sec.cert 228 64 = true ∨ sha (slice k 32 133) ≠ slice s.part.sec.cert 228 64 ∨ c.fresh s.part.now = false ∨
            Config.ecdsaVerify (slice k 32 133) (c.bytes ++ leBytes 8 s.part.sec.serial ++ slice k 20 4) (slice k 168 132) = false →
            exec (.debugAuthPhase1 i) s = .next (withPart s (q.unauthorised i))) ∧
          (zeros s.part.sec.cert 228 64 = false → sha (slice k 32 133) = slice s.part.sec.cert 228 64 → c.fresh s.part.now = true →
            Config.ecdsaVerify (slice k 32 133) (c.bytes ++ leBytes 8 s.part.sec.serial ++ slice k 20 4) (slice k 168 132) = true →
            exec (.debugAuthPhase1 i) s = .next (withPart s (q.finish i stOk
              (padTo 16 (leBytes 4 (par k 4 4 &&& fld s.part.sec.cert 96 4))))) ∧
            ((q.finish i stOk (padTo 16 (leBytes 4 (par k 4 4 &&& fld s.part.sec.cert 96 4)))).ses i).feat2 =
              (s.part.ses i).feat2))))) ∧
  (∀ (s : State), s.part.alive 1 = true →
    (s.part.sec.challenge = none → exec .debugChallengeExpire s = .next s) ∧
    (∀ c, s.part.sec.challenge = some c →
      (c.replied = none → exec .debugChallengeExpire s = .next s) ∧
      (∀ t, c.replied = some t →
        (t + 60000000000 ≤ s.part.now → exec .debugChallengeExpire s =
          .next (withPart s { s.part with sec := { s.part.sec with challenge := none } })) ∧
        (s.part.now < t + 60000000000 → exec .debugChallengeExpire s = .next s))))

/-- POWER_ON, POWER_DOWN, RESET_N_LOW, RESET_N_HIGH, PERST_N_LOW and PERST_N_HIGH (R374 to R378, R382, R397): power starts the AON island
afresh and requests domains 2 and 1; power-down and a reset return every domain to SLEEP; a reset is held while its pin is low; with PERST_SCOPE 1
PERST_N resets only the PCIe function; an unpowered, quenched or, for PERST_N, frozen part takes only the level of the pin.

PCIE_LINK_DOWN, PCIE_LINK_UP, BUS_MASTER_ENABLE, PLL_LOCK_LOSS, REFCLK_LOSS, REFCLK_156_PRESENT and REFCLK_WAIT_TIMEOUT (R372, R373, R377, R387, R390): a link
that falls clears Bus Master Enable; the link trains only with PERST_N high and IOD out of reset; setting Bus Master Enable lets the
held vectors out that are not masked; in service a lost PLL fails its die, and a reference clock that stays away stops bring-up with code 3; readiness
that changed is announced. Without its condition each changes nothing. All thirteen complete. -/
def Obligations.PinsLinkAndClocks : Prop :=
  (∀ (s : State),
    (s.part.pins.pgIn = true → exec .powerOn s = .next s) ∧
    (s.part.pins.pgIn = false → ∃ u, exec .powerOn s = .next u ∧ u.part.pins.pgIn = true ∧ u.part.clk = Clk.reset ∧
      u.part.failedDie = none ∧ u.part.boot.held = !s.part.pins.resetN ∧
      (s.part.pins.resetN = false → u.part.pwr.queue = []) ∧
      (s.part.pins.resetN = true → u.part.pwr.queue = [2, 1] ∧ u.part.domSt 1 = .queued ∧ u.part.domSt 2 = .queued)) ∧
    (s.part.pins.pgIn = false → exec .powerDown s = .next s) ∧
    (s.part.pins.pgIn = true → ∃ u, exec .powerDown s = .next u ∧ u.part.pins.pgIn = false ∧ u.part.clk = Clk.reset ∧
      u.part.pwr.queue = [] ∧ ∀ d, isDomain d = true → u.part.domSt d = .sleep) ∧
    (∀ q, q = { s.part with pins := { s.part.pins with resetN := false } } →
      (s.part.pins.pgIn = false ∨ s.part.therm.quenched = true → exec .resetNLow s = .next (withPart s q)) ∧
      (s.part.pins.pgIn = true → s.part.therm.quenched = false → ∃ u, exec .resetNLow s = .next u ∧ u.part.pins.resetN = false ∧
        u.part.boot.held = true ∧ u.part.boot.cause = 1 ∧ u.part.boot.stage = 0 ∧ u.part.failedDie = none ∧ u.part.pwr.queue = [] ∧
        u.part.clk.cycles = s.part.clk.cycles ∧ ∀ d, isDomain d = true → u.part.domSt d = .sleep)) ∧
    (∀ q, q = { s.part with pins := { s.part.pins with resetN := true } } →
      (s.part.pins.pgIn = false ∨ s.part.therm.quenched = true ∨ s.part.boot.held = false → exec .resetNHigh s = .next (withPart s q)) ∧
      (s.part.pins.pgIn = true → s.part.therm.quenched = false → s.part.boot.held = true → exec .resetNHigh s =
        .next (withPart s (Part.startBringup { q with boot := { q.boot with held := false } })))) ∧
    (∀ q l, q = { s.part with pins := { s.part.pins with perstN := false } } →
      (s.part.pins.pgIn = false ∨ s.part.therm.quenched = true ∨ s.part.frz.active = true → exec (.perstNLow l) s = .next (withPart s q)) ∧
      (s.part.pins.pgIn = true → s.part.therm.quenched = false → s.part.frz.active = false →
        (s.part.regFld aRstCfg 0 1 = 1 → s.part.boot.stage ≠ 6 → exec (.perstNLow l) s = .next (withPart s (q.linkFall l)) ∧
          (s.part.host.reads = [] → q.linkFall l = { q with host := { q.host with linkUp := false, bme := false, table := [] } })) ∧
        (s.part.regFld aRstCfg 0 1 ≠ 1 ∨ s.part.boot.stage = 6 → ∃ u, exec (.perstNLow l) s = .next u ∧ u.part.boot.perstHeld = true ∧
          u.part.boot.cause = 2 ∧ u.part.boot.stage = 0 ∧ u.part.pwr.queue = [] ∧ ∀ d, isDomain d = true → u.part.domSt d = .sleep))) ∧
    (∀ q, q = { s.part with pins := { s.part.pins with perstN := true } } →
      (s.part.pins.pgIn = false ∨ s.part.therm.quenched = true ∨ s.part.frz.active = true ∨ s.part.boot.perstHeld = false →
        exec .perstNHigh s = .next (withPart s q)) ∧
      (s.part.pins.pgIn = true → s.part.therm.quenched = false → s.part.frz.active = false → s.part.boot.perstHeld = true →
        exec .perstNHigh s = .next (withPart s (Part.startBringup { q with boot := { q.boot with perstHeld := false } })))) ∧
    (∀ p : Machine.Part, (p.boot.held = true ∨ p.boot.perstHeld = true → p.startBringup = p) ∧
      (p.boot.held = false → p.boot.perstHeld = false → p.domSt 1 = .sleep → p.domSt 2 = .sleep →
        p.startBringup.pwr.queue = p.pwr.queue ++ [2, 1] ∧ p.startBringup.domSt 1 = .queued ∧ p.startBringup.domSt 2 = .queued))) ∧
  (∀ (s : State), s.part.alive 2 = true →
    (∀ l, exec (.pcieLinkDown l) s = .next (withPart s (s.part.linkFall l)) ∧
      (s.part.host.reads = [] → s.part.linkFall l =
        { s.part with host := { s.part.host with linkUp := false, bme := false, table := [] } })) ∧
    (s.part.pins.perstN = true → s.part.boot.dieUp.testBit 1 = true → exec .pcieLinkUp s =
      .next (withPart s { s.part with host := { s.part.host with linkUp := true } })) ∧
    (s.part.pins.perstN = false ∨ s.part.boot.dieUp.testBit 1 = false → exec .pcieLinkUp s = .next s) ∧
    (s.part.host.linkUp = false → ∀ v, exec (.busMasterEnable v) s = .next s) ∧
    (s.part.host.linkUp = true →
      (exec (.busMasterEnable false) s = .next (withPart s { s.part with host := { s.part.host with bme := false } })) ∧
      ∃ u, exec (.busMasterEnable true) s = .next u ∧ u.part.canWrite = true ∧
        u.part.host.msixPend = s.part.host.msixPend.filter (fun v => (s.part.msixEntry v).masked) ∧
        u.part.host.msixSent = s.part.host.msixSent ++
          (s.part.host.msixPend.filter fun v => !(s.part.msixEntry v).masked).map fun x => (x, s.part.now))) ∧
  (∀ (s : State) (d : Nat), isDie d = true → s.part.alive 0 = true →
    (s.part.feat1 = s.part.boot.feat1Seen → s.part.readyClusters = s.part.boot.readySeen → s.part.readiness = s.part) ∧
    (s.part.clk.lock.testBit d = false → exec (.pllLockLoss d) s = .next (withPart s s.part.readiness)) ∧
    (s.part.clk.lock.testBit d = true → ∃ u, exec (.pllLockLoss d) s = .next u ∧ u.part.clk.lock = clearBit s.part.clk.lock d ∧
      (s.part.boot.stage < 3 → u.part.boot.stage = 7 ∧ u.part.boot.faultCode = 3) ∧
      (s.part.boot.stage = 6 ∨ s.part.boot.stage = 7 → u.part.failedDie = s.part.failedDie ∧ u.part.boot.stage = s.part.boot.stage) ∧
      (s.part.failedDie = none → 3 ≤ s.part.boot.stage → s.part.boot.stage < 6 → u.part.failedDie = some d))) ∧
  (∀ (s : State),
    (s.part.clk.ref156 = false → exec .refclkLoss s = .next (withPart s s.part.readiness)) ∧
    (s.part.clk.ref156 = true → ∃ u, exec .refclkLoss s = .next u ∧ u.part.clk.ref156 = false ∧
      (s.part.boot.stage < 3 → u.part.boot.stage = s.part.boot.stage ∧ u.part.failedDie = s.part.failedDie) ∧
      (3 ≤ s.part.boot.stage → s.part.boot.stage < 6 → s.part.failedDie = none → u.part.failedDie = some 0)) ∧
    (s.part.clk.ref156 = true ∨ s.part.pins.pgIn = false → ∀ b, exec (.refclk156Present b) s = .next s) ∧
    (s.part.clk.ref156 = false → s.part.pins.pgIn = true →
      (∀ b, b = false ∨ 3 ≤ s.part.boot.stage → exec (.refclk156Present b) s =
        .next (withPart s { s.part with clk := { s.part.clk with ref156 := true } })) ∧
      (s.part.boot.stage < 3 → ∃ u, exec (.refclk156Present true) s = .next u ∧ u.part.clk.ref156 = true ∧ u.part.boot.stage = 7 ∧
        u.part.boot.faultCode = 3)) ∧
    (s.part.alive 0 = true →
      (s.part.clk.ref156 = true ∨ (s.part.boot.stage ≠ 1 ∧ s.part.boot.stage ≠ 2) → exec .refclkWaitTimeout s = .next s) ∧
      (s.part.clk.ref156 = false → s.part.boot.stage = 1 ∨ s.part.boot.stage = 2 →
        ∃ u, exec .refclkWaitTimeout s = .next u ∧ u.part.boot.stage = 7 ∧ u.part.boot.faultCode = 3)))

/-- PART_RESET, PART_RESET_HALT, RESET_DELAY_EXPIRE, HALT_COMPLETE, HALT_TIMEOUT, RST_CTL_RESET and RST_CTL_HALT (R379, R380): a reset stops
all taking and begins 100 µs after its reply, with cause 3; a halt ends, once no deep work is left, in stage HALTED with every domain but AON and IOD
in SLEEP, or after 100 ms in a reset; RST_CTL acts on KEY 0xC0DE alone, with cause 4. A packet of the other form, a delay or halt that is not due and a halt
beside another change nothing else. All seven complete. -/
def Obligations.PartResetAndHalt : Prop :=
  ∀ (s : State),
    (∀ i k, Running s i 0x0A k →
      ((par k 0 1).testBit 1 = false → exec (.partResetHalt i) s = .next s ∧
        ∃ u, exec (.partReset i) s = .next u ∧ u.part.boot.noTake = true ∧
          (u.part.ses i).cur = none ∧ (pkQuiet k = true → u.part.boot.resetDue = some (s.part.now + 100000)) ∧
          (pkQuiet k = false → u.part.boot.resetDue = s.part.boot.resetDue)) ∧
      ((par k 0 1).testBit 1 = true → exec (.partReset i) s = .next s ∧
        (s.part.boot.halt ≠ none → exec (.partResetHalt i) s = .next (withPart s (s.part.startA i 0))) ∧
        (s.part.boot.halt = none → ∃ u, exec (.partResetHalt i) s = .next u ∧ u.part.boot.noTake = true ∧ u.part.boot.halt = some
          { byCtl := false, sess := i, tag := pkTag k, seq := (s.part.ses i).serial, since := s.part.now } ∧
          (u.part.ses i).cur = none ∧ u.part.boot.stage = s.part.boot.stage))) ∧
    (s.part.alive 0 = true →
      (s.part.boot.resetDue = none → exec .resetDelayExpire s = .next s) ∧
      (∀ t, s.part.boot.resetDue = some t →
        (s.part.now < t → exec .resetDelayExpire s = .next s) ∧
        (t ≤ s.part.now → ∃ u, exec .resetDelayExpire s = .next u ∧
          u.part.boot.cause = 3 ∧ u.part.boot.stage = 0 ∧ u.part.failedDie = none ∧ u.part.pwr.queue = [2, 1])) ∧
      (s.part.boot.halt = none → exec .haltComplete s = .next (withPart s s.part.readiness) ∧ exec .haltTimeout s = .next s) ∧
      (∀ h, s.part.boot.halt = some h →
        ((∃ t ∈ s.part.an.tiles, t.2.haltBusy = true) ∨ s.part.domSt 1 ≠ .on →
          exec .haltComplete s = .next (withPart s s.part.readiness)) ∧
        ((∀ t ∈ s.part.an.tiles, t.2.haltBusy = false) → s.part.domSt 1 = .on →
          ∃ u, exec .haltComplete s = .next u ∧ u.part.boot.stage = 6 ∧ u.part.boot.halt = none ∧ u.part.pwr.queue = [] ∧
            ∀ d, isDomain d = true → d ≠ 2 → u.part.domSt d = .sleep) ∧
        (s.part.now < h.since + 100000000 → exec .haltTimeout s = .next s) ∧
        (h.since + 100000000 ≤ s.part.now → ∃ u, exec .haltTimeout s = .next u ∧
          u.part.boot.stage = 0 ∧ u.part.boot.halt = none ∧ u.part.boot.cause = (if h.byCtl then 4 else 3) ∧
          u.part.pwr.queue = [2, 1]))) ∧
    (s.part.alive 2 = true →
      (∀ key, key ≠ 0xC0DE → exec (.rstCtlReset key) s = .next s ∧ exec (.rstCtlHalt key) s = .next s) ∧
      (∃ u, exec (.rstCtlReset 0xC0DE) s = .next u ∧ u.part.boot.cause = 4 ∧ u.part.boot.stage = 0 ∧
        u.part.pwr.queue = [2, 1]) ∧
      (s.part.boot.stage = 6 ∨ s.part.boot.halt ≠ none → exec (.rstCtlHalt 0xC0DE) s = .next s) ∧
      (s.part.boot.stage ≠ 6 → s.part.boot.halt = none → ∃ u,
        exec (.rstCtlHalt 0xC0DE) s = .next u ∧ u.part.boot.noTake = true ∧ u.part.boot.halt = some
          { byCtl := true, sess := 64, tag := 0, seq := 0, since := s.part.now }))

/-- DIE_RESET_EXIT, DIE_RESET_TIMEOUT and STAGE_FIRMWARE (R86, R381, R382, R387, R390, R400, R442): a die of a STARTING domain leaves reset; IOD brings
stage LINK, a CXD its stacks or, where one fails, code 4, an ACD its count of slots; a die that does not within 1 s stops bring-up with code 6; firmware that runs
writes the boot record and brings stage FIRMWARE, a flash that is absent code 1 and an image or certificate that fails code 2. Without its condition each
changes nothing but announces readiness that changed. All three complete. -/
def Obligations.BringUp : Prop :=
  ∀ (s : State) (d : Nat), isDie d = true → s.part.alive 0 = true →
    (∀ b, (s.part.dom (dieDomain d)).st ≠ .starting ∨ (s.part.dom (dieDomain d)).held = true ∨ s.part.boot.dieUp.testBit d = true ∨
      (d ≠ 1 ∧ s.part.clk.ref156 = false) → exec (.dieResetExit d b) s = .next (withPart s s.part.readiness)) ∧
    (∀ b, (s.part.dom (dieDomain d)).st = .starting → (s.part.dom (dieDomain d)).held = false → s.part.boot.dieUp.testBit d = false →
      d = 1 ∨ s.part.clk.ref156 = true →
      ∃ u, exec (.dieResetExit d b) s = .next u ∧ u.part.boot.dieUp.testBit d = true ∧ u.part.clk.lock.testBit d = true ∧
        (d = 1 → s.part.boot.stage = 0 → u.part.boot.stage = 1) ∧
        (8 ≤ d → d < 12 → b = false → ∀ n, n < 8 → (u.part.stack (8 * (d - 8) + n)).ready = true ∧
          (u.part.stack (8 * (d - 8) + n)).refreshAt = s.part.now) ∧
        (8 ≤ d → d < 12 → b = true → s.part.boot.stage < 3 → u.part.boot.stage = 7 ∧ u.part.boot.faultCode = 4) ∧
        (12 ≤ d → (u.part.acd (d - 12)).resetAt = s.part.now)) ∧
    ((s.part.dom (dieDomain d)).st ≠ .starting ∨ s.part.boot.dieUp.testBit d = true ∨ 3 ≤ s.part.boot.stage ∨
      (s.part.clk.ref156 = false ∧ d ≠ 1) ∨ s.part.passed (s.part.dom (dieDomain d)).startAt 1000000000 = false →
      exec (.dieResetTimeout d) s = .next (withPart s s.part.readiness)) ∧
    ((s.part.dom (dieDomain d)).st = .starting → s.part.boot.dieUp.testBit d = false → s.part.boot.stage < 3 →
      s.part.clk.ref156 = true ∨ d = 1 → s.part.passed (s.part.dom (dieDomain d)).startAt 1000000000 = true →
      ∃ u, exec (.dieResetTimeout d) s = .next u ∧ u.part.boot.stage = 7 ∧ u.part.boot.faultCode = 6) ∧
    (s.part.boot.stage ≠ 1 ∨ s.part.clk.ref156 = false ∨ s.part.boot.dieUp.testBit 0 = false → exec .stageFirmware s = .next s) ∧
    (s.part.boot.stage = 1 → s.part.clk.ref156 = true → s.part.boot.dieUp.testBit 0 = true →
      (s.part.flash = [] → ∃ u, exec .stageFirmware s = .next u ∧ u.part.boot.stage = 7 ∧ u.part.boot.faultCode = 1) ∧
      (s.part.flash ≠ [] → s.part.domSt 1 ≠ .on →
        ((s.part.verifyFirmware).isSome = true → exec .stageFirmware s = .next s) ∧
        (s.part.verifyFirmware = none → ∃ u, exec .stageFirmware s = .next u ∧
          u.part.boot.stage = 7 ∧ u.part.boot.faultCode = 2)) ∧
      (s.part.flash ≠ [] → s.part.domSt 1 = .on → ∃ u, exec .stageFirmware s = .next u ∧ u.part.boot.stage = 2 ∧
        u.part.sec.bootNonce.length = 64 ∧ u.part.sec.bootCount = s.part.bootCounter + 1 ∧
        (0 < s.part.uncleared → u.part.boot.quenchHold = true ∧ u.part.pwr = s.part.pwr)))

/-- DOMAIN_SLEEP, DOMAIN_WAKE, DOMAIN_SLEEP_COMPLETE, WSD_IDLE_SLEEP, MAINTENANCE_WAKE and PWR_WAKE (R366, R387, R401 to R409): a sleep of a domain that is
asleep and a wake of one that is ON are already done; a domain in between answers a sleep BUSY, a FAILED one a free status (log entry 2); a domain that may
sleep enters CLOSING, CTL with its image, and, once drained, SLEEP; a wake queues a sleeping domain and waits on one that closes; PWR_WAKE acts on
KEY 0xC0DE alone.

RAMP_START, RAMP_END, RAMP_TIMEOUT, REGULATOR_FAULT and DOMAIN_ON (R400, R407, R410, R466): the governor starts the head of its queue
within three ramps and 400 A/ms; a ramp that ends brings STARTING, held in reset during a freeze; one not in regulation after 1 ms and a
regulator fault of a domain that is ON bring FAILED; a domain is ON when its completion point is reached, CTL once its firmware verifies and, at a wake, its
image is restored. Without its condition each changes nothing but announces readiness that changed. All eleven complete. -/
def Obligations.DomainsSleepWakeAndRamp : Prop :=
  (∀ (s : State),
    (∀ i k d q, Running s i 0x80 k → par k 0 1 = d → q = s.part.domainSleep i k →
      exec (.domainSleep i) s = .next (withPart s q.readiness) ∧
      (s.part.domSt d = .sleep → q = (s.part.sleepReq d true).finish i stAlreadyDone []) ∧
      (s.part.domSt d = .closing → q = (s.part.startA i d).sleepReq d true) ∧
      (s.part.domSt d = .queued ∨ s.part.domSt d = .ramping ∨ s.part.domSt d = .starting → q = s.part.finish i stBusy []) ∧
      (∀ w p, s.part.domSt d = .failed → s.part.free = (w, p) → q = p.finish i (w.toNat % 65536) []) ∧
      (d = 1 → s.part.domSt d = .on → s.part.ctlBusy i = true → q = s.part.finish i stBusy []) ∧
      (d = 1 → s.part.domSt d = .on → s.part.ctlBusy i = false → q.image.isSome = true ∧ q.domSt 1 = .closing ∧
        (q.dom 1).sleepReq = true ∧ q.pwr.nextMaint = s.part.scrubDeadline ∧ (q.ses i).cur = none) ∧
      (3 ≤ d → d ≤ 10 → s.part.domSt d = .on →
        ((s.part.reserve (d - 3) (s.part.pinnedOn (d - 3)).length).length < (s.part.pinnedOn (d - 3)).length →
          q = s.part.finish i stNoSpace []) ∧
        ((s.part.pinnedOn (d - 3)).length ≤ (s.part.reserve (d - 3) (s.part.pinnedOn (d - 3)).length).length →
          q.domSt d = .closing ∧ (q.dom d).sleepReq = true ∧ (q.ses i).cur = none)) ∧
      (d = 19 → s.part.domSt d = .on →
        (s.part.nvmeConnected = true → q = s.part.finish i stBusy []) ∧
        (s.part.nvmeConnected = false → q.domSt 19 = .closing ∧ (q.dom 19).sleepReq = true ∧ (q.ses i).cur = none ∧
          (q.ses i).running.length = (s.part.ses i).running.length + 1)) ∧
      (15 ≤ d → d ≤ 18 → s.part.domSt d = .on →
        (s.part.lkdBusy (d - 15) = true → q = s.part.finish i stBusy []) ∧
        (s.part.lkdBusy (d - 15) = false → q.domSt d = .closing ∧ (q.dom d).sleepReq = true))) ∧
    (∀ i k d, Running s i 0x81 k → par k 0 1 = d →
      (d = 0 → exec (.domainWake i) s = .next (withPart s (s.part.finish i stAlreadyDone []))) ∧
      (d ≠ 0 → s.part.domSt d = .on → exec (.domainWake i) s =
        .next (withPart s ((s.part.sleepReq d false).finish i stAlreadyDone []))) ∧
      (s.part.domSt d = .closing → exec (.domainWake i) s = .next s) ∧
      (∀ w p, s.part.domSt d = .failed → s.part.free = (w, p) → exec (.domainWake i) s =
        .next (withPart s (p.finish i (w.toNat % 65536) []))) ∧
      (s.part.domSt d = .queued ∨ s.part.domSt d = .ramping ∨ s.part.domSt d = .starting → exec (.domainWake i) s =
        .next (withPart s ((s.part.startA i d).sleepReq d false))) ∧
      (s.part.domSt d = .sleep → isDomain d = true → ∃ u, exec (.domainWake i) s = .next u ∧ u.part.domSt d = .queued ∧
        (u.part.dom d).sleepReq = false ∧ u.part.pwr.queue = s.part.pwr.queue ++ [d] ∧ (u.part.ses i).cur = none)) ∧
    (∀ d, isDomain d = true → s.part.alive 0 = true →
      ((s.part.dom d).st ≠ .closing ∨ s.part.drained d = false → exec (.domainSleepComplete d) s = .next s) ∧
      ((s.part.dom d).st = .closing → s.part.drained d = true → ∃ u, exec (.domainSleepComplete d) s = .next u ∧
        u.part.domSt d = .sleep ∧ (u.part.dom d).sleepAt = s.part.now ∧ u.part.ctl.events = s.part.ctl.events ∧
        (d = 1 → u.part.evcCopy = some s.part.evcRetain))) ∧
    (s.part.alive 1 = true →
      (∀ due, due = (if s.part.pwr.maint = true then s.part.maintDone
          else (s.part.dom 19).sleepReq && decide (s.part.pwr.wsdIdleSince + 10000000000 ≤ s.part.now)) →
        ((s.part.dom 19).st ≠ .on ∨ due = false ∨ s.part.wsdBusy = true ∨ s.part.nvmeConnected = true →
          exec .wsdIdleSleep s = .next (withPart s s.part.readiness)) ∧
        ((s.part.dom 19).st = .on → due = true → s.part.wsdBusy = false → s.part.nvmeConnected = false →
          exec .wsdIdleSleep s = .next (withPart s (s.part.setDom 19 { s.part.dom 19 with st := .closing }).readiness)))) ∧
    (s.part.alive 0 = true →
      (s.part.pwr.nextMaint = none → exec .maintenanceWake s = .next s) ∧
      (∀ t, s.part.pwr.nextMaint = some t →
        (s.part.domSt 1 ≠ .sleep ∨ s.part.now + 60000000000 < t → exec .maintenanceWake s = .next s) ∧
        (s.part.domSt 1 = .sleep → t ≤ s.part.now + 60000000000 → ∃ u, exec .maintenanceWake s = .next u ∧
          u.part.domSt 1 = .queued ∧ u.part.pwr.maint = true ∧ u.part.pwr.nextMaint = none ∧
          u.part.pwr.queue = s.part.pwr.queue ++ [1]))) ∧
    (s.part.alive 2 = true → (∀ key, key ≠ 0xC0DE → exec (.pwrWake key) s = .next s) ∧
      (exec (.pwrWake 0xC0DE) s = .next (withPart s s.part.wakeCtl)) ∧
      (s.part.domSt 1 = .sleep → s.part.wakeCtl.domSt 1 = .queued ∧ s.part.wakeCtl.pwr.maint = false))) ∧
  (∀ (s : State) (d : Nat), isDomain d = true →
    (s.part.alive 0 = true → s.part.pwr.queue = [] → exec .rampStart s = .next s) ∧
    (∀ l, s.part.alive 0 = true → s.part.pwr.queue = d :: l →
      (s.part.ramping.length < 3 → s.part.rampDidt + domDidt d ≤ 400 → ∃ u, exec .rampStart s = .next u ∧
        u.part.domSt d = .ramping ∧ u.part.pwr.queue = l ∧ (u.part.dom d).rampAt = s.part.now) ∧
      (3 ≤ s.part.ramping.length ∨ 400 < s.part.rampDidt + domDidt d → exec .rampStart s = .next s)) ∧
    ((s.part.dom d).st ≠ .ramping ∨ s.part.therm.quenched = true ∨ s.part.passed (s.part.dom d).rampAt (domRampNs d) = false →
      exec (.rampEnd d) s = .next s) ∧
    ((s.part.dom d).st = .ramping → s.part.therm.quenched = false → s.part.passed (s.part.dom d).rampAt (domRampNs d) = true →
      ∃ u, exec (.rampEnd d) s = .next u ∧ u.part.domSt d = .starting ∧ (u.part.dom d).held = s.part.frz.active ∧
        (u.part.dom d).startAt = s.part.now) ∧
    (s.part.alive 0 = true →
      ((s.part.dom d).st ≠ .ramping ∨ s.part.passed (s.part.dom d).rampAt 1000000 = false →
        exec (.rampTimeout d) s = .next (withPart s s.part.readiness)) ∧
      ((s.part.dom d).st = .ramping → s.part.passed (s.part.dom d).rampAt 1000000 = true →
        ∃ u, exec (.rampTimeout d) s = .next u ∧ u.part.domSt d = .failed ∧
          (s.part.boot.stage < 3 → u.part.boot.stage = 7 ∧ u.part.boot.faultCode = 7)) ∧
      ((s.part.dom d).st ≠ .on → exec (.regulatorFault d) s = .next (withPart s s.part.readiness)) ∧
      ((s.part.dom d).st = .on → ∃ u, exec (.regulatorFault d) s = .next u ∧ u.part.domSt d = .failed ∧
        (3 ≤ s.part.boot.stage → s.part.boot.stage < 6 → u.part.faulted = true)) ∧
      ((s.part.dom d).st ≠ .starting ∨ s.part.domainReady d = false → exec (.domainOn d) s = .next s) ∧
      ((s.part.dom d).st = .starting → s.part.domainReady d = true →
        (d ≠ 1 → ∃ u, exec (.domainOn d) s = .next u ∧ u.part.domSt d = .on) ∧
        (d = 1 → s.part.clk.ref156 = false ∨ s.part.verifyFirmware = none → exec (.domainOn d) s = .next s) ∧
        (∀ q p, d = 1 → s.part.clk.ref156 = true → s.part.verifyFirmware = some q →
          p = { q with pins := { q.pins with xspi := q.pins.xspi && decide (q.boot.stage < 2) } } →
          (q.boot.stage < 2 ∨ q.boot.stage = 7 → ∃ u, exec (.domainOn d) s = .next u ∧ u.part.domSt 1 = .on) ∧
          (2 ≤ q.boot.stage → q.boot.stage ≠ 7 → p.restoreImage = none → exec (.domainOn d) s =
            .next (withPart s (p.resetAll 3).startBringup)) ∧
          (2 ≤ q.boot.stage → q.boot.stage ≠ 7 → (p.restoreImage).isSome = true → ∃ u, exec (.domainOn d) s = .next u ∧
            u.part.domSt 1 = .on)))))

/-- POWER_INTERVAL, POWER_QUERY and POWER_LIMIT (R28, R398, R412, R414): an interval's samples are taken once, its energy no higher than its limit lets it
draw (log entry 148), and its counters rise with its flags; POWER_LIMIT sets both limits, zero standing for the default.

SENSOR_SAMPLE, THROTTLE_UPDATE, REMOTE_SENSE_MEASURE, THERMAL_QUERY and QUENCH_CLEAR (R416 to R436): a die whose domain does not run and a quenched part are
not sampled; two samples of 112 °C running of a good sensor quench the part, and every domain goes to SLEEP; the throttle step rises
above 100 °C, falls at 98 °C and below, and THROT_N follows it; an open pair is a fault; QUENCH_CLEAR names the highest uncleared record and clears every one. All
eight complete. -/
def Obligations.PowerAndHeat : Prop :=
  (∀ (s : State),
    (∀ e v a x y z, s.part.alive 0 = true →
      (s.part.now / 10000 ≤ s.part.pwr.intervalAt → exec (.powerInterval e v a x y z) s = .next s) ∧
      (∀ m, s.part.pwr.intervalAt < s.part.now / 10000 → m = min e (intervalCeiling s.part.pwr.limit) → ∃ u,
        exec (.powerInterval e v a x y z) s = .next u ∧ u.part.pwr.energy = m :: s.part.pwr.energy.take 99999 ∧
          u.part.pwr.vinMv = v ∧ u.part.pwr.iinCa = a ∧ u.part.pwr.pW = m / 10 ∧ u.part.pwr.intervalAt = s.part.now / 10000 ∧
          u.part.pwr.limit = powerLimit s.part.pwr.plim s.part.pwr.peak s.part.therm.step
            (if 10 * s.part.pwr.plim < m then s.part.pwr.run + 1 else 0) (m :: s.part.pwr.energy.take 99999) ∧
          u.part.pwr.paced = x ∧ u.part.pwr.clamped = y ∧
          u.part.regFld aPwrCnt 0 32 = satAdd 32 (s.part.regFld aPwrCnt 0 32) (bit x) ∧
          u.part.regFld aPwrCnt 32 16 = satAdd 16 (s.part.regFld aPwrCnt 32 16) (bit y) ∧
          u.part.regFld aPwrCnt 48 16 = satAdd 16 (s.part.regFld aPwrCnt 48 16) (bit z))) ∧
    (∀ i k, Running s i 0x82 k → exec (.powerQuery i) s = .next (withPart s (s.part.finish i stOk
      (wordBytes s.part.vinMon ++ wordBytes s.part.pwrLimit ++ wordBytes s.part.pwrGov ++ wordBytes s.part.domStates)))) ∧
    (∀ i k, Running s i 0x83 k → ∃ u, exec (.powerLimit i) s = .next u ∧
      u.part.pwr.plim = (if par k 0 2 = 0 then 1800 else par k 0 2) ∧
      u.part.pwr.peak = (if par k 2 2 = 0 then 2100 else par k 2 2) ∧ (u.part.ses i).cur = none)) ∧
  (∀ (s : State),
    (∀ d l, isDie d = true →
      (s.part.sensing d = false ∨ s.part.therm.quenched = true → exec (.sensorSample d l) s = .next s) ∧
      (s.part.sensing d = true → s.part.therm.quenched = false →
        (∀ i x, quenchSensor (sensorCount d) l (s.part.sensor d) = some (i, x) → ∃ u, exec (.sensorSample d l) s = .next u ∧
          u.part.therm.quenched = true ∧ u.part.pins.quenchN = false ∧ ∀ n, isDomain n = true → u.part.domSt n = .sleep) ∧
        (quenchSensor (sensorCount d) l (s.part.sensor d) = none → ∃ u, exec (.sensorSample d l) s = .next u ∧
          u.part.therm.quenched = false ∧
          (∀ n x, n < sensorCount d → nth none l n = some x → (u.part.sensor d n).raw = x) ∧
          ((∀ n, n < sensorCount d → ∃ x, nth none l n = some x ∧ -160 ≤ x ∧ x < 448 ∧ (s.part.sensor d n).failed = false ∧
              (s.part.sensor d n).samples.length < 7) →
            ∀ n, n < sensorCount d → (u.part.sensor d n).failed = false ∧ (u.part.sensor d n).reading = (s.part.sensor d n).reading)))) ∧
    (s.part.alive 0 = true →
      (7 ≤ s.part.now % 10000000 → exec .throttleUpdate s = .next s) ∧
      (∀ p, s.part.now % 10000000 < 7 → p = (if 0 < s.part.therm.step then s.part.bump aThermCnt 0 32 1 else s.part) →
        (hottestSource p.throttleSources = none → exec .throttleUpdate s = .next (withPart s p)) ∧
        (∀ t k n, hottestSource p.throttleSources = some (t, k, n) → ∃ u, exec .throttleUpdate s = .next u ∧
          u.part.therm.throt = t ∧ u.part.therm.srcKind = k ∧ u.part.therm.srcUnit = n ∧
          u.part.therm.step = nextStep s.part.therm.step t ∧ (u.part.pins.throtN = true ↔ u.part.therm.step = 0)))) ∧
    (∀ i, isSensePair i = true → s.part.alive 2 = true →
      (s.part.pairOff i = true → ∀ v, exec (.remoteSenseMeasure i v) s = .next (withPart s
        (s.part.setPair i { s.part.pair i with reading := 0, fault := false, alarm := false }).takeThrottle)) ∧
      (s.part.pairOff i = false →
        (exec (.remoteSenseMeasure i none) s = .next (withPart s (s.part.setPair i { s.part.pair i with fault := true }).takeThrottle)) ∧
        (∀ t : Int, t < -160 ∨ 600 < t → exec (.remoteSenseMeasure i (some t)) s =
          .next (withPart s (s.part.setPair i { s.part.pair i with fault := true }).takeThrottle)) ∧
        (∀ t : Int, -160 ≤ t → t ≤ 600 → ∃ u, exec (.remoteSenseMeasure i (some t)) s = .next u ∧
          (u.part.pair i).reading = t ∧ (u.part.pair i).fault = false ∧
          (u.part.pair i).alarm = (if (s.part.pair i).alarm = true then decide ((s.part.regFld (aTsenseCfg i) 32 12 : Int) - 8 < t)
            else decide ((s.part.regFld (aTsenseCfg i) 32 12 : Int) < t))))) ∧
    (∀ i k, Running s i 0x84 k → exec (.thermalQuery i) s =
      .next (withPart s (s.part.finish i stOk (s.part.thermalBody (par k 0 1) (par k 1 1))))) ∧
    (∀ i k top, Running s i 0x85 k →
      top = s.part.log.quench.foldl (fun m r => if qUncleared r.2 then max m (qSeq r.2) else m) 0 →
      (top = 0 → exec (.quenchClear i) s = .next (withPart s (s.part.finish i stAlreadyDone []))) ∧
      (top ≠ 0 → par k 0 4 ≠ top → exec (.quenchClear i) s = .next (withPart s (s.part.finish i stBadParam []))) ∧
      (top ≠ 0 → par k 0 4 = top → ∃ u, exec (.quenchClear i) s = .next u ∧ u.part.boot.quenchHold = false ∧
        (u.part.ses i).cur = none ∧
        ((∀ r ∈ s.part.log.quench, r.2.length = 32) → u.part.uncleared = 0 ∧ u.part.lastQseq = s.part.lastQseq))))

/-- FREEZE_N_LOW, FREEZE, STOP_ACK, STOP_ACK_TIMEOUT, TRACE_CFG and TRACE_READ (R464 to R469, R475, R478): the pin and the packet freeze a
part that runs, the packet without a reply; a second trigger, and one of a part that is quenched, held or without power, has no effect; FROZEN_N falls once,
with the acknowledgements or at T + 1 µs; TRACE_CFG sets mode and sources and, with CLEAR, empties the buffer; TRACE_READ beyond what is held is
LEN_RANGE, any other gives the counts and the entries asked for. All six complete. -/
def Obligations.FreezesAndTraces : Prop :=
  ∀ (s : State),
    (s.part.frz.active = true ∨ s.part.therm.quenched = true ∨ s.part.pins.pgIn = false ∨ s.part.boot.held = true ∨
      s.part.boot.perstHeld = true → exec .freezeNLow s = .next s) ∧
    (s.part.frz.active = false → s.part.pins.pgIn = true → s.part.therm.quenched = false → s.part.boot.held = false →
      s.part.boot.perstHeld = false → ∃ u, exec .freezeNLow s = .next u ∧ u.part.frz.active = true ∧ u.part.frz.valid = true ∧
        u.part.frz.source = false ∧ u.part.frz.t = s.part.now ∧ u.part.frz.count = min (s.part.frz.count + 1) 255 ∧
        u.part.frz.frozenLow = false ∧ u.part.host.linkUp = false ∧ u.part.host.bme = false ∧ (∀ d, u.part.alive d = false) ∧
        u.part.clk = s.part.clk ∧ u.part.sess = s.part.sess) ∧
    (∀ i k, Running s i 0xF0 k → ∃ u, exec (.freeze i) s = .next u ∧ u.part.frz.active = true ∧ u.part.frz.valid = true ∧
      u.part.frz.source = true ∧ u.part.frz.t = s.part.now ∧ (∀ d, u.part.alive d = false) ∧
      (u.part.ses i).cur = none ∧ (u.part.ses i).waiting = (s.part.ses i).waiting ∧ (u.part.ses i).out = (s.part.ses i).out) ∧
    (s.part.frz.active = false ∨ s.part.frz.frozenLow = true → exec .stopAck s = .next s ∧ ∀ a, exec (.stopAckTimeout a) s = .next s) ∧
    (s.part.frz.active = true → s.part.frz.frozenLow = false →
      (exec .stopAck s = .next (withPart s { s.part with
        frz := { s.part.frz with stopped := s.part.runningDies, frozenLow := true }, pins := { s.part.pins with frozenN := false } })) ∧
      (∀ a, s.part.now < s.part.frz.t + 1000 → exec (.stopAckTimeout a) s = .next s) ∧
      (∀ a, s.part.frz.t + 1000 ≤ s.part.now → exec (.stopAckTimeout a) s = .next (withPart s { s.part with
        frz := { s.part.frz with stopped := a &&& s.part.runningDies, frozenLow := true },
        pins := { s.part.pins with frozenN := false } }))) ∧
    (∀ i k, Running s i 0xF1 k → ∃ u, exec (.traceCfg i) s = .next u ∧ u.part.trace.mode = par k 0 1 ∧
      u.part.trace.sources = par k 4 4 ∧ u.part.trace.entries = (if (par k 1 1).testBit 0 then [] else s.part.trace.entries) ∧
      u.part.trace.written = (if (par k 1 1).testBit 0 then 0 else s.part.trace.written) ∧ (u.part.ses i).cur = none) ∧
    (∀ i k, Running s i 0xF2 k →
      (s.part.trace.entries.length < par k 0 4 → exec (.traceRead i) s = .next (withPart s (s.part.finish i stLenRange []))) ∧
      (par k 0 4 ≤ s.part.trace.entries.length → exec (.traceRead i) s = .next (withPart s (s.part.finish i stOk
        (leBytes 4 s.part.trace.written ++ leBytes 4 s.part.trace.entries.length ++ leBytes 4 (s.part.regFld aTraceCnt 32 32) ++ zpad 4 ++
          ((s.part.trace.entries.drop (par k 0 4)).take (par k 4 2)).flatten)))))

/-- EXTEST, SAMPLE/PRELOAD, IDCODE, FZ_STATUS, DIE_SEL, SCAN_READ, ARRAY_READ, ARRAY_READ_COMPLETE, BYPASS and TAP_RESET (R471 to R474): without power the
TAP does not answer; a scan of 32 bits of IDCODE and of 128 of FZ_STATUS gives those registers; the three readout codes act as BYPASS unless FROZEN_N is low; a
chain shifted by its own length is as it was; an array read that is not authorised, or names no row of an ACD, reads zero, another converts
its row; Test-Logic-Reset selects IDCODE. All ten complete. -/
def Obligations.TapScans : Prop :=
  (∀ (s : State) (c : Instr) (code n din : Nat) (l : List (Int × Bool)), s.part.pins.pgIn = false →
    c ∈ [Instr.extest n din, .samplePreload n din, .idcode n din, .fzStatus n din, .dieSel n din, .scanRead n din, .arrayRead n din l,
      .arrayReadComplete, .bypass code n din, .tapReset] → exec c s = .next s) ∧
  (∀ (s : State) (n din : Nat), s.part.pins.pgIn = true →
    (∀ len cap, len = Config.boundaryLen s.part.log.stepping → cap = Config.boundaryCapture s.part.freeTick →
      (∃ u, exec (.extest n din) s = .next u ∧ u.part.frz.drLen = n ∧ u.part.frz.irOut = 1 ∧ u.part.frz.ir = 0x00 ∧
        u.part.frz.dr = shiftOut len cap n din ∧ u.part.frz.boundary = shiftIn len cap n din) ∧
      (∃ u, exec (.samplePreload n din) s = .next u ∧ u.part.frz.drLen = n ∧ u.part.frz.irOut = 1 ∧ u.part.frz.ir = 0x01 ∧
        u.part.frz.dr = shiftOut len cap n din ∧ u.part.frz.boundary = shiftIn len cap n din)) ∧
    (∃ u, exec (.idcode n din) s = .next u ∧ u.part.frz.ir = 0x02 ∧ u.part.frz.drLen = n ∧
      (n = 32 → u.part.frz.dr = idCode s.part.log.stepping % 2 ^ 32)) ∧
    (∃ u, exec (.fzStatus n din) s = .next u ∧ u.part.frz.ir = 0x10 ∧ u.part.frz.drLen = n ∧
      (n = 128 → u.part.frz.dr = (s.part.fzStatus.toNat + s.part.fzTime.toNat * 2 ^ 64) % 2 ^ 128)) ∧
    (∀ code, exec (.bypass code n din) s = .next (withPart s (s.part.tapBypass code n din)) ∧
      (n = 1 → (s.part.tapBypass code n din).frz.dr = 0) ∧ (s.part.tapBypass code n din).frz.ir = code) ∧
    (exec .tapReset s = .next (withPart s { s.part with frz := { s.part.frz with ir := 0x02 } })) ∧
    (s.part.frozen = false → exec .arrayReadComplete s = .next s ∧
      ∀ l, exec (.dieSel n din) s = .next (withPart s (s.part.tapBypass 0x11 n din)) ∧
        exec (.scanRead n din) s = .next (withPart s (s.part.tapBypass 0x12 n din)) ∧
        exec (.arrayRead n din l) s = .next (withPart s (s.part.tapBypass 0x14 n din))) ∧
    (s.part.frozen = true →
      (∃ u, exec (.dieSel n din) s = .next u ∧ u.part.frz.ir = 0x11 ∧ u.part.frz.drLen = n ∧
        (n = 16 → u.part.frz.selDie = din % 32 ∧ u.part.frz.selChain = din / 256 % 256)) ∧
      (∀ key len, key = s.part.frz.selDie * 256 + s.part.frz.selChain →
        len = Config.chainLen s.part.log.stepping s.part.frz.selDie s.part.frz.selChain → ∃ u, exec (.scanRead n din) s = .next u ∧
          u.part.frz.ir = 0x12 ∧ mget 0 u.part.frz.spins key = (mget 0 s.part.frz.spins key + n) % len ∧
          (mget 0 s.part.frz.spins key < len ∨ len = 0 → n = len → mget 0 u.part.frz.spins key = mget 0 s.part.frz.spins key)) ∧
      (∀ l cap word, cap = (if s.part.frz.source = true then arrayBits s.part.frz.capturedWord s.part.frz.captured else 0) →
        word = shiftIn 4712 cap n din % 2 ^ 32 → ∃ u, exec (.arrayRead n din l) s = .next u ∧ u.part.frz.ir = 0x14 ∧
          u.part.frz.dr = shiftOut 4712 cap n din ∧
          (s.part.frz.source = false ∨ s.part.frz.selDie < 12 ∨ 20 ≤ s.part.frz.selDie ∨ 519 < word / 2 ^ 10 % 1024 →
            u.part.frz.arrayOp = some { word := 0, at_ := s.part.now, data := [] }) ∧
          (s.part.frz.source = true → 12 ≤ s.part.frz.selDie → s.part.frz.selDie < 20 → word / 2 ^ 10 % 1024 ≤ 519 →
            u.part.frz.arrayOp = some { word := word, at_ := s.part.now, data := (l.take 520).map (arrayEntry (word / 2 ^ 20 % 4)) })) ∧
      (s.part.frz.arrayOp = none → exec .arrayReadComplete s = .next s) ∧
      (∀ a, s.part.frz.arrayOp = some a →
        (s.part.now < a.at_ + 1000 → exec .arrayReadComplete s = .next s) ∧
        (a.at_ + 1000 ≤ s.part.now → exec .arrayReadComplete s = .next (withPart s { s.part with
          frz := { s.part.frz with arrayOp := none, captured := a.data, capturedWord := a.word } })))))

/-- REGISTER_WRITE (R5 to R9, R235, R351, R384): a host write outside every register and BAR4, of another size than the register's, to a window that the
host does not reach, or of what CTL firmware owns changes nothing; one of BAR4 writes the MSI-X table alone; any other writes the register: that of
CTL.RST_CFG, whose home is the stored word, field by field; a policy core that writes what it may not stops with a policy fault, another core's write
outside the registers is discarded; an RW field takes the bits written, a WC field is cleared by a 1 but for what it counted in that cycle, and otherwise kept.
The command completes. -/
def Obligations.RegistersAreWritten : Prop :=
  (∀ (s : State) (a n : Nat) (v : Word64), s.part.alive 2 = true →
    (findReg a = none → a < bar4Base → exec (.registerWrite .host a n v) s = .next s) ∧
    (findReg a = none → bar4Base ≤ a → exec (.registerWrite .host a n v) s = .next (withPart s (s.part.bar4Write (a - bar4Base) n v)) ∧
      (s.part.bar4Write (a - bar4Base) n v).sess = s.part.sess ∧ (s.part.bar4Write (a - bar4Base) n v).regs = s.part.regs ∧
      (∀ x, a = bar4Base + 16 * x + 8 → x < 65 → n = 4 →
        (s.part.bar4Write (a - bar4Base) n v).msixEntry x = { s.part.msixEntry x with data := v.toNat % 2 ^ 32 })) ∧
    (∀ r l, findReg a = some (r, l) →
      (8 * n ≠ r.width ∨ s.part.alive (dieDomain (a / windowBytes)) = false ∨ s.part.hostReaches (a / windowBytes) = false ∨
        s.part.hostOwned r.name (a / windowBytes - 12) (nth 0 l 0) = true → exec (.registerWrite .host a n v) s = .next s) ∧
      (s.part.boot.stage < 2 → a / windowBytes ≠ 1 → exec (.registerWrite .host a n v) s = .next s) ∧
      (8 * n = r.width → s.part.alive (dieDomain (a / windowBytes)) = true → s.part.hostReaches (a / windowBytes) = true →
        s.part.hostOwned r.name (a / windowBytes - 12) (nth 0 l 0) = false → exec (.registerWrite .host a n v) s =
          .next (withPart s (s.part.writeReg .host r l (a / windowBytes) a v)))) ∧
    (s.part.alive 1 = true → 2 ≤ s.part.boot.stage → s.part.domSt 1 = .on → exec (.registerWrite .host aRstCfg 8 v) s =
      .next (withPart s (s.part.regSet aRstCfg (setBits (s.part.regGet aRstCfg) 0 1 (getBits v 0 1)))))) ∧
  (∀ (s : State) (c a n : Nat) (v : Word64), isCore c = true → s.part.alive 1 = true →
    (findReg a = none →
      (c < 16 → exec (.registerWrite (.core c) a n v) s = .next s) ∧
      (16 ≤ c → exec (.registerWrite (.core c) a n v) s = .next (withPart s (s.part.policyFault c 7)))) ∧
    (∀ r l, findReg a = some (r, l) →
      (16 ≤ c → policyWrites c r.name (nth 0 l 0) = false →
        exec (.registerWrite (.core c) a n v) s = .next (withPart s (s.part.policyFault c 7))) ∧
      (c < 16 ∨ policyWrites c r.name (nth 0 l 0) = true →
        (8 * n ≠ r.width ∨ s.part.alive (dieDomain (a / windowBytes)) = false → exec (.registerWrite (.core c) a n v) s = .next s) ∧
        (8 * n = r.width → s.part.alive (dieDomain (a / windowBytes)) = true → exec (.registerWrite (.core c) a n v) s =
          .next (withPart s (s.part.writeReg (.core c) r l (a / windowBytes) a v)))))) ∧
  (∀ (hits old v : Word64) (f : RegField), f.lo + f.width ≤ 64 →
    (f.acc = .rw → getBits (writeField hits old v f) f.lo f.width = getBits v f.lo f.width) ∧
    (f.acc = .wc → getBits v f.lo f.width ≠ 0 → getBits (writeField hits old v f) f.lo f.width = getBits hits f.lo f.width) ∧
    (f.acc = .wc → getBits v f.lo f.width = 0 → writeField hits old v f = old) ∧
    (f.acc = .wo → writeField hits old v f = old) ∧
    (∀ lo w, lo + w ≤ 64 → lo + w ≤ f.lo ∨ f.lo + f.width ≤ lo → getBits (writeField hits old v f) lo w = getBits old lo w))

end
end

