-- ==== Sys2Proof/Laws/Bytes.lean ====
section
/-! SUPPORT. Laws of the bit fields of a register word: a field reads back as written, and the other fields stay. -/
namespace Sys2Proof.Machine

theorem setBits_lt (v : Word64) (lo w x : Nat) (h : lo + w ≤ 64) :
    v.toNat % 2 ^ lo + (x % 2 ^ w) * 2 ^ lo + (v.toNat / 2 ^ (lo + w)) * 2 ^ (lo + w) < 2 ^ 64 := by
  have hv := v.isLt
  have p1 : 0 < 2 ^ lo := Nat.two_pow_pos lo
  have p2 : 0 < 2 ^ w := Nat.two_pow_pos w
  have a : v.toNat % 2 ^ lo < 2 ^ lo := Nat.mod_lt _ p1
  have b : x % 2 ^ w + 1 ≤ 2 ^ w := Nat.mod_lt _ p2
  have e : 2 ^ (lo + w) = 2 ^ lo * 2 ^ w := Nat.pow_add 2 lo w
  have b' : (x % 2 ^ w + 1) * 2 ^ lo ≤ 2 ^ (lo + w) := by
    rw [e, Nat.mul_comm (2 ^ lo)]; exact Nat.mul_le_mul_right _ b
  have c : v.toNat / 2 ^ (lo + w) < 2 ^ (64 - (lo + w)) := by
    rw [Nat.div_lt_iff_lt_mul (Nat.two_pow_pos _), ← Nat.pow_add]
    rwa [show 64 - (lo + w) + (lo + w) = 64 by omega]
  have d : (v.toNat / 2 ^ (lo + w) + 1) * 2 ^ (lo + w) ≤ 2 ^ 64 := by
    have := Nat.mul_le_mul_right (2 ^ (lo + w)) (Nat.succ_le_of_lt c)
    rwa [← Nat.pow_add, show 64 - (lo + w) + (lo + w) = 64 by omega] at this
  rw [Nat.add_mul, Nat.one_mul] at b' d
  omega

theorem setBits_toNat (v : Word64) (lo w x : Nat) (h : lo + w ≤ 64) : (setBits v lo w x).toNat =
    v.toNat % 2 ^ lo + (x % 2 ^ w) * 2 ^ lo + (v.toNat / 2 ^ (lo + w)) * 2 ^ (lo + w) := by
  rw [setBits, BitVec.toNat_ofNat, Nat.mod_eq_of_lt (setBits_lt v lo w x h)]

/-- A field reads back as it was written. -/
theorem getBits_setBits (v : Word64) (lo w x : Nat) (h : lo + w ≤ 64) : getBits (setBits v lo w x) lo w = x % 2 ^ w := by
  have p1 : 0 < 2 ^ lo := Nat.two_pow_pos lo
  rw [getBits, setBits_toNat v lo w x h, Nat.shiftRight_eq_div_pow, Nat.pow_add, Nat.mul_comm (2 ^ lo) (2 ^ w),
    ← Nat.mul_assoc, Nat.add_mul_div_right _ _ p1, Nat.add_mul_div_right _ _ p1, Nat.div_eq_of_lt (Nat.mod_lt _ p1),
    Nat.zero_add, Nat.add_mul_mod_self_right, Nat.mod_mod]

/-- A field above or below the one written stays. -/
theorem getBits_setBits_ne (v : Word64) (lo w x a b : Nat) (h : lo + w ≤ 64) (d : a + b ≤ lo ∨ lo + w ≤ a) :
    getBits (setBits v lo w x) a b = getBits v a b := by
  have p1 : 0 < 2 ^ lo := Nat.two_pow_pos lo
  rw [getBits, getBits, setBits_toNat v lo w x h, Nat.shiftRight_eq_div_pow, Nat.shiftRight_eq_div_pow]
  rcases d with d | d
  · have key : ∀ n : Nat, n / 2 ^ a % 2 ^ b = n % 2 ^ lo / 2 ^ a % 2 ^ b := by
      intro n
      have e : 2 ^ lo = 2 ^ (a + b) * 2 ^ (lo - (a + b)) := by rw [← Nat.pow_add]; congr 1; omega
      rw [← Nat.mod_mul_right_div_self, ← Nat.mod_mul_right_div_self, ← Nat.pow_add, e, Nat.mod_mul_right_mod]
    rw [key, key v.toNat, Nat.pow_add, Nat.mul_comm (2 ^ lo) (2 ^ w), ← Nat.mul_assoc, Nat.add_mul_mod_self_right,
      Nat.add_mul_mod_self_right, Nat.mod_mod]
  · have e : 2 ^ a = 2 ^ (lo + w) * 2 ^ (a - (lo + w)) := by rw [← Nat.pow_add]; congr 1; omega
    have l : v.toNat % 2 ^ lo + (x % 2 ^ w) * 2 ^ lo < 2 ^ (lo + w) := by
      have m : v.toNat % 2 ^ lo < 2 ^ lo := Nat.mod_lt _ p1
      have b' : (x % 2 ^ w + 1) * 2 ^ lo ≤ 2 ^ (lo + w) := by
        rw [Nat.pow_add, Nat.mul_comm (2 ^ lo)]; exact Nat.mul_le_mul_right _ (Nat.mod_lt _ (Nat.two_pow_pos w))
      rw [Nat.add_mul, Nat.one_mul] at b'
      omega
    rw [e, ← Nat.div_div_eq_div_mul, Nat.add_mul_div_right _ _ (Nat.two_pow_pos _), Nat.div_eq_of_lt l, Nat.zero_add,
      Nat.div_div_eq_div_mul]

end Sys2Proof.Machine
end

