-- ==== Sys2Proof/Laws/Store.lean ====
section
/-! SUPPORT. Laws of the sparse tables and byte memories: read after write, canonical form, and equality of equal memories. -/
namespace Sys2Proof.Machine

variable {α : Type}

@[simp] theorem mget_nil (d : α) (k : Nat) : mget d [] k = d := rfl

theorem mfind_merase_same : ∀ (m : List (Nat × α)) (k : Nat), mfind (merase m k) k = none
  | [], _ => rfl
  | (k', v) :: r, k => by
    by_cases h : k' = k
    · simp [merase, h, mfind_merase_same r k]
    · simp [merase, h, mfind, mfind_merase_same r k]

theorem mfind_merase_ne : ∀ (m : List (Nat × α)) (k j : Nat), j ≠ k → mfind (merase m k) j = mfind m j
  | [], _, _, _ => rfl
  | (k', v) :: r, k, j, h => by
    by_cases h1 : k' = k
    · have : k' ≠ j := fun e => h (by omega)
      simp [merase, h1, mfind, mfind_merase_ne r k j h, h.symm]
    · simp [merase, h1, mfind, mfind_merase_ne r k j h]

theorem mfind_minsert_same : ∀ (m : List (Nat × α)) (k : Nat) (v : α), mfind (minsert m k v) k = some v
  | [], k, v => by simp [minsert, mfind]
  | (k', v') :: r, k, v => by
    by_cases h1 : k < k'
    · simp [minsert, h1, mfind]
    · by_cases h2 : k = k'
      · simp [minsert, h2, mfind]
      · have h3 : k' ≠ k := fun e => h2 e.symm
        simp [minsert, h1, h2, mfind, h3, mfind_minsert_same r k v]

theorem mfind_minsert_ne : ∀ (m : List (Nat × α)) (k j : Nat) (v : α), j ≠ k → mfind (minsert m k v) j = mfind m j
  | [], k, j, v, h => by simp [minsert, mfind, h.symm]
  | (k', v') :: r, k, j, v, h => by
    by_cases h1 : k < k'
    · simp [minsert, h1, mfind, h.symm]
    · by_cases h2 : k = k'
      · subst h2; simp [minsert, mfind, h.symm]
      · simp [minsert, h1, h2, mfind, mfind_minsert_ne r k j v h]

/-- A read after a write to the same key gives the value written. -/
@[simp] theorem mget_mset_same [DecidableEq α] (d : α) (m : List (Nat × α)) (k : Nat) (v : α) :
    mget d (mset d m k v) k = v := by
  by_cases h : v = d
  · simp [mset, mget, h, mfind_merase_same]
  · simp [mset, mget, h, mfind_minsert_same]

/-- A write leaves every other key alone. -/
@[simp] theorem mget_mset_ne [DecidableEq α] (d : α) (m : List (Nat × α)) (k j : Nat) (v : α) (h : j ≠ k) :
    mget d (mset d m k v) j = mget d m j := by
  by_cases e : v = d
  · simp [mset, mget, e, mfind_merase_ne m k j h]
  · simp [mset, mget, e, mfind_minsert_ne m k j v h]

/-- The same where the two keys have defaults of their own. -/
theorem mget_mset_ne_default [DecidableEq α] (d e : α) (m : List (Nat × α)) (k j : Nat) (v : α) (h : j ≠ k) :
    mget e (mset d m k v) j = mget e m j := by
  by_cases x : v = d
  · simp [mset, mget, x, mfind_merase_ne m k j h]
  · simp [mset, mget, x, mfind_minsert_ne m k j v h]

theorem mabove_mono : ∀ (m : List (Nat × α)) (a b : Nat), a ≤ b → mabove b m = true → mabove a m = true
  | [], _, _, _, _ => rfl
  | (k, v) :: r, a, b, h, hm => by
    simp only [mabove, Bool.and_eq_true, decide_eq_true_eq] at hm ⊢
    exact ⟨by omega, mabove_mono r a b h hm.2⟩

theorem mabove_merase : ∀ (m : List (Nat × α)) (b k : Nat), mabove b m = true → mabove b (merase m k) = true
  | [], _, _, _ => rfl
  | (k', v) :: r, b, k, h => by
    simp only [mabove, Bool.and_eq_true, decide_eq_true_eq] at h
    by_cases e : k' = k
    · simp [merase, e, mabove_merase r b k h.2]
    · simp [merase, e, mabove, h.1, mabove_merase r b k h.2]

theorem mabove_minsert : ∀ (m : List (Nat × α)) (b k : Nat) (v : α), b < k → mabove b m = true → mabove b (minsert m k v) = true
  | [], b, k, v, hb, _ => by simp [minsert, mabove, hb]
  | (k', v') :: r, b, k, v, hb, h => by
    have h' := h
    simp only [mabove, Bool.and_eq_true, decide_eq_true_eq] at h
    by_cases h1 : k < k'
    · simp [minsert, h1, mabove, hb, h]
    · by_cases h2 : k = k'
      · simp [minsert, h2, mabove, h]
      · simp [minsert, h1, h2, mabove, h.1, mabove_minsert r b k v hb h.2]

theorem mwf_merase [DecidableEq α] (d : α) : ∀ (m : List (Nat × α)) (k : Nat), mwf d m = true → mwf d (merase m k) = true
  | [], _, _ => rfl
  | (k', v) :: r, k, h => by
    simp only [mwf, Bool.and_eq_true, decide_eq_true_eq] at h
    by_cases e : k' = k
    · simp [merase, e, mwf_merase d r k h.2]
    · simp [merase, e, mwf, h.1.1, mabove_merase r k' k h.1.2, mwf_merase d r k h.2]

theorem mwf_minsert [DecidableEq α] (d : α) : ∀ (m : List (Nat × α)) (k : Nat) (v : α), v ≠ d → mwf d m = true →
    mwf d (minsert m k v) = true
  | [], k, v, hv, _ => by simp [minsert, mwf, mabove, hv]
  | (k', v') :: r, k, v, hv, h => by
    have h0 := h
    simp only [mwf, Bool.and_eq_true, decide_eq_true_eq] at h
    by_cases h1 : k < k'
    · simp [minsert, h1, mwf, mabove, hv, h, mabove_mono r k k' (by omega) h.1.2]
    · by_cases h2 : k = k'
      · subst h2; simp [minsert, mwf, hv, h]
      · have h3 : k' < k := by omega
        simp [minsert, h1, h2, mwf, h.1.1, mabove_minsert r k' k v h3 h.1.2, mwf_minsert d r k v hv h.2]

/-- Every write keeps the canonical form. -/
theorem mwf_mset [DecidableEq α] (d : α) (m : List (Nat × α)) (k : Nat) (v : α) (h : mwf d m = true) :
    mwf d (mset d m k v) = true := by
  by_cases e : v = d
  · simp [mset, e, mwf_merase d m k h]
  · simp [mset, e, mwf_minsert d m k v e h]

theorem memWrite_wf (m : Memory) (a : Nat) (b : Byte) (h : m.wf = true) : (memWrite m a b).wf = true :=
  mwf_mset 0 m a b h

theorem memWriteN_wf : ∀ (bs : Bytes) (m : Memory) (a : Nat), m.wf = true → (memWriteN m a bs).wf = true
  | [], _, _, h => h
  | b :: bs, m, a, h => memWriteN_wf bs (memWrite m a b) (a + 1) (memWrite_wf m a b h)

theorem memRead_write_same (m : Memory) (a : Nat) (b : Byte) : memRead (memWrite m a b) a = b := by
  simp [memRead, memWrite]

theorem memRead_write_ne (m : Memory) (a c : Nat) (b : Byte) (h : c ≠ a) : memRead (memWrite m a b) c = memRead m c := by
  simp [memRead, memWrite, h]

/-- A write of bytes leaves every byte outside them alone. -/
theorem memRead_writeN_out : ∀ (bs : Bytes) (m : Memory) (a c : Nat), c < a ∨ a + bs.length ≤ c →
    memRead (memWriteN m a bs) c = memRead m c
  | [], _, _, _, _ => rfl
  | b :: bs, m, a, c, h => by
    simp only [List.length_cons] at h
    rw [memWriteN, memRead_writeN_out bs (memWrite m a b) (a + 1) c (by omega), memRead_write_ne m a c b (by omega)]

/-- The bytes written are read back. -/
theorem memReadN_writeN : ∀ (bs : Bytes) (m : Memory) (a : Nat), memReadN (memWriteN m a bs) a bs.length = bs
  | [], _, _ => rfl
  | b :: bs, m, a => by
    simp only [List.length_cons, memReadN, memWriteN]
    rw [memRead_writeN_out bs (memWrite m a b) (a + 1) a (by omega), memRead_write_same, memReadN_writeN bs]

/-- A map over the values of a store that keeps the unlisted value is the map of what each key reads as. -/
theorem mget_map_keep {α : Type} (d : α) (f : α → α) (m : List (Nat × α)) (k : Nat) (h : f d = d) :
    mget d (m.map fun x => (x.1, f x.2)) k = f (mget d m k) := by
  induction m with
  | nil => simp [h]
  | cons a l ih =>
    obtain ⟨k', v⟩ := a
    simp only [mget, mfind, List.map_cons] at ih ⊢
    by_cases hk : k' = k
    · simp [hk]
    · simpa [hk] using ih

end Sys2Proof.Machine
end

