-- ==== Sys2Proof/Laws/Ops.lean ====
section
/-! SUPPORT. Laws of the shared operations: what a command form can answer, and read after write of the records of the part. -/
namespace Sys2Proof.Machine

/-- Everything that a command of the form `live` can answer. -/
theorem live_cases {s t : State} {d : Nat} {ok : Bool} {f : Part → Part} (h : s.live d ok f = .next t) :
    ok = true ∧ ((s.part.alive d = true ∧ t = { s with part := f s.part }) ∨ (s.part.alive d = false ∧ t = s)) := by
  cases ok <;> simp [State.live] at h
  refine ⟨rfl, ?_⟩
  by_cases a : s.part.alive d
  · left; simp [a] at h; exact ⟨a, h.symm⟩
  · right; simp [a] at h; exact ⟨by simpa using a, h.symm⟩

/-- The same for the form `liveMem`. -/
theorem liveMem_cases {s t : State} {d : Nat} {ok : Bool} {f : State → State} (h : s.liveMem d ok f = .next t) :
    ok = true ∧ ((s.part.alive d = true ∧ t = f s) ∨ (s.part.alive d = false ∧ t = s)) := by
  cases ok <;> simp [State.liveMem] at h
  refine ⟨rfl, ?_⟩
  by_cases a : s.part.alive d
  · left; simp [a] at h; exact ⟨a, h.symm⟩
  · right; simp [a] at h; exact ⟨by simpa using a, h.symm⟩

/-- A command whose unit can act takes effect. -/
theorem live_alive {s : State} {d : Nat} {f : Part → Part} (a : s.part.alive d = true) :
    s.live d true f = .next { s with part := f s.part } := by simp [State.live, a]

/-- A command whose unit cannot act changes nothing. -/
theorem live_dead {s : State} {d : Nat} {f : Part → Part} (a : s.part.alive d = false) : s.live d true f = .next s := by
  simp [State.live, a]

theorem liveMem_alive {s : State} {d : Nat} {f : State → State} (a : s.part.alive d = true) :
    s.liveMem d true f = .next (f s) := by simp [State.liveMem, a]

theorem liveMem_dead {s : State} {d : Nat} {f : State → State} (a : s.part.alive d = false) : s.liveMem d true f = .next s := by
  simp [State.liveMem, a]

/-- A host command row whose packet is in execution takes effect on it. -/
theorem cmd_running {s : State} {i op : Nat} {k : Bytes} {f : Bytes → Part → Part} (hi : i < 64)
    (a : s.part.alive 1 = true) (hc : (s.part.ses i).cur = some k) (ho : pkOp k = op) :
    s.cmd i op f = .next { s with part := f k s.part } := by
  simp [State.cmd, State.live, a, hi, Part.onCmd, hc, ho]

@[simp] theorem regGet_regSet (p : Part) (a : Nat) (v : Word64) : (p.regSet a v).regGet a = v := by
  simp [Part.regGet, Part.regSet]

theorem regGet_regSet_ne (p : Part) (a b : Nat) (v : Word64) (h : b ≠ a) : (p.regSet a v).regGet b = p.regGet b :=
  mget_mset_ne_default _ _ _ _ _ _ h

/-- A register's word after counting in one. -/
theorem regGet_bump (p : Part) (a lo w n b : Nat) :
    (p.bump a lo w n).regGet b = (p.regSet a (setBits (p.regGet a) lo w (satAdd w (p.regFld a lo w) n))).regGet b := rfl

/-- A counter field after counting (R8). -/
theorem regFld_bump (p : Part) (a lo w n : Nat) (h : lo + w ≤ 64) :
    (p.bump a lo w n).regFld a lo w = satAdd w (p.regFld a lo w) n := by
  have l : satAdd w (p.regFld a lo w) n < 2 ^ w := by
    have := Nat.two_pow_pos w
    simp only [satAdd]
    omega
  simp only [Part.regFld, regGet_bump, regGet_regSet] at l ⊢
  rw [getBits_setBits _ _ _ _ h, Nat.mod_eq_of_lt l]

/-- Counting leaves the other fields of the register alone. -/
theorem regFld_bump_field (p : Part) (a lo w n b c : Nat) (h : lo + w ≤ 64) (d : b + c ≤ lo ∨ lo + w ≤ b) :
    (p.bump a lo w n).regFld a b c = p.regFld a b c := by
  simp only [Part.regFld, regGet_bump, regGet_regSet]
  exact getBits_setBits_ne _ _ _ _ _ _ h d

/-- Counting leaves the other registers alone. -/
theorem regGet_bump_ne (p : Part) (a b lo w n : Nat) (h : b ≠ a) : (p.bump a lo w n).regGet b = p.regGet b :=
  (regGet_bump p a lo w n b).trans (regGet_regSet_ne p a b _ h)

@[simp] theorem ses_setSes (p : Part) (i : Nat) (v : Session) : (p.setSes i v).ses i = v := by simp [Part.ses, Part.setSes]

theorem ses_setSes_ne (p : Part) (i j : Nat) (v : Session) (h : j ≠ i) : (p.setSes i v).ses j = p.ses j := by
  simp [Part.ses, Part.setSes, h]

@[simp] theorem ses_modSes (p : Part) (i : Nat) (f : Session → Session) : (p.modSes i f).ses i = f (p.ses i) := by
  simp [Part.modSes]

theorem ses_modSes_ne (p : Part) (i j : Nat) (f : Session → Session) (h : j ≠ i) : (p.modSes i f).ses j = p.ses j := by
  simp [Part.modSes, ses_setSes_ne p i j _ h]

@[simp] theorem dom_setDom (p : Part) (d : Nat) (v : Dom) : (p.setDom d v).dom d = v := by simp [Part.dom, Part.setDom]

theorem dom_setDom_ne (p : Part) (d e : Nat) (v : Dom) (h : e ≠ d) : (p.setDom d v).dom e = p.dom e := by
  simp [Part.dom, Part.setDom, h]

end Sys2Proof.Machine
end

