-- ==== Sys2Proof/Laws/State.lean ====
section
/-! SUPPORT. What each shared update of the part leaves alone, field by field, so that no later proof unfolds a record update. -/
namespace Sys2Proof.Machine

/-- A register write changes the register words only. -/
@[simp] theorem regSet_frame (p : Part) (a : Nat) (v : Word64) :
    (p.regSet a v).freeTick = p.freeTick ∧ (p.regSet a v).clk = p.clk ∧ (p.regSet a v).pins = p.pins ∧
    (p.regSet a v).boot = p.boot ∧ (p.regSet a v).log = p.log ∧ (p.regSet a v).evcCopy = p.evcCopy ∧
    (p.regSet a v).image = p.image ∧ (p.regSet a v).pwr = p.pwr ∧ (p.regSet a v).therm = p.therm ∧
    (p.regSet a v).host = p.host ∧ (p.regSet a v).sess = p.sess ∧ (p.regSet a v).d2d = p.d2d ∧ (p.regSet a v).ctl = p.ctl ∧
    (p.regSet a v).sec = p.sec ∧ (p.regSet a v).frz = p.frz ∧ (p.regSet a v).trace = p.trace ∧ (p.regSet a v).an = p.an ∧
    (p.regSet a v).clusters = p.clusters ∧ (p.regSet a v).hbm = p.hbm ∧ (p.regSet a v).flash = p.flash ∧
    (p.regSet a v).failedDie = p.failedDie ∧ (p.regSet a v).fabCfg = p.fabCfg ∧ (p.regSet a v).fab = p.fab ∧
    (p.regSet a v).models = p.models ∧ (p.regSet a v).kv = p.kv ∧ (p.regSet a v).serv = p.serv ∧ (p.regSet a v).jrn = p.jrn := by
  refine ⟨?_, ?_, ?_, ?_, ?_, ?_, ?_, ?_, ?_, ?_, ?_, ?_, ?_, ?_, ?_, ?_, ?_, ?_, ?_, ?_, ?_, ?_, ?_, ?_, ?_, ?_, ?_⟩ <;> rfl

/-- Counting changes the register words only. -/
@[simp] theorem bump_frame (p : Part) (a lo w n : Nat) :
    (p.bump a lo w n).freeTick = p.freeTick ∧ (p.bump a lo w n).clk = p.clk ∧ (p.bump a lo w n).pins = p.pins ∧
    (p.bump a lo w n).boot = p.boot ∧ (p.bump a lo w n).log = p.log ∧ (p.bump a lo w n).evcCopy = p.evcCopy ∧
    (p.bump a lo w n).image = p.image ∧ (p.bump a lo w n).pwr = p.pwr ∧ (p.bump a lo w n).therm = p.therm ∧
    (p.bump a lo w n).host = p.host ∧ (p.bump a lo w n).sess = p.sess ∧ (p.bump a lo w n).d2d = p.d2d ∧
    (p.bump a lo w n).ctl = p.ctl ∧ (p.bump a lo w n).sec = p.sec ∧ (p.bump a lo w n).frz = p.frz ∧
    (p.bump a lo w n).trace = p.trace ∧ (p.bump a lo w n).an = p.an ∧ (p.bump a lo w n).clusters = p.clusters ∧
    (p.bump a lo w n).hbm = p.hbm ∧ (p.bump a lo w n).flash = p.flash ∧ (p.bump a lo w n).failedDie = p.failedDie ∧
    (p.bump a lo w n).fabCfg = p.fabCfg ∧ (p.bump a lo w n).fab = p.fab ∧ (p.bump a lo w n).models = p.models ∧
    (p.bump a lo w n).kv = p.kv ∧ (p.bump a lo w n).serv = p.serv ∧ (p.bump a lo w n).jrn = p.jrn := by
  refine ⟨?_, ?_, ?_, ?_, ?_, ?_, ?_, ?_, ?_, ?_, ?_, ?_, ?_, ?_, ?_, ?_, ?_, ?_, ?_, ?_, ?_, ?_, ?_, ?_, ?_, ?_, ?_⟩ <;> rfl

/-- A domain record is part of `pwr`. -/
@[simp] theorem setDom_frame (p : Part) (d : Nat) (v : Dom) :
    (p.setDom d v).freeTick = p.freeTick ∧ (p.setDom d v).clk = p.clk ∧ (p.setDom d v).pins = p.pins ∧
    (p.setDom d v).boot = p.boot ∧ (p.setDom d v).log = p.log ∧ (p.setDom d v).evcCopy = p.evcCopy ∧
    (p.setDom d v).image = p.image ∧ (p.setDom d v).therm = p.therm ∧ (p.setDom d v).host = p.host ∧
    (p.setDom d v).sess = p.sess ∧ (p.setDom d v).d2d = p.d2d ∧ (p.setDom d v).ctl = p.ctl ∧ (p.setDom d v).sec = p.sec ∧
    (p.setDom d v).frz = p.frz ∧ (p.setDom d v).trace = p.trace ∧ (p.setDom d v).regs = p.regs ∧ (p.setDom d v).an = p.an ∧
    (p.setDom d v).clusters = p.clusters ∧ (p.setDom d v).hbm = p.hbm ∧ (p.setDom d v).flash = p.flash ∧
    (p.setDom d v).failedDie = p.failedDie ∧ (p.setDom d v).fabCfg = p.fabCfg ∧ (p.setDom d v).fab = p.fab ∧
    (p.setDom d v).models = p.models ∧ (p.setDom d v).kv = p.kv ∧ (p.setDom d v).serv = p.serv ∧ (p.setDom d v).jrn = p.jrn := by
  refine ⟨?_, ?_, ?_, ?_, ?_, ?_, ?_, ?_, ?_, ?_, ?_, ?_, ?_, ?_, ?_, ?_, ?_, ?_, ?_, ?_, ?_, ?_, ?_, ?_, ?_, ?_, ?_⟩ <;> rfl

/-- A session record is part of `sess`. -/
@[simp] theorem setSes_frame (p : Part) (i : Nat) (v : Session) :
    (p.setSes i v).freeTick = p.freeTick ∧ (p.setSes i v).clk = p.clk ∧ (p.setSes i v).pins = p.pins ∧
    (p.setSes i v).boot = p.boot ∧ (p.setSes i v).log = p.log ∧ (p.setSes i v).evcCopy = p.evcCopy ∧
    (p.setSes i v).image = p.image ∧ (p.setSes i v).pwr = p.pwr ∧ (p.setSes i v).therm = p.therm ∧
    (p.setSes i v).host = p.host ∧ (p.setSes i v).d2d = p.d2d ∧ (p.setSes i v).ctl = p.ctl ∧ (p.setSes i v).sec = p.sec ∧
    (p.setSes i v).frz = p.frz ∧ (p.setSes i v).trace = p.trace ∧ (p.setSes i v).regs = p.regs ∧ (p.setSes i v).an = p.an ∧
    (p.setSes i v).clusters = p.clusters ∧ (p.setSes i v).hbm = p.hbm ∧ (p.setSes i v).flash = p.flash ∧
    (p.setSes i v).failedDie = p.failedDie ∧ (p.setSes i v).fabCfg = p.fabCfg ∧ (p.setSes i v).fab = p.fab ∧
    (p.setSes i v).models = p.models ∧ (p.setSes i v).kv = p.kv ∧ (p.setSes i v).serv = p.serv ∧ (p.setSes i v).jrn = p.jrn := by
  refine ⟨?_, ?_, ?_, ?_, ?_, ?_, ?_, ?_, ?_, ?_, ?_, ?_, ?_, ?_, ?_, ?_, ?_, ?_, ?_, ?_, ?_, ?_, ?_, ?_, ?_, ?_, ?_⟩ <;> rfl

/-- The same for a change of a session. -/
@[simp] theorem modSes_frame (p : Part) (i : Nat) (f : Session → Session) :
    (p.modSes i f).freeTick = p.freeTick ∧ (p.modSes i f).clk = p.clk ∧ (p.modSes i f).pins = p.pins ∧
    (p.modSes i f).boot = p.boot ∧ (p.modSes i f).log = p.log ∧ (p.modSes i f).evcCopy = p.evcCopy ∧
    (p.modSes i f).image = p.image ∧ (p.modSes i f).pwr = p.pwr ∧ (p.modSes i f).therm = p.therm ∧
    (p.modSes i f).host = p.host ∧ (p.modSes i f).d2d = p.d2d ∧ (p.modSes i f).ctl = p.ctl ∧ (p.modSes i f).sec = p.sec ∧
    (p.modSes i f).frz = p.frz ∧ (p.modSes i f).trace = p.trace ∧ (p.modSes i f).regs = p.regs ∧ (p.modSes i f).an = p.an ∧
    (p.modSes i f).clusters = p.clusters ∧ (p.modSes i f).hbm = p.hbm ∧ (p.modSes i f).flash = p.flash ∧
    (p.modSes i f).failedDie = p.failedDie ∧ (p.modSes i f).fabCfg = p.fabCfg ∧ (p.modSes i f).fab = p.fab ∧
    (p.modSes i f).models = p.models ∧ (p.modSes i f).kv = p.kv ∧ (p.modSes i f).serv = p.serv ∧ (p.modSes i f).jrn = p.jrn := by
  exact setSes_frame p i _

/-- An event message is on its way to the event controller. -/
@[simp] theorem event_frame (p : Part) (l : Nat) (d : Bytes) :
    (p.event l d).freeTick = p.freeTick ∧ (p.event l d).clk = p.clk ∧ (p.event l d).pins = p.pins ∧
    (p.event l d).boot = p.boot ∧ (p.event l d).log = p.log ∧ (p.event l d).evcCopy = p.evcCopy ∧
    (p.event l d).image = p.image ∧ (p.event l d).pwr = p.pwr ∧ (p.event l d).therm = p.therm ∧
    (p.event l d).host = p.host ∧ (p.event l d).sess = p.sess ∧ (p.event l d).d2d = p.d2d ∧ (p.event l d).sec = p.sec ∧
    (p.event l d).frz = p.frz ∧ (p.event l d).trace = p.trace ∧ (p.event l d).regs = p.regs ∧ (p.event l d).an = p.an ∧
    (p.event l d).clusters = p.clusters ∧ (p.event l d).hbm = p.hbm ∧ (p.event l d).flash = p.flash ∧
    (p.event l d).failedDie = p.failedDie ∧ (p.event l d).fabCfg = p.fabCfg ∧ (p.event l d).fab = p.fab ∧
    (p.event l d).models = p.models ∧ (p.event l d).kv = p.kv ∧ (p.event l d).serv = p.serv ∧ (p.event l d).jrn = p.jrn := by
  refine ⟨?_, ?_, ?_, ?_, ?_, ?_, ?_, ?_, ?_, ?_, ?_, ?_, ?_, ?_, ?_, ?_, ?_, ?_, ?_, ?_, ?_, ?_, ?_, ?_, ?_, ?_, ?_⟩ <;> rfl

/-- An MSI-X signal changes the host link only. -/
@[simp] theorem msix_frame (p : Part) (v : Nat) :
    (p.msix v).freeTick = p.freeTick ∧ (p.msix v).clk = p.clk ∧ (p.msix v).pins = p.pins ∧ (p.msix v).boot = p.boot ∧
    (p.msix v).log = p.log ∧ (p.msix v).evcCopy = p.evcCopy ∧ (p.msix v).image = p.image ∧ (p.msix v).pwr = p.pwr ∧
    (p.msix v).therm = p.therm ∧ (p.msix v).sess = p.sess ∧ (p.msix v).d2d = p.d2d ∧ (p.msix v).ctl = p.ctl ∧
    (p.msix v).sec = p.sec ∧ (p.msix v).frz = p.frz ∧ (p.msix v).trace = p.trace ∧ (p.msix v).regs = p.regs ∧
    (p.msix v).an = p.an ∧ (p.msix v).clusters = p.clusters ∧ (p.msix v).hbm = p.hbm ∧ (p.msix v).flash = p.flash ∧
    (p.msix v).failedDie = p.failedDie ∧ (p.msix v).fabCfg = p.fabCfg ∧ (p.msix v).fab = p.fab ∧
    (p.msix v).models = p.models ∧ (p.msix v).kv = p.kv ∧ (p.msix v).serv = p.serv ∧ (p.msix v).jrn = p.jrn := by
  unfold Part.msix
  split
  · simp
  · split <;> simp

/-- A reply changes its session, or NOTICE_DROP. -/
@[simp] theorem produce_frame (p : Part) (i : Nat) (r : Reply) :
    (p.produce i r).freeTick = p.freeTick ∧ (p.produce i r).clk = p.clk ∧ (p.produce i r).pins = p.pins ∧
    (p.produce i r).boot = p.boot ∧ (p.produce i r).log = p.log ∧ (p.produce i r).evcCopy = p.evcCopy ∧
    (p.produce i r).image = p.image ∧ (p.produce i r).pwr = p.pwr ∧ (p.produce i r).therm = p.therm ∧
    (p.produce i r).host = p.host ∧ (p.produce i r).d2d = p.d2d ∧ (p.produce i r).ctl = p.ctl ∧
    (p.produce i r).sec = p.sec ∧ (p.produce i r).frz = p.frz ∧ (p.produce i r).trace = p.trace ∧
    (p.produce i r).an = p.an ∧ (p.produce i r).clusters = p.clusters ∧ (p.produce i r).hbm = p.hbm ∧
    (p.produce i r).flash = p.flash ∧ (p.produce i r).failedDie = p.failedDie ∧ (p.produce i r).fabCfg = p.fabCfg ∧
    (p.produce i r).fab = p.fab ∧ (p.produce i r).models = p.models ∧ (p.produce i r).kv = p.kv ∧
    (p.produce i r).serv = p.serv ∧ (p.produce i r).jrn = p.jrn := by
  unfold Part.produce
  split
  · simp
  · split
    · simp
    · simp

/-- The same for a reply to several sessions. -/
@[simp] theorem toMasked_frame (p : Part) (m : Nat) (r : Reply) (l : List Nat) :
    (p.toMasked m r l).freeTick = p.freeTick ∧ (p.toMasked m r l).clk = p.clk ∧ (p.toMasked m r l).pins = p.pins ∧
    (p.toMasked m r l).boot = p.boot ∧ (p.toMasked m r l).log = p.log ∧ (p.toMasked m r l).evcCopy = p.evcCopy ∧
    (p.toMasked m r l).image = p.image ∧ (p.toMasked m r l).pwr = p.pwr ∧ (p.toMasked m r l).therm = p.therm ∧
    (p.toMasked m r l).host = p.host ∧ (p.toMasked m r l).d2d = p.d2d ∧ (p.toMasked m r l).ctl = p.ctl ∧
    (p.toMasked m r l).sec = p.sec ∧ (p.toMasked m r l).frz = p.frz ∧ (p.toMasked m r l).trace = p.trace ∧
    (p.toMasked m r l).an = p.an ∧ (p.toMasked m r l).clusters = p.clusters ∧ (p.toMasked m r l).hbm = p.hbm ∧
    (p.toMasked m r l).flash = p.flash ∧ (p.toMasked m r l).failedDie = p.failedDie ∧ (p.toMasked m r l).fabCfg = p.fabCfg ∧
    (p.toMasked m r l).fab = p.fab ∧ (p.toMasked m r l).models = p.models ∧ (p.toMasked m r l).kv = p.kv ∧
    (p.toMasked m r l).serv = p.serv ∧ (p.toMasked m r l).jrn = p.jrn := by
  induction l generalizing p with
  | nil => simp [Part.toMasked]
  | cons i l ih =>
    simp only [Part.toMasked]
    split
    · have h := ih (p.produce i r)
      simp only [produce_frame] at h
      exact h
    · exact ih p

/-- The same for a notice. -/
@[simp] theorem notice_frame (p : Part) (c : Nat) (b : Bytes) :
    (p.notice c b).freeTick = p.freeTick ∧ (p.notice c b).clk = p.clk ∧ (p.notice c b).pins = p.pins ∧
    (p.notice c b).boot = p.boot ∧ (p.notice c b).log = p.log ∧ (p.notice c b).evcCopy = p.evcCopy ∧
    (p.notice c b).image = p.image ∧ (p.notice c b).pwr = p.pwr ∧ (p.notice c b).therm = p.therm ∧
    (p.notice c b).host = p.host ∧ (p.notice c b).d2d = p.d2d ∧ (p.notice c b).ctl = p.ctl ∧ (p.notice c b).sec = p.sec ∧
    (p.notice c b).frz = p.frz ∧ (p.notice c b).trace = p.trace ∧ (p.notice c b).an = p.an ∧
    (p.notice c b).clusters = p.clusters ∧ (p.notice c b).hbm = p.hbm ∧ (p.notice c b).flash = p.flash ∧
    (p.notice c b).failedDie = p.failedDie ∧ (p.notice c b).fabCfg = p.fabCfg ∧ (p.notice c b).fab = p.fab ∧
    (p.notice c b).models = p.models ∧ (p.notice c b).kv = p.kv ∧ (p.notice c b).serv = p.serv ∧ (p.notice c b).jrn = p.jrn := by
  exact toMasked_frame p 3 _ _

/-- A trace entry changes the trace, or its count of drops. -/
@[simp] theorem traceAdd_frame (p : Part) (t d w : Nat) (b : Bytes) :
    (p.traceAdd t d w b).freeTick = p.freeTick ∧ (p.traceAdd t d w b).clk = p.clk ∧ (p.traceAdd t d w b).pins = p.pins ∧
    (p.traceAdd t d w b).boot = p.boot ∧ (p.traceAdd t d w b).log = p.log ∧ (p.traceAdd t d w b).evcCopy = p.evcCopy ∧
    (p.traceAdd t d w b).image = p.image ∧ (p.traceAdd t d w b).pwr = p.pwr ∧ (p.traceAdd t d w b).therm = p.therm ∧
    (p.traceAdd t d w b).host = p.host ∧ (p.traceAdd t d w b).sess = p.sess ∧ (p.traceAdd t d w b).d2d = p.d2d ∧
    (p.traceAdd t d w b).ctl = p.ctl ∧ (p.traceAdd t d w b).sec = p.sec ∧ (p.traceAdd t d w b).frz = p.frz ∧
    (p.traceAdd t d w b).an = p.an ∧ (p.traceAdd t d w b).clusters = p.clusters ∧ (p.traceAdd t d w b).hbm = p.hbm ∧
    (p.traceAdd t d w b).flash = p.flash ∧ (p.traceAdd t d w b).failedDie = p.failedDie ∧
    (p.traceAdd t d w b).fabCfg = p.fabCfg ∧ (p.traceAdd t d w b).fab = p.fab ∧ (p.traceAdd t d w b).models = p.models ∧
    (p.traceAdd t d w b).kv = p.kv ∧ (p.traceAdd t d w b).serv = p.serv ∧ (p.traceAdd t d w b).jrn = p.jrn := by
  unfold Part.traceAdd
  split
  · simp
  · simp only []
    split
    · simp
    · split <;> simp

/-- A failed die changes power, sessions, host link and FAILED_DIE. -/
@[simp] theorem dieFailed_frame (p : Part) (d : Nat) :
    (p.dieFailed d).freeTick = p.freeTick ∧ (p.dieFailed d).clk = p.clk ∧ (p.dieFailed d).pins = p.pins ∧
    (p.dieFailed d).boot = p.boot ∧ (p.dieFailed d).log = p.log ∧ (p.dieFailed d).evcCopy = p.evcCopy ∧
    (p.dieFailed d).image = p.image ∧ (p.dieFailed d).therm = p.therm ∧ (p.dieFailed d).d2d = p.d2d ∧
    (p.dieFailed d).ctl = p.ctl ∧ (p.dieFailed d).sec = p.sec ∧ (p.dieFailed d).frz = p.frz ∧
    (p.dieFailed d).trace = p.trace ∧ (p.dieFailed d).an = p.an ∧ (p.dieFailed d).clusters = p.clusters ∧
    (p.dieFailed d).hbm = p.hbm ∧ (p.dieFailed d).flash = p.flash ∧ (p.dieFailed d).fabCfg = p.fabCfg ∧
    (p.dieFailed d).fab = p.fab ∧ (p.dieFailed d).models = p.models ∧ (p.dieFailed d).kv = p.kv ∧
    (p.dieFailed d).serv = p.serv ∧ (p.dieFailed d).jrn = p.jrn := by
  unfold Part.dieFailed
  simp only []
  split <;> split <;> simp

/-- The same during bring-up, which may stop. -/
@[simp] theorem bringupFault_frame (p : Part) (c d : Nat) :
    (p.bringupFault c d).freeTick = p.freeTick ∧ (p.bringupFault c d).clk = p.clk ∧ (p.bringupFault c d).pins = p.pins ∧
    (p.bringupFault c d).log = p.log ∧ (p.bringupFault c d).evcCopy = p.evcCopy ∧ (p.bringupFault c d).image = p.image ∧
    (p.bringupFault c d).therm = p.therm ∧ (p.bringupFault c d).d2d = p.d2d ∧ (p.bringupFault c d).ctl = p.ctl ∧
    (p.bringupFault c d).sec = p.sec ∧ (p.bringupFault c d).frz = p.frz ∧ (p.bringupFault c d).trace = p.trace ∧
    (p.bringupFault c d).an = p.an ∧ (p.bringupFault c d).clusters = p.clusters ∧ (p.bringupFault c d).hbm = p.hbm ∧
    (p.bringupFault c d).flash = p.flash ∧ (p.bringupFault c d).fabCfg = p.fabCfg ∧ (p.bringupFault c d).fab = p.fab ∧
    (p.bringupFault c d).models = p.models ∧ (p.bringupFault c d).kv = p.kv ∧ (p.bringupFault c d).serv = p.serv ∧
    (p.bringupFault c d).jrn = p.jrn := by
  unfold Part.bringupFault
  split
  · simp
  · split
    · simp
    · simp

/-- A command that ends changes its session, FAILS or NOTICE_DROP. -/
@[simp] theorem finish_frame (p : Part) (i st : Nat) (b : Bytes) :
    (p.finish i st b).freeTick = p.freeTick ∧ (p.finish i st b).clk = p.clk ∧ (p.finish i st b).pins = p.pins ∧
    (p.finish i st b).boot = p.boot ∧ (p.finish i st b).log = p.log ∧ (p.finish i st b).evcCopy = p.evcCopy ∧
    (p.finish i st b).image = p.image ∧ (p.finish i st b).pwr = p.pwr ∧ (p.finish i st b).therm = p.therm ∧
    (p.finish i st b).host = p.host ∧ (p.finish i st b).d2d = p.d2d ∧ (p.finish i st b).ctl = p.ctl ∧
    (p.finish i st b).sec = p.sec ∧ (p.finish i st b).frz = p.frz ∧ (p.finish i st b).trace = p.trace ∧
    (p.finish i st b).an = p.an ∧ (p.finish i st b).clusters = p.clusters ∧ (p.finish i st b).hbm = p.hbm ∧
    (p.finish i st b).flash = p.flash ∧ (p.finish i st b).failedDie = p.failedDie ∧ (p.finish i st b).fabCfg = p.fabCfg ∧
    (p.finish i st b).fab = p.fab ∧ (p.finish i st b).models = p.models ∧ (p.finish i st b).kv = p.kv ∧
    (p.finish i st b).serv = p.serv ∧ (p.finish i st b).jrn = p.jrn := by
  unfold Part.finish
  simp only []
  split
  · simp
  · split <;> split <;> simp

/-- An A command at its start point changes its session. -/
@[simp] theorem startA_frame (p : Part) (i k : Nat) :
    (p.startA i k).freeTick = p.freeTick ∧ (p.startA i k).clk = p.clk ∧ (p.startA i k).pins = p.pins ∧
    (p.startA i k).boot = p.boot ∧ (p.startA i k).log = p.log ∧ (p.startA i k).evcCopy = p.evcCopy ∧
    (p.startA i k).image = p.image ∧ (p.startA i k).pwr = p.pwr ∧ (p.startA i k).therm = p.therm ∧
    (p.startA i k).host = p.host ∧ (p.startA i k).d2d = p.d2d ∧ (p.startA i k).ctl = p.ctl ∧ (p.startA i k).sec = p.sec ∧
    (p.startA i k).frz = p.frz ∧ (p.startA i k).trace = p.trace ∧ (p.startA i k).regs = p.regs ∧ (p.startA i k).an = p.an ∧
    (p.startA i k).clusters = p.clusters ∧ (p.startA i k).hbm = p.hbm ∧ (p.startA i k).flash = p.flash ∧
    (p.startA i k).failedDie = p.failedDie ∧ (p.startA i k).fabCfg = p.fabCfg ∧ (p.startA i k).fab = p.fab ∧
    (p.startA i k).models = p.models ∧ (p.startA i k).kv = p.kv ∧ (p.startA i k).serv = p.serv ∧ (p.startA i k).jrn = p.jrn := by
  unfold Part.startA
  simp only []
  split <;> simp

/-- An A command that completes changes its session, or NOTICE_DROP. -/
@[simp] theorem completeA_frame (p : Part) (i seq st : Nat) (b : Bytes) :
    (p.completeA i seq st b).freeTick = p.freeTick ∧ (p.completeA i seq st b).clk = p.clk ∧
    (p.completeA i seq st b).pins = p.pins ∧ (p.completeA i seq st b).boot = p.boot ∧ (p.completeA i seq st b).log = p.log ∧
    (p.completeA i seq st b).evcCopy = p.evcCopy ∧ (p.completeA i seq st b).image = p.image ∧
    (p.completeA i seq st b).pwr = p.pwr ∧ (p.completeA i seq st b).therm = p.therm ∧
    (p.completeA i seq st b).host = p.host ∧ (p.completeA i seq st b).d2d = p.d2d ∧ (p.completeA i seq st b).ctl = p.ctl ∧
    (p.completeA i seq st b).sec = p.sec ∧ (p.completeA i seq st b).frz = p.frz ∧ (p.completeA i seq st b).trace = p.trace ∧
    (p.completeA i seq st b).an = p.an ∧ (p.completeA i seq st b).clusters = p.clusters ∧
    (p.completeA i seq st b).hbm = p.hbm ∧ (p.completeA i seq st b).flash = p.flash ∧
    (p.completeA i seq st b).failedDie = p.failedDie ∧ (p.completeA i seq st b).fabCfg = p.fabCfg ∧
    (p.completeA i seq st b).fab = p.fab ∧ (p.completeA i seq st b).models = p.models ∧ (p.completeA i seq st b).kv = p.kv ∧
    (p.completeA i seq st b).serv = p.serv ∧ (p.completeA i seq st b).jrn = p.jrn := by
  unfold Part.completeA
  simp only []
  split
  · simp
  · split <;> simp

/-- READINESS replies change sessions, or NOTICE_DROP, and what was last reported of FEAT1. -/
@[simp] theorem readiness_frame (p : Part) :
    (p.readiness).freeTick = p.freeTick ∧ (p.readiness).clk = p.clk ∧ (p.readiness).pins = p.pins ∧
    (p.readiness).log = p.log ∧ (p.readiness).evcCopy = p.evcCopy ∧ (p.readiness).image = p.image ∧
    (p.readiness).pwr = p.pwr ∧ (p.readiness).therm = p.therm ∧ (p.readiness).host = p.host ∧ (p.readiness).d2d = p.d2d ∧
    (p.readiness).ctl = p.ctl ∧ (p.readiness).sec = p.sec ∧ (p.readiness).frz = p.frz ∧ (p.readiness).trace = p.trace ∧
    (p.readiness).an = p.an ∧ (p.readiness).clusters = p.clusters ∧ (p.readiness).hbm = p.hbm ∧
    (p.readiness).flash = p.flash ∧ (p.readiness).failedDie = p.failedDie ∧ (p.readiness).fabCfg = p.fabCfg ∧
    (p.readiness).fab = p.fab ∧ (p.readiness).models = p.models ∧ (p.readiness).kv = p.kv ∧ (p.readiness).serv = p.serv ∧
    (p.readiness).jrn = p.jrn := by
  unfold Part.readiness
  simp only []
  split
  · simp
  · simp

/-- What READINESS replies leave of the stages of bring-up: everything but what was last reported. -/
theorem readiness_boot (p : Part) :
    p.readiness.boot = { p.boot with feat1Seen := p.readiness.boot.feat1Seen, readySeen := p.readiness.boot.readySeen } := by
  unfold Part.readiness
  simp only []
  split
  · rfl
  · simp

/-- READINESS replies leave every register but NOTICE_DROP's of the sessions. -/
theorem produce_reg (p : Part) (i : Nat) (r : Reply) (a : Nat) (h : ∀ j, a ≠ aSessCnt j) : (p.produce i r).regGet a = p.regGet a := by
  unfold Part.produce
  split
  · rfl
  · split
    · exact regGet_bump_ne _ _ _ _ _ _ (h i)
    · rfl

theorem toMasked_reg (m : Nat) (r : Reply) (a : Nat) (h : ∀ j, a ≠ aSessCnt j) :
    ∀ (l : List Nat) (p : Part), (p.toMasked m r l).regGet a = p.regGet a
  | [], _ => rfl
  | i :: l, p => by
    simp only [Part.toMasked]
    rw [toMasked_reg m r a h l]
    split
    · exact produce_reg p i r a h
    · rfl

theorem readiness_reg (p : Part) (a : Nat) (h : ∀ j, a ≠ aSessCnt j) : p.readiness.regGet a = p.regGet a := by
  unfold Part.readiness
  simp only []
  split
  · rfl
  · rw [toMasked_reg _ _ a h]; rfl

theorem notice_reg (p : Part) (c : Nat) (b : Bytes) (a : Nat) (h : ∀ j, a ≠ aSessCnt j) : (p.notice c b).regGet a = p.regGet a :=
  toMasked_reg _ _ a h _ _

theorem dieFailed_reg (p : Part) (d a : Nat) (h : ∀ j, a ≠ aSessCnt j) : (p.dieFailed d).regGet a = p.regGet a := by
  unfold Part.dieFailed
  simp only []
  generalize hq : (if p.domSt (dieDomain d) = .on then p.setDom (dieDomain d) { p.dom (dieDomain d) with st := .failed } else p) = q
  have hr : q.regs = p.regs := by rw [← hq]; split <;> simp
  have hg : q.regGet a = p.regGet a := by simp [Part.regGet, hr]
  split
  · exact hg
  · rw [notice_reg _ _ _ _ h, ← hg]
    simp [Part.regGet]

/-- A die that fails leaves the part in fault, with the first such die in FAILED_DIE (R331). -/
theorem dieFailed_failed (p : Part) (d : Nat) :
    (p.dieFailed d).failedDie = some (p.failedDie.getD d) := by
  unfold Part.dieFailed
  simp only []
  generalize hq : (if p.domSt (dieDomain d) = .on then p.setDom (dieDomain d) { p.dom (dieDomain d) with st := .failed } else p) = q
  have hf : q.failedDie = p.failedDie := by rw [← hq]; split <;> simp
  split
  · rename_i x hx; rw [hx, ← hf, hx]; rfl
  · rename_i hx; rw [← hf, hx]; simp

/-! ### What replies that no command caused do to a session -/

/-- A session that may have gained replies: everything but the replies that wait is as it was, and those only grew. -/
def Session.Grown (s t : Session) : Prop := { t with waiting := s.waiting } = s ∧ ∃ more, t.waiting = s.waiting ++ more

theorem Session.Grown.refl (s : Session) : s.Grown s := ⟨rfl, [], by simp⟩

theorem Session.Grown.trans {s t u : Session} (a : s.Grown t) (b : t.Grown u) : s.Grown u := by
  obtain ⟨a1, m, a2⟩ := a
  obtain ⟨b1, n, b2⟩ := b
  refine ⟨?_, m ++ n, by rw [b2, a2, List.append_assoc]⟩
  rw [← a1]
  rw [← b1]

/-- The fields that a grown session keeps. -/
theorem Session.Grown.keeps {s t : Session} (h : s.Grown t) :
    t.st = s.st ∧ t.cause = s.cause ∧ t.running = s.running ∧ t.cur = s.cur ∧ t.noticeMask = s.noticeMask := by
  rw [← h.1]
  exact ⟨rfl, rfl, rfl, rfl, rfl⟩

/-- Producing a reply at a session adds it there, or drops it, and changes no other session. -/
theorem produce_ses (p : Part) (i j : Nat) (r : Reply) : (p.ses j).Grown ((p.produce i r).ses j) := by
  unfold Part.produce
  split
  · exact .refl _
  · split
    · rw [show (p.bump (aSessCnt i) 16 16 1).ses j = p.ses j by simp [Part.ses]]
      exact .refl _
    · by_cases h : j = i
      · subst h; rw [ses_modSes]; exact ⟨rfl, [r], rfl⟩
      · rw [ses_modSes_ne _ _ _ _ h]; exact .refl _

theorem toMasked_ses (m : Nat) (r : Reply) (j : Nat) : ∀ (l : List Nat) (p : Part), (p.ses j).Grown ((p.toMasked m r l).ses j)
  | [], _ => .refl _
  | i :: l, p => by
    simp only [Part.toMasked]
    refine Session.Grown.trans ?_ (toMasked_ses m r j l _)
    split
    · exact produce_ses p i j r
    · exact .refl _

theorem notice_ses (p : Part) (c : Nat) (b : Bytes) (j : Nat) : (p.ses j).Grown ((p.notice c b).ses j) := toMasked_ses _ _ _ _ _

theorem readiness_ses (p : Part) (j : Nat) : (p.ses j).Grown (p.readiness.ses j) := by
  unfold Part.readiness
  simp only []
  split
  · exact .refl _
  · exact toMasked_ses _ _ j _ _

/-- A die that fails leaves each session as it was but for the replies that wait (R331). -/
theorem dieFailed_ses (p : Part) (d j : Nat) :
    { (p.dieFailed d).ses j with waiting := (p.ses j).waiting } = p.ses j := by
  unfold Part.dieFailed
  simp only []
  generalize hq : (if p.domSt (dieDomain d) = .on then p.setDom (dieDomain d) { p.dom (dieDomain d) with st := .failed } else p) = q
  have hs : q.ses j = p.ses j := by rw [← hq]; split <;> simp [Part.ses]
  split
  · rw [hs]
  · have hm := mget_map_keep Session.reset (fun s : Session => { s with waiting := s.waiting.filter fun r => r.kind != 1 }) q.sess j rfl
    have hg := (notice_ses ((({ q with failedDie := some d, sess := q.sess.map fun s => (s.1, { s.2 with waiting := s.2.waiting.filter fun r => r.kind != 1 }) } : Part).msix 64)) 0x200 (leBytes 2 q.fabCfg.partId) j).1
    have e : (({ q with failedDie := some d, sess := q.sess.map fun s => (s.1, { s.2 with waiting := s.2.waiting.filter fun r => r.kind != 1 }) } : Part).msix 64).ses j =
        { q.ses j with waiting := (q.ses j).waiting.filter fun r => r.kind != 1 } := by
      refine Eq.trans ?_ hm
      simp only [Part.ses, msix_frame]
    rw [e] at hg
    exact congrArg (fun s : Session => { s with waiting := (p.ses j).waiting }) (hs ▸ hg)

end Sys2Proof.Machine
end

