-- ==== Sys2Proof/Laws/Mesh.lean ====
section
/-! SUPPORT. Laws of the modules and the mesh: the ports of the manual's table, the two ends of a module, and what sending, failing
and taking a module down leave alone. -/
namespace Sys2Proof.Machine

theorem portTable_length : ∀ d, d < 20 → (portTable d).length = portCounts.getD d 0 := by decide

theorem isPort_lt {d q : Nat} (h : isPort d q = true) : d < 20 ∧ q < 23 := by
  have hq : q < portCounts.getD d 0 := by simpa [isPort] using h
  have hd : d < 20 := by
    rcases Nat.lt_or_ge d 20 with hd | hd
    · exact hd
    · have : portCounts.getD d 0 = 0 := by
        simp only [portCounts, List.getD]
        rw [List.getElem?_eq_none (by simpa using hd)]
        rfl
      omega
  have hm : ∀ d, d < 20 → portCounts.getD d 0 ≤ 23 := by decide
  have := hm d hd
  exact ⟨hd, by omega⟩

theorem portOk_of_isPort {d q : Nat} (h : isPort d q = true) : portOk d q = true := by
  have hq : q < portCounts.getD d 0 := by simpa [isPort] using h
  have hd := (isPort_lt h).1
  simp only [portOk, portTable_length d hd, Bool.and_eq_true, decide_eq_true_eq]
  exact ⟨hd, hq⟩

theorem isPort_eq (d q : Nat) : portOk d q = isPort d q := by
  cases h : isPort d q
  · by_cases hd : d < 20
    · have : ¬ q < portCounts.getD d 0 := by simpa [isPort] using h
      simp only [portOk, portTable_length d hd, Bool.and_eq_false_iff, decide_eq_false_iff_not]
      exact .inr this
    · simp only [portOk, Bool.and_eq_false_iff, decide_eq_false_iff_not]
      exact .inl hd
  · exact portOk_of_isPort h

/-- The two ends of a module name each other, under one module index. -/
def endsAgree (d q : Nat) : Bool :=
  match farEnd d q with
  | none => true
  | some (e, r) =>
    decide (portKey e r ≠ portKey d q) &&
    (match (portTable d)[q]?, (portTable e)[r]? with
     | some (e', i), some (d', j) => decide (e' = e ∧ d' = d ∧ i = j)
     | _, _ => false)

theorem endsAgree_low : ∀ d, d < 8 → ∀ q, q < 5 → endsAgree d q = true := by decide
theorem endsAgree_high : ∀ d, d < 8 → ∀ q, q < 8 → endsAgree (12 + d) q = true := by decide
theorem endsAgree_8 : ∀ q, q < 20 → endsAgree 8 q = true := by decide
theorem endsAgree_9 : ∀ q, q < 23 → endsAgree 9 q = true := by decide
theorem endsAgree_10 : ∀ q, q < 23 → endsAgree 10 q = true := by decide
theorem endsAgree_11 : ∀ q, q < 20 → endsAgree 11 q = true := by decide

theorem endsAgree_all {d q : Nat} (h : isPort d q = true) : endsAgree d q = true := by
  have hd := (isPort_lt h).1
  have hq : q < portCounts.getD d 0 := by simpa [isPort] using h
  have h5 : ∀ d, d < 8 → portCounts.getD d 0 ≤ 5 := by decide
  have h8 : ∀ d, d < 8 → portCounts.getD (12 + d) 0 = 8 := by decide
  rcases Nat.lt_or_ge d 8 with l | l
  · exact endsAgree_low d l q (Nat.lt_of_lt_of_le hq (h5 d l))
  · rcases Nat.lt_or_ge d 12 with m | m
    · obtain rfl | rfl | rfl | rfl : d = 8 ∨ d = 9 ∨ d = 10 ∨ d = 11 := by omega
      · exact endsAgree_8 q hq
      · exact endsAgree_9 q hq
      · exact endsAgree_10 q hq
      · exact endsAgree_11 q hq
    · obtain ⟨k, rfl⟩ : ∃ k, d = 12 + k := ⟨d - 12, by omega⟩
      have hk : k < 8 := by omega
      rw [h8 k hk] at hq
      exact endsAgree_high k hk q hq

theorem farEnd_facts {d q e r : Nat} (h : isPort d q = true) (hf : farEnd d q = some (e, r)) :
    portKey e r ≠ portKey d q ∧ ∃ i, (portTable d)[q]? = some (e, i) ∧ (portTable e)[r]? = some (d, i) := by
  have a := endsAgree_all h
  simp only [endsAgree, hf, Bool.and_eq_true, decide_eq_true_eq] at a
  refine ⟨a.1, ?_⟩
  have b := a.2
  split at b
  · rename_i e' i d' j h1 h2
    simp only [decide_eq_true_eq] at b
    obtain ⟨rfl, rfl, rfl⟩ := b
    exact ⟨i, h1, h2⟩
  · cases b

@[simp] theorem port_setPort (p : Part) (d q : Nat) (v : Port) : (p.setPort d q v).port d q = v := by
  simp [Part.port, Part.setPort]

theorem port_setPort_ne (p : Part) (d q e r : Nat) (v : Port) (h : portKey e r ≠ portKey d q) :
    (p.setPort d q v).port e r = p.port e r := by simp [Part.port, Part.setPort, h]

theorem bringupFault_d2d (p : Part) (c d : Nat) : (p.bringupFault c d).d2d = p.d2d := by simp

/-- A port record is part of `d2d`. -/
@[simp] theorem setPort_frame (p : Part) (d q : Nat) (v : Port) :
    (p.setPort d q v).freeTick = p.freeTick ∧ (p.setPort d q v).clk = p.clk ∧ (p.setPort d q v).pins = p.pins ∧
    (p.setPort d q v).boot = p.boot ∧ (p.setPort d q v).log = p.log ∧ (p.setPort d q v).evcCopy = p.evcCopy ∧
    (p.setPort d q v).image = p.image ∧ (p.setPort d q v).pwr = p.pwr ∧ (p.setPort d q v).therm = p.therm ∧
    (p.setPort d q v).host = p.host ∧ (p.setPort d q v).sess = p.sess ∧ (p.setPort d q v).ctl = p.ctl ∧
    (p.setPort d q v).sec = p.sec ∧ (p.setPort d q v).frz = p.frz ∧ (p.setPort d q v).an = p.an ∧
    (p.setPort d q v).clusters = p.clusters ∧ (p.setPort d q v).hbm = p.hbm ∧ (p.setPort d q v).flash = p.flash ∧
    (p.setPort d q v).failedDie = p.failedDie ∧ (p.setPort d q v).fabCfg = p.fabCfg ∧ (p.setPort d q v).fab = p.fab ∧
    (p.setPort d q v).models = p.models ∧ (p.setPort d q v).kv = p.kv ∧ (p.setPort d q v).serv = p.serv ∧
    (p.setPort d q v).jrn = p.jrn ∧ (p.setPort d q v).regs = p.regs ∧ (p.setPort d q v).trace = p.trace ∧
    (p.setPort d q v).d2d.outstanding = p.d2d.outstanding ∧ (p.setPort d q v).d2d.ctlReplies = p.d2d.ctlReplies ∧
    (p.setPort d q v).d2d.rxSeq = p.d2d.rxSeq ∧ (p.setPort d q v).d2d.early = p.d2d.early ∧
    (p.setPort d q v).d2d.inbox = p.d2d.inbox := by
  simp [Part.setPort]

/-- A message held is part of `d2d`. -/
@[simp] theorem hold_frame (p : Part) (h : HeldMsg) :
    (p.hold h).freeTick = p.freeTick ∧ (p.hold h).clk = p.clk ∧ (p.hold h).pins = p.pins ∧ (p.hold h).boot = p.boot ∧
    (p.hold h).log = p.log ∧ (p.hold h).evcCopy = p.evcCopy ∧ (p.hold h).image = p.image ∧ (p.hold h).pwr = p.pwr ∧
    (p.hold h).therm = p.therm ∧ (p.hold h).host = p.host ∧ (p.hold h).sess = p.sess ∧ (p.hold h).ctl = p.ctl ∧
    (p.hold h).sec = p.sec ∧ (p.hold h).frz = p.frz ∧ (p.hold h).an = p.an ∧ (p.hold h).clusters = p.clusters ∧
    (p.hold h).hbm = p.hbm ∧ (p.hold h).flash = p.flash ∧ (p.hold h).failedDie = p.failedDie ∧
    (p.hold h).fabCfg = p.fabCfg ∧ (p.hold h).fab = p.fab ∧ (p.hold h).models = p.models ∧ (p.hold h).kv = p.kv ∧
    (p.hold h).serv = p.serv ∧ (p.hold h).jrn = p.jrn ∧ (p.hold h).regs = p.regs ∧ (p.hold h).trace = p.trace ∧
    (p.hold h).d2d.outstanding = p.d2d.outstanding ∧ (p.hold h).d2d.ctlReplies = p.d2d.ctlReplies ∧
    (p.hold h).d2d.rxSeq = p.d2d.rxSeq ∧ (p.hold h).d2d.early = p.d2d.early ∧ (p.hold h).d2d.inbox = p.d2d.inbox := by
  simp [Part.hold]

/-- A SEQ counter is part of `d2d`. -/
@[simp] theorem takeSeq_frame (p : Part) (s d c : Nat) :
    ((p.takeSeq s d c).2).freeTick = p.freeTick ∧ ((p.takeSeq s d c).2).clk = p.clk ∧ ((p.takeSeq s d c).2).pins = p.pins ∧
    ((p.takeSeq s d c).2).boot = p.boot ∧ ((p.takeSeq s d c).2).log = p.log ∧ ((p.takeSeq s d c).2).evcCopy = p.evcCopy ∧
    ((p.takeSeq s d c).2).image = p.image ∧ ((p.takeSeq s d c).2).pwr = p.pwr ∧ ((p.takeSeq s d c).2).therm = p.therm ∧
    ((p.takeSeq s d c).2).host = p.host ∧ ((p.takeSeq s d c).2).sess = p.sess ∧ ((p.takeSeq s d c).2).ctl = p.ctl ∧
    ((p.takeSeq s d c).2).sec = p.sec ∧ ((p.takeSeq s d c).2).frz = p.frz ∧ ((p.takeSeq s d c).2).an = p.an ∧
    ((p.takeSeq s d c).2).clusters = p.clusters ∧ ((p.takeSeq s d c).2).hbm = p.hbm ∧
    ((p.takeSeq s d c).2).flash = p.flash ∧ ((p.takeSeq s d c).2).failedDie = p.failedDie ∧
    ((p.takeSeq s d c).2).fabCfg = p.fabCfg ∧ ((p.takeSeq s d c).2).fab = p.fab ∧ ((p.takeSeq s d c).2).models = p.models ∧
    ((p.takeSeq s d c).2).kv = p.kv ∧ ((p.takeSeq s d c).2).serv = p.serv ∧ ((p.takeSeq s d c).2).jrn = p.jrn ∧
    ((p.takeSeq s d c).2).regs = p.regs ∧ ((p.takeSeq s d c).2).trace = p.trace ∧
    ((p.takeSeq s d c).2).d2d.outstanding = p.d2d.outstanding ∧ ((p.takeSeq s d c).2).d2d.ctlReplies = p.d2d.ctlReplies ∧
    ((p.takeSeq s d c).2).d2d.rxSeq = p.d2d.rxSeq ∧ ((p.takeSeq s d c).2).d2d.early = p.d2d.early ∧
    ((p.takeSeq s d c).2).d2d.inbox = p.d2d.inbox := by
  simp [Part.takeSeq]

/-- A message that goes out changes the mesh and the trace; units' inboxes, CTL's commands and replies and the orders of arrival stay. -/
@[simp] theorem launch_frame (p : Part) (h : HeldMsg) :
    (p.launch h).freeTick = p.freeTick ∧ (p.launch h).clk = p.clk ∧ (p.launch h).pins = p.pins ∧
    (p.launch h).boot = p.boot ∧ (p.launch h).log = p.log ∧ (p.launch h).evcCopy = p.evcCopy ∧
    (p.launch h).image = p.image ∧ (p.launch h).pwr = p.pwr ∧ (p.launch h).therm = p.therm ∧ (p.launch h).host = p.host ∧
    (p.launch h).sess = p.sess ∧ (p.launch h).ctl = p.ctl ∧ (p.launch h).sec = p.sec ∧ (p.launch h).frz = p.frz ∧
    (p.launch h).an = p.an ∧ (p.launch h).clusters = p.clusters ∧ (p.launch h).hbm = p.hbm ∧ (p.launch h).flash = p.flash ∧
    (p.launch h).failedDie = p.failedDie ∧ (p.launch h).fabCfg = p.fabCfg ∧ (p.launch h).fab = p.fab ∧
    (p.launch h).models = p.models ∧ (p.launch h).kv = p.kv ∧ (p.launch h).serv = p.serv ∧ (p.launch h).jrn = p.jrn ∧
    (p.launch h).d2d.outstanding = p.d2d.outstanding ∧ (p.launch h).d2d.ctlReplies = p.d2d.ctlReplies ∧
    (p.launch h).d2d.rxSeq = p.d2d.rxSeq ∧ (p.launch h).d2d.early = p.d2d.early ∧ (p.launch h).d2d.inbox = p.d2d.inbox := by
  unfold Part.launch
  simp only []
  split <;> simp

/-- The same for a message that goes out or waits for credits. -/
@[simp] theorem offer_frame (p : Part) (h : HeldMsg) :
    ((p.offer h).1).freeTick = p.freeTick ∧ ((p.offer h).1).clk = p.clk ∧ ((p.offer h).1).pins = p.pins ∧
    ((p.offer h).1).boot = p.boot ∧ ((p.offer h).1).log = p.log ∧ ((p.offer h).1).evcCopy = p.evcCopy ∧
    ((p.offer h).1).image = p.image ∧ ((p.offer h).1).pwr = p.pwr ∧ ((p.offer h).1).therm = p.therm ∧
    ((p.offer h).1).host = p.host ∧ ((p.offer h).1).sess = p.sess ∧ ((p.offer h).1).ctl = p.ctl ∧
    ((p.offer h).1).sec = p.sec ∧ ((p.offer h).1).frz = p.frz ∧ ((p.offer h).1).an = p.an ∧
    ((p.offer h).1).clusters = p.clusters ∧ ((p.offer h).1).hbm = p.hbm ∧ ((p.offer h).1).flash = p.flash ∧
    ((p.offer h).1).failedDie = p.failedDie ∧ ((p.offer h).1).fabCfg = p.fabCfg ∧ ((p.offer h).1).fab = p.fab ∧
    ((p.offer h).1).models = p.models ∧ ((p.offer h).1).kv = p.kv ∧ ((p.offer h).1).serv = p.serv ∧
    ((p.offer h).1).jrn = p.jrn ∧ ((p.offer h).1).d2d.outstanding = p.d2d.outstanding ∧
    ((p.offer h).1).d2d.ctlReplies = p.d2d.ctlReplies ∧ ((p.offer h).1).d2d.rxSeq = p.d2d.rxSeq ∧
    ((p.offer h).1).d2d.early = p.d2d.early ∧ ((p.offer h).1).d2d.inbox = p.d2d.inbox := by
  unfold Part.offer
  split <;> simp

/-- The same for a message that returns credits. -/
@[simp] theorem creditOnly_frame (p : Part) (d q : Nat) :
    (p.creditOnly d q).freeTick = p.freeTick ∧ (p.creditOnly d q).clk = p.clk ∧ (p.creditOnly d q).pins = p.pins ∧
    (p.creditOnly d q).boot = p.boot ∧ (p.creditOnly d q).log = p.log ∧ (p.creditOnly d q).evcCopy = p.evcCopy ∧
    (p.creditOnly d q).image = p.image ∧ (p.creditOnly d q).pwr = p.pwr ∧ (p.creditOnly d q).therm = p.therm ∧
    (p.creditOnly d q).host = p.host ∧ (p.creditOnly d q).sess = p.sess ∧ (p.creditOnly d q).ctl = p.ctl ∧
    (p.creditOnly d q).sec = p.sec ∧ (p.creditOnly d q).frz = p.frz ∧ (p.creditOnly d q).an = p.an ∧
    (p.creditOnly d q).clusters = p.clusters ∧ (p.creditOnly d q).hbm = p.hbm ∧ (p.creditOnly d q).flash = p.flash ∧
    (p.creditOnly d q).failedDie = p.failedDie ∧ (p.creditOnly d q).fabCfg = p.fabCfg ∧ (p.creditOnly d q).fab = p.fab ∧
    (p.creditOnly d q).models = p.models ∧ (p.creditOnly d q).kv = p.kv ∧ (p.creditOnly d q).serv = p.serv ∧
    (p.creditOnly d q).jrn = p.jrn ∧ (p.creditOnly d q).d2d.outstanding = p.d2d.outstanding ∧
    (p.creditOnly d q).d2d.ctlReplies = p.d2d.ctlReplies ∧ (p.creditOnly d q).d2d.rxSeq = p.d2d.rxSeq ∧
    (p.creditOnly d q).d2d.early = p.d2d.early ∧ (p.creditOnly d q).d2d.inbox = p.d2d.inbox := by
  unfold Part.creditOnly
  split
  · simp
  · split
    · simp
    · simp

/-- The same for a message that leaves its receive buffer. -/
@[simp] theorem freeRx_frame (p : Part) (d q : Nat) (m : DieMsg) :
    (p.freeRx d q m).freeTick = p.freeTick ∧ (p.freeRx d q m).clk = p.clk ∧ (p.freeRx d q m).pins = p.pins ∧
    (p.freeRx d q m).boot = p.boot ∧ (p.freeRx d q m).log = p.log ∧ (p.freeRx d q m).evcCopy = p.evcCopy ∧
    (p.freeRx d q m).image = p.image ∧ (p.freeRx d q m).pwr = p.pwr ∧ (p.freeRx d q m).therm = p.therm ∧
    (p.freeRx d q m).host = p.host ∧ (p.freeRx d q m).sess = p.sess ∧ (p.freeRx d q m).ctl = p.ctl ∧
    (p.freeRx d q m).sec = p.sec ∧ (p.freeRx d q m).frz = p.frz ∧ (p.freeRx d q m).an = p.an ∧
    (p.freeRx d q m).clusters = p.clusters ∧ (p.freeRx d q m).hbm = p.hbm ∧ (p.freeRx d q m).flash = p.flash ∧
    (p.freeRx d q m).failedDie = p.failedDie ∧ (p.freeRx d q m).fabCfg = p.fabCfg ∧ (p.freeRx d q m).fab = p.fab ∧
    (p.freeRx d q m).models = p.models ∧ (p.freeRx d q m).kv = p.kv ∧ (p.freeRx d q m).serv = p.serv ∧
    (p.freeRx d q m).jrn = p.jrn ∧ (p.freeRx d q m).d2d.outstanding = p.d2d.outstanding ∧
    (p.freeRx d q m).d2d.ctlReplies = p.d2d.ctlReplies ∧ (p.freeRx d q m).d2d.rxSeq = p.d2d.rxSeq ∧
    (p.freeRx d q m).d2d.early = p.d2d.early ∧ (p.freeRx d q m).d2d.inbox = p.d2d.inbox := by
  unfold Part.freeRx
  split
  · simp
  · simp only []
    split <;> simp

/-- The same for a message that is posted. -/
@[simp] theorem post_frame (p : Part) (h : HeldMsg) :
    (p.post h).freeTick = p.freeTick ∧ (p.post h).clk = p.clk ∧ (p.post h).pins = p.pins ∧ (p.post h).boot = p.boot ∧
    (p.post h).log = p.log ∧ (p.post h).evcCopy = p.evcCopy ∧ (p.post h).image = p.image ∧ (p.post h).pwr = p.pwr ∧
    (p.post h).therm = p.therm ∧ (p.post h).host = p.host ∧ (p.post h).sess = p.sess ∧ (p.post h).ctl = p.ctl ∧
    (p.post h).sec = p.sec ∧ (p.post h).frz = p.frz ∧ (p.post h).an = p.an ∧ (p.post h).clusters = p.clusters ∧
    (p.post h).hbm = p.hbm ∧ (p.post h).flash = p.flash ∧ (p.post h).failedDie = p.failedDie ∧
    (p.post h).fabCfg = p.fabCfg ∧ (p.post h).fab = p.fab ∧ (p.post h).models = p.models ∧ (p.post h).kv = p.kv ∧
    (p.post h).serv = p.serv ∧ (p.post h).jrn = p.jrn ∧ (p.post h).d2d.outstanding = p.d2d.outstanding ∧
    (p.post h).d2d.ctlReplies = p.d2d.ctlReplies ∧ (p.post h).d2d.rxSeq = p.d2d.rxSeq ∧ (p.post h).d2d.early = p.d2d.early ∧
    (p.post h).d2d.inbox = p.d2d.inbox := by
  unfold Part.post
  simp only []
  split <;> simp

/-- The status of one end of a module: what D2D_PORT_STATUS shows of it, and its rate. -/
def Port.status (q : Port) : Nat × Nat × Nat × Nat × Bool := (q.st, q.repaired, q.peerDie, q.peerMod, q.slow)

/-- Messages leave the status of every module as it was. -/
theorem setPort_status (p : Part) (d q e r : Nat) (v : Port) (h : v.status = (p.port d q).status) :
    ((p.setPort d q v).port e r).status = (p.port e r).status := by
  by_cases x : portKey e r = portKey d q
  · have a : (p.setPort d q v).port e r = v := by simp [Part.port, Part.setPort, x]
    have b : p.port e r = p.port d q := by simp [Part.port, x]
    rw [a, b, h]
  · rw [port_setPort_ne p d q e r v x]

theorem traceAdd_port (p : Part) (c d w : Nat) (b : Bytes) (e r : Nat) : (p.traceAdd c d w b).port e r = p.port e r := by
  simp [Part.port]

theorem launch_status (p : Part) (h : HeldMsg) (e r : Nat) : ((p.launch h).port e r).status = (p.port e r).status := by
  unfold Part.launch
  simp only []
  split
  · refine (setPort_status _ _ _ _ _ _ ?_).trans ?_
    · rw [traceAdd_port]; rfl
    · rw [traceAdd_port]
  · exact setPort_status _ _ _ _ _ _ rfl

theorem offer_status (p : Part) (h : HeldMsg) (e r : Nat) : ((p.offer h).1.port e r).status = (p.port e r).status := by
  unfold Part.offer
  split
  · rfl
  · exact launch_status p h e r

theorem creditOnly_status (p : Part) (d q e r : Nat) : ((p.creditOnly d q).port e r).status = (p.port e r).status := by
  unfold Part.creditOnly
  split
  · rfl
  · split
    · rfl
    · exact offer_status _ _ e r

theorem freeRx_status (p : Part) (d q : Nat) (m : DieMsg) (e r : Nat) : ((p.freeRx d q m).port e r).status = (p.port e r).status := by
  unfold Part.freeRx
  split
  · rfl
  · simp only []
    split
    · rw [creditOnly_status]
      exact setPort_status _ _ _ _ _ _ rfl
    · exact setPort_status _ _ _ _ _ _ rfl

theorem post_status (p : Part) (h : HeldMsg) (e r : Nat) : ((p.post h).port e r).status = (p.port e r).status := by
  unfold Part.post
  simp only []
  split
  · rw [freeRx_status]
    exact offer_status p h e r
  · exact offer_status p h e r

theorem dieFailed_port (p : Part) (d e r : Nat) : (p.dieFailed d).port e r = p.port e r := by simp [Part.port]

theorem reroute_status : ∀ (l : List HeldMsg) (p : Part) (e r : Nat), ((p.reroute l).port e r).status = (p.port e r).status
  | [], _, _, _ => rfl
  | h :: l, p, e, r => by
    simp only [Part.reroute]
    rw [reroute_status l]
    split
    · rw [dieFailed_port]; rfl
    · exact post_status _ _ e r

theorem bringupFault_port (p : Part) (c d e r : Nat) : (p.bringupFault c d).port e r = p.port e r := by simp [Part.port]

/-- A module that goes down changes the status of its two ends alone: both are reset. -/
theorem moduleDown_status (p : Part) {d q e r : Nat} (h : farEnd d q = some (e, r)) (a b : Nat) :
    ((p.moduleDown d q).port a b).status = ((p.bothEnds d q fun _ => Port.reset).port a b).status := by
  have k (x : Part) (c d : Nat) : ((x.bringupFault c d).port a b).status = (x.port a b).status := by rw [bringupFault_port]
  unfold Part.moduleDown
  simp only [h]
  split
  · split
    · rw [k, reroute_status]; rfl
    · split
      · rw [k, reroute_status]; rfl
      · rw [reroute_status]; rfl
  · rw [reroute_status]; rfl

/-- What sending changes: the mesh, the trace and, where no path is left, what a failed die changes. -/
@[simp] theorem send_frame (p : Part) (m : DieMsg) :
    (p.send m).freeTick = p.freeTick ∧ (p.send m).clk = p.clk ∧ (p.send m).pins = p.pins ∧ (p.send m).boot = p.boot ∧
    (p.send m).log = p.log ∧ (p.send m).evcCopy = p.evcCopy ∧ (p.send m).image = p.image ∧ (p.send m).therm = p.therm ∧
    (p.send m).ctl = p.ctl ∧ (p.send m).sec = p.sec ∧ (p.send m).frz = p.frz ∧ (p.send m).an = p.an ∧
    (p.send m).clusters = p.clusters ∧ (p.send m).hbm = p.hbm ∧ (p.send m).flash = p.flash ∧ (p.send m).fabCfg = p.fabCfg ∧
    (p.send m).fab = p.fab ∧ (p.send m).models = p.models ∧ (p.send m).kv = p.kv ∧ (p.send m).serv = p.serv ∧
    (p.send m).jrn = p.jrn ∧ (p.send m).d2d.outstanding = p.d2d.outstanding ∧ (p.send m).d2d.ctlReplies = p.d2d.ctlReplies ∧
    (p.send m).d2d.rxSeq = p.d2d.rxSeq ∧ (p.send m).d2d.early = p.d2d.early ∧ (p.send m).d2d.inbox = p.d2d.inbox := by
  unfold Part.send
  simp only []
  split
  · split <;> simp
  · simp

theorem traceAdd_reg (p : Part) (c d w : Nat) (b : Bytes) (a : Nat) (h : a ≠ aTraceCnt) : (p.traceAdd c d w b).regGet a = p.regGet a := by
  unfold Part.traceAdd
  split
  · rfl
  · simp only []
    split
    · rfl
    · split
      · rfl
      · exact regGet_bump_ne _ _ _ _ _ _ h

/-- Messages leave every register but the trace's count of drops. -/
theorem launch_reg (p : Part) (x : HeldMsg) (a : Nat) (h : a ≠ aTraceCnt) : (p.launch x).regGet a = p.regGet a := by
  unfold Part.launch
  simp only []
  split
  · exact traceAdd_reg p _ _ _ _ a h
  · rfl

theorem offer_reg (p : Part) (x : HeldMsg) (a : Nat) (h : a ≠ aTraceCnt) : (p.offer x).1.regGet a = p.regGet a := by
  unfold Part.offer
  split
  · rfl
  · exact launch_reg p x a h

theorem creditOnly_reg (p : Part) (d q a : Nat) (h : a ≠ aTraceCnt) : (p.creditOnly d q).regGet a = p.regGet a := by
  unfold Part.creditOnly
  split
  · rfl
  · split
    · rfl
    · exact offer_reg _ _ a h

theorem freeRx_reg (p : Part) (d q : Nat) (m : DieMsg) (a : Nat) (h : a ≠ aTraceCnt) : (p.freeRx d q m).regGet a = p.regGet a := by
  unfold Part.freeRx
  split
  · rfl
  · simp only []
    split
    · rw [creditOnly_reg _ _ _ _ h]; rfl
    · rfl

theorem post_reg (p : Part) (x : HeldMsg) (a : Nat) (h : a ≠ aTraceCnt) : (p.post x).regGet a = p.regGet a := by
  unfold Part.post
  simp only []
  split
  · rw [freeRx_reg _ _ _ _ _ h, offer_reg _ _ _ h]
  · exact offer_reg p x a h

/-- Sending leaves every register but the trace's count of drops and the sessions'. -/
theorem send_reg (p : Part) (m : DieMsg) (a : Nat) (h : a ≠ aTraceCnt) (h2 : ∀ j, a ≠ aSessCnt j) :
    (p.send m).regGet a = p.regGet a := by
  unfold Part.send
  simp only []
  split
  · split
    · rw [dieFailed_reg _ _ _ h2]; rfl
    · rfl
  · rw [post_reg _ _ _ h]; rfl

/-- A bank operation that CTL sends joins the commands outstanding, and leaves the replies and the registers as they were. -/
theorem bankMessage_frame (p : Part) (op k : Nat) (b : Bytes) :
    (p.bankMessage op k b).d2d.ctlReplies = p.d2d.ctlReplies ∧
    (∃ c, (p.bankMessage op k b).d2d.outstanding = p.d2d.outstanding ++ [c]) ∧
    ∀ a, a ≠ aTraceCnt → (∀ j, a ≠ aSessCnt j) → (p.bankMessage op k b).regGet a = p.regGet a := by
  unfold Part.bankMessage
  simp only []
  refine ⟨by simp [Part.issue], by simp [Part.issue], fun a h h2 => ?_⟩
  rw [send_reg _ _ _ h h2]
  rfl

@[simp] theorem answer_frame (p : Part) (a : Nat) (m : DieMsg) (e st : Nat) (b : Bytes) :
    (p.answer a m e st b).freeTick = p.freeTick ∧ (p.answer a m e st b).clk = p.clk ∧ (p.answer a m e st b).pins = p.pins ∧
    (p.answer a m e st b).boot = p.boot ∧ (p.answer a m e st b).log = p.log ∧ (p.answer a m e st b).evcCopy = p.evcCopy ∧
    (p.answer a m e st b).image = p.image ∧ (p.answer a m e st b).therm = p.therm ∧ (p.answer a m e st b).ctl = p.ctl ∧
    (p.answer a m e st b).sec = p.sec ∧ (p.answer a m e st b).frz = p.frz ∧ (p.answer a m e st b).an = p.an ∧
    (p.answer a m e st b).clusters = p.clusters ∧ (p.answer a m e st b).hbm = p.hbm ∧
    (p.answer a m e st b).flash = p.flash ∧ (p.answer a m e st b).fabCfg = p.fabCfg ∧ (p.answer a m e st b).fab = p.fab ∧
    (p.answer a m e st b).models = p.models ∧ (p.answer a m e st b).kv = p.kv ∧ (p.answer a m e st b).serv = p.serv ∧
    (p.answer a m e st b).jrn = p.jrn ∧ (p.answer a m e st b).d2d.outstanding = p.d2d.outstanding ∧
    (p.answer a m e st b).d2d.ctlReplies = p.d2d.ctlReplies ∧ (p.answer a m e st b).d2d.rxSeq = p.d2d.rxSeq ∧
    (p.answer a m e st b).d2d.early = p.d2d.early ∧ (p.answer a m e st b).d2d.inbox = p.d2d.inbox := by
  exact send_frame p _

@[simp] theorem giveBack_frame (p : Part) (a : Nat) (m : DieMsg) (e st : Nat) :
    (p.giveBack a m e st).freeTick = p.freeTick ∧ (p.giveBack a m e st).clk = p.clk ∧ (p.giveBack a m e st).pins = p.pins ∧
    (p.giveBack a m e st).boot = p.boot ∧ (p.giveBack a m e st).log = p.log ∧ (p.giveBack a m e st).evcCopy = p.evcCopy ∧
    (p.giveBack a m e st).image = p.image ∧ (p.giveBack a m e st).therm = p.therm ∧ (p.giveBack a m e st).ctl = p.ctl ∧
    (p.giveBack a m e st).sec = p.sec ∧ (p.giveBack a m e st).frz = p.frz ∧ (p.giveBack a m e st).an = p.an ∧
    (p.giveBack a m e st).clusters = p.clusters ∧ (p.giveBack a m e st).hbm = p.hbm ∧
    (p.giveBack a m e st).flash = p.flash ∧ (p.giveBack a m e st).fabCfg = p.fabCfg ∧ (p.giveBack a m e st).fab = p.fab ∧
    (p.giveBack a m e st).models = p.models ∧ (p.giveBack a m e st).kv = p.kv ∧ (p.giveBack a m e st).serv = p.serv ∧
    (p.giveBack a m e st).jrn = p.jrn ∧ (p.giveBack a m e st).d2d.outstanding = p.d2d.outstanding ∧
    (p.giveBack a m e st).d2d.ctlReplies = p.d2d.ctlReplies ∧ (p.giveBack a m e st).d2d.rxSeq = p.d2d.rxSeq ∧
    (p.giveBack a m e st).d2d.early = p.d2d.early ∧ (p.giveBack a m e st).d2d.inbox = p.d2d.inbox := by
  exact answer_frame p _ _ _ _ _

end Sys2Proof.Machine
end

