-- ==== Sys2Proof/Laws/Tiles.lean ====
section
/-! SUPPORT. Laws of tiles, banks, slices and ACDs: read after write of their records, and what their updates leave alone. -/
namespace Sys2Proof.Machine

@[simp] theorem setTile_frame (p : Part) (k : Nat) (v : Tile) :
    (p.setTile k v).freeTick = p.freeTick ∧ (p.setTile k v).clk = p.clk ∧ (p.setTile k v).pins = p.pins ∧
    (p.setTile k v).boot = p.boot ∧ (p.setTile k v).log = p.log ∧ (p.setTile k v).evcCopy = p.evcCopy ∧
    (p.setTile k v).image = p.image ∧ (p.setTile k v).pwr = p.pwr ∧ (p.setTile k v).therm = p.therm ∧
    (p.setTile k v).host = p.host ∧ (p.setTile k v).sess = p.sess ∧ (p.setTile k v).d2d = p.d2d ∧
    (p.setTile k v).ctl = p.ctl ∧ (p.setTile k v).sec = p.sec ∧ (p.setTile k v).frz = p.frz ∧
    (p.setTile k v).trace = p.trace ∧ (p.setTile k v).regs = p.regs ∧ (p.setTile k v).clusters = p.clusters ∧
    (p.setTile k v).hbm = p.hbm ∧ (p.setTile k v).flash = p.flash ∧ (p.setTile k v).failedDie = p.failedDie ∧
    (p.setTile k v).fabCfg = p.fabCfg ∧ (p.setTile k v).fab = p.fab ∧ (p.setTile k v).models = p.models ∧
    (p.setTile k v).kv = p.kv ∧ (p.setTile k v).serv = p.serv ∧ (p.setTile k v).jrn = p.jrn := by
  refine ⟨?_, ?_, ?_, ?_, ?_, ?_, ?_, ?_, ?_, ?_, ?_, ?_, ?_, ?_, ?_, ?_, ?_, ?_, ?_, ?_, ?_, ?_, ?_, ?_, ?_, ?_, ?_⟩ <;> rfl

@[simp] theorem tile_setTile (p : Part) (k : Nat) (v : Tile) : (p.setTile k v).tile k = v := by simp [Part.tile, Part.setTile]

theorem tile_setTile_ne (p : Part) (k j : Nat) (v : Tile) (h : j ≠ k) : (p.setTile k v).tile j = p.tile j := by
  simp [Part.tile, Part.setTile, h]

@[simp] theorem tile_setBank (p : Part) (k j : Nat) (v : Bank) : (p.setBank k v).tile j = p.tile j := rfl

@[simp] theorem tile_setSlice (p : Part) (k j : Nat) (v : Slice) : (p.setSlice k v).tile j = p.tile j := rfl

@[simp] theorem tile_setAcd (p : Part) (k j : Nat) (v : Acd) : (p.setAcd k v).tile j = p.tile j := rfl

@[simp] theorem tile_bump (p : Part) (a l w n : Nat) (j : Nat) : (p.bump a l w n).tile j = p.tile j := by simp [Part.tile]

@[simp] theorem tile_setSes (p : Part) (i : Nat) (v : Session) (j : Nat) : (p.setSes i v).tile j = p.tile j := by simp [Part.tile]

@[simp] theorem tile_produce (p : Part) (i : Nat) (r : Reply) (j : Nat) : (p.produce i r).tile j = p.tile j := by simp [Part.tile]

@[simp] theorem tile_finish (p : Part) (i st : Nat) (b : Bytes) (j : Nat) : (p.finish i st b).tile j = p.tile j := by simp [Part.tile]

@[simp] theorem tile_dieFailed (p : Part) (d : Nat) (j : Nat) : (p.dieFailed d).tile j = p.tile j := by simp [Part.tile]

@[simp] theorem tile_setPort (p : Part) (d q : Nat) (v : Port) (j : Nat) : (p.setPort d q v).tile j = p.tile j := by simp [Part.tile, Part.setPort]

@[simp] theorem tile_traceAdd (p : Part) (c d w : Nat) (b : Bytes) (j : Nat) : (p.traceAdd c d w b).tile j = p.tile j := by simp [Part.tile]

@[simp] theorem setBank_frame (p : Part) (k : Nat) (v : Bank) :
    (p.setBank k v).freeTick = p.freeTick ∧ (p.setBank k v).clk = p.clk ∧ (p.setBank k v).pins = p.pins ∧
    (p.setBank k v).boot = p.boot ∧ (p.setBank k v).log = p.log ∧ (p.setBank k v).evcCopy = p.evcCopy ∧
    (p.setBank k v).image = p.image ∧ (p.setBank k v).pwr = p.pwr ∧ (p.setBank k v).therm = p.therm ∧
    (p.setBank k v).host = p.host ∧ (p.setBank k v).sess = p.sess ∧ (p.setBank k v).d2d = p.d2d ∧
    (p.setBank k v).ctl = p.ctl ∧ (p.setBank k v).sec = p.sec ∧ (p.setBank k v).frz = p.frz ∧
    (p.setBank k v).trace = p.trace ∧ (p.setBank k v).regs = p.regs ∧ (p.setBank k v).clusters = p.clusters ∧
    (p.setBank k v).hbm = p.hbm ∧ (p.setBank k v).flash = p.flash ∧ (p.setBank k v).failedDie = p.failedDie ∧
    (p.setBank k v).fabCfg = p.fabCfg ∧ (p.setBank k v).fab = p.fab ∧ (p.setBank k v).models = p.models ∧
    (p.setBank k v).kv = p.kv ∧ (p.setBank k v).serv = p.serv ∧ (p.setBank k v).jrn = p.jrn := by
  refine ⟨?_, ?_, ?_, ?_, ?_, ?_, ?_, ?_, ?_, ?_, ?_, ?_, ?_, ?_, ?_, ?_, ?_, ?_, ?_, ?_, ?_, ?_, ?_, ?_, ?_, ?_, ?_⟩ <;> rfl

@[simp] theorem bank_setBank (p : Part) (k : Nat) (v : Bank) : (p.setBank k v).bank k = v := by simp [Part.bank, Part.setBank]

theorem bank_setBank_ne (p : Part) (k j : Nat) (v : Bank) (h : j ≠ k) : (p.setBank k v).bank j = p.bank j := by
  simp [Part.bank, Part.setBank, h]

@[simp] theorem bank_setTile (p : Part) (k j : Nat) (v : Tile) : (p.setTile k v).bank j = p.bank j := rfl

@[simp] theorem bank_setSlice (p : Part) (k j : Nat) (v : Slice) : (p.setSlice k v).bank j = p.bank j := rfl

@[simp] theorem bank_setAcd (p : Part) (k j : Nat) (v : Acd) : (p.setAcd k v).bank j = p.bank j := rfl

@[simp] theorem bank_bump (p : Part) (a l w n : Nat) (j : Nat) : (p.bump a l w n).bank j = p.bank j := by simp [Part.bank]

@[simp] theorem bank_setSes (p : Part) (i : Nat) (v : Session) (j : Nat) : (p.setSes i v).bank j = p.bank j := by simp [Part.bank]

@[simp] theorem bank_produce (p : Part) (i : Nat) (r : Reply) (j : Nat) : (p.produce i r).bank j = p.bank j := by simp [Part.bank]

@[simp] theorem bank_finish (p : Part) (i st : Nat) (b : Bytes) (j : Nat) : (p.finish i st b).bank j = p.bank j := by simp [Part.bank]

@[simp] theorem bank_dieFailed (p : Part) (d : Nat) (j : Nat) : (p.dieFailed d).bank j = p.bank j := by simp [Part.bank]

@[simp] theorem bank_setPort (p : Part) (d q : Nat) (v : Port) (j : Nat) : (p.setPort d q v).bank j = p.bank j := by simp [Part.bank, Part.setPort]

@[simp] theorem bank_traceAdd (p : Part) (c d w : Nat) (b : Bytes) (j : Nat) : (p.traceAdd c d w b).bank j = p.bank j := by simp [Part.bank]

@[simp] theorem setSlice_frame (p : Part) (k : Nat) (v : Slice) :
    (p.setSlice k v).freeTick = p.freeTick ∧ (p.setSlice k v).clk = p.clk ∧ (p.setSlice k v).pins = p.pins ∧
    (p.setSlice k v).boot = p.boot ∧ (p.setSlice k v).log = p.log ∧ (p.setSlice k v).evcCopy = p.evcCopy ∧
    (p.setSlice k v).image = p.image ∧ (p.setSlice k v).pwr = p.pwr ∧ (p.setSlice k v).therm = p.therm ∧
    (p.setSlice k v).host = p.host ∧ (p.setSlice k v).sess = p.sess ∧ (p.setSlice k v).d2d = p.d2d ∧
    (p.setSlice k v).ctl = p.ctl ∧ (p.setSlice k v).sec = p.sec ∧ (p.setSlice k v).frz = p.frz ∧
    (p.setSlice k v).trace = p.trace ∧ (p.setSlice k v).regs = p.regs ∧ (p.setSlice k v).clusters = p.clusters ∧
    (p.setSlice k v).hbm = p.hbm ∧ (p.setSlice k v).flash = p.flash ∧ (p.setSlice k v).failedDie = p.failedDie ∧
    (p.setSlice k v).fabCfg = p.fabCfg ∧ (p.setSlice k v).fab = p.fab ∧ (p.setSlice k v).models = p.models ∧
    (p.setSlice k v).kv = p.kv ∧ (p.setSlice k v).serv = p.serv ∧ (p.setSlice k v).jrn = p.jrn := by
  refine ⟨?_, ?_, ?_, ?_, ?_, ?_, ?_, ?_, ?_, ?_, ?_, ?_, ?_, ?_, ?_, ?_, ?_, ?_, ?_, ?_, ?_, ?_, ?_, ?_, ?_, ?_, ?_⟩ <;> rfl

@[simp] theorem slice_setSlice (p : Part) (k : Nat) (v : Slice) : (p.setSlice k v).slice k = v := by simp [Part.slice, Part.setSlice]

theorem slice_setSlice_ne (p : Part) (k j : Nat) (v : Slice) (h : j ≠ k) : (p.setSlice k v).slice j = p.slice j := by
  simp [Part.slice, Part.setSlice, h]

@[simp] theorem slice_setTile (p : Part) (k j : Nat) (v : Tile) : (p.setTile k v).slice j = p.slice j := rfl

@[simp] theorem slice_setBank (p : Part) (k j : Nat) (v : Bank) : (p.setBank k v).slice j = p.slice j := rfl

@[simp] theorem slice_setAcd (p : Part) (k j : Nat) (v : Acd) : (p.setAcd k v).slice j = p.slice j := rfl

@[simp] theorem slice_bump (p : Part) (a l w n : Nat) (j : Nat) : (p.bump a l w n).slice j = p.slice j := by simp [Part.slice]

@[simp] theorem slice_setSes (p : Part) (i : Nat) (v : Session) (j : Nat) : (p.setSes i v).slice j = p.slice j := by simp [Part.slice]

@[simp] theorem slice_produce (p : Part) (i : Nat) (r : Reply) (j : Nat) : (p.produce i r).slice j = p.slice j := by simp [Part.slice]

@[simp] theorem slice_finish (p : Part) (i st : Nat) (b : Bytes) (j : Nat) : (p.finish i st b).slice j = p.slice j := by simp [Part.slice]

@[simp] theorem slice_dieFailed (p : Part) (d : Nat) (j : Nat) : (p.dieFailed d).slice j = p.slice j := by simp [Part.slice]

@[simp] theorem slice_setPort (p : Part) (d q : Nat) (v : Port) (j : Nat) : (p.setPort d q v).slice j = p.slice j := by simp [Part.slice, Part.setPort]

@[simp] theorem slice_traceAdd (p : Part) (c d w : Nat) (b : Bytes) (j : Nat) : (p.traceAdd c d w b).slice j = p.slice j := by simp [Part.slice]

@[simp] theorem setAcd_frame (p : Part) (k : Nat) (v : Acd) :
    (p.setAcd k v).freeTick = p.freeTick ∧ (p.setAcd k v).clk = p.clk ∧ (p.setAcd k v).pins = p.pins ∧
    (p.setAcd k v).boot = p.boot ∧ (p.setAcd k v).log = p.log ∧ (p.setAcd k v).evcCopy = p.evcCopy ∧
    (p.setAcd k v).image = p.image ∧ (p.setAcd k v).pwr = p.pwr ∧ (p.setAcd k v).therm = p.therm ∧
    (p.setAcd k v).host = p.host ∧ (p.setAcd k v).sess = p.sess ∧ (p.setAcd k v).d2d = p.d2d ∧ (p.setAcd k v).ctl = p.ctl ∧
    (p.setAcd k v).sec = p.sec ∧ (p.setAcd k v).frz = p.frz ∧ (p.setAcd k v).trace = p.trace ∧
    (p.setAcd k v).regs = p.regs ∧ (p.setAcd k v).clusters = p.clusters ∧ (p.setAcd k v).hbm = p.hbm ∧
    (p.setAcd k v).flash = p.flash ∧ (p.setAcd k v).failedDie = p.failedDie ∧ (p.setAcd k v).fabCfg = p.fabCfg ∧
    (p.setAcd k v).fab = p.fab ∧ (p.setAcd k v).models = p.models ∧ (p.setAcd k v).kv = p.kv ∧
    (p.setAcd k v).serv = p.serv ∧ (p.setAcd k v).jrn = p.jrn := by
  refine ⟨?_, ?_, ?_, ?_, ?_, ?_, ?_, ?_, ?_, ?_, ?_, ?_, ?_, ?_, ?_, ?_, ?_, ?_, ?_, ?_, ?_, ?_, ?_, ?_, ?_, ?_, ?_⟩ <;> rfl

@[simp] theorem acd_setAcd (p : Part) (k : Nat) (v : Acd) : (p.setAcd k v).acd k = v := by simp [Part.acd, Part.setAcd]

theorem acd_setAcd_ne (p : Part) (k j : Nat) (v : Acd) (h : j ≠ k) : (p.setAcd k v).acd j = p.acd j := by
  simp [Part.acd, Part.setAcd, h]

@[simp] theorem acd_setTile (p : Part) (k j : Nat) (v : Tile) : (p.setTile k v).acd j = p.acd j := rfl

@[simp] theorem acd_setBank (p : Part) (k j : Nat) (v : Bank) : (p.setBank k v).acd j = p.acd j := rfl

@[simp] theorem acd_setSlice (p : Part) (k j : Nat) (v : Slice) : (p.setSlice k v).acd j = p.acd j := rfl

@[simp] theorem acd_bump (p : Part) (a l w n : Nat) (j : Nat) : (p.bump a l w n).acd j = p.acd j := by simp [Part.acd]

@[simp] theorem acd_setSes (p : Part) (i : Nat) (v : Session) (j : Nat) : (p.setSes i v).acd j = p.acd j := by simp [Part.acd]

@[simp] theorem acd_produce (p : Part) (i : Nat) (r : Reply) (j : Nat) : (p.produce i r).acd j = p.acd j := by simp [Part.acd]

@[simp] theorem acd_finish (p : Part) (i st : Nat) (b : Bytes) (j : Nat) : (p.finish i st b).acd j = p.acd j := by simp [Part.acd]

@[simp] theorem acd_dieFailed (p : Part) (d : Nat) (j : Nat) : (p.dieFailed d).acd j = p.acd j := by simp [Part.acd]

@[simp] theorem acd_setPort (p : Part) (d q : Nat) (v : Port) (j : Nat) : (p.setPort d q v).acd j = p.acd j := by simp [Part.acd, Part.setPort]

@[simp] theorem acd_traceAdd (p : Part) (c d w : Nat) (b : Bytes) (j : Nat) : (p.traceAdd c d w b).acd j = p.acd j := by simp [Part.acd]

@[simp] theorem tile_answer (p : Part) (a : Nat) (m : DieMsg) (e st : Nat) (b : Bytes) (j : Nat) :
    (p.answer a m e st b).tile j = p.tile j := by simp [Part.tile]

@[simp] theorem tile_setInbox (p : Part) (d u : Nat) (l : List Arrived) (j : Nat) : (p.setInbox d u l).tile j = p.tile j := rfl

@[simp] theorem tile_popInbox (p : Part) (d u : Nat) (j : Nat) : (p.popInbox d u).tile j = p.tile j := rfl

@[simp] theorem bank_answer (p : Part) (a : Nat) (m : DieMsg) (e st : Nat) (b : Bytes) (j : Nat) :
    (p.answer a m e st b).bank j = p.bank j := by simp [Part.bank]

@[simp] theorem bank_setInbox (p : Part) (d u : Nat) (l : List Arrived) (j : Nat) : (p.setInbox d u l).bank j = p.bank j := rfl

@[simp] theorem bank_popInbox (p : Part) (d u : Nat) (j : Nat) : (p.popInbox d u).bank j = p.bank j := rfl

@[simp] theorem slice_answer (p : Part) (a : Nat) (m : DieMsg) (e st : Nat) (b : Bytes) (j : Nat) :
    (p.answer a m e st b).slice j = p.slice j := by simp [Part.slice]

@[simp] theorem slice_setInbox (p : Part) (d u : Nat) (l : List Arrived) (j : Nat) : (p.setInbox d u l).slice j = p.slice j := rfl

@[simp] theorem slice_popInbox (p : Part) (d u : Nat) (j : Nat) : (p.popInbox d u).slice j = p.slice j := rfl

@[simp] theorem acd_answer (p : Part) (a : Nat) (m : DieMsg) (e st : Nat) (b : Bytes) (j : Nat) :
    (p.answer a m e st b).acd j = p.acd j := by simp [Part.acd]

@[simp] theorem acd_setInbox (p : Part) (d u : Nat) (l : List Arrived) (j : Nat) : (p.setInbox d u l).acd j = p.acd j := rfl

@[simp] theorem acd_popInbox (p : Part) (d u : Nat) (j : Nat) : (p.popInbox d u).acd j = p.acd j := rfl

/-- The unit and die of a bank are those that named it. -/
theorem bankOf_parts {die unit : Nat} (h : isBankUnit die unit = true) :
    tileDie (bankOf die unit / 2) = die ∧ bankOf die unit % 2048 = unit ∧ bankOf die unit < 16384 := by
  simp only [isBankUnit, decide_eq_true_eq] at h
  simp only [tileDie, bankOf]
  omega

end Sys2Proof.Machine
end

