-- ==== Sys2Proof/Tests/Slice0.lean ====
section
/-! SUPPORT. Tests: what the well-formedness check refuses, small tests of single steps, and for every statement with hypotheses a
state and operands that meet them. -/
namespace Sys2Proof.Tests

set_option Elab.async false

open Sys2Proof Sys2Proof.Machine

/-! ### Small states -/

/-- A domain that is ON. -/
def domOn : Dom := { Dom.reset with st := .on }
/-- The domains 1 to 19, all ON. -/
def allOn : List (Nat × Dom) :=
  [(1, domOn), (2, domOn), (3, domOn), (4, domOn), (5, domOn), (6, domOn), (7, domOn), (8, domOn), (9, domOn), (10, domOn),
   (11, domOn), (12, domOn), (13, domOn), (14, domOn), (15, domOn), (16, domOn), (17, domOn), (18, domOn), (19, domOn)]
/-- A part in service: power, no reset, every domain ON, stage SERVICE, the link up with Bus Master Enable, and 1,920 s of part time. -/
def pOn : Machine.Part :=
  { Part.reset with
    pins := { Pins.reset with pgIn := true, perstN := true },
    clk := { Clk.reset with cycles := 300000000000, ref156 := true, lock := 0xFFFFF },
    boot := { Boot.reset with stage := 4, dieUp := 0xFFFFF },
    host := { HostLink.reset with linkUp := true, bme := true },
    pwr := { Pwr.reset with dom := allOn } }
/-- A state whose part is `p`. -/
def st (p : Machine.Part) : State := { State.reset with part := p }
/-- A packet: opcode, FLAGS, SEQ and the bytes after the header. -/
def pk (op flags seq : Nat) (b : Bytes) : Bytes :=
  leBytes 1 op ++ leBytes 1 flags ++ leBytes 2 (16 + b.length) ++ leBytes 4 9 ++ leBytes 4 seq ++ [0, 0, 0, 0] ++ b
/-- `n` zero bytes. -/
def z (n : Nat) : Bytes := List.replicate n 0
/-- Session 3 is OPEN with packet `k` in execution, changed by `f`. -/
def runF (f : Session → Session) (p : Machine.Part) (k : Bytes) : State :=
  st (p.setSes 3 (f { Session.reset with st := .opened, cur := some k, curIn := .opened, serial := 5, ifMinor := 3, feat0 := 0xFFFFFFFF, ringUnits := 256, replyHeld := 255, granted := true }))
/-- Session 3 is OPEN with packet `k` in execution. -/
def run (p : Machine.Part) (k : Bytes) : State := runF id p k
/-- Session 3 changed by `f` from an OPEN session with nothing in execution. -/
def ses (f : Session → Session) : State :=
  st (pOn.setSes 3 (f { Session.reset with st := .opened, ifMinor := 3, feat0 := 0xFFFFFFFF, ringUnits := 256, replyHeld := 255, granted := true }))
/-- `pOn` with the control die changed by `f`. -/
def ctl (f : Ctl → Ctl) : Machine.Part := { pOn with ctl := f pOn.ctl }
/-- `pOn` with the journal changed by `f`. -/
def jrn (f : Jrn → Jrn) : Machine.Part := { pOn with jrn := f pOn.jrn }
/-- `pOn` with the fabric changed by `f`. -/
def fab (f : Fab → Fab) : Machine.Part := { pOn with fab := f pOn.fab }
/-- A request of session 3. -/
def req0 : Req :=
  { id := 77, sess := 3, tag := 0, seq := 0, cmd := 0, st := .decode, stage := .done, params := [], ver := 0, draft := none, companion := none,
    prefix_ := false, tokens := [1, 2], prompt := 2, allowed := [], seed := 0, gram := none, gramState := 0, draftLen := 0, noAccept := 0,
    cohort := 0, admitAt := 0, lastCommit := 0, measured := false, ttft := 0, tbtMisses := 0, maxTbt := 0, limitNs := none,
    finalDone := false, heldFlag := false, refill := false, refillFlag := false, done := 2, total := 2, run := none, recs := [],
    cancels := [], cancelEnd := 0, end_ := 0, finalSent := false, isProtected := false, askId := 0, askAt := 0, before := 0 }
/-- `p` with one request `r` in slot 4. -/
def withReq (r : Req) (p : Machine.Part) : Machine.Part := { p with serv := { p.serv with reqs := [(4, r)], order := [4] } }
/-- Part (0, 0, 0) of a torus of 4 by 2 by 2, its fabric changed by `f`. -/
def tor (f : Fab → Fab) : Machine.Part :=
  { fab f with fabCfg := { partId := 0, dimX := 4, dimY := 2, dimZ := 2, rackId := 1, configured := true } }
/-- An ACTIVE link of torus port 0 with all lanes, changed by `f`, as link 0. -/
def lnk (f : Link → Link) : Machine.Part :=
  tor fun x => { x with links := [(0, f { Link.reset with mode := 1, st := 2, width := 8, good := 255, peerGood := 255 })] }
/-- A packet for part (1, 0, 0). -/
def kp : FabPkt :=
  { dst := 1024, src := 0, cls := 0, bcast := false, vc := 0, hops := 0, len := 16, pseq := 0, slice := 0xFFFF, detour := 0, long := 0,
    msg := .partnerAsk }
/-- An ACTIVE slice 9 of parts (0, 0, 0) and (1, 0, 0) with root (0, 0, 0), changed by `f`. -/
def sl9 (f : SliceRec → SliceRec) : SliceRec :=
  f { desc := ⟨9, 0, 2, 1, 1⟩, index := 0, st := 2, tight := true, lend := false, lendMib := 0, root := 0, marginUs := 20, sess := 64, seq := 0,
      joined := [(0, 1), (1024, 1)], lost := [], racks := [(1, 0, some 0)], offsetAt := 0, leader := 0, mates := [(1024, 0)],
      lent := [], round := 6, started := false, arrived := [], rackArrived := [], firstAt := none, rackFirstAt := none, go := none }
/-- A graph of one layer with one head of 32. -/
def graph0 : Graph :=
  { base := none, vocab := 1000, layersKv := 1, headsKv := 1, headsQ := 1, dim := 32, fmt := 0, kScale := [0x3F800000], vScale := [0x3F800000],
    score := 0x3F800000, window := 0, statics := [], widths := [], span := none, descOk := true }
/-- Version 1 of model 5, AVAILABLE and current, with one shard of four bytes verified and held at the base of the stacks. -/
def shard0 : Shard := { Shard.reset with st := .verified, held := true, base := stripeAddr 0, room := 4096 }
/-- See `shard0`. -/
def ver0 : Version :=
  { model := 5, version := 1, st := .available, current := true, kept := false, deep := false, pins := 0, count := 1, makeCurrent := true,
    keep := false, mode := 0, chain := [], pos := 0, root := 0, slice := 0, timeoutMs := 1000, deepAllowed := false, sess := 64, seq := 0,
    graph := some graph0, shards := [(0, shard0)], cause := 0, faultShard := 0, attempts := 0, down := 0, downOk := false, downSince := 0,
    fwd := [], asks := [], analog := [], steps := 7, lastCohort := 1 }
/-- A part with version entry 0 changed by `f` and room for 256 sequences. -/
def mdl (f : Version → Version) : Machine.Part :=
  { pOn with models := { pOn.models with table := [(0, f ver0)] }, sec := { pOn.sec with cert := z 90 ++ [0, 1] ++ z 932 } }
/-- A slot homed on CXD 0 with one page, changed by `g`. -/
def slot0 (g : KvSlot → KvSlot) : KvSlot := g { KvSlot.reset with assigned := true, len := 2, copyA := [⟨0, 0⟩], copyB := [⟨0, 0⟩] }
/-- That part with a request changed by `f` in slot 4, and the slot changed by `g`. -/
def srv (f : Req → Req) (g : KvSlot → KvSlot) : Machine.Part :=
  withReq (f req0) { mdl (fun v => { v with pins := 1 }) with kv := { Kv.reset with slots := [(4, slot0 g)], slabs := [(0, .kv 65536)] } }
/-- A die message to a unit of a die, and the part with it at the head of that unit's inbox. -/
def dm (die unit cls epoch : Nat) (b : Bytes) : DieMsg :=
  { dst := die, cls := cls, src := 0, len := b.length, unit := unit, epoch := epoch, seq := 0, crClass := 0, crCount := 0, payload := b }
/-- See `dm`. -/
def atUnit (die unit : Nat) (m : DieMsg) (p : Machine.Part) : Machine.Part := p.setInbox die unit [⟨m, 0, 0⟩]
/-- Ports (0, 0) and its far end (1, 0) in a state. -/
def prt (f : Port → Port) (p : Machine.Part) : Machine.Part :=
  { p with d2d := { p.d2d with ports := [(portKey 0 0, f { Port.reset with st := 2, credits := [4, 4, 4, 4, 4, 4, 4] }), (portKey 1 0, f { Port.reset with st := 2, credits := [4, 4, 4, 4, 4, 4, 4] })] } }
/-- Every module up. -/
def meshUp (p : Machine.Part) : Machine.Part :=
  { p with d2d := { p.d2d with ports := (List.range 20).flatMap fun d => (List.range (portTable d).length).map fun q => (portKey d q, { Port.reset with st := 2, credits := [99, 99, 99, 99, 99, 99, 99] }) } }
def dmm (dst cls src len : Nat) : DieMsg := { dst := dst, cls := cls, src := src, len := len, unit := 0x100, epoch := 0, seq := 0, crClass := 1, crCount := 2, payload := leBytes 1 0x40 ++ z 3 ++ leBytes 4 7 ++ leBytes 4 9 ++ z 4 }
def sUp : State := st (meshUp pOn)
def cmd1 : CtlCmd := ⟨7, 9, 12, 4, 0xA0, 0, 64⟩
def sOut (l : List CtlCmd) (r : List DieMsg) : State := st { meshUp pOn with d2d := { (meshUp pOn).d2d with outstanding := l, ctlReplies := r } }
/-- Bank 9 (tile 4, bank 1) with a bank operation at the head of its unit's inbox. -/
def opMsg (op n : Nat) : DieMsg := dm 12 9 0 0 (leBytes 1 op ++ z 31 ++ z n)
def bk (op : Nat) (f : Bank → Bank) (g : Tile → Tile) : State :=
  st (((atUnit 12 9 (opMsg op 16) (meshUp pOn)).setBank 9 (f Bank.reset)).setTile 4 (g { Tile.reset with ready := true }))
def wr0 (k : WrKind) : Wr := { kind := k, bank := 1, msg := some (opMsg (if k = .deep then 0xA2 else 0xA0) 16), row := 0, due := 0, band := 0, clearing := false, completes := none, copy := 6, cls := .generation, since := 0 }
def hotC (p : Machine.Part) : Machine.Part := p.setCluster 0 { Cluster.reset with temp := 9999 }
def wr1 (k : WrKind) (f : Wr → Wr) : Wr := f (wr0 k)
def wrS (k : WrKind) (f : Wr → Wr) (g : Bank → Bank) (h : Tile → Tile) : State :=
  st (((meshUp pOn).setBank 9 (g { Bank.reset with st := .writingShallow, model := 5, epoch := 3, src := ⟨stripeAddr 0, stripeAddr 0, 0, 0⟩ })).setTile 4 (h { Tile.reset with wr := some (wr1 k f) }))
def bank9 (f : Bank → Bank) : State := st ((meshUp pOn).setBank 9 (f Bank.reset))
def req9 : MvmReq := { tile := 4, bank := 1, epoch := 0, width := .a8, mask := [], job := 70, block := 0, pos := 0, cls := .generation, split := 0x0F, src := ⟨0, 0, 0, 0⟩, fmt := 0, fb := false, await := false }
def job0 : JobRun := { job := { id := 70, placement := 0, step := 1, layer := 0, slot := 4, position := 2, vec := 9, inputs := 512, outputs := 512, chain := 1, homes := [(0, 0)], ladder := 0, ladderFmt := 0, mvms := [req9] }, seed := 5, params := z 2048, outs := [], ladder := false, issued := true }
def setB (g : Nat) (y : Bool) (j : Nat) : OutSet := { group := g, y := y, job := j, col := 64 * g, got := [], acc := List.replicate 64 0, ladder := false, drain := false }
def tmp (f : Slice → Slice) (g : Tile → Tile) (h : Bank → Bank) (j : JobRun → JobRun) : State :=
  let p := (((meshUp pOn).setSlice 0 (f Slice.reset)).setTile 4 (g Tile.reset)).setBank 9 (h { Bank.reset with st := .shallow, loaded := true })
  st ({ p with an := { p.an with jobs := [j job0] } }.setCluster 0 { Cluster.reset with service := true })
def mvm0 : Mvm := { req := req9, kind := .layer, blocks := 0xFF, half := 0, due := false, wake := true, acts := List.replicate 512 3, side := [] }
def runM : MvmRun := { m := mvm0, start := 0, d := 0x4000, colcorr := [], band := 0, driven := 0 }
def sLad : State := tmp (fun s => { s with work := [.ladder 70] }) id id id
def diagPk : Bytes := pk 0xF4 0 0 ([0, 1, 4, 0] ++ z 1100)
def calW (n : Nat) : Nat := 2 ^ 13 + 2 ^ 32 * n
def calMsg (w : Nat) : DieMsg := dm 12 0x804 0 0 ([0xB0] ++ z 15 ++ leBytes 8 w ++ z 8)
def calAt (w : Nat) (g : Tile → Tile) : State := st ((atUnit 12 0x804 (calMsg w) (meshUp pOn)).setTile 4 (g Tile.reset))
def cal0 : CalRun := { word := calW 8, start := 1919999999992, band := 0, phases := 8, drops := [1, 5], counted := 0, msg := none }
def annMsg : DieMsg := dm 12 0xC10 0 0 ([0xB8] ++ z 15)
def annAt (f : Bank → Bank) (g : Tile → Tile) (h : Acd → Acd) : State :=
  st (((((atUnit 12 0xC10 annMsg (meshUp pOn)).setTile 4 (g Tile.reset)).setBank 9 (f Bank.reset)).setAcd 0 (h Acd.reset)).setCluster 0 { Cluster.reset with service := true })
def words5 (w : Nat) : List (List Nat) := List.replicate 5 (List.replicate 260 w)
def seedPk : Bytes := pk 0x07 0 0 (leBytes 8 77 ++ z 8)
/-- LOAD of version `ver` of model 5 with `n` shards, a source table of SSD entries in the packet. -/
def ldPk (ver n addr : Nat) : Bytes := pk 0x20 0 0 (leBytes 4 5 ++ leBytes 2 ver ++ z 2 ++ leBytes 2 n ++ z 14 ++ leBytes 8 addr ++ z 32 ++
  (List.range n).flatMap fun _ => [1, 0] ++ z 6 ++ leBytes 8 4096 ++ leBytes 4 8192 ++ z 12)
def verPk (op ver fl : Nat) : Bytes := pk op 0 0 (leBytes 4 5 ++ leBytes 2 ver ++ [BitVec.ofNat 8 fl] ++ z 9)
def vM (f : Version → Version) (k : Bytes) : State := run (mdl f) k
def shd (f : Shard → Shard) : Machine.Part := mdl (fun v => { v with st := .loading, shards := [(0, f Shard.reset)] })
def twoV : Machine.Part := { mdl id with models := { (mdl id).models with table := [(0, ver0), (3, { ver0 with version := 2, current := false })] } }
def qdS (f : Shard → Shard) : Machine.Part := { shd f with models := { (shd f).models with queue := [(0, 0), (0, 5)] } }
def host8 (x : Shard) : Shard := { x with src := [1, 0] ++ z 6 ++ leBytes 8 4096 ++ leBytes 4 8192 ++ z 12 }
def wsdOff (p : Machine.Part) : Machine.Part := p.setDom 19 Dom.reset
def qdS8 : Machine.Part := qdS host8
def stg (x : Shard) : Shard := { host8 x with st := .staging, engine := 0, held := true, base := stripeAddr 4, room := 4096 }
def whl (x : Shard) : Shard := { stg x with whole := true, got := z 8 }
/-- A shard under scrub whose stored digest is `d`. -/
def scr (d : Bytes) : Shard := { shard0 with scrubbing := true, engine := 48, header := z 128 ++ d }
def sScr (d : Bytes) : State := st (mdl fun v => { v with shards := [(0, scr d)] })
def chk1 (m : Nat) : FabMsg := .chunk m 1 0 0 false [1, 2]
def inbF (l : List (Nat × FabMsg)) (p : Machine.Part) : Machine.Part := { p with fab := { p.fab with inbox := l } }
def brc (m : Nat) : FabMsg := .broadcast m 1 0 0 false [1, 2]
def brl : Version → Version := fun v => { v with st := .loading, mode := 2, root := 1024, shards := [(0, Shard.reset)] }
def tc (w : Bool) : TierCopy := ⟨false, 1, 0, [1, 2, 3], w⟩
def tiered (f : Shard → Shard) : Version → Version := fun v => { v with shards := [(0, f shard0)] }
def nvm (l : List (Nat × Nat)) (p : Machine.Part) : Machine.Part := p.setNvme 1 { NvmeConn.reset with st := 2, reads := l.map fun x => ⟨x.1, 1, 0, x.2, 0⟩ }
def rds (r : HostRead) (p : Machine.Part) : Machine.Part := { p with host := { p.host with reads := [r] } }
def ldr : State := run pOn (ldPk 1 2 4096)
def tr (l : List (Nat × TierRegion)) (v : Version → Version) : Machine.Part := { mdl v with models := { (mdl v).models with tiers := l } }
def addPk : Bytes := pk 0x26 0 0 (leBytes 8 4096 ++ leBytes 8 65536)
def remPk : Bytes := pk 0x27 0 0 ([1] ++ z 15)
def fullP (p : Machine.Part) : Machine.Part := p.regSet aKvCfg 5714
def grPk (op : Nat) : Bytes := pk op 0 0 ([2] ++ z 3 ++ leBytes 4 4096 ++ leBytes 8 8192)
def gr (f : Grammar → Grammar) (op : Nat) : State := run (pOn.setGram 2 (f Grammar.reset)) (grPk op)
/-- A message at the head of slot 4's unit of CXD 0 under epoch `e`. -/
def sm (op e n : Nat) : DieMsg := dm 8 4 (if op = 0 then 4 else 0) e (leBytes 1 op ++ z n)
def sa (op e : Nat) (g : KvSlot → KvSlot) : State := st (atUnit 8 4 (sm op e 15) { meshUp (mdl id) with kv := { Kv.reset with slots := [(4, slot0 g)], slabs := [(0, .kv 65536)], epochs := [(4, 6)] } })
def wop (o : PageOp) : WaitingOp := { op := o, msg := some (sm 0xC0 6 15), sess := 64, seq := 0 }
def pgs (n : Nat) (v : KvSlot) : KvSlot := { v with len := 64 * n, copyA := (List.range n).map fun i => ⟨0, i⟩, copyB := (List.range n).map fun i => ⟨0, i⟩ }
def cpy (o : PageOp) : PageCopy := ⟨0, ⟨0, 0⟩, ⟨0, 1⟩, 4, wop o, 5⟩
def sCopy (o : PageOp) : State := { sa 0 6 (pgs 1) with part := { (sa 0 6 (pgs 1)).part with kv := { (sa 0 6 (pgs 1)).part.kv with copies := [cpy o] } }, kvmem := [(2, 7)] }
def hkk (op fl : Nat) : Bytes := pk op fl 0 (leBytes 2 4 ++ z 2 ++ leBytes 4 64 ++ z 8)
def hk (op fl : Nat) (held : Bool) (mx : Nat) : State :=
  run { (sa 0 6 (pgs 3)).part with sec := { pOn.sec with cert := z 90 ++ leBytes 2 mx ++ z 932 }, serv := { pOn.serv with heldSlots := if held then [(4, ⟨3, 0, [1, 2]⟩)] else [] } } (hkk op fl)
/-- An append of position `p` to layer `l`, head 0, of the two-byte key of a graph of one head of one element. -/
def gph : Graph := { graph0 with dim := 8, fmt := 1 }
def apB (p l : Nat) : Bytes := leBytes 4 p ++ leBytes 2 l ++ [0, 1, 0, 1] ++ leBytes 2 3 ++ z 4 ++ [1, 2, 3, 4, 5, 6, 7, 8, 9, 10, 11, 12, 13, 14, 15, 16]
def apM (p l e n : Nat) : DieMsg := { dm 8 4 4 e (apB p l) with len := n }
def apS (p l e n : Nat) (g : KvSlot → KvSlot) : State :=
  st (atUnit 8 4 (apM p l e n) { meshUp (mdl fun v => { v with graph := some gph }) with kv := { Kv.reset with slots := [(4, slot0 g)], slabs := [(0, .kv 65536)], epochs := [(4, 6)] } })
def atM : DieMsg := dm 8 0x4000 0 0 ([0xC8] ++ z 15)
def att (l : List AttReq) : State := st (atUnit 8 0x4000 atM { (apS 0 0 6 32 id).part with kv := { (apS 0 0 6 32 id).part.kv with atts := l } })
def att0 : AttReq := { id := 5, cxd := 0, slot := 4, layer := 0, first := 0, count := 2, tag := 3, appends := 0, fp32 := false, queries := 1, outputs := 2, started := false, msg := some atM }
def stk (f : Stack → Stack) : State := st (pOn.setStack 9 (f Stack.reset))
def sLnk (f : Link → Link) : State := st (lnk f)
def kpMine : FabPkt := { kp with dst := 0 }
def hp : HeldPkt := ⟨kp, 6, 5, 5, none⟩
def pkCfg (x l : Nat) : Bytes := pk 0x73 0 0 (leBytes 2 0 ++ leBytes 1 x ++ [2, 2, 0] ++ leBytes 2 1 ++ List.replicate 12 6 ++ leBytes 1 l ++ [6, 6, 6] ++ z 24)
def flow : RxFlow := ⟨3, [{ kp with cls := 3, pseq := 5 }], some 9⟩
def pkJn (ex : Nat) : Bytes := pk 0x70 0 0 (leBytes 2 9 ++ [1, 0] ++ leBytes 2 0 ++ leBytes 1 ex ++ [1, 1, 0] ++ leBytes 2 0 ++ z 20)
def d9 (ex : Nat) : SliceDesc := ⟨9, 0, ex, 1, 1⟩
def pkLv : Bytes := pk 0x71 0 0 (leBytes 2 9 ++ z 14)
def inb (m : FabMsg) (f : SliceRec → SliceRec) : Machine.Part := tor fun x => { x with inbox := [(1024, m)], slices := [sl9 f] }
def joining (x : SliceRec) : SliceRec := { x with st := 1, joined := [(0, 1)] }
def lentS (x : SliceRec) : SliceRec := { x with lent := [(0, 1024)] }
def mem9 (x : SliceRec) : SliceRec := { x with root := 1024, leader := 0 }
def eth0 : EthLink := ⟨[12, 5] ++ z 12 ++ [24, 64, 10, 0, 0, 1] ++ z 36 ++ [8, 4] ++ z 6, true, true⟩
def pEth (f : EthLink → EthLink) : Machine.Part := fab fun x => { x with links := [(12, { Link.reset with mode := 2 })], eth := [(12, f eth0)] }
def pkE : Bytes := pk 0x74 0 0 ([12, 1] ++ z 62)
def ip : Bytes := [10, 0, 0, 1]
def claim (i : Nat) : Bytes := [0x48, 0x4E, 0x4C, 0x53] ++ leBytes 2 i ++ z 10
def ing (f : Session → Session) : State := st ((fab fun x => { x with ingress := [⟨7, 12, 9, [1, 2]⟩] }).setSes 9 (f { Session.reset with claimed := true, ingress := true }))
def nv (f : NvmeConn → NvmeConn) : Machine.Part := fab fun x => { x with nvme := [(2, f NvmeConn.reset)], eth := [(12, eth0)] }
def pkN (op : Nat) : Bytes := pk op 0 0 ([2, 12] ++ z 62)
def pkNop : Bytes := pk 1 0 7 []
def openPars : Bytes := leBytes 2 1 ++ leBytes 2 3 ++ leBytes 4 0xFFFFFFFF ++ z 16 ++ leBytes 8 0x10000 ++ leBytes 4 0x10000 ++ z 4 ++ leBytes 4 5 ++ z 20
def pkOpen : Bytes := pk 2 0 0 openPars
def sGran (k : Bytes) : State := ses fun s => { s with gran := [(0, k)], seqExpect := 7 }
def rp : Reply := ⟨1, 0, 9, 7, 0, z 16, 0, 5⟩
def admPars (id_ model : Nat) (addr : Nat) : Bytes := leBytes 4 id_ ++ leBytes 4 model ++ z 8 ++ leBytes 4 2 ++ leBytes 4 10 ++ z 24 ++ z 1 ++ z 47 ++ leBytes 8 addr ++ z 24 ++ leBytes 4 1 ++ leBytes 4 2 ++ z 8
def pkAdm (id_ model addr : Nat) : Bytes := pk 0x40 0 0 (admPars id_ model addr)
def pkI (op id_ : Nat) : Bytes := pk op 0 0 (leBytes 4 id_ ++ z 12)
def runPl (d : Nat) (s : Bool) : StepRun := ⟨7, s, d, 1, 2, s⟩
def mMark : DieMsg := dm 8 0x4002 0 0 (leBytes 1 0xC9 ++ z 15 ++ leBytes 2 4 ++ z 14)
def itm : List BatchItem := [⟨4, 2⟩]
def issued : Machine.Part × List Nat := (srv id id).issueItems 0 7 0 itm
def pf (r : Req) : Req := { r with run := some (runPl 0 false), st := .prefill, done := 0, params := leBytes 4 77 ++ z 16 ++ leBytes 4 10 ++ z 104 }
def dc (r : Req) : Req := { pf r with run := some (runPl 0 true), st := .decode }
def stepping (k : KvSlot) : KvSlot := { k with inStep := true }
def sMsg (m : FabMsg) (f : Jrn → Jrn) : State := st { fab (fun x => { x with inbox := [(5, m)] }) with jrn := f Jrn.reset }
def src5 (b : Bool) : JSrc := ⟨5, b, [], [0], 0⟩
def rec16 : Bytes := [1, 0, 0, 0] ++ leBytes 4 77 ++ leBytes 4 0 ++ z 4
def pkJ (a part n : Nat) : Bytes := pk 9 0 0 (leBytes 1 a ++ [0] ++ leBytes 2 part ++ leBytes 2 n ++ z 10)
def jr (l : Bool) (e : Nat) : JReq := ⟨77, leBytes 4 77 ++ leBytes 4 5 ++ leBytes 4 0 ++ z 20 ++ z 120, [5, 6], e, 0, 0, 0, 9, 1, l⟩
def jrS (l : Bool) (e : Nat) : Machine.Part := { srv (fun r => { r with id := 78 }) id with jrn := { Jrn.reset with sources := [⟨5, true, [jr l e], [0], 0⟩] } }
def prt5 (j : Jrn) : Jrn := { j with partner := some 5 }
def sRef (st : ReqState) (sg : AdmitStage) : State := let s := sMsg (.journalRefuse 1 77) prt5
  { s with part := withReq { req0 with st := st, stage := sg } s.part }
def jset (i : Nat) : JSet := ⟨5, i, 0, false⟩
def jsrcs (b : Bool) : Machine.Part := jrn fun j => { j with sources := [src5 b] }
def evt (l : Nat) : Bytes := leBytes 2 l ++ z 14
def line7 (f : Bool) : Line := { Line.reset with prio := 2, target := 1, count := 3, armed := true, fast := f }
def sLine (f : Bool) (g : CtlCore → CtlCore) : State := st (ctl fun c => { c with lines := [(7, line7 f)], cores := [(0, g CtlCore.reset)] })
def pkKey : Bytes := pk 0x24 0 0 (leBytes 4 5 ++ z 220)
def pkP (n : Nat) : Bytes := pk 0x0C 0 0 (leBytes 8 4096 ++ leBytes 4 n ++ z 4)
def pkC (n : Nat) : Bytes := pk 0x0D 0 0 (leBytes 1 n ++ z 15)
def pkA : Bytes := pk 0x0B 0 0 (z 64)
def pkD (n : Nat) : Bytes := pk 0xF3 0 0 (leBytes 1 n ++ z 300)
def chal : Challenge := ⟨z 64, some 9⟩
def domS (d : Nat) (x : DomState) : Machine.Part := pOn.setDom d { Dom.reset with st := x }
def boot (f : Boot → Boot) : Machine.Part := { pOn with boot := f pOn.boot }
def pHeld : Machine.Part := { boot (fun b => { b with held := true, stage := 0 }) with pwr := Pwr.reset }
def pPerst : Machine.Part := { boot (fun b => { b with perstHeld := true, stage := 0 }) with pwr := Pwr.reset }
def noRef (n : Nat) : Machine.Part := { boot (fun b => { b with stage := n }) with clk := { pOn.clk with ref156 := false } }
def pLow (f : Boot → Boot) (x : DomState) (d : Nat) : Machine.Part := { domS (dieDomain d) x with boot := f Boot.reset }
def pkS (op d : Nat) : Bytes := pk op 0 0 (leBytes 1 d ++ z 15)
def qd (l : List Nat) : Machine.Part := { pOn with pwr := { pOn.pwr with queue := l } }
def pkT : Bytes := pk 0x84 0 0 (z 16)
def quench1 : Bytes := leBytes 4 6 ++ z 28
def pkQ (n : Nat) : Bytes := pk 0x85 0 0 (leBytes 4 n ++ z 12)
def pQ : Machine.Part := { pOn with log := { pOn.log with quench := [(2, quench1)] } }
def pSens : Machine.Part := { pOn with therm := { pOn.therm with sensors := [(1 * 64 + 2, { Sensor.reset with hot := true })] } }
def frz (f : Frz → Frz) : Machine.Part := { pOn with frz := f { pOn.frz with active := true } }
def trc : Machine.Part := { pOn with trace := { mode := 1, sources := 3, entries := [z 16, z 16], written := 2 } }
def pkF (op : Nat) (b : Bytes) : Bytes := pk op 0 0 b
def arr : ArrayOp := ⟨0, 5, []⟩
def pFrz (f : Frz → Frz) : Machine.Part := { frz (fun x => f { x with frozenLow := true }) with pins := { pOn.pins with frozenN := false } }
def fld_ (a : Access) : RegField := { lo := 4, width := 8, acc := a, reset := 0 }
def annVer : State := let s := annAt (fun b => { b with st := .shallow, life := 9, model := 5, version := 1 }) id id
  { s with part := { s.part with models := { s.part.models with table := [(0, ver0)] } } }
def hdrCells : Bytes := z 10 ++ [1, 0] ++ z 244 ++ [0, 1, 0, 0, 0, 0, 8, 0] ++ z 8
def annRows : State := let s := annAt (fun b => { b with st := .deep, model := 5, version := 1, slot := 2 }) id id
  { s with part := { s.part with models := { s.part.models with table := [(0, { ver0 with st := .loading, shards := [(0, { Shard.reset with header := hdrCells })] })] } } }
def engFull : State := st (mdl fun v => { v with shards := (0, { shard0 with scrubAt := 0 }) :: (List.range 48).map fun i => (i + 1, { stg Shard.reset with engine := 48 + i }) })
def engNone : State := st { mdl (fun v => { v with shards := (0, host8 Shard.reset) :: (List.range 96).map fun i => (i + 1, { stg Shard.reset with engine := i }) }) with models := { (mdl (fun v => { v with shards := (0, host8 Shard.reset) :: (List.range 96).map fun i => (i + 1, { stg Shard.reset with engine := i }) })).models with queue := [(0, 0)] } }
def dem (r : Bool) : State := let p := fullP (mdl fun v => { v with shards := [(0, host8 Shard.reset), (1, { shard0 with room := 4096 })] })
  st { p with models := { p.models with queue := [(0, 0)], tiers := if r then [(0, ⟨0, 65536, false⟩)] else [] } }
def soonS (op : Nat) : State := let s := sa op 6 id
  { s with part := { s.part with kv := { s.part.kv with epochAt := [(slotKey 0 4, pOn.now)] } } }
def attT (l : List AttReq) : State := let s := att l
  { s with part := s.part.setKvSlot 4 { s.part.kvSlot 4 with tags := [(3, 0, 1)] } }
def hkWait : State := let s := hk 0x60 0 true 9
  { s with part := s.part.setKvSlot 4 { s.part.kvSlot 4 with ops := [hostOp .release 3 (hkk 0x60 0)] } }
def stuckS : State := st ((tor id).setFPort 0 { FPort.reset with wait := [⟨{ kp with vc := 2 }, 5, none⟩] })
def fltS : State := st { tor (fun x => { x with kept := [⟨kp, 5, 5⟩], out := [kp] }) with failedDie := some 5 }
def rpBig : Reply := { rp with body := z 64 }
def useN : Machine.Part := { pEth id with fab := { (pEth id).fab with nvme := [(2, { NvmeConn.reset with st := 1, cfg := [0, 12] ++ z 62 })] } }
def pkAdmL (id_ model : Nat) : Bytes := pk 0x40 0 0 (leBytes 4 id_ ++ leBytes 4 model ++ z 8 ++ leBytes 4 2 ++ leBytes 4 10 ++ z 22 ++ leBytes 2 3 ++ z 56 ++ leBytes 8 8192 ++ z 16 ++ leBytes 4 1 ++ leBytes 4 2 ++ z 8)
def pkAdmBad : Bytes := pk 0x40 0 0 (leBytes 4 78 ++ leBytes 4 5 ++ z 8 ++ leBytes 4 2 ++ leBytes 4 10 ++ z 104 ++ leBytes 4 1 ++ leBytes 4 0x100000 ++ z 8)
def domsS (l : List (Nat × DomState)) : Machine.Part := { pOn with pwr := { pOn.pwr with dom := allOn.map fun x => (x.1, { domOn with st := (mfind l x.1).getD .on }) } }
def ctlOnly : Machine.Part := domsS ((List.range 20).drop 3 |>.map fun d => (d, DomState.sleep))
def pin3 : Machine.Part := { (mdl fun v => { v with pins := 1 }).setBank 0 { Bank.reset with st := .deep, model := 5, version := 1 } with an := ((mdl fun v => { v with pins := 1 }).setBank 0 { Bank.reset with st := .deep, model := 5, version := 1 }).an }
def ev1 (p : Machine.Part) : Machine.Part := { p with ctl := { p.ctl with events := [evt 7] } }
def pkR (n f : Nat) : Bytes := pk 0x0A f 0 (leBytes 1 n ++ z 15)
def halt5 (b : Bool) : Halt := ⟨b, 3, 9, 0, 5⟩


/-! ### What the well-formedness check refuses: an ill-formed command for each check, beside the last well-formed one -/

theorem test_wf_die : (Instr.sensorSample 20 []).wf = false ∧ (Instr.sensorSample 19 []).wf = true := by decide
theorem test_wf_port : (Instr.moduleDown 8 20).wf = false ∧ (Instr.moduleDown 8 19).wf = true ∧ (Instr.moduleDown 20 0).wf = false := by decide
theorem test_wf_acd : (Instr.columnCheckComplete 8 []).wf = false ∧ (Instr.columnCheckComplete 7 []).wf = true := by decide
theorem test_wf_tile : (Instr.mvm 8192).wf = false ∧ (Instr.mvm 8191).wf = true := by decide
theorem test_wf_bank : (Instr.bankExpire 16384).wf = false ∧ (Instr.bankExpire 16383).wf = true := by decide
theorem test_wf_cluster : (Instr.mvmGrant 128).wf = false ∧ (Instr.mvmGrant 127).wf = true := by decide
theorem test_wf_column_group : (Instr.setDrainEnd 0 512 true).wf = false ∧ (Instr.setDrainEnd 0 511 true).wf = true := by decide
theorem test_wf_bank_unit :
    (Instr.erase 11 0).wf = false ∧ (Instr.erase 20 0).wf = false ∧ (Instr.erase 19 2048).wf = false ∧ (Instr.erase 19 2047).wf = true := by decide
theorem test_wf_tile_unit :
    (Instr.calCmd 12 2047).wf = false ∧ (Instr.calCmd 12 3072).wf = false ∧ (Instr.calCmd 12 3071).wf = true := by decide
theorem test_wf_cxd : (Instr.cancelMark 4).wf = false ∧ (Instr.cancelMark 3).wf = true := by decide
theorem test_wf_stack : (Instr.stackRefresh 32).wf = false ∧ (Instr.stackRefresh 31).wf = true := by decide
theorem test_wf_slot : (Instr.pageOpApply 16384).wf = false ∧ (Instr.pageOpApply 16383).wf = true := by decide
theorem test_wf_version : (Instr.pipelineWaitTimeout 8192).wf = false ∧ (Instr.pipelineWaitTimeout 8191).wf = true := by decide
theorem test_wf_shard :
    (Instr.scrubDue 8448 0).wf = false ∧ (Instr.scrubDue 0 65536).wf = false ∧ (Instr.scrubDue 8447 65535).wf = true := by decide
theorem test_wf_controller : (Instr.nvmeKeepAlive 8).wf = false ∧ (Instr.nvmeKeepAlive 7).wf = true := by decide
theorem test_wf_session : (Instr.nop 64).wf = false ∧ (Instr.nop 63).wf = true := by decide
theorem test_wf_core : (Instr.mboxPop 24).wf = false ∧ (Instr.mboxPop 23).wf = true := by decide
theorem test_wf_policy_core :
    (Instr.policyFault 15 0).wf = false ∧ (Instr.policyFault 24 0).wf = false ∧ (Instr.policyFault 16 0).wf = true := by decide
theorem test_wf_line : (Instr.modTimerExpire 512).wf = false ∧ (Instr.modTimerExpire 511).wf = true := by decide
theorem test_wf_domain : (Instr.rampEnd 0).wf = false ∧ (Instr.rampEnd 20).wf = false ∧ (Instr.rampEnd 19).wf = true := by decide
theorem test_wf_sense_pair : (Instr.remoteSenseMeasure 4 none).wf = false ∧ (Instr.remoteSenseMeasure 3 none).wf = true := by decide
theorem test_wf_link : (Instr.linkRetry 16).wf = false ∧ (Instr.linkRetry 15).wf = true := by decide
theorem test_wf_lane : (Instr.laneRetrain 0 8).wf = false ∧ (Instr.laneRetrain 0 7).wf = true := by decide
theorem test_wf_eth_link : (Instr.ethLinkUp 11).wf = false ∧ (Instr.ethLinkUp 16).wf = false ∧ (Instr.ethLinkUp 12).wf = true := by decide
theorem test_wf_fab_port : (Instr.packetRoute (some 6) kp).wf = false ∧ (Instr.packetRoute (some 5) kp).wf = true := by decide
theorem test_wf_part : (Instr.unreachable 65536).wf = false ∧ (Instr.unreachable 65535).wf = true := by decide
theorem test_wf_accessor :
    (Instr.registerWrite (.core 24) 0 8 0).wf = false ∧ (Instr.registerWrite (.core 23) 0 8 0).wf = true ∧
    (Instr.registerWrite .host 0 8 0).wf = true := by decide
/-- An ill-formed command ends in the one fault. -/
theorem test_wf_fault : exec (.nop 64) State.reset = .fault .noSuchObject := rfl

/-! ### Small tests: the manual's worked examples, and single steps -/

/-- The example of 03_column_converters.md: columns 34 and 35 at range ±128. -/
theorem test_convert_example :
    convert 1 (-131 * 65536 - 13107) false = (-128, true) ∧ convert 1 (40 * 65536 + 19660) false = (40, false) := by decide +kernel
/-- The calibration example there: DAC -300 at range ±128 injects -75 unit currents, whose code is -75. -/
theorem test_calibration_example : convert 1 (-75 * 65536) false = (-75, false) ∧ -300 * (rangeN 1 : Int) / 512 = -75 := by decide +kernel
/-- The example of 04_temper_path.md: code 84 at range ±128 is 84.5 unit currents, and column 34 adds 8 × 78.4394. -/
theorem test_column_example :
    codeValue 1 84 = ⟨169 * 128, 256, false⟩ ∧
    ((fdiv (fmul (fmul (phaseWeight 7 3) ⟨0x7C00, 32768, false⟩) (fsub (fsub (codeValue 1 84) Q.zero) ⟨0x100, 256, false⟩)) (qD 0x4200)).scale 4).round = 10040 := by
  decide +kernel
/-- The example of 05_numerics.md: y = 6,268,941 / 2^22 less 0.25. -/
theorem test_output_example :
    ((outputOf 1087296 ⟨3, 256, false⟩ ⟨123, 4096, false⟩ ⟨-1, 4, false⟩).scale 22).round = 6268941 - 1048576 := by decide +kernel
/-- The stochastic rounding there: r = 14,961 gives 48, r below 8,608 gives 47. -/
theorem test_requant_example :
    requant true 14961 ⟨47868655, 1000000, false⟩ = 48 ∧ requant true 8607 ⟨47868655, 1000000, false⟩ = 47 ∧ requant true 8609 ⟨47868655, 1000000, false⟩ = 48 := by
  decide +kernel
/-- The example of 15_thermal.md: the neighbours of sensor 37 of ACD2, and their median. -/
theorem test_neighbours_example : neighbours 14 37 = [22, 23, 26, 36, 38, 39, 40, 42] := by decide +kernel
/-- The example of 07_context_dies.md: pages of 768 KiB, 42 frames in a slab. -/
theorem test_page_example :
    pageBytes { graph0 with layersKv := 24, headsKv := 4, headsQ := 16, dim := 64 } = 786432 ∧ framesPerSlab 786432 = 42 := by decide +kernel

/-- The torus of the example of 10_efylink_fabric.md, at part `n`. -/
def torus844 (n : Nat) : FabCfg := { partId := n, dimX := 8, dimY := 4, dimZ := 4, rackId := 1, configured := true }

/-- The directions of that example: X is only +, Y is a tie, Z is +. -/
theorem test_route_example :
    (torus844 0x1C20).directions (.block ⟨5, 0x1800, 4, 4, 4⟩) 0x1C20 0x0062 0 0 = [true] ∧
    (torus844 0x1C20).directions (.block ⟨5, 0x1800, 4, 4, 4⟩) 0x1C20 0x0062 0 1 = [true, false] ∧
    (torus844 0x1C20).crosses 0x1C20 0 true = true := by decide +kernel

/-- The input supply comes good. -/
theorem test_power_on : ∃ t, exec .powerOn State.reset = .next t ∧ t.part.pins.pgIn = true := ⟨_, rfl, by decide +kernel⟩
/-- No word spells a command: no row of the table gives bits. -/
theorem test_no_word : decodeTableWord 32 0 = none := by decide

/-! ### Witnesses: every group of hypotheses of a statement is met -/

/-- What holds of the value, if there is one. -/
theorem all_some {α : Type} {E : Option α} {P : α → Prop} [DecidablePred P] (h : E.all (fun x => decide (P x)) = true) (x : α) (e : E = some x) : P x := by
  subst e; exact of_decide_eq_true h

/-- Packets that a hop does not hold. -/
theorem not_held {x : Hop} (h : (match x with | .hold _ => true | _ => false) = false) (k : FabPkt) : x ≠ .hold k := by
  intro e; subst e; cases h

/-- No message of a kind. -/
theorem no_msg {l : List (Nat × FabMsg)} (f : FabMsg → Bool) (h : l.all (fun x => !f x.2) = true) {y : FabMsg} (e : f y = true) (x : Nat × FabMsg)
    (hx : x ∈ l) : x.2 ≠ y := by
  intro q; have := List.all_eq_true.1 h x hx; rw [q, e] at this; cases this

/-- States for `wit_UndrivenMvmsAreZero`. -/
def sUndrivenMvmsAreZero (n : Nat) : State :=
  ([tmp id (fun t => { t with runs := [runM] }) id id] : List State).getD n State.reset

theorem wit_UndrivenMvmsAreZero :
    (∃ (s : State) (t : Nat) (r : MvmRun) (rest : List MvmRun), isTile t = true ∧ s.part.alive (3 + t / 1024) = true ∧ (s.part.tile t).runs = r :: rest ∧ r.start + 8 * r.phases + 24 ≤ s.part.now ∧ r.driven = 0 ∧ r.m.kind = .layer ∧ r.m.half = 0) :=
  (let s : State := sUndrivenMvmsAreZero 0; let t : Nat := 4; let r : MvmRun := ((s.part.tile t).runs).head (by decide +kernel +zetaReduce); let rest : List MvmRun := ((s.part.tile t).runs).tail; ⟨s, t, r, rest, by decide +kernel +zetaReduce⟩)

/-- States for `wit_ModulesTrainFallAndRetry`. -/
def sModulesTrainFallAndRetry (n : Nat) : State :=
  ([st (prt id pOn),
    st (prt (fun v => { v with st := 1 }) pOn),
    st (prt (fun v => { v with st := 1, slow := true }) pOn)] : List State).getD n State.reset

theorem wit_ModulesTrainFallAndRetry :
    (∃ (s : State) (d : Nat) (q : Nat) (e : Nat) (r : Nat), isPort d q = true ∧ s.part.alive (dieDomain d) = true ∧ farEnd d q = some (e, r) ∧ (s.part.port d q).st ≠ 1) ∧
    (∃ (s : State) (d : Nat) (q : Nat) (e : Nat) (r : Nat), isPort d q = true ∧ s.part.alive (dieDomain d) = true ∧ farEnd d q = some (e, r) ∧ (s.part.port d q).st = 1 ∧ (s.part.port d q).slow = false) ∧
    (∃ (s : State) (d : Nat) (q : Nat) (e : Nat) (r : Nat), isPort d q = true ∧ s.part.alive (dieDomain d) = true ∧ farEnd d q = some (e, r) ∧ (s.part.port d q).st = 1 ∧ (s.part.port d q).slow = true) ∧
    (∃ (s : State) (d : Nat) (q : Nat) (e : Nat) (r : Nat), isPort d q = true ∧ s.part.alive (dieDomain d) = true ∧ farEnd d q = some (e, r) ∧ (s.part.port d q).st = 0) ∧
    (∃ (s : State) (d : Nat) (q : Nat) (e : Nat) (r : Nat), isPort d q = true ∧ s.part.alive (dieDomain d) = true ∧ farEnd d q = some (e, r) ∧ (s.part.port d q).st ≠ 0 ∧ (s.part.port d q).repaired < 8) ∧
    (∃ (s : State) (d : Nat) (q : Nat) (e : Nat) (r : Nat), isPort d q = true ∧ s.part.alive (dieDomain d) = true ∧ farEnd d q = some (e, r) ∧ ((s.part.port d q).st = 0 ∨ 8 ≤ (s.part.port d q).repaired)) ∧
    (∃ (s : State) (d : Nat) (q : Nat) (e : Nat) (r : Nat), isPort d q = true ∧ s.part.alive (dieDomain d) = true ∧ farEnd d q = some (e, r) ∧ s.part.active d q = true) ∧
    (∃ (s : State) (d : Nat) (q : Nat) (e : Nat) (r : Nat), isPort d q = true ∧ s.part.alive (dieDomain d) = true ∧ farEnd d q = some (e, r) ∧ s.part.active d q = false) :=
  ⟨(let d : Nat := 0; let q : Nat := 0; let e : Nat := ((farEnd d q).map Prod.fst).get (by decide +kernel +zetaReduce); let r : Nat := ((farEnd d q).map Prod.snd).get (by decide +kernel +zetaReduce); ⟨sModulesTrainFallAndRetry 0, d, q, e, r, by decide +kernel +zetaReduce⟩),
   (let d : Nat := 0; let q : Nat := 0; let e : Nat := ((farEnd d q).map Prod.fst).get (by decide +kernel +zetaReduce); let r : Nat := ((farEnd d q).map Prod.snd).get (by decide +kernel +zetaReduce); ⟨sModulesTrainFallAndRetry 1, d, q, e, r, by decide +kernel +zetaReduce⟩),
   (let d : Nat := 0; let q : Nat := 0; let e : Nat := ((farEnd d q).map Prod.fst).get (by decide +kernel +zetaReduce); let r : Nat := ((farEnd d q).map Prod.snd).get (by decide +kernel +zetaReduce); ⟨sModulesTrainFallAndRetry 2, d, q, e, r, by decide +kernel +zetaReduce⟩),
   (let d : Nat := 0; let q : Nat := 1; let e : Nat := ((farEnd d q).map Prod.fst).get (by decide +kernel +zetaReduce); let r : Nat := ((farEnd d q).map Prod.snd).get (by decide +kernel +zetaReduce); ⟨sModulesTrainFallAndRetry 0, d, q, e, r, by decide +kernel +zetaReduce⟩),
   (let d : Nat := 0; let q : Nat := 0; let e : Nat := ((farEnd d q).map Prod.fst).get (by decide +kernel +zetaReduce); let r : Nat := ((farEnd d q).map Prod.snd).get (by decide +kernel +zetaReduce); ⟨sModulesTrainFallAndRetry 0, d, q, e, r, by decide +kernel +zetaReduce⟩),
   (let d : Nat := 0; let q : Nat := 1; let e : Nat := ((farEnd d q).map Prod.fst).get (by decide +kernel +zetaReduce); let r : Nat := ((farEnd d q).map Prod.snd).get (by decide +kernel +zetaReduce); ⟨sModulesTrainFallAndRetry 0, d, q, e, r, by decide +kernel +zetaReduce⟩),
   (let d : Nat := 0; let q : Nat := 0; let e : Nat := ((farEnd d q).map Prod.fst).get (by decide +kernel +zetaReduce); let r : Nat := ((farEnd d q).map Prod.snd).get (by decide +kernel +zetaReduce); ⟨sModulesTrainFallAndRetry 0, d, q, e, r, by decide +kernel +zetaReduce⟩),
   (let d : Nat := 0; let q : Nat := 1; let e : Nat := ((farEnd d q).map Prod.fst).get (by decide +kernel +zetaReduce); let r : Nat := ((farEnd d q).map Prod.snd).get (by decide +kernel +zetaReduce); ⟨sModulesTrainFallAndRetry 0, d, q, e, r, by decide +kernel +zetaReduce⟩)⟩

/-- States for `wit_DieMessagesAreCheckedAndOrdered`. -/
def sDieMessagesAreCheckedAndOrdered (n : Nat) : State :=
  ([st pOn,
    sUp,
    st (prt id pOn),
    st { meshUp pOn with d2d := { (meshUp pOn).d2d with rxSeq := [(seqKey 1 0 1, 1)] } }] : List State).getD n State.reset

theorem wit_DieMessagesAreCheckedAndOrdered :
    (∃ (s : State) (d : Nat) (q : Nat), isPort d q = true ∧ s.part.alive (dieDomain d) = true ∧ s.part.active d q = false) ∧
    (∃ (s : State) (d : Nat) (q : Nat) (m : DieMsg), isPort d q = true ∧ s.part.alive (dieDomain d) = true ∧ s.part.active d q = true ∧ (m.len % 16 ≠ 0 ∨ 4096 < m.len ∨ m.cls = 7 ∨ 19 < m.dst)) ∧
    (∃ (s : State) (d : Nat) (q : Nat) (m : DieMsg) (r : Nat), isPort d q = true ∧ s.part.alive (dieDomain d) = true ∧ s.part.active d q = true ∧ m.len % 16 = 0 ∧ m.len ≤ 4096 ∧ m.cls ≠ 7 ∧ m.dst < 20 ∧ m.dst ≠ d ∧ (s.part.applyCr d q m).nextPort d m.src m.dst = some r) ∧
    (∃ (s : State) (d : Nat) (q : Nat) (m : DieMsg), isPort d q = true ∧ s.part.alive (dieDomain d) = true ∧ s.part.active d q = true ∧ m.len % 16 = 0 ∧ m.len ≤ 4096 ∧ m.cls ≠ 7 ∧ m.dst < 20 ∧ m.dst ≠ d ∧ (s.part.applyCr d q m).nextPort d m.src m.dst = none) ∧
    (∃ (s : State) (d : Nat) (q : Nat) (m : DieMsg), isPort d q = true ∧ s.part.alive (dieDomain d) = true ∧ s.part.active d q = true ∧ m.len % 16 = 0 ∧ m.len ≤ 4096 ∧ m.cls ≠ 7 ∧ m.dst < 20 ∧ m.dst = d ∧ ((s.part.acceptedOnce m || (s.part.early d).any fun a => a.m.src == m.src && a.m.cls == m.cls && a.m.seq == m.seq) = true)) ∧
    (∃ (s : State) (d : Nat) (q : Nat) (m : DieMsg), isPort d q = true ∧ s.part.alive (dieDomain d) = true ∧ s.part.active d q = true ∧ m.len % 16 = 0 ∧ m.len ≤ 4096 ∧ m.cls ≠ 7 ∧ m.dst < 20 ∧ m.dst = d ∧ s.part.d2d.early = [] ∧ m.crCount = 0 ∧ s.part.acceptedOnce m = false ∧ mget 0 s.part.d2d.rxSeq (seqKey m.src m.dst m.cls) ≠ m.seq) ∧
    (∃ (s : State) (d : Nat) (q : Nat) (m : DieMsg), isPort d q = true ∧ s.part.alive (dieDomain d) = true ∧ s.part.active d q = true ∧ m.len % 16 = 0 ∧ m.len ≤ 4096 ∧ m.cls ≠ 7 ∧ m.dst < 20 ∧ m.dst = d ∧ s.part.d2d.early = [] ∧ m.crCount = 0 ∧ s.part.acceptedOnce m = false ∧ mget 0 s.part.d2d.rxSeq (seqKey m.src m.dst m.cls) = m.seq) ∧
    (∃ (s : State) (d : Nat) (q : Nat) (m : DieMsg), isPort d q = true ∧ s.part.alive (dieDomain d) = true ∧ m.dst = d ∧ unitThere d m.unit = false) ∧
    (∃ (s : State) (d : Nat) (q : Nat) (m : DieMsg) (p : Machine.Part), isPort d q = true ∧ s.part.alive (dieDomain d) = true ∧ m.dst = d ∧ unitThere d m.unit = true ∧ (p.slotGone m = true ∨ m.epoch ≠ p.unitEpoch d m.unit)) ∧
    (∃ (s : State) (d : Nat) (q : Nat) (m : DieMsg) (p : Machine.Part), isPort d q = true ∧ s.part.alive (dieDomain d) = true ∧ m.dst = d ∧ unitThere d m.unit = true ∧ p.slotGone m = false ∧ m.epoch = p.unitEpoch d m.unit ∧ m.cls = 0 ∧ unitTakes d m.unit (msgOpcode m) = false) ∧
    (∃ (s : State) (d : Nat) (q : Nat) (m : DieMsg) (p : Machine.Part) (st : Nat), isPort d q = true ∧ s.part.alive (dieDomain d) = true ∧ m.dst = d ∧ unitThere d m.unit = true ∧ p.slotGone m = false ∧ m.epoch = p.unitEpoch d m.unit ∧ m.cls = 0 ∧ unitTakes d m.unit (msgOpcode m) = true ∧ commandFail m = some st) :=
  ⟨⟨sDieMessagesAreCheckedAndOrdered 0, 0, 0, by decide +kernel⟩,
   ⟨sDieMessagesAreCheckedAndOrdered 1, 0, 0, dmm 0 7 1 16, by decide +kernel⟩,
   (let s : State := sDieMessagesAreCheckedAndOrdered 1; let d : Nat := 0; let q : Nat := 0; let m : DieMsg := dmm 12 0 1 16; let r : Nat := ((s.part.applyCr d q m).nextPort d m.src m.dst).get (by decide +kernel +zetaReduce); ⟨s, d, q, m, r, by decide +kernel +zetaReduce⟩),
   ⟨sDieMessagesAreCheckedAndOrdered 2, 0, 0, dmm 12 0 1 16, by decide +kernel⟩,
   ⟨sDieMessagesAreCheckedAndOrdered 3, 0, 0, { dmm 0 1 1 16 with crCount := 0 }, by decide +kernel⟩,
   ⟨sDieMessagesAreCheckedAndOrdered 1, 0, 0, { dmm 0 0 1 16 with crCount := 0, seq := 5 }, by decide +kernel⟩,
   ⟨sDieMessagesAreCheckedAndOrdered 1, 0, 0, { dmm 0 1 1 16 with crCount := 0 }, by decide +kernel⟩,
   ⟨sDieMessagesAreCheckedAndOrdered 1, 12, 0, { dmm 12 0 1 16 with unit := 0xFFFF }, by decide +kernel⟩,
   ⟨sDieMessagesAreCheckedAndOrdered 1, 8, 0, { dmm 8 0 1 16 with unit := 3, epoch := 7 }, pOn, by decide +kernel⟩,
   ⟨sDieMessagesAreCheckedAndOrdered 1, 12, 0, dmm 12 0 1 16, pOn, by decide +kernel⟩,
   (let m : DieMsg := { dmm 12 0 1 16 with unit := 9, payload := [0xA3] ++ z 15 }; let st : Nat := (commandFail m).get (by decide +kernel +zetaReduce); ⟨sDieMessagesAreCheckedAndOrdered 1, 12, 0, m, pOn, st, by decide +kernel +zetaReduce⟩)⟩

/-- States for `wit_DieMessagesAndCommandsEnd`. -/
def sDieMessagesAndCommandsEnd (n : Nat) : State :=
  ([st { meshUp pOn with d2d := { (meshUp pOn).d2d with held := [{ m := dmm 12 0 1 16, holder := 1, port := 0, since := 5, inPort := 0, sent := true }] } },
    st { meshUp pOn with d2d := { (meshUp pOn).d2d with held := [{ m := dmm 12 0 1 16, holder := 1, port := 0, since := (meshUp pOn).now, inPort := 0, sent := true }] } },
    sOut [cmd1] [dmm 0 1 12 16],
    sOut [{ cmd1 with start := pOn.now }] []] : List State).getD n State.reset

theorem wit_DieMessagesAndCommandsEnd :
    (∃ (s : State) (h : Nat), h < 20 ∧ s.part.alive (dieDomain h) = true) ∧
    (∃ (s : State) (src : Nat) (dst : Nat) (cls : Nat) (seq : Nat) (x : HeldMsg) (rest : List HeldMsg), src < 20 ∧ dst < 20 ∧ s.part.alive (dieDomain src) = true ∧ (takeFirst (fun y : HeldMsg => y.m.src == src && y.m.dst == dst && y.m.cls == cls && y.m.seq == seq) s.part.d2d.held = some (x, rest)) ∧ x.since + 100000000 < s.part.now) ∧
    (∃ (s : State) (src : Nat) (dst : Nat) (cls : Nat) (seq : Nat) (x : HeldMsg) (rest : List HeldMsg), src < 20 ∧ dst < 20 ∧ s.part.alive (dieDomain src) = true ∧ (takeFirst (fun y : HeldMsg => y.m.src == src && y.m.dst == dst && y.m.cls == cls && y.m.seq == seq) s.part.d2d.held = some (x, rest)) ∧ s.part.now ≤ x.since + 100000000) ∧
    (∃ (s : State), s.part.alive 1 = true ∧ s.part.d2d.ctlReplies = []) ∧
    (∃ (s : State) (m : DieMsg) (rest : List DieMsg), s.part.alive 1 = true ∧ s.part.d2d.ctlReplies = m :: rest) ∧
    (∃ (s : State) (tag : Nat) (seq : Nat) (c : CtlCmd) (rest : List CtlCmd), s.part.alive 1 = true ∧ (takeFirst (fun c : CtlCmd => c.tag == tag && c.seq == seq) s.part.d2d.outstanding = some (c, rest)) ∧ timerRuns c s.part.d2d.outstanding = true ∧ c.start + s.part.cmdLimit c.opcode < s.part.now) ∧
    (∃ (s : State) (tag : Nat) (seq : Nat) (c : CtlCmd) (rest : List CtlCmd), s.part.alive 1 = true ∧ (takeFirst (fun c : CtlCmd => c.tag == tag && c.seq == seq) s.part.d2d.outstanding = some (c, rest)) ∧ (timerRuns c s.part.d2d.outstanding = false ∨ s.part.now ≤ c.start + s.part.cmdLimit c.opcode)) :=
  ⟨⟨sDieMessagesAndCommandsEnd 0, 1, by decide +kernel⟩,
   (let s : State := sDieMessagesAndCommandsEnd 0; let src : Nat := 1; let dst : Nat := 12; let cls : Nat := 0; let seq : Nat := 0; let x : HeldMsg := ((takeFirst (fun y : HeldMsg => y.m.src == src && y.m.dst == dst && y.m.cls == cls && y.m.seq == seq) s.part.d2d.held).map Prod.fst).get (by decide +kernel +zetaReduce); let rest : List HeldMsg := ((takeFirst (fun y : HeldMsg => y.m.src == src && y.m.dst == dst && y.m.cls == cls && y.m.seq == seq) s.part.d2d.held).map Prod.snd).get (by decide +kernel +zetaReduce); ⟨s, src, dst, cls, seq, x, rest, by decide +kernel +zetaReduce⟩),
   (let s : State := sDieMessagesAndCommandsEnd 1; let src : Nat := 1; let dst : Nat := 12; let cls : Nat := 0; let seq : Nat := 0; let x : HeldMsg := ((takeFirst (fun y : HeldMsg => y.m.src == src && y.m.dst == dst && y.m.cls == cls && y.m.seq == seq) s.part.d2d.held).map Prod.fst).get (by decide +kernel +zetaReduce); let rest : List HeldMsg := ((takeFirst (fun y : HeldMsg => y.m.src == src && y.m.dst == dst && y.m.cls == cls && y.m.seq == seq) s.part.d2d.held).map Prod.snd).get (by decide +kernel +zetaReduce); ⟨s, src, dst, cls, seq, x, rest, by decide +kernel +zetaReduce⟩),
   ⟨sDieMessagesAndCommandsEnd 0, by decide +kernel⟩,
   (let s : State := sDieMessagesAndCommandsEnd 2; let m : DieMsg := (s.part.d2d.ctlReplies).head (by decide +kernel +zetaReduce); let rest : List DieMsg := (s.part.d2d.ctlReplies).tail; ⟨s, m, rest, by decide +kernel +zetaReduce⟩),
   (let s : State := sDieMessagesAndCommandsEnd 2; let tag : Nat := 7; let seq : Nat := 9; let c : CtlCmd := ((takeFirst (fun c : CtlCmd => c.tag == tag && c.seq == seq) s.part.d2d.outstanding).map Prod.fst).get (by decide +kernel +zetaReduce); let rest : List CtlCmd := ((takeFirst (fun c : CtlCmd => c.tag == tag && c.seq == seq) s.part.d2d.outstanding).map Prod.snd).get (by decide +kernel +zetaReduce); ⟨s, tag, seq, c, rest, by decide +kernel +zetaReduce⟩),
   (let s : State := sDieMessagesAndCommandsEnd 3; let tag : Nat := 7; let seq : Nat := 9; let c : CtlCmd := ((takeFirst (fun c : CtlCmd => c.tag == tag && c.seq == seq) s.part.d2d.outstanding).map Prod.fst).get (by decide +kernel +zetaReduce); let rest : List CtlCmd := ((takeFirst (fun c : CtlCmd => c.tag == tag && c.seq == seq) s.part.d2d.outstanding).map Prod.snd).get (by decide +kernel +zetaReduce); ⟨s, tag, seq, c, rest, by decide +kernel +zetaReduce⟩)⟩

/-- States for `wit_BankOperations`. -/
def sBankOperations (n : Nat) : State :=
  ([bk 0xA3 id id,
    bk 0xA3 (fun b => { b with releasing := some (opMsg 0xA4 0) }) id,
    bk 0xA3 (fun b => { b with st := .deep }) id,
    bk 0xA4 (fun b => { b with st := .shallow, epoch := 65535 }) id,
    bk 0xA4 (fun b => { b with st := .shallow }) (fun t => { t with queue := [mvm0] })] : List State).getD n State.reset

theorem wit_BankOperations :
    (∃ (s : State) (c : Instr) (op : Nat) (die : Nat) (unit : Nat) (k : Nat) (b : Bank), bankOpcode c = some (op, die, unit) ∧ isBankUnit die unit = true ∧ s.part.alive (dieDomain die) = true ∧ k = bankOf die unit ∧ b = s.part.bank k ∧ s.part.headCmd die unit op = none) ∧
    (∃ (s : State) (c : Instr) (op : Nat) (die : Nat) (unit : Nat) (k : Nat) (b : Bank) (m : DieMsg), bankOpcode c = some (op, die, unit) ∧ isBankUnit die unit = true ∧ s.part.alive (dieDomain die) = true ∧ k = bankOf die unit ∧ b = s.part.bank k ∧ s.part.headCmd die unit op = some m ∧ (b.releasing ≠ none ∨ (op ≠ 0xA1 ∧ b.tooSoon s.part.now = true) ∨ s.part.bankOpWaits b m = true)) ∧
    (∃ (s : State) (c : Instr) (op : Nat) (die : Nat) (unit : Nat) (k : Nat) (b : Bank) (m : DieMsg) (st : Nat), bankOpcode c = some (op, die, unit) ∧ isBankUnit die unit = true ∧ s.part.alive (dieDomain die) = true ∧ k = bankOf die unit ∧ b = s.part.bank k ∧ s.part.headCmd die unit op = some m ∧ b.releasing = none ∧ (op = 0xA1 ∨ b.tooSoon s.part.now = false) ∧ s.part.bankOpWaits b m = false ∧ bankOpFail (s.part.opParams s.mem b m) b m = some st) ∧
    (∃ (s : State) (c : Instr) (op : Nat) (die : Nat) (unit : Nat) (k : Nat) (b : Bank) (m : DieMsg), bankOpcode c = some (op, die, unit) ∧ isBankUnit die unit = true ∧ s.part.alive (dieDomain die) = true ∧ k = bankOf die unit ∧ b = s.part.bank k ∧ s.part.headCmd die unit op = some m ∧ b.releasing = none ∧ (op = 0xA1 ∨ b.tooSoon s.part.now = false) ∧ s.part.bankOpWaits b m = false ∧ bankOpFail (s.part.opParams s.mem b m) b m = none ∧ op ≠ 0xA4) ∧
    (∃ (s : State) (c : Instr) (op : Nat) (die : Nat) (unit : Nat) (k : Nat) (b : Bank) (m : DieMsg), bankOpcode c = some (op, die, unit) ∧ isBankUnit die unit = true ∧ s.part.alive (dieDomain die) = true ∧ k = bankOf die unit ∧ b = s.part.bank k ∧ s.part.headCmd die unit op = some m ∧ b.releasing = none ∧ (op = 0xA1 ∨ b.tooSoon s.part.now = false) ∧ s.part.bankOpWaits b m = false ∧ bankOpFail (s.part.opParams s.mem b m) b m = none ∧ op = 0xA4 ∧ (∀ x ∈ (s.part.tile (k / 2)).queue, x.req.bank ≠ unit % 2) ∧ (∀ r ∈ (s.part.tile (k / 2)).runs, r.m.req.bank ≠ unit % 2)) ∧
    (∃ (s : State) (c : Instr) (op : Nat) (die : Nat) (unit : Nat) (k : Nat) (b : Bank) (m : DieMsg), bankOpcode c = some (op, die, unit) ∧ isBankUnit die unit = true ∧ s.part.alive (dieDomain die) = true ∧ k = bankOf die unit ∧ b = s.part.bank k ∧ s.part.headCmd die unit op = some m ∧ b.releasing = none ∧ (op = 0xA1 ∨ b.tooSoon s.part.now = false) ∧ s.part.bankOpWaits b m = false ∧ bankOpFail (s.part.opParams s.mem b m) b m = none ∧ op = 0xA4 ∧ ((∃ x ∈ (s.part.tile (k / 2)).queue, x.req.bank = unit % 2) ∨ (∃ r ∈ (s.part.tile (k / 2)).runs, r.m.req.bank = unit % 2))) :=
  ⟨(let s : State := sBankOperations 0; let c : Instr := .writeDeep 12 9; let op : Nat := ((bankOpcode c).map fun z => z.1).get (by decide +kernel +zetaReduce); let die : Nat := ((bankOpcode c).map fun z => z.2.1).get (by decide +kernel +zetaReduce); let unit : Nat := ((bankOpcode c).map fun z => z.2.2).get (by decide +kernel +zetaReduce); let k : Nat := bankOf die unit; let b : Bank := s.part.bank k; ⟨s, c, op, die, unit, k, b, by decide +kernel +zetaReduce⟩),
   (let s : State := sBankOperations 1; let c : Instr := .erase 12 9; let op : Nat := ((bankOpcode c).map fun z => z.1).get (by decide +kernel +zetaReduce); let die : Nat := ((bankOpcode c).map fun z => z.2.1).get (by decide +kernel +zetaReduce); let unit : Nat := ((bankOpcode c).map fun z => z.2.2).get (by decide +kernel +zetaReduce); let k : Nat := bankOf die unit; let b : Bank := s.part.bank k; let m : DieMsg := (s.part.headCmd die unit op).get (by decide +kernel +zetaReduce); ⟨s, c, op, die, unit, k, b, m, by decide +kernel +zetaReduce⟩),
   (let s : State := sBankOperations 0; let c : Instr := .erase 12 9; let op : Nat := ((bankOpcode c).map fun z => z.1).get (by decide +kernel +zetaReduce); let die : Nat := ((bankOpcode c).map fun z => z.2.1).get (by decide +kernel +zetaReduce); let unit : Nat := ((bankOpcode c).map fun z => z.2.2).get (by decide +kernel +zetaReduce); let k : Nat := bankOf die unit; let b : Bank := s.part.bank k; let m : DieMsg := (s.part.headCmd die unit op).get (by decide +kernel +zetaReduce); let st : Nat := (bankOpFail (s.part.opParams s.mem b m) b m).get (by decide +kernel +zetaReduce); ⟨s, c, op, die, unit, k, b, m, st, by decide +kernel +zetaReduce⟩),
   (let s : State := sBankOperations 2; let c : Instr := .erase 12 9; let op : Nat := ((bankOpcode c).map fun z => z.1).get (by decide +kernel +zetaReduce); let die : Nat := ((bankOpcode c).map fun z => z.2.1).get (by decide +kernel +zetaReduce); let unit : Nat := ((bankOpcode c).map fun z => z.2.2).get (by decide +kernel +zetaReduce); let k : Nat := bankOf die unit; let b : Bank := s.part.bank k; let m : DieMsg := (s.part.headCmd die unit op).get (by decide +kernel +zetaReduce); ⟨s, c, op, die, unit, k, b, m, by decide +kernel +zetaReduce⟩),
   (let s : State := sBankOperations 3; let c : Instr := .release 12 9; let op : Nat := ((bankOpcode c).map fun z => z.1).get (by decide +kernel +zetaReduce); let die : Nat := ((bankOpcode c).map fun z => z.2.1).get (by decide +kernel +zetaReduce); let unit : Nat := ((bankOpcode c).map fun z => z.2.2).get (by decide +kernel +zetaReduce); let k : Nat := bankOf die unit; let b : Bank := s.part.bank k; let m : DieMsg := (s.part.headCmd die unit op).get (by decide +kernel +zetaReduce); ⟨s, c, op, die, unit, k, b, m, by decide +kernel +zetaReduce⟩),
   (let s : State := sBankOperations 4; let c : Instr := .release 12 9; let op : Nat := ((bankOpcode c).map fun z => z.1).get (by decide +kernel +zetaReduce); let die : Nat := ((bankOpcode c).map fun z => z.2.1).get (by decide +kernel +zetaReduce); let unit : Nat := ((bankOpcode c).map fun z => z.2.2).get (by decide +kernel +zetaReduce); let k : Nat := bankOf die unit; let b : Bank := s.part.bank k; let m : DieMsg := (s.part.headCmd die unit op).get (by decide +kernel +zetaReduce); ⟨s, c, op, die, unit, k, b, m, by decide +kernel +zetaReduce, by decide +kernel +zetaReduce, by decide +kernel +zetaReduce, by decide +kernel +zetaReduce, by decide +kernel +zetaReduce, by decide +kernel +zetaReduce, by decide +kernel +zetaReduce, by decide +kernel +zetaReduce, by decide +kernel +zetaReduce, by decide +kernel +zetaReduce, by decide +kernel +zetaReduce, by decide +kernel +zetaReduce⟩)⟩

/-- States for `wit_TileWritesStart`. -/
def sTileWritesStart (n : Nat) : State :=
  ([bk 0xA2 id id,
    bk 0xA4 (fun b => { b with releasing := some (opMsg 0xA4 16), st := .shallow, model := 5 }) id,
    st (meshUp pOn),
    st (atUnit 12 9 (dm 12 9 1 0 (z 16)) (meshUp pOn)),
    bk 0xA2 id (fun t => { t with wq := [wr0 .deep] }),
    st (hotC (bk 0xA2 id (fun t => { t with wq := [wr0 .deep, wr0 .shallow] })).part),
    bk 0xA2 id (fun t => { t with wq := [wr0 .shallow] }),
    bk 0xA2 id (fun t => { t with wq := [wr0 .deep], queue := [{ mvm0 with due := true }] })] : List State).getD n State.reset

theorem wit_TileWritesStart :
    (∃ (s : State) (k : Nat), isBank k = true ∧ s.part.alive (3 + k / 2048) = true ∧ ((s.part.bank k).releasing = none ∨ (s.part.tile (k / 2)).mvmPending (k % 2) = true)) ∧
    (∃ (s : State) (k : Nat) (m : DieMsg), isBank k = true ∧ s.part.alive (3 + k / 2048) = true ∧ (s.part.bank k).releasing = some m ∧ (s.part.tile (k / 2)).mvmPending (k % 2) = false) ∧
    (∃ (s : State) (die : Nat) (unit : Nat), isBankUnit die unit = true ∧ s.part.alive (dieDomain die) = true ∧ s.part.inbox die unit = []) ∧
    (∃ (s : State) (die : Nat) (unit : Nat) (a : Arrived) (rest : List Arrived), isBankUnit die unit = true ∧ s.part.alive (dieDomain die) = true ∧ s.part.inbox die unit = a :: rest ∧ (a.m.cls ≠ 0 ∨ msgOpcode a.m < 0xA0 ∨ 0xA4 < msgOpcode a.m)) ∧
    (∃ (s : State) (die : Nat) (unit : Nat) (a : Arrived) (rest : List Arrived) (c : Instr), isBankUnit die unit = true ∧ s.part.alive (dieDomain die) = true ∧ s.part.inbox die unit = a :: rest ∧ a.m.cls = 0 ∧ bankOpcode c = some (msgOpcode a.m, die, unit)) ∧
    (∃ (s : State) (t : Nat), isTile t = true ∧ s.part.alive (3 + t / 1024) = true ∧ (s.part.tile t).wq = []) ∧
    (∃ (s : State) (t : Nat) (w : Wr) (rest : List Wr), isTile t = true ∧ s.part.alive (3 + t / 1024) = true ∧ (s.part.tile t).wq = w :: rest ∧ (w.kind = .map ∨ s.part.boot.halt = none) ∧ (w.kind.defers = false ∨ s.part.tileHot t = false)) ∧
    (∃ (s : State) (t : Nat) (w : Wr) (rest : List Wr), isTile t = true ∧ s.part.alive (3 + t / 1024) = true ∧ (s.part.tile t).wq = w :: rest ∧ ((w.kind ≠ .map ∧ s.part.boot.halt ≠ none) ∨ (w.kind.defers = true ∧ s.part.tileHot t = true))) ∧
    (∃ (s : State) (t : Nat), isTile t = true ∧ s.part.alive (3 + t / 1024) = true ∧ ((s.part.tile t).wr ≠ none ∨ s.part.nextWrite t = none)) ∧
    (∃ (s : State) (t : Nat) (w : Wr) (rest : List Wr), isTile t = true ∧ s.part.alive (3 + t / 1024) = true ∧ (s.part.tile t).wr = none ∧ s.part.nextWrite t = some (w, rest) ∧ w.kind.defers = false) ∧
    (∃ (s : State) (t : Nat) (w : Wr) (rest : List Wr), isTile t = true ∧ s.part.alive (3 + t / 1024) = true ∧ (s.part.tile t).wr = none ∧ s.part.nextWrite t = some (w, rest) ∧ w.kind ≠ .map ∧ ((s.part.tile t).mvmPending w.bank = true ∨ s.part.beginWaits (2 * t + w.bank) w = true)) ∧
    (∃ (s : State) (t : Nat) (w : Wr) (rest : List Wr) (c : Instr), isTile t = true ∧ s.part.alive (3 + t / 1024) = true ∧ (s.part.tile t).wr = none ∧ s.part.nextWrite t = some (w, rest) ∧ (c = Instr.tileWriteStart t ∨ (c = Instr.hotDeferEnd t ∧ w.kind.defers = true)) ∧ (w.kind = .map ∨ ((s.part.tile t).mvmPending w.bank = false ∧ s.part.beginWaits (2 * t + w.bank) w = false))) :=
  ⟨⟨sTileWritesStart 0, 9, by decide +kernel⟩,
   (let s : State := sTileWritesStart 1; let k : Nat := 9; let m : DieMsg := ((s.part.bank k).releasing).get (by decide +kernel +zetaReduce); ⟨s, k, m, by decide +kernel +zetaReduce⟩),
   ⟨sTileWritesStart 2, 12, 9, by decide +kernel⟩,
   (let s : State := sTileWritesStart 3; let die : Nat := 12; let unit : Nat := 9; let a : Arrived := (s.part.inbox die unit).head (by decide +kernel +zetaReduce); let rest : List Arrived := (s.part.inbox die unit).tail; ⟨s, die, unit, a, rest, by decide +kernel +zetaReduce⟩),
   (let s : State := sTileWritesStart 0; let die : Nat := 12; let unit : Nat := 9; let a : Arrived := (s.part.inbox die unit).head (by decide +kernel +zetaReduce); let rest : List Arrived := (s.part.inbox die unit).tail; ⟨s, die, unit, a, rest, .writeDeep 12 9, by decide +kernel +zetaReduce⟩),
   ⟨sTileWritesStart 1, 4, by decide +kernel⟩,
   (let s : State := sTileWritesStart 4; let t : Nat := 4; let w : Wr := ((s.part.tile t).wq).head (by decide +kernel +zetaReduce); let rest : List Wr := ((s.part.tile t).wq).tail; ⟨s, t, w, rest, by decide +kernel +zetaReduce⟩),
   (let s : State := sTileWritesStart 5; let t : Nat := 4; let w : Wr := ((s.part.tile t).wq).head (by decide +kernel +zetaReduce); let rest : List Wr := ((s.part.tile t).wq).tail; ⟨s, t, w, rest, by decide +kernel +zetaReduce⟩),
   ⟨sTileWritesStart 1, 4, by decide +kernel⟩,
   (let s : State := sTileWritesStart 6; let t : Nat := 4; let w : Wr := ((s.part.nextWrite t).map Prod.fst).get (by decide +kernel +zetaReduce); let rest : List Wr := ((s.part.nextWrite t).map Prod.snd).get (by decide +kernel +zetaReduce); ⟨s, t, w, rest, by decide +kernel +zetaReduce⟩),
   (let s : State := sTileWritesStart 7; let t : Nat := 4; let w : Wr := ((s.part.nextWrite t).map Prod.fst).get (by decide +kernel +zetaReduce); let rest : List Wr := ((s.part.nextWrite t).map Prod.snd).get (by decide +kernel +zetaReduce); ⟨s, t, w, rest, by decide +kernel +zetaReduce⟩),
   (let s : State := sTileWritesStart 4; let t : Nat := 4; let w : Wr := ((s.part.nextWrite t).map Prod.fst).get (by decide +kernel +zetaReduce); let rest : List Wr := ((s.part.nextWrite t).map Prod.snd).get (by decide +kernel +zetaReduce); ⟨s, t, w, rest, .hotDeferEnd 4, by decide +kernel +zetaReduce⟩)⟩

/-- States for `wit_ShallowWritesProgramTheRows`. -/
def sShallowWritesProgramTheRows (n : Nat) : State :=
  ([st (meshUp pOn),
    wrS .deep id id id,
    wrS .shallow (fun w => { w with row := 512 }) id id,
    { wrS .shallow (fun w => { w with row := 7 }) id id with mem := [(stripeAddr 0 + 128 * 7, 0x55)] }] : List State).getD n State.reset

theorem wit_ShallowWritesProgramTheRows :
    (∃ (s : State) (t : Nat), isTile t = true ∧ s.part.alive (3 + t / 1024) = true ∧ (s.part.tile t).wr = none) ∧
    (∃ (s : State) (t : Nat) (w : Wr) (k : Nat) (b : Bank), isTile t = true ∧ s.part.alive (3 + t / 1024) = true ∧ (s.part.tile t).wr = some w ∧ k = 2 * t + w.bank ∧ b = s.part.bank k ∧ w.kind ≠ .shallow ∧ w.kind ≠ .refresh) ∧
    (∃ (s : State) (t : Nat) (w : Wr) (k : Nat) (b : Bank), isTile t = true ∧ s.part.alive (3 + t / 1024) = true ∧ (s.part.tile t).wr = some w ∧ k = 2 * t + w.bank ∧ b = s.part.bank k ∧ (512 ≤ w.row ∨ s.part.now + 96 < (s.part.tile t).rowAt ∨ s.part.rowsWait k = true)) ∧
    (∃ (s : State) (t : Nat) (w : Wr) (k : Nat) (b : Bank), isTile t = true ∧ s.part.alive (3 + t / 1024) = true ∧ (s.part.tile t).wr = some w ∧ k = 2 * t + w.bank ∧ b = s.part.bank k ∧ (w.row ≠ 512 ∨ s.part.now < (s.part.tile t).rowAt)) ∧
    (∃ (s : State) (t : Nat) (w : Wr) (k : Nat) (b : Bank), isTile t = true ∧ s.part.alive (3 + t / 1024) = true ∧ (s.part.tile t).wr = some w ∧ k = 2 * t + w.bank ∧ b = s.part.bank k ∧ (w.kind = .shallow ∨ w.kind = .refresh) ∧ w.row < 512 ∧ (s.part.tile t).rowAt ≤ s.part.now + 96 ∧ s.part.rowsWait k = false) ∧
    (∃ (s : State) (t : Nat) (w : Wr) (k : Nat) (b : Bank), isTile t = true ∧ s.part.alive (3 + t / 1024) = true ∧ (s.part.tile t).wr = some w ∧ k = 2 * t + w.bank ∧ b = s.part.bank k ∧ (w.kind = .shallow ∨ w.kind = .refresh) ∧ w.row = 512 ∧ (s.part.tile t).rowAt ≤ s.part.now) :=
  ⟨⟨sShallowWritesProgramTheRows 0, 4, by decide +kernel⟩,
   (let s : State := sShallowWritesProgramTheRows 1; let t : Nat := 4; let w : Wr := ((s.part.tile t).wr).get (by decide +kernel +zetaReduce); let k : Nat := 2 * t + w.bank; let b : Bank := s.part.bank k; ⟨s, t, w, k, b, by decide +kernel +zetaReduce⟩),
   (let s : State := sShallowWritesProgramTheRows 2; let t : Nat := 4; let w : Wr := ((s.part.tile t).wr).get (by decide +kernel +zetaReduce); let k : Nat := 2 * t + w.bank; let b : Bank := s.part.bank k; ⟨s, t, w, k, b, by decide +kernel +zetaReduce⟩),
   (let s : State := sShallowWritesProgramTheRows 3; let t : Nat := 4; let w : Wr := ((s.part.tile t).wr).get (by decide +kernel +zetaReduce); let k : Nat := 2 * t + w.bank; let b : Bank := s.part.bank k; ⟨s, t, w, k, b, by decide +kernel +zetaReduce⟩),
   (let s : State := sShallowWritesProgramTheRows 3; let t : Nat := 4; let w : Wr := ((s.part.tile t).wr).get (by decide +kernel +zetaReduce); let k : Nat := 2 * t + w.bank; let b : Bank := s.part.bank k; ⟨s, t, w, k, b, by decide +kernel +zetaReduce⟩),
   (let s : State := sShallowWritesProgramTheRows 2; let t : Nat := 4; let w : Wr := ((s.part.tile t).wr).get (by decide +kernel +zetaReduce); let k : Nat := 2 * t + w.bank; let b : Bank := s.part.bank k; ⟨s, t, w, k, b, by decide +kernel +zetaReduce⟩)⟩

/-- States for `wit_DeepWritesAndErases`. -/
def sDeepWritesAndErases (n : Nat) : State :=
  ([st (meshUp pOn),
    wrS .deep id id id,
    wrS .deep (fun w => { w with clearing := true }) id id,
    wrS .deep id (fun b => { b with rowMap := [0x8001, 0x8002, 0x8003, 0x8004, 0x8005, 0x8006] }) id,
    wrS .erase id id id,
    wrS .map (fun w => { w with completes := some .deep }) (fun b => { b with cells := [(3, { levels := [1], deep := true, band := 3 })], age := 99 }) id] : List State).getD n State.reset

theorem wit_DeepWritesAndErases :
    (∃ (s : State) (t : Nat), isTile t = true ∧ s.part.alive (3 + t / 1024) = true ∧ (s.part.tile t).wr = none) ∧
    (∃ (s : State) (t : Nat) (w : Wr) (k : Nat) (b : Bank), isTile t = true ∧ s.part.alive (3 + t / 1024) = true ∧ (s.part.tile t).wr = some w ∧ k = 2 * t + w.bank ∧ b = s.part.bank k ∧ (w.kind ≠ .deep ∨ w.clearing = false ∨ s.part.now < w.due)) ∧
    (∃ (s : State) (t : Nat) (w : Wr) (k : Nat) (b : Bank), isTile t = true ∧ s.part.alive (3 + t / 1024) = true ∧ (s.part.tile t).wr = some w ∧ k = 2 * t + w.bank ∧ b = s.part.bank k ∧ (w.kind ≠ .deep ∨ w.clearing = true ∨ s.part.now < w.due ∨ s.part.rowsWait k = true)) ∧
    (∃ (s : State) (t : Nat) (w : Wr) (k : Nat) (b : Bank), isTile t = true ∧ s.part.alive (3 + t / 1024) = true ∧ (s.part.tile t).wr = some w ∧ k = 2 * t + w.bank ∧ b = s.part.bank k ∧ ((w.kind ≠ .erase ∧ w.kind ≠ .blankErase) ∨ s.part.now < w.due)) ∧
    (∃ (s : State) (t : Nat) (w : Wr) (k : Nat) (b : Bank), isTile t = true ∧ s.part.alive (3 + t / 1024) = true ∧ (s.part.tile t).wr = some w ∧ k = 2 * t + w.bank ∧ b = s.part.bank k ∧ (w.kind ≠ .map ∨ s.part.now < w.due)) ∧
    (∃ (s : State) (t : Nat) (w : Wr) (k : Nat) (b : Bank), isTile t = true ∧ s.part.alive (3 + t / 1024) = true ∧ (s.part.tile t).wr = some w ∧ k = 2 * t + w.bank ∧ b = s.part.bank k ∧ w.kind = .deep ∧ w.clearing = true ∧ w.due ≤ s.part.now) ∧
    (∃ (s : State) (t : Nat) (w : Wr) (k : Nat) (b : Bank) (i : Nat), isTile t = true ∧ s.part.alive (3 + t / 1024) = true ∧ (s.part.tile t).wr = some w ∧ k = 2 * t + w.bank ∧ b = s.part.bank k ∧ w.kind = .deep ∧ w.clearing = false ∧ w.due ≤ s.part.now ∧ s.part.rowsWait k = false ∧ b.freeRow = some i) ∧
    (∃ (s : State) (t : Nat) (w : Wr) (k : Nat) (b : Bank), isTile t = true ∧ s.part.alive (3 + t / 1024) = true ∧ (s.part.tile t).wr = some w ∧ k = 2 * t + w.bank ∧ b = s.part.bank k ∧ w.kind = .deep ∧ w.clearing = false ∧ w.due ≤ s.part.now ∧ s.part.rowsWait k = false ∧ b.freeRow = none) ∧
    (∃ (s : State) (t : Nat) (w : Wr) (k : Nat) (b : Bank), isTile t = true ∧ s.part.alive (3 + t / 1024) = true ∧ (s.part.tile t).wr = some w ∧ k = 2 * t + w.bank ∧ b = s.part.bank k ∧ (w.kind = .erase ∨ w.kind = .blankErase) ∧ w.due ≤ s.part.now) ∧
    (∃ (s : State) (t : Nat) (w : Wr) (k : Nat) (b : Bank), isTile t = true ∧ s.part.alive (3 + t / 1024) = true ∧ (s.part.tile t).wr = some w ∧ k = 2 * t + w.bank ∧ b = s.part.bank k ∧ w.kind = .map ∧ w.due ≤ s.part.now) :=
  ⟨⟨sDeepWritesAndErases 0, 4, by decide +kernel⟩,
   (let s : State := sDeepWritesAndErases 1; let t : Nat := 4; let w : Wr := ((s.part.tile t).wr).get (by decide +kernel +zetaReduce); let k : Nat := 2 * t + w.bank; let b : Bank := s.part.bank k; ⟨s, t, w, k, b, by decide +kernel +zetaReduce⟩),
   (let s : State := sDeepWritesAndErases 2; let t : Nat := 4; let w : Wr := ((s.part.tile t).wr).get (by decide +kernel +zetaReduce); let k : Nat := 2 * t + w.bank; let b : Bank := s.part.bank k; ⟨s, t, w, k, b, by decide +kernel +zetaReduce⟩),
   (let s : State := sDeepWritesAndErases 2; let t : Nat := 4; let w : Wr := ((s.part.tile t).wr).get (by decide +kernel +zetaReduce); let k : Nat := 2 * t + w.bank; let b : Bank := s.part.bank k; ⟨s, t, w, k, b, by decide +kernel +zetaReduce⟩),
   (let s : State := sDeepWritesAndErases 2; let t : Nat := 4; let w : Wr := ((s.part.tile t).wr).get (by decide +kernel +zetaReduce); let k : Nat := 2 * t + w.bank; let b : Bank := s.part.bank k; ⟨s, t, w, k, b, by decide +kernel +zetaReduce⟩),
   (let s : State := sDeepWritesAndErases 2; let t : Nat := 4; let w : Wr := ((s.part.tile t).wr).get (by decide +kernel +zetaReduce); let k : Nat := 2 * t + w.bank; let b : Bank := s.part.bank k; ⟨s, t, w, k, b, by decide +kernel +zetaReduce⟩),
   (let s : State := sDeepWritesAndErases 1; let t : Nat := 4; let w : Wr := ((s.part.tile t).wr).get (by decide +kernel +zetaReduce); let k : Nat := 2 * t + w.bank; let b : Bank := s.part.bank k; let i : Nat := (b.freeRow).get (by decide +kernel +zetaReduce); ⟨s, t, w, k, b, i, by decide +kernel +zetaReduce⟩),
   (let s : State := sDeepWritesAndErases 3; let t : Nat := 4; let w : Wr := ((s.part.tile t).wr).get (by decide +kernel +zetaReduce); let k : Nat := 2 * t + w.bank; let b : Bank := s.part.bank k; ⟨s, t, w, k, b, by decide +kernel +zetaReduce⟩),
   (let s : State := sDeepWritesAndErases 4; let t : Nat := 4; let w : Wr := ((s.part.tile t).wr).get (by decide +kernel +zetaReduce); let k : Nat := 2 * t + w.bank; let b : Bank := s.part.bank k; ⟨s, t, w, k, b, by decide +kernel +zetaReduce⟩),
   (let s : State := sDeepWritesAndErases 5; let t : Nat := 4; let w : Wr := ((s.part.tile t).wr).get (by decide +kernel +zetaReduce); let k : Nat := 2 * t + w.bank; let b : Bank := s.part.bank k; ⟨s, t, w, k, b, by decide +kernel +zetaReduce⟩)⟩

/-- States for `wit_BanksAge`. -/
def sBanksAge (n : Nat) : State :=
  ([st (((bank9 (fun b => { b with st := .shallow, life := 600000 })).part).setCluster 0 { Cluster.reset with temp := 300 }),
    st ((bank9 id).part.setCluster 0 { Cluster.reset with lifeMs := 10000000, ageMs := 10000000 }),
    bank9 (fun b => { b with st := .shallow }),
    bank9 (fun b => { b with st := .deep, age := 87600 * ageHour }),
    st (((bank9 id).part.setAcd 0 { Acd.reset with mapAt := some 0 }).setTile 4 { Tile.reset with wq := [wr0 .blankErase, wr0 .map] }),
    st ((bank9 id).part.setAcd 0 { Acd.reset with mapAt := some 0 })] : List State).getD n State.reset

theorem wit_BanksAge :
    (∃ (s : State) (c : Nat), isCluster c = true ∧ s.part.alive (3 + c / 16) = true ∧ (s.part.cluster c).lifeMs < s.part.now / 1000000) ∧
    (∃ (s : State) (c : Nat), isCluster c = true ∧ s.part.alive (3 + c / 16) = true ∧ s.part.now / 1000000 ≤ (s.part.cluster c).lifeMs) ∧
    (∃ (s : State) (c : Nat), isCluster c = true ∧ s.part.alive (3 + c / 16) = true ∧ (s.part.cluster c).ageMs < s.part.now / 1000000) ∧
    (∃ (s : State) (c : Nat), isCluster c = true ∧ s.part.alive (3 + c / 16) = true ∧ s.part.now / 1000000 ≤ (s.part.cluster c).ageMs) ∧
    (∃ (s : State) (k : Nat), isBank k = true ∧ s.part.alive (3 + k / 2048) = true ∧ (s.part.bank k).st = .shallow ∧ (s.part.bank k).life = 0) ∧
    (∃ (s : State) (k : Nat), isBank k = true ∧ s.part.alive (3 + k / 2048) = true ∧ ((s.part.bank k).st ≠ .shallow ∨ (s.part.bank k).life ≠ 0)) ∧
    (∃ (s : State) (k : Nat), isBank k = true ∧ s.part.alive (3 + k / 2048) = true ∧ (s.part.bank k).st = .deep ∧ 87600 ≤ (s.part.bank k).ageHours ∧ (s.part.bank k).alerted = false) ∧
    (∃ (s : State) (k : Nat), isBank k = true ∧ s.part.alive (3 + k / 2048) = true ∧ ((s.part.bank k).st ≠ .deep ∨ (s.part.bank k).ageHours < 87600 ∨ (s.part.bank k).alerted = true)) ∧
    (∃ (s : State) (k : Nat), isBank k = true ∧ s.part.alive (3 + k / 2048) = true ∧ (s.part.bank k).st = .deep ∧ fld (s.part.bank k).mapCopy 16 4 / 1000 < (s.part.bank k).ageHours / 1000 ∧ (∀ w ∈ (s.part.tile (k / 2)).wq, ¬(w.kind = .map ∧ w.bank = k % 2))) ∧
    (∃ (s : State) (k : Nat), isBank k = true ∧ s.part.alive (3 + k / 2048) = true ∧ ((s.part.bank k).st ≠ .deep ∨ (s.part.bank k).ageHours / 1000 ≤ fld (s.part.bank k).mapCopy 16 4 / 1000 ∨ (∃ w ∈ (s.part.tile (k / 2)).wq, w.kind = .map ∧ w.bank = k % 2))) ∧
    (∃ (s : State) (k : Nat), isBank k = true ∧ s.part.alive (3 + k / 2048) = true ∧ ((s.part.acd (k / 2 / 1024)).mapAt = none ∨ (s.part.bank k).loaded = true ∨ (s.part.bank k).st ≠ .erasing)) ∧
    (∃ (s : State) (k : Nat) (a : Nat), isBank k = true ∧ s.part.alive (3 + k / 2048) = true ∧ (s.part.acd (k / 2 / 1024)).mapAt = some a ∧ (s.part.bank k).loaded = false ∧ (s.part.bank k).st = .erasing ∧ (s.part.now < a + 52000 ∨ (∃ w ∈ (s.part.tile (k / 2)).wq, w.kind = .blankErase ∧ w.bank = k % 2) ∨ (∃ w, (s.part.tile (k / 2)).wr = some w ∧ w.bank = k % 2))) ∧
    (∃ (s : State) (k : Nat) (a : Nat), isBank k = true ∧ s.part.alive (3 + k / 2048) = true ∧ (s.part.acd (k / 2 / 1024)).mapAt = some a ∧ (s.part.bank k).loaded = false ∧ (s.part.bank k).st = .erasing ∧ a + 52000 ≤ s.part.now ∧ (∀ w ∈ (s.part.tile (k / 2)).wq, ¬(w.kind = .blankErase ∧ w.bank = k % 2)) ∧ (∀ w, (s.part.tile (k / 2)).wr = some w → w.bank ≠ k % 2)) :=
  ⟨⟨sBanksAge 0, 0, by decide +kernel⟩,
   ⟨sBanksAge 1, 0, by decide +kernel⟩,
   ⟨sBanksAge 0, 0, by decide +kernel⟩,
   ⟨sBanksAge 1, 0, by decide +kernel⟩,
   ⟨sBanksAge 2, 9, by decide +kernel⟩,
   ⟨sBanksAge 0, 9, by decide +kernel⟩,
   ⟨sBanksAge 3, 9, by decide +kernel⟩,
   ⟨sBanksAge 0, 9, by decide +kernel⟩,
   ⟨sBanksAge 3, 9, by decide +kernel⟩,
   ⟨sBanksAge 0, 9, by decide +kernel, by decide +kernel, by decide +kernel⟩,
   ⟨sBanksAge 0, 9, by decide +kernel⟩,
   (let s : State := sBanksAge 4; let k : Nat := 9; let a : Nat := ((s.part.acd (k / 2 / 1024)).mapAt).get (by decide +kernel +zetaReduce); ⟨s, k, a, by decide +kernel +zetaReduce, by decide +kernel +zetaReduce, by decide +kernel +zetaReduce, by decide +kernel +zetaReduce, by decide +kernel +zetaReduce, by decide +kernel +zetaReduce⟩),
   (let s : State := sBanksAge 5; let k : Nat := 9; let a : Nat := ((s.part.acd (k / 2 / 1024)).mapAt).get (by decide +kernel +zetaReduce); ⟨s, k, a, by decide +kernel +zetaReduce, by decide +kernel +zetaReduce, by decide +kernel +zetaReduce, by decide +kernel +zetaReduce, by decide +kernel +zetaReduce, by decide +kernel +zetaReduce, by decide +kernel +zetaReduce, all_some (by decide +kernel +zetaReduce)⟩)⟩

/-- States for `wit_GrantsAndWindows`. -/
def sGrantsAndWindows (n : Nat) : State :=
  ([tmp id id id id,
    tmp (fun s => { s with want := [(req9, 0)], held := [req9] }) id id (fun j => { j with job := { j.job with id := 71 } }),
    tmp (fun s => { s with want := [(req9, 0)], held := [req9] }) id id id,
    tmp (fun s => { s with want := [(req9, 0)], held := [req9], sets := [setB 3 false 5, setB 3 true 6] }) id id id,
    tmp (fun s => { s with want := [(req9, 0)], sets := [setB 3 false 5, setB 3 true 6] }) id id id,
    st (pOn.setCluster 0 { Cluster.reset with window := pOn.now })] : List State).getD n State.reset

theorem wit_GrantsAndWindows :
    (∃ (s : State) (c : Nat), isCluster c = true ∧ s.part.alive (3 + c / 16) = true ∧ s.part.choose c = none) ∧
    (∃ (s : State) (c : Nat) (r : MvmReq) (w : Nat), isCluster c = true ∧ s.part.alive (3 + c / 16) = true ∧ s.part.choose c = some (r, w) ∧ s.part.job r.job = none) ∧
    (∃ (s : State) (c : Nat) (r : MvmReq) (w : Nat) (j : JobRun) (h : Nat) (g : Nat) (hs : Slice), isCluster c = true ∧ s.part.alive (3 + c / 16) = true ∧ s.part.choose c = some (r, w) ∧ s.part.job r.job = some j ∧ nth (0, 0) j.job.homes r.block = (h, g) ∧ (s.part.slice h).bind r.job (512 * r.block) (blockGroups g) = some hs) ∧
    (∃ (s : State) (c : Nat) (r : MvmReq) (w : Nat) (j : JobRun) (h : Nat) (g : Nat), isCluster c = true ∧ s.part.alive (3 + c / 16) = true ∧ s.part.choose c = some (r, w) ∧ s.part.job r.job = some j ∧ nth (0, 0) j.job.homes r.block = (h, g) ∧ (s.part.slice h).bind r.job (512 * r.block) (blockGroups g) = none ∧ r ∈ (s.part.slice c).held) ∧
    (∃ (s : State) (c : Nat) (r : MvmReq) (w : Nat) (j : JobRun) (h : Nat) (g : Nat), isCluster c = true ∧ s.part.alive (3 + c / 16) = true ∧ s.part.choose c = some (r, w) ∧ s.part.job r.job = some j ∧ nth (0, 0) j.job.homes r.block = (h, g) ∧ (s.part.slice h).bind r.job (512 * r.block) (blockGroups g) = none ∧ r ∉ (s.part.slice c).held) ∧
    (∃ (s : State), s.part.alive 1 = true ∧ s.part.now / 10000000 * 10000000 ≤ (s.part.cluster 0).window ∧ 0 < s.part.now / 10000000) ∧
    (∃ (s : State), s.part.alive 1 = true ∧ ((s.part.cluster 0).window < s.part.now / 10000000 * 10000000 ∨ s.part.now < 10000000)) :=
  ⟨⟨sGrantsAndWindows 0, 0, by decide +kernel⟩,
   (let s : State := sGrantsAndWindows 1; let c : Nat := 0; let r : MvmReq := ((s.part.choose c).map Prod.fst).get (by decide +kernel +zetaReduce); let w : Nat := ((s.part.choose c).map Prod.snd).get (by decide +kernel +zetaReduce); ⟨s, c, r, w, by decide +kernel +zetaReduce⟩),
   (let s : State := sGrantsAndWindows 2; let c : Nat := 0; let r : MvmReq := ((s.part.choose c).map Prod.fst).get (by decide +kernel +zetaReduce); let w : Nat := ((s.part.choose c).map Prod.snd).get (by decide +kernel +zetaReduce); let j : JobRun := (s.part.job r.job).get (by decide +kernel +zetaReduce); let h : Nat := (nth (0, 0) j.job.homes r.block).1; let g : Nat := (nth (0, 0) j.job.homes r.block).2; let hs : Slice := ((s.part.slice h).bind r.job (512 * r.block) (blockGroups g)).get (by decide +kernel +zetaReduce); ⟨s, c, r, w, j, h, g, hs, by decide +kernel +zetaReduce⟩),
   (let s : State := sGrantsAndWindows 3; let c : Nat := 0; let r : MvmReq := ((s.part.choose c).map Prod.fst).get (by decide +kernel +zetaReduce); let w : Nat := ((s.part.choose c).map Prod.snd).get (by decide +kernel +zetaReduce); let j : JobRun := (s.part.job r.job).get (by decide +kernel +zetaReduce); let h : Nat := (nth (0, 0) j.job.homes r.block).1; let g : Nat := (nth (0, 0) j.job.homes r.block).2; ⟨s, c, r, w, j, h, g, by decide +kernel +zetaReduce⟩),
   (let s : State := sGrantsAndWindows 4; let c : Nat := 0; let r : MvmReq := ((s.part.choose c).map Prod.fst).get (by decide +kernel +zetaReduce); let w : Nat := ((s.part.choose c).map Prod.snd).get (by decide +kernel +zetaReduce); let j : JobRun := (s.part.job r.job).get (by decide +kernel +zetaReduce); let h : Nat := (nth (0, 0) j.job.homes r.block).1; let g : Nat := (nth (0, 0) j.job.homes r.block).2; ⟨s, c, r, w, j, h, g, by decide +kernel +zetaReduce⟩),
   ⟨sGrantsAndWindows 5, by decide +kernel⟩,
   ⟨sGrantsAndWindows 2, by decide +kernel⟩⟩

/-- States for `wit_MvmsQueueAndStart`. -/
def sMvmsQueueAndStart (n : Nat) : State :=
  ([tmp id (fun t => { t with queue := [mvm0] }) id id,
    tmp (fun s => { s with granted := [req9] }) id id id,
    tmp (fun s => { s with granted := [{ req9 with epoch := 3 }] }) (fun t => { t with wq := [wr0 .deep] }) (fun b => { b with epoch := 4, epochAt := some pOn.now }) id] : List State).getD n State.reset

theorem wit_MvmsQueueAndStart :
    (∃ (s : State) (t : Nat) (c : Nat), isTile t = true ∧ s.part.alive (3 + t / 1024) = true ∧ c = tileCluster t ∧ (takeFirst (fun r : MvmReq => r.tile == t) (s.part.slice c).granted = none)) ∧
    (∃ (s : State) (t : Nat) (c : Nat) (r : MvmReq) (rest : List MvmReq) (b : Bank), isTile t = true ∧ s.part.alive (3 + t / 1024) = true ∧ c = tileCluster t ∧ (takeFirst (fun r : MvmReq => r.tile == t) (s.part.slice c).granted = some (r, rest)) ∧ r.bank < 2 ∧ b = s.part.bank (2 * t + r.bank) ∧ (∀ m : Mvm, m.req = r → s.part.sameCycle t m = false)) ∧
    (∃ (s : State) (t : Nat) (c : Nat) (r : MvmReq) (rest : List MvmReq) (b : Bank), isTile t = true ∧ s.part.alive (3 + t / 1024) = true ∧ c = tileCluster t ∧ (takeFirst (fun r : MvmReq => r.tile == t) (s.part.slice c).granted = some (r, rest)) ∧ r.bank < 2 ∧ b = s.part.bank (2 * t + r.bank) ∧ (∀ m : Mvm, m.req = r → s.part.sameCycle t m = true)) ∧
    (∃ (s : State) (t : Nat) (c : Nat), isTile t = true ∧ s.part.alive (3 + t / 1024) = true ∧ c = tileCluster t ∧ (takeFirst (s.part.startable t) (s.part.tile t).queue = none ∨ s.part.pwr.paced = true ∨ s.part.now + 8 ≤ (s.part.tile t).freeAt)) ∧
    (∃ (s : State) (t : Nat) (c : Nat) (m : Mvm) (rest : List Mvm) (b : Bank), isTile t = true ∧ s.part.alive (3 + t / 1024) = true ∧ c = tileCluster t ∧ takeFirst (s.part.startable t) (s.part.tile t).queue = some (m, rest) ∧ s.part.pwr.paced = false ∧ (s.part.tile t).freeAt < s.part.now + 8 ∧ b = s.part.bank (2 * t + m.req.bank)) :=
  ⟨(let t : Nat := 4; let c : Nat := tileCluster t; ⟨sMvmsQueueAndStart 0, t, c, by decide +kernel +zetaReduce⟩),
   (let s : State := sMvmsQueueAndStart 1; let t : Nat := 4; let c : Nat := tileCluster t; let r : MvmReq := ((takeFirst (fun r : MvmReq => r.tile == t) (s.part.slice c).granted).map Prod.fst).get (by decide +kernel +zetaReduce); let rest : List MvmReq := ((takeFirst (fun r : MvmReq => r.tile == t) (s.part.slice c).granted).map Prod.snd).get (by decide +kernel +zetaReduce); let b : Bank := s.part.bank (2 * t + r.bank); ⟨s, t, c, r, rest, b, by decide +kernel +zetaReduce, by decide +kernel +zetaReduce, by decide +kernel +zetaReduce, by decide +kernel +zetaReduce, by decide +kernel +zetaReduce, by decide +kernel +zetaReduce, (by intro m h; unfold Part.sameCycle; rw [h]; decide +kernel +zetaReduce)⟩),
   (let s : State := sMvmsQueueAndStart 2; let t : Nat := 4; let c : Nat := tileCluster t; let r : MvmReq := ((takeFirst (fun r : MvmReq => r.tile == t) (s.part.slice c).granted).map Prod.fst).get (by decide +kernel +zetaReduce); let rest : List MvmReq := ((takeFirst (fun r : MvmReq => r.tile == t) (s.part.slice c).granted).map Prod.snd).get (by decide +kernel +zetaReduce); let b : Bank := s.part.bank (2 * t + r.bank); ⟨s, t, c, r, rest, b, by decide +kernel +zetaReduce, by decide +kernel +zetaReduce, by decide +kernel +zetaReduce, by decide +kernel +zetaReduce, by decide +kernel +zetaReduce, by decide +kernel +zetaReduce, (by intro m h; unfold Part.sameCycle; rw [h]; decide +kernel +zetaReduce)⟩),
   (let t : Nat := 4; let c : Nat := tileCluster t; ⟨sMvmsQueueAndStart 1, t, c, by decide +kernel +zetaReduce⟩),
   (let s : State := sMvmsQueueAndStart 0; let t : Nat := 4; let c : Nat := tileCluster t; let m : Mvm := ((takeFirst (s.part.startable t) (s.part.tile t).queue).map Prod.fst).get (by decide +kernel +zetaReduce); let rest : List Mvm := ((takeFirst (s.part.startable t) (s.part.tile t).queue).map Prod.snd).get (by decide +kernel +zetaReduce); let b : Bank := s.part.bank (2 * t + m.req.bank); ⟨s, t, c, m, rest, b, by decide +kernel +zetaReduce⟩)⟩

/-- States for `wit_ResultsReachTheOutputStage`. -/
def sResultsReachTheOutputStage (n : Nat) : State :=
  ([st { (tmp (fun s => { s with sets := (List.range 8).map fun g => setB g false 70 }) id id id).part with an := { (tmp (fun s => { s with sets := (List.range 8).map fun g => setB g false 70 }) id id id).part.an with flying := [⟨0, 70, 0, 0, [1, 2, 3]⟩] } },
    tmp id (fun t => { t with runs := [{ runM with start := pOn.now }, { runM with driven := 255 }] }) id id,
    tmp id (fun t => { t with runs := [{ runM with driven := 255 }] }) id id,
    st ((tmp id id id id).part.setInbox 12 0xC00 [⟨dm 12 0xC00 0 0 (z 16), 0, 0⟩]),
    st ((tmp id id id id).part.setInbox 12 0xC00 [⟨dm 12 0xC00 3 0 (z 16), 0, 0⟩]),
    tmp (fun s => { s with sets := (List.range 8).map fun g => setB g false 70 }) id id (fun j => { j with ladder := true }),
    tmp (fun s => { s with sets := [{ setB 3 false 70 with drain := true }] }) id id id,
    tmp id id id (fun j => { j with outs := (List.range 512).map fun i => (i, 0x3F800000) }),
    tmp (fun s => { s with work := [.ladder 70] }) id id (fun j => { j with job := { j.job with id := 71 } }),
    tmp (fun s => { s with work := [.ladder 70], sets := (List.range 8).flatMap fun g => [setB g false 5, setB g true 6] }) id id id,
    sLad,
    tmp (fun s => { s with work := [.mvm { req9 with fb := true }] }) id id (fun j => { j with job := { j.job with id := 71 } }),
    tmp (fun s => { s with work := [.mvm { req9 with fb := true }], sets := (List.range 8).flatMap fun g => [setB g false 5, setB g true 6] }) id id id,
    tmp (fun s => { s with work := [.mvm { req9 with fb := true }] }) id id id,
    tmp id id (fun b => { b with probing := true }) id,
    run (tmp id id id id).part diagPk,
    run (tmp id (fun t => { t with ready := true }) (fun b => { b with st := .expired }) id).part diagPk,
    run (tmp id (fun t => { t with ready := true }) id id).part diagPk] : List State).getD n State.reset

theorem wit_ResultsReachTheOutputStage :
    (∃ (s : State) (t : Nat), isTile t = true ∧ s.part.alive (3 + t / 1024) = true ∧ (s.part.tile t).runs = []) ∧
    (∃ (s : State) (t : Nat) (r : MvmRun) (rest : List MvmRun) (b : Bank), isTile t = true ∧ s.part.alive (3 + t / 1024) = true ∧ (s.part.tile t).runs = r :: rest ∧ b = s.part.bank (2 * t + r.m.req.bank) ∧ s.part.now < r.start + 8 * r.phases + 24) ∧
    (∃ (s : State) (t : Nat) (r : MvmRun) (rest : List MvmRun) (b : Bank), isTile t = true ∧ s.part.alive (3 + t / 1024) = true ∧ (s.part.tile t).runs = r :: rest ∧ b = s.part.bank (2 * t + r.m.req.bank) ∧ r.start + 8 * r.phases + 24 ≤ s.part.now) ∧
    (∃ (s : State) (c : Nat) (f : Flying) (rest : List Flying), isCluster c = true ∧ s.part.alive (3 + c / 16) = true ∧ (takeFirst (fun f : Flying => f.home == c) s.part.an.flying = some (f, rest))) ∧
    (∃ (s : State) (c : Nat), isCluster c = true ∧ s.part.alive (3 + c / 16) = true ∧ (takeFirst (fun f : Flying => f.home == c) s.part.an.flying = none) ∧ s.part.inbox (12 + c / 16) (0xC00 + c % 16) = []) ∧
    (∃ (s : State) (c : Nat) (a : Arrived) (rest : List Arrived), isCluster c = true ∧ s.part.alive (3 + c / 16) = true ∧ (takeFirst (fun f : Flying => f.home == c) s.part.an.flying = none) ∧ s.part.inbox (12 + c / 16) (0xC00 + c % 16) = a :: rest ∧ a.m.cls ≠ 3) ∧
    (∃ (s : State) (c : Nat) (a : Arrived) (rest : List Arrived), isCluster c = true ∧ s.part.alive (3 + c / 16) = true ∧ (takeFirst (fun f : Flying => f.home == c) s.part.an.flying = none) ∧ s.part.inbox (12 + c / 16) (0xC00 + c % 16) = a :: rest ∧ a.m.cls = 3) ∧
    (∃ (s : State) (c : Nat) (f : Flying) (j : JobRun) (g : Nat), isCluster c = true ∧ s.part.alive (3 + c / 16) = true ∧ s.part.job f.job = some j ∧ g = (nth (0, 0) j.job.homes f.block).2 ∧ j.ladder = true) ∧
    (∃ (s : State) (c : Nat) (f : Flying) (j : JobRun) (g : Nat) (i : Nat) (x : OutSet), isCluster c = true ∧ s.part.alive (3 + c / 16) = true ∧ s.part.job f.job = some j ∧ g = (nth (0, 0) j.job.homes f.block).2 ∧ j.ladder = false ∧ i < 8 ∧ (s.part.slice f.home).setOf f.job (g + i) = some x) ∧
    (∃ (s : State) (c : Nat) (g : Nat) (y : Bool), isCluster c = true ∧ isColumnGroup g = true ∧ s.part.alive (3 + c / 16) = true ∧ (((s.part.slice c).sets.find? fun x => x.group == g && x.y == y && x.drain) = none)) ∧
    (∃ (s : State) (c : Nat) (g : Nat) (y : Bool) (x : OutSet), isCluster c = true ∧ isColumnGroup g = true ∧ s.part.alive (3 + c / 16) = true ∧ (((s.part.slice c).sets.find? fun x => x.group == g && x.y == y && x.drain) = some x)) ∧
    (∃ (s : State) (id : Nat), s.part.job id = none) ∧
    (∃ (s : State) (id : Nat) (j : JobRun), s.part.job id = some j ∧ s.part.alive (3 + jobHome j.job 0 / 16) = true ∧ j.whole = false) ∧
    (∃ (s : State) (id : Nat) (j : JobRun), s.part.job id = some j ∧ s.part.alive (3 + jobHome j.job 0 / 16) = true ∧ j.whole = true) ∧
    (∃ (s : State) (c : Nat) (q : Machine.Part), isCluster c = true ∧ s.part.alive (3 + c / 16) = true ∧ q = s.part.endLostWork c ∧ (∀ w ∈ (s.part.slice c).work, s.part.workLost w = false)) ∧
    (∃ (s : State) (c : Nat) (q : Machine.Part), isCluster c = true ∧ s.part.alive (3 + c / 16) = true ∧ q = s.part.endLostWork c ∧ (takeFirst (fun w => w.isLadder && !q.workWaits w) (q.slice c).work = none)) ∧
    (∃ (s : State) (c : Nat) (q : Machine.Part) (id : Nat) (rest : List FbWork), isCluster c = true ∧ s.part.alive (3 + c / 16) = true ∧ q = s.part.endLostWork c ∧ (takeFirst (fun w => w.isLadder && !q.workWaits w) (q.slice c).work = some (.ladder id, rest)) ∧ q.job id = none) ∧
    (∃ (s : State) (c : Nat) (q : Machine.Part) (id : Nat) (rest : List FbWork) (r : JobRun), isCluster c = true ∧ s.part.alive (3 + c / 16) = true ∧ q = s.part.endLostWork c ∧ (takeFirst (fun w => w.isLadder && !q.workWaits w) (q.slice c).work = some (.ladder id, rest)) ∧ q.job id = some r ∧ q.bindAll r.job (List.range r.job.homes.length) = none) ∧
    (∃ (s : State) (c : Nat) (q : Machine.Part) (id : Nat) (rest : List FbWork) (r : JobRun) (p : Machine.Part), isCluster c = true ∧ s.part.alive (3 + c / 16) = true ∧ q = s.part.endLostWork c ∧ (takeFirst (fun w => w.isLadder && !q.workWaits w) (q.slice c).work = some (.ladder id, rest)) ∧ q.job id = some r ∧ q.bindAll r.job (List.range r.job.homes.length) = some p) ∧
    (∃ (s : State) (c : Nat) (q : Machine.Part) (work : List FbWork), isCluster c = true ∧ s.part.alive (3 + c / 16) = true ∧ q = s.part.endLostWork c ∧ (work = (q.slice c).work.filter FbWork.isLadder ++ (q.slice c).work.filter (fun w => !w.isLadder)) ∧ (takeFirst (fun w => !q.workWaits w) work = none)) ∧
    (∃ (s : State) (c : Nat) (q : Machine.Part) (work : List FbWork) (id : Nat) (rest : List FbWork), isCluster c = true ∧ s.part.alive (3 + c / 16) = true ∧ q = s.part.endLostWork c ∧ (work = (q.slice c).work.filter FbWork.isLadder ++ (q.slice c).work.filter (fun w => !w.isLadder)) ∧ (takeFirst (fun w => !q.workWaits w) work = some (.ladder id, rest))) ∧
    (∃ (s : State) (c : Nat) (q : Machine.Part) (work : List FbWork) (r : MvmReq) (rest : List FbWork), isCluster c = true ∧ s.part.alive (3 + c / 16) = true ∧ q = s.part.endLostWork c ∧ (work = (q.slice c).work.filter FbWork.isLadder ++ (q.slice c).work.filter (fun w => !w.isLadder)) ∧ (takeFirst (fun w => !q.workWaits w) work = some (.mvm r, rest)) ∧ q.job r.job = none) ∧
    (∃ (s : State) (c : Nat) (q : Machine.Part) (work : List FbWork) (r : MvmReq) (rest : List FbWork) (j : JobRun) (h : Nat) (g : Nat), isCluster c = true ∧ s.part.alive (3 + c / 16) = true ∧ q = s.part.endLostWork c ∧ (work = (q.slice c).work.filter FbWork.isLadder ++ (q.slice c).work.filter (fun w => !w.isLadder)) ∧ (takeFirst (fun w => !q.workWaits w) work = some (.mvm r, rest)) ∧ q.job r.job = some j ∧ nth (0, 0) j.job.homes r.block = (h, g) ∧ (q.slice h).bind r.job (512 * r.block) (blockGroups g) = none) ∧
    (∃ (s : State) (c : Nat) (q : Machine.Part) (work : List FbWork) (r : MvmReq) (rest : List FbWork) (j : JobRun) (h : Nat) (g : Nat) (hs : Slice), isCluster c = true ∧ s.part.alive (3 + c / 16) = true ∧ q = s.part.endLostWork c ∧ (work = (q.slice c).work.filter FbWork.isLadder ++ (q.slice c).work.filter (fun w => !w.isLadder)) ∧ (takeFirst (fun w => !q.workWaits w) work = some (.mvm r, rest)) ∧ q.job r.job = some j ∧ nth (0, 0) j.job.homes r.block = (h, g) ∧ (q.slice h).bind r.job (512 * r.block) (blockGroups g) = some hs) ∧
    (∃ (s : State) (k : Nat), isBank k = true ∧ s.part.alive (3 + k / 2048) = true ∧ ((s.part.bank k).probing = false ∨ s.part.probesLeft k = true)) ∧
    (∃ (s : State) (k : Nat), isBank k = true ∧ s.part.alive (3 + k / 2048) = true ∧ (s.part.bank k).probing = true ∧ s.part.probesLeft k = false) ∧
    (∃ (s : State) (i : Nat) (t : Nat) (k : Nat) (pk : Bytes), Running s i 0xF4 pk ∧ par pk 1 1 < 2 ∧ t = 1024 * par pk 0 1 + par pk 2 2 ∧ k = 2 * t + par pk 1 1 ∧ (s.part.tileService t = false ∨ (s.part.tile t).ready = false)) ∧
    (∃ (s : State) (i : Nat) (t : Nat) (k : Nat) (pk : Bytes), Running s i 0xF4 pk ∧ par pk 1 1 < 2 ∧ t = 1024 * par pk 0 1 + par pk 2 2 ∧ k = 2 * t + par pk 1 1 ∧ s.part.tileService t = true ∧ (s.part.tile t).ready = true ∧ (s.part.bank k).st ≠ .shallow ∧ (s.part.bank k).st ≠ .deep) ∧
    (∃ (s : State) (i : Nat) (t : Nat) (k : Nat) (pk : Bytes), Running s i 0xF4 pk ∧ par pk 1 1 < 2 ∧ t = 1024 * par pk 0 1 + par pk 2 2 ∧ k = 2 * t + par pk 1 1 ∧ s.part.tileService t = true ∧ (s.part.tile t).ready = true ∧ ((s.part.bank k).st = .shallow ∨ (s.part.bank k).st = .deep)) :=
  ⟨⟨sResultsReachTheOutputStage 0, 4, by decide +kernel⟩,
   (let s : State := sResultsReachTheOutputStage 1; let t : Nat := 4; let r : MvmRun := ((s.part.tile t).runs).head (by decide +kernel +zetaReduce); let rest : List MvmRun := ((s.part.tile t).runs).tail; let b : Bank := s.part.bank (2 * t + r.m.req.bank); ⟨s, t, r, rest, b, by decide +kernel +zetaReduce⟩),
   (let s : State := sResultsReachTheOutputStage 2; let t : Nat := 4; let r : MvmRun := ((s.part.tile t).runs).head (by decide +kernel +zetaReduce); let rest : List MvmRun := ((s.part.tile t).runs).tail; let b : Bank := s.part.bank (2 * t + r.m.req.bank); ⟨s, t, r, rest, b, by decide +kernel +zetaReduce⟩),
   (let s : State := sResultsReachTheOutputStage 0; let c : Nat := 0; let f : Flying := ((takeFirst (fun f : Flying => f.home == c) s.part.an.flying).map Prod.fst).get (by decide +kernel +zetaReduce); let rest : List Flying := ((takeFirst (fun f : Flying => f.home == c) s.part.an.flying).map Prod.snd).get (by decide +kernel +zetaReduce); ⟨s, c, f, rest, by decide +kernel +zetaReduce⟩),
   ⟨sResultsReachTheOutputStage 2, 0, by decide +kernel⟩,
   (let s : State := sResultsReachTheOutputStage 3; let c : Nat := 0; let a : Arrived := (s.part.inbox (12 + c / 16) (0xC00 + c % 16)).head (by decide +kernel +zetaReduce); let rest : List Arrived := (s.part.inbox (12 + c / 16) (0xC00 + c % 16)).tail; ⟨s, c, a, rest, by decide +kernel +zetaReduce⟩),
   (let s : State := sResultsReachTheOutputStage 4; let c : Nat := 0; let a : Arrived := (s.part.inbox (12 + c / 16) (0xC00 + c % 16)).head (by decide +kernel +zetaReduce); let rest : List Arrived := (s.part.inbox (12 + c / 16) (0xC00 + c % 16)).tail; ⟨s, c, a, rest, by decide +kernel +zetaReduce⟩),
   (let s : State := sResultsReachTheOutputStage 5; let f : Flying := ⟨0, 70, 0, 0, [1, 2, 3]⟩; let j : JobRun := (s.part.job f.job).get (by decide +kernel +zetaReduce); let g : Nat := (nth (0, 0) j.job.homes f.block).2; ⟨s, 0, f, j, g, by decide +kernel +zetaReduce⟩),
   (let s : State := sResultsReachTheOutputStage 0; let f : Flying := ⟨0, 70, 0, 0, [1, 2, 3]⟩; let j : JobRun := (s.part.job f.job).get (by decide +kernel +zetaReduce); let g : Nat := (nth (0, 0) j.job.homes f.block).2; let i : Nat := 3; let x : OutSet := ((s.part.slice f.home).setOf f.job (g + i)).get (by decide +kernel +zetaReduce); ⟨s, 0, f, j, g, i, x, by decide +kernel +zetaReduce⟩),
   ⟨sResultsReachTheOutputStage 2, 0, 3, false, by decide +kernel⟩,
   (let s : State := sResultsReachTheOutputStage 6; let c : Nat := 0; let g : Nat := 3; let y : Bool := false; let x : OutSet := (((s.part.slice c).sets.find? fun x => x.group == g && x.y == y && x.drain)).get (by decide +kernel +zetaReduce); ⟨s, c, g, y, x, by decide +kernel +zetaReduce⟩),
   ⟨sResultsReachTheOutputStage 2, 71, by decide +kernel⟩,
   (let s : State := sResultsReachTheOutputStage 2; let id : Nat := 70; let j : JobRun := (s.part.job id).get (by decide +kernel +zetaReduce); ⟨s, id, j, by decide +kernel +zetaReduce⟩),
   (let s : State := sResultsReachTheOutputStage 7; let id : Nat := 70; let j : JobRun := (s.part.job id).get (by decide +kernel +zetaReduce); ⟨s, id, j, by decide +kernel +zetaReduce⟩),
   (let s : State := sResultsReachTheOutputStage 2; let c : Nat := 0; let q : Machine.Part := s.part.endLostWork c; ⟨s, c, q, by decide +kernel +zetaReduce⟩),
   (let s : State := sResultsReachTheOutputStage 2; let c : Nat := 0; let q : Machine.Part := s.part.endLostWork c; ⟨s, c, q, by decide +kernel +zetaReduce⟩),
   (let s : State := sResultsReachTheOutputStage 8; let c : Nat := 0; let q : Machine.Part := s.part.endLostWork c; let id : Nat := ((takeFirst (fun w => w.isLadder && !q.workWaits w) (q.slice c).work).bind fun z_ => match z_ with | (.ladder a_, _) => some a_ | _ => none).get (by decide +kernel +zetaReduce); let rest : List FbWork := ((takeFirst (fun w => w.isLadder && !q.workWaits w) (q.slice c).work).bind fun z_ => match z_ with | (.ladder _, a_) => some a_ | _ => none).get (by decide +kernel +zetaReduce); ⟨s, c, q, id, rest, by decide +kernel +zetaReduce⟩),
   (let s : State := sResultsReachTheOutputStage 9; let c : Nat := 0; let q : Machine.Part := s.part.endLostWork c; let id : Nat := ((takeFirst (fun w => w.isLadder && !q.workWaits w) (q.slice c).work).bind fun z_ => match z_ with | (.ladder a_, _) => some a_ | _ => none).get (by decide +kernel +zetaReduce); let rest : List FbWork := ((takeFirst (fun w => w.isLadder && !q.workWaits w) (q.slice c).work).bind fun z_ => match z_ with | (.ladder _, a_) => some a_ | _ => none).get (by decide +kernel +zetaReduce); let r : JobRun := (q.job id).get (by decide +kernel +zetaReduce); ⟨s, c, q, id, rest, r, by decide +kernel +zetaReduce⟩),
   (let s : State := sResultsReachTheOutputStage 10; let c : Nat := 0; let q : Machine.Part := s.part.endLostWork c; let id : Nat := ((takeFirst (fun w => w.isLadder && !q.workWaits w) (q.slice c).work).bind fun z_ => match z_ with | (.ladder a_, _) => some a_ | _ => none).get (by decide +kernel +zetaReduce); let rest : List FbWork := ((takeFirst (fun w => w.isLadder && !q.workWaits w) (q.slice c).work).bind fun z_ => match z_ with | (.ladder _, a_) => some a_ | _ => none).get (by decide +kernel +zetaReduce); let r : JobRun := (q.job id).get (by decide +kernel +zetaReduce); let p : Machine.Part := (q.bindAll r.job (List.range r.job.homes.length)).get (by decide +kernel +zetaReduce); ⟨s, c, q, id, rest, r, p, by decide +kernel +zetaReduce⟩),
   (let s : State := sResultsReachTheOutputStage 2; let c : Nat := 0; let q : Machine.Part := s.part.endLostWork c; let work : List FbWork := (q.slice c).work.filter FbWork.isLadder ++ (q.slice c).work.filter (fun w => !w.isLadder); ⟨s, c, q, work, by decide +kernel +zetaReduce⟩),
   (let s : State := sResultsReachTheOutputStage 10; let c : Nat := 0; let q : Machine.Part := s.part.endLostWork c; let work : List FbWork := (q.slice c).work.filter FbWork.isLadder ++ (q.slice c).work.filter (fun w => !w.isLadder); let id : Nat := ((takeFirst (fun w => !q.workWaits w) work).bind fun z_ => match z_ with | (.ladder a_, _) => some a_ | _ => none).get (by decide +kernel +zetaReduce); let rest : List FbWork := ((takeFirst (fun w => !q.workWaits w) work).bind fun z_ => match z_ with | (.ladder _, a_) => some a_ | _ => none).get (by decide +kernel +zetaReduce); ⟨s, c, q, work, id, rest, by decide +kernel +zetaReduce⟩),
   (let s : State := sResultsReachTheOutputStage 11; let c : Nat := 0; let q : Machine.Part := s.part.endLostWork c; let work : List FbWork := (q.slice c).work.filter FbWork.isLadder ++ (q.slice c).work.filter (fun w => !w.isLadder); let r : MvmReq := ((takeFirst (fun w => !q.workWaits w) work).bind fun z_ => match z_ with | (.mvm a_, _) => some a_ | _ => none).get (by decide +kernel +zetaReduce); let rest : List FbWork := ((takeFirst (fun w => !q.workWaits w) work).bind fun z_ => match z_ with | (.mvm _, a_) => some a_ | _ => none).get (by decide +kernel +zetaReduce); ⟨s, c, q, work, r, rest, by decide +kernel +zetaReduce⟩),
   (let s : State := sResultsReachTheOutputStage 12; let c : Nat := 0; let q : Machine.Part := s.part.endLostWork c; let work : List FbWork := (q.slice c).work.filter FbWork.isLadder ++ (q.slice c).work.filter (fun w => !w.isLadder); let r : MvmReq := ((takeFirst (fun w => !q.workWaits w) work).bind fun z_ => match z_ with | (.mvm a_, _) => some a_ | _ => none).get (by decide +kernel +zetaReduce); let rest : List FbWork := ((takeFirst (fun w => !q.workWaits w) work).bind fun z_ => match z_ with | (.mvm _, a_) => some a_ | _ => none).get (by decide +kernel +zetaReduce); let j : JobRun := (q.job r.job).get (by decide +kernel +zetaReduce); let h : Nat := (nth (0, 0) j.job.homes r.block).1; let g : Nat := (nth (0, 0) j.job.homes r.block).2; ⟨s, c, q, work, r, rest, j, h, g, by decide +kernel +zetaReduce⟩),
   (let s : State := sResultsReachTheOutputStage 13; let c : Nat := 0; let q : Machine.Part := s.part.endLostWork c; let work : List FbWork := (q.slice c).work.filter FbWork.isLadder ++ (q.slice c).work.filter (fun w => !w.isLadder); let r : MvmReq := ((takeFirst (fun w => !q.workWaits w) work).bind fun z_ => match z_ with | (.mvm a_, _) => some a_ | _ => none).get (by decide +kernel +zetaReduce); let rest : List FbWork := ((takeFirst (fun w => !q.workWaits w) work).bind fun z_ => match z_ with | (.mvm _, a_) => some a_ | _ => none).get (by decide +kernel +zetaReduce); let j : JobRun := (q.job r.job).get (by decide +kernel +zetaReduce); let h : Nat := (nth (0, 0) j.job.homes r.block).1; let g : Nat := (nth (0, 0) j.job.homes r.block).2; let hs : Slice := ((q.slice h).bind r.job (512 * r.block) (blockGroups g)).get (by decide +kernel +zetaReduce); ⟨s, c, q, work, r, rest, j, h, g, hs, by decide +kernel +zetaReduce⟩),
   ⟨sResultsReachTheOutputStage 2, 9, by decide +kernel⟩,
   ⟨sResultsReachTheOutputStage 14, 9, by decide +kernel⟩,
   (let s : State := sResultsReachTheOutputStage 15; let i : Nat := 3; let pk : Bytes := ((s.part.ses i).cur).get (by decide +kernel +zetaReduce); ⟨s, i, 4, 9, pk, by decide +kernel +zetaReduce⟩),
   (let s : State := sResultsReachTheOutputStage 16; let i : Nat := 3; let pk : Bytes := ((s.part.ses i).cur).get (by decide +kernel +zetaReduce); ⟨s, i, 4, 9, pk, by decide +kernel +zetaReduce⟩),
   (let s : State := sResultsReachTheOutputStage 17; let i : Nat := 3; let pk : Bytes := ((s.part.ses i).cur).get (by decide +kernel +zetaReduce); ⟨s, i, 4, 9, pk, by decide +kernel +zetaReduce⟩)⟩

/-- States for `wit_CalibrationCommandsRun`. -/
def sCalibrationCommandsRun (n : Nat) : State :=
  ([tmp id id id id,
    calAt (calW 65535) id,
    calAt 0 id,
    calAt (calW 8) id,
    calAt 0 (fun t => { t with cal := some cal0 }),
    calAt 0 (fun t => { t with cap := { t.cap with emptyAt := some (pOn.now + 8) } }),
    calAt 0 (fun t => { t with cap := { t.cap with ring := [(1, 2)], count := 1, emptyAt := some 8 } }),
    calAt 0 (fun t => { t with cal := some { cal0 with start := 8 } })] : List State).getD n State.reset

theorem wit_CalibrationCommandsRun :
    (∃ (s : State) (die : Nat) (unit : Nat) (t : Nat), isTileUnit die unit = true ∧ s.part.alive (dieDomain die) = true ∧ t = (die - 12) * 1024 + (unit - 0x800) ∧ s.part.headCmd die unit 0xB0 = none) ∧
    (∃ (s : State) (die : Nat) (unit : Nat) (t : Nat) (m : DieMsg) (w : Nat) (st : Nat), isTileUnit die unit = true ∧ s.part.alive (dieDomain die) = true ∧ t = (die - 12) * 1024 + (unit - 0x800) ∧ s.part.headCmd die unit 0xB0 = some m ∧ w = par m.payload 0 8 ∧ calFail w (s.part.tile t).calBusy = some st) ∧
    (∃ (s : State) (die : Nat) (unit : Nat) (t : Nat) (m : DieMsg) (w : Nat), isTileUnit die unit = true ∧ s.part.alive (dieDomain die) = true ∧ t = (die - 12) * 1024 + (unit - 0x800) ∧ s.part.headCmd die unit 0xB0 = some m ∧ w = par m.payload 0 8 ∧ calFail w (s.part.tile t).calBusy = none ∧ calRepeat w = 0) ∧
    (∃ (s : State) (die : Nat) (unit : Nat) (t : Nat) (m : DieMsg) (w : Nat), isTileUnit die unit = true ∧ s.part.alive (dieDomain die) = true ∧ t = (die - 12) * 1024 + (unit - 0x800) ∧ s.part.headCmd die unit 0xB0 = some m ∧ w = par m.payload 0 8 ∧ calFail w (s.part.tile t).calBusy = none ∧ 0 < calRepeat w) ∧
    (∃ (s : State) (t : Nat) (b : Accessor), isTile t = true ∧ s.part.alive (3 + t / 1024) = true ∧ b = .host ∧ s.part.tileService t = true) ∧
    (∃ (s : State) (t : Nat) (b : Accessor) (w : Nat) (st : Nat), isTile t = true ∧ s.part.alive (3 + t / 1024) = true ∧ (b ≠ .host ∨ s.part.tileService t = false) ∧ calFail w (s.part.tile t).calBusy = some st) ∧
    (∃ (s : State) (t : Nat) (b : Accessor) (w : Nat), isTile t = true ∧ s.part.alive (3 + t / 1024) = true ∧ (b ≠ .host ∨ s.part.tileService t = false) ∧ calFail w (s.part.tile t).calBusy = none ∧ calRepeat w = 0) ∧
    (∃ (s : State) (t : Nat) (b : Accessor) (w : Nat), isTile t = true ∧ s.part.alive (3 + t / 1024) = true ∧ (b ≠ .host ∨ s.part.tileService t = false) ∧ calFail w (s.part.tile t).calBusy = none ∧ 0 < calRepeat w) ∧
    (∃ (s : State) (t : Nat) (b : Accessor), isTile t = true ∧ s.part.alive (3 + t / 1024) = true ∧ (b ≠ .host ∨ s.part.tileService t = false) ∧ (s.part.tile t).cal = none) ∧
    (∃ (s : State) (t : Nat) (b : Accessor) (c : CalRun), isTile t = true ∧ s.part.alive (3 + t / 1024) = true ∧ (b ≠ .host ∨ s.part.tileService t = false) ∧ (s.part.tile t).cal = some c) ∧
    (∃ (s : State) (t : Nat) (b : Accessor) (w : Nat), isTile t = true ∧ s.part.alive (3 + t / 1024) = true ∧ (b ≠ .host ∨ s.part.tileService t = false) ∧ (w % 512 + 512 - (s.part.tile t).cap.rd) % 512 ≤ (s.part.tile t).cap.count) ∧
    (∃ (s : State) (t : Nat) (b : Accessor) (w : Nat), isTile t = true ∧ s.part.alive (3 + t / 1024) = true ∧ (b ≠ .host ∨ s.part.tileService t = false) ∧ (s.part.tile t).cap.count < (w % 512 + 512 - (s.part.tile t).cap.rd) % 512) ∧
    (∃ (s : State) (t : Nat), isTile t = true ∧ s.part.alive (3 + t / 1024) = true ∧ (s.part.tile t).cap.emptyAt = none) ∧
    (∃ (s : State) (t : Nat) (a : Nat), isTile t = true ∧ s.part.alive (3 + t / 1024) = true ∧ (s.part.tile t).cap.emptyAt = some a ∧ s.part.now < a) ∧
    (∃ (s : State) (t : Nat) (a : Nat), isTile t = true ∧ s.part.alive (3 + t / 1024) = true ∧ (s.part.tile t).cap.emptyAt = some a ∧ a ≤ s.part.now) ∧
    (∃ (s : State) (t : Nat), isTile t = true ∧ s.part.alive (3 + t / 1024) = true ∧ (s.part.tile t).cal = none) ∧
    (∃ (s : State) (t : Nat) (c : CalRun), isTile t = true ∧ s.part.alive (3 + t / 1024) = true ∧ (s.part.tile t).cal = some c ∧ s.part.now < c.start + 8 * c.phases) ∧
    (∃ (s : State) (t : Nat) (c : CalRun), isTile t = true ∧ s.part.alive (3 + t / 1024) = true ∧ (s.part.tile t).cal = some c ∧ c.start + 8 * c.phases ≤ s.part.now) :=
  ⟨(let die : Nat := 12; let unit : Nat := 0x804; let t : Nat := (die - 12) * 1024 + (unit - 0x800); ⟨sCalibrationCommandsRun 0, die, unit, t, by decide +kernel +zetaReduce⟩),
   (let s : State := sCalibrationCommandsRun 1; let die : Nat := 12; let unit : Nat := 0x804; let t : Nat := (die - 12) * 1024 + (unit - 0x800); let m : DieMsg := (s.part.headCmd die unit 0xB0).get (by decide +kernel +zetaReduce); let w : Nat := par m.payload 0 8; let st : Nat := (calFail w (s.part.tile t).calBusy).get (by decide +kernel +zetaReduce); ⟨s, die, unit, t, m, w, st, by decide +kernel +zetaReduce⟩),
   (let s : State := sCalibrationCommandsRun 2; let die : Nat := 12; let unit : Nat := 0x804; let t : Nat := (die - 12) * 1024 + (unit - 0x800); let m : DieMsg := (s.part.headCmd die unit 0xB0).get (by decide +kernel +zetaReduce); let w : Nat := par m.payload 0 8; ⟨s, die, unit, t, m, w, by decide +kernel +zetaReduce⟩),
   (let s : State := sCalibrationCommandsRun 3; let die : Nat := 12; let unit : Nat := 0x804; let t : Nat := (die - 12) * 1024 + (unit - 0x800); let m : DieMsg := (s.part.headCmd die unit 0xB0).get (by decide +kernel +zetaReduce); let w : Nat := par m.payload 0 8; ⟨s, die, unit, t, m, w, by decide +kernel +zetaReduce⟩),
   (let b : Accessor := .host; ⟨sCalibrationCommandsRun 0, 4, b, by decide +kernel +zetaReduce⟩),
   (let s : State := sCalibrationCommandsRun 4; let t : Nat := 4; let w : Nat := calW 8; let st : Nat := (calFail w (s.part.tile t).calBusy).get (by decide +kernel +zetaReduce); ⟨s, t, .host, w, st, by decide +kernel +zetaReduce⟩),
   ⟨sCalibrationCommandsRun 1, 4, .host, calW 0, by decide +kernel⟩,
   ⟨sCalibrationCommandsRun 1, 4, .host, calW 8, by decide +kernel⟩,
   ⟨sCalibrationCommandsRun 1, 4, .host, by decide +kernel⟩,
   (let s : State := sCalibrationCommandsRun 4; let t : Nat := 4; let c : CalRun := ((s.part.tile t).cal).get (by decide +kernel +zetaReduce); ⟨s, t, .host, c, by decide +kernel +zetaReduce⟩),
   ⟨sCalibrationCommandsRun 1, 4, .host, calW 8, by decide +kernel⟩,
   ⟨sCalibrationCommandsRun 1, 4, .host, 0x1FFC, by decide +kernel⟩,
   ⟨sCalibrationCommandsRun 1, 4, by decide +kernel⟩,
   (let s : State := sCalibrationCommandsRun 5; let t : Nat := 4; let a : Nat := ((s.part.tile t).cap.emptyAt).get (by decide +kernel +zetaReduce); ⟨s, t, a, by decide +kernel +zetaReduce⟩),
   (let s : State := sCalibrationCommandsRun 6; let t : Nat := 4; let a : Nat := ((s.part.tile t).cap.emptyAt).get (by decide +kernel +zetaReduce); ⟨s, t, a, by decide +kernel +zetaReduce⟩),
   ⟨sCalibrationCommandsRun 1, 4, by decide +kernel⟩,
   (let s : State := sCalibrationCommandsRun 4; let t : Nat := 4; let c : CalRun := ((s.part.tile t).cal).get (by decide +kernel +zetaReduce); ⟨s, t, c, by decide +kernel +zetaReduce⟩),
   (let s : State := sCalibrationCommandsRun 7; let t : Nat := 4; let c : CalRun := ((s.part.tile t).cal).get (by decide +kernel +zetaReduce); ⟨s, t, c, by decide +kernel +zetaReduce⟩)⟩

/-- States for `wit_AnnealAndCalibrationRounds`. -/
def sAnnealAndCalibrationRounds (n : Nat) : State :=
  ([run pOn seedPk,
    annAt (fun b => { b with st := .shallow, life := 9 }) id id,
    annVer,
    annAt id id (fun a => { a with anneal := some ⟨false, 9, annMsg, 0, words5 0⟩ }),
    annAt id (fun t => { t with cal := some cal0 }) id,
    annRows,
    annAt (fun b => { b with st := .deep }) id id,
    annAt id id (fun a => { a with anneal := some ⟨true, 9, annMsg, 0, []⟩ }),
    annAt id id (fun a => { a with mapAt := some 1, calRound := 3 }),
    annAt id id (fun a => { a with mapAt := some 1, calRound := 3, calActive := true })] : List State).getD n State.reset

theorem wit_AnnealAndCalibrationRounds :
    (∃ (s : State) (k : Nat), isBank k = true ∧ s.part.alive (3 + k / 2048) = true ∧ (s.part.cluster (tileCluster (k / 2))).service = false) ∧
    (∃ (s : State) (k : Nat), isBank k = true ∧ s.part.alive (3 + k / 2048) = true ∧ (s.part.cluster (tileCluster (k / 2))).service = true ∧ s.part.ownerVer (s.part.bank k) = none) ∧
    (∃ (s : State) (k : Nat) (v : Version), isBank k = true ∧ s.part.alive (3 + k / 2048) = true ∧ (s.part.cluster (tileCluster (k / 2))).service = true ∧ s.part.ownerVer (s.part.bank k) = some v) ∧
    (∃ (s : State) (k : Nat), isBank k = true ∧ s.part.alive (3 + k / 2048) = true ∧ s.part.headCmd (12 + k / 2048) 0xC10 0xB8 = none) ∧
    (∃ (s : State) (k : Nat) (m : DieMsg) (a : Acd), isBank k = true ∧ s.part.alive (3 + k / 2048) = true ∧ s.part.headCmd (12 + k / 2048) 0xC10 0xB8 = some m ∧ a = s.part.acd (k / 2048) ∧ (a.anneal ≠ none ∨ s.part.tileIdle (k / 2) = false)) ∧
    (∃ (s : State) (k : Nat) (m : DieMsg) (a : Acd), isBank k = true ∧ s.part.alive (3 + k / 2048) = true ∧ s.part.headCmd (12 + k / 2048) 0xC10 0xB8 = some m ∧ a = s.part.acd (k / 2048) ∧ (s.part.tile (k / 2)).cal ≠ none) ∧
    (∃ (s : State) (k : Nat) (m : DieMsg) (a : Acd), isBank k = true ∧ s.part.alive (3 + k / 2048) = true ∧ s.part.headCmd (12 + k / 2048) 0xC10 0xB8 = some m ∧ a = s.part.acd (k / 2048) ∧ (s.part.rowsWait k = true ∨ s.part.rowsLost k = true)) ∧
    (∃ (s : State) (k : Nat) (m : DieMsg) (a : Acd), isBank k = true ∧ s.part.alive (3 + k / 2048) = true ∧ s.part.headCmd (12 + k / 2048) 0xC10 0xB8 = some m ∧ a = s.part.acd (k / 2048) ∧ a.anneal = none ∧ s.part.tileIdle (k / 2) = true ∧ (s.part.tile (k / 2)).cal = none) ∧
    (∃ (s : State) (k : Nat) (m : DieMsg) (a : Acd), isBank k = true ∧ s.part.alive (3 + k / 2048) = true ∧ s.part.headCmd (12 + k / 2048) 0xC10 0xB8 = some m ∧ a = s.part.acd (k / 2048) ∧ a.anneal = none ∧ s.part.tileIdle (k / 2) = true ∧ s.part.rowsWait k = false ∧ s.part.rowsLost k = false ∧ (s.part.bank k).st ≠ .deep) ∧
    (∃ (s : State) (k : Nat) (m : DieMsg) (a : Acd), isBank k = true ∧ s.part.alive (3 + k / 2048) = true ∧ s.part.headCmd (12 + k / 2048) 0xC10 0xB8 = some m ∧ a = s.part.acd (k / 2048) ∧ a.anneal = none ∧ s.part.tileIdle (k / 2) = true ∧ s.part.rowsWait k = false ∧ s.part.rowsLost k = false ∧ (s.part.bank k).st = .deep) ∧
    (∃ (s : State) (a : Nat), isAcd a = true ∧ s.part.alive (3 + a) = true ∧ (s.part.acd a).anneal = none) ∧
    (∃ (s : State) (a : Nat) (r : AnnealRun), isAcd a = true ∧ s.part.alive (3 + a) = true ∧ (s.part.acd a).anneal = some r ∧ (r.probe = true ∨ r.words.length < 5)) ∧
    (∃ (s : State) (a : Nat) (r : AnnealRun), isAcd a = true ∧ s.part.alive (3 + a) = true ∧ (s.part.acd a).anneal = some r ∧ r.probe = false ∧ 5 ≤ r.words.length) ∧
    (∃ (s : State) (a : Nat), isAcd a = true ∧ s.part.alive (3 + a) = true ∧ ((s.part.acd a).mapAt = none ∨ (s.part.acd a).calActive = true ∨ 8 ≤ (s.part.acd a).calRound ∨ s.part.boot.stage < 2)) ∧
    (∃ (s : State) (a : Nat), isAcd a = true ∧ s.part.alive (3 + a) = true ∧ (s.part.acd a).mapAt ≠ none ∧ (s.part.acd a).calActive = false ∧ (s.part.acd a).calRound < 8 ∧ 2 ≤ s.part.boot.stage) ∧
    (∃ (s : State) (a : Nat), isAcd a = true ∧ s.part.alive (3 + a) = true ∧ (s.part.acd a).calActive = false) ∧
    (∃ (s : State) (a : Nat) (c : Nat), isAcd a = true ∧ s.part.alive (3 + a) = true ∧ (s.part.acd a).calActive = true ∧ c = 16 * a + 2 * (s.part.acd a).calRound) ∧
    (∃ (s : State) (i : Nat) (k : Bytes), Running s i 0x07 k) :=
  ⟨⟨sAnnealAndCalibrationRounds 0, 9, by decide +kernel⟩,
   ⟨sAnnealAndCalibrationRounds 1, 9, by decide +kernel⟩,
   (let s : State := sAnnealAndCalibrationRounds 2; let k : Nat := 9; let v : Version := (s.part.ownerVer (s.part.bank k)).get (by decide +kernel +zetaReduce); ⟨s, k, v, by decide +kernel +zetaReduce⟩),
   ⟨sAnnealAndCalibrationRounds 0, 9, by decide +kernel⟩,
   (let s : State := sAnnealAndCalibrationRounds 3; let k : Nat := 9; let m : DieMsg := (s.part.headCmd (12 + k / 2048) 0xC10 0xB8).get (by decide +kernel +zetaReduce); let a : Acd := s.part.acd (k / 2048); ⟨s, k, m, a, by decide +kernel +zetaReduce⟩),
   (let s : State := sAnnealAndCalibrationRounds 4; let k : Nat := 9; let m : DieMsg := (s.part.headCmd (12 + k / 2048) 0xC10 0xB8).get (by decide +kernel +zetaReduce); let a : Acd := s.part.acd (k / 2048); ⟨s, k, m, a, by decide +kernel +zetaReduce⟩),
   (let s : State := sAnnealAndCalibrationRounds 5; let k : Nat := 9; let m : DieMsg := (s.part.headCmd (12 + k / 2048) 0xC10 0xB8).get (by decide +kernel +zetaReduce); let a : Acd := s.part.acd (k / 2048); ⟨s, k, m, a, by decide +kernel +zetaReduce⟩),
   (let s : State := sAnnealAndCalibrationRounds 1; let k : Nat := 9; let m : DieMsg := (s.part.headCmd (12 + k / 2048) 0xC10 0xB8).get (by decide +kernel +zetaReduce); let a : Acd := s.part.acd (k / 2048); ⟨s, k, m, a, by decide +kernel +zetaReduce⟩),
   (let s : State := sAnnealAndCalibrationRounds 1; let k : Nat := 9; let m : DieMsg := (s.part.headCmd (12 + k / 2048) 0xC10 0xB8).get (by decide +kernel +zetaReduce); let a : Acd := s.part.acd (k / 2048); ⟨s, k, m, a, by decide +kernel +zetaReduce⟩),
   (let s : State := sAnnealAndCalibrationRounds 6; let k : Nat := 9; let m : DieMsg := (s.part.headCmd (12 + k / 2048) 0xC10 0xB8).get (by decide +kernel +zetaReduce); let a : Acd := s.part.acd (k / 2048); ⟨s, k, m, a, by decide +kernel +zetaReduce⟩),
   ⟨sAnnealAndCalibrationRounds 1, 0, by decide +kernel⟩,
   (let s : State := sAnnealAndCalibrationRounds 7; let a : Nat := 0; let r : AnnealRun := ((s.part.acd a).anneal).get (by decide +kernel +zetaReduce); ⟨s, a, r, by decide +kernel +zetaReduce⟩),
   (let s : State := sAnnealAndCalibrationRounds 3; let a : Nat := 0; let r : AnnealRun := ((s.part.acd a).anneal).get (by decide +kernel +zetaReduce); ⟨s, a, r, by decide +kernel +zetaReduce⟩),
   ⟨sAnnealAndCalibrationRounds 1, 0, by decide +kernel⟩,
   ⟨sAnnealAndCalibrationRounds 8, 0, by decide +kernel⟩,
   ⟨sAnnealAndCalibrationRounds 1, 0, by decide +kernel⟩,
   (let s : State := sAnnealAndCalibrationRounds 9; let a : Nat := 0; let c : Nat := 16 * a + 2 * (s.part.acd a).calRound; ⟨s, a, c, by decide +kernel +zetaReduce⟩),
   (let s : State := sAnnealAndCalibrationRounds 0; let i : Nat := 3; let k : Bytes := ((s.part.ses i).cur).get (by decide +kernel +zetaReduce); ⟨s, i, k, by decide +kernel +zetaReduce⟩)⟩

/-- States for `wit_VersionsAreLoadedAndRetired`. -/
def sVersionsAreLoadedAndRetired (n : Nat) : State :=
  ([{ ldr with part := { ldr.part with host := { ldr.part.host with reads := [⟨6, 3, 0, 4096, 64⟩] } } },
    run pOn (ldPk 1 2 4096),
    run (mdl id) (ldPk 1 2 0),
    run (mdl id) (ldPk 2 2 0),
    run pOn (verPk 0x21 1 0),
    vM (fun v => { v with st := .loading }) (verPk 0x21 1 0),
    vM (fun v => { v with st := .retiring }) (verPk 0x21 1 0),
    vM (fun v => { v with st := .unavailable, pins := 1 }) (verPk 0x21 1 0),
    vM (fun v => { v with st := .unavailable }) (verPk 0x21 1 0),
    vM (fun v => { v with graph := some { graph0 with base := some (5, 1) } }) (verPk 0x21 1 0),
    vM id (verPk 0x21 1 0),
    run pOn (verPk 0x22 1 0),
    vM (fun v => { v with st := .loading }) (verPk 0x22 1 0),
    run { twoV with models := { twoV.models with table := [(0, { ver0 with graph := some { graph0 with base := some (5, 1) } }), (3, { ver0 with version := 2, current := false })] } } (verPk 0x22 2 0),
    run twoV (verPk 0x22 2 0),
    run pOn (verPk 0x23 1 0),
    run twoV (verPk 0x23 2 0),
    st { pOn with boot := { pOn.boot with fullAt := pOn.now } }] : List State).getD n State.reset

theorem wit_VersionsAreLoadedAndRetired :
    (∃ (s : State) (i : Nat) (k : Bytes), Running s i 0x20 k ∧ (∃ r ∈ s.part.host.reads, r.kind = 6 ∧ r.sess = i)) ∧
    (∃ (s : State) (i : Nat) (k : Bytes), Running s i 0x20 k ∧ (∀ r ∈ s.part.host.reads, ¬(r.kind = 6 ∧ r.sess = i)) ∧ loadSources s.part.fabCfg.partId k = true ∧ par k 24 8 ≠ 0) ∧
    (∃ (s : State) (i : Nat) (k : Bytes) (table : List Byte) (st : Nat), Running s i 0x20 k ∧ (∀ r ∈ s.part.host.reads, ¬(r.kind = 6 ∧ r.sess = i)) ∧ (loadSources s.part.fabCfg.partId k = false ∨ par k 24 8 = 0) ∧ table = k.drop (80 + 16 * cdiv (2 * par k 10 1) 16) ∧ s.part.loadFail (s.part.ses i).feat0 k table = some st) ∧
    (∃ (s : State) (i : Nat) (k : Bytes) (table : List Byte) (e : Nat), Running s i 0x20 k ∧ (∀ r ∈ s.part.host.reads, ¬(r.kind = 6 ∧ r.sess = i)) ∧ (loadSources s.part.fabCfg.partId k = false ∨ par k 24 8 = 0) ∧ table = k.drop (80 + 16 * cdiv (2 * par k 10 1) 16) ∧ s.part.loadFail (s.part.ses i).feat0 k table = none ∧ (((List.range 8192).find? fun e => (s.part.ver e).isNone) = some e)) ∧
    (∃ (s : State) (i : Nat) (k : Bytes), Running s i 0x21 k ∧ s.part.entryOf (par k 0 4) (par k 4 2) = none) ∧
    (∃ (s : State) (i : Nat) (k : Bytes) (e : Nat) (v : Version), Running s i 0x21 k ∧ s.part.entryOf (par k 0 4) (par k 4 2) = some e ∧ s.part.ver e = some v ∧ v.st = .loading) ∧
    (∃ (s : State) (i : Nat) (k : Bytes) (e : Nat) (v : Version), Running s i 0x21 k ∧ s.part.entryOf (par k 0 4) (par k 4 2) = some e ∧ s.part.ver e = some v ∧ v.st = .retiring) ∧
    (∃ (s : State) (i : Nat) (k : Bytes) (e : Nat) (v : Version), Running s i 0x21 k ∧ s.part.entryOf (par k 0 4) (par k 4 2) = some e ∧ s.part.ver e = some v ∧ v.st = .unavailable ∧ v.pins ≠ 0) ∧
    (∃ (s : State) (i : Nat) (k : Bytes) (e : Nat) (v : Version), Running s i 0x21 k ∧ s.part.entryOf (par k 0 4) (par k 4 2) = some e ∧ s.part.ver e = some v ∧ v.st = .unavailable ∧ v.pins = 0) ∧
    (∃ (s : State) (i : Nat) (k : Bytes) (e : Nat) (v : Version), Running s i 0x21 k ∧ s.part.entryOf (par k 0 4) (par k 4 2) = some e ∧ s.part.ver e = some v ∧ v.st = .available ∧ s.part.baseProtected e = true) ∧
    (∃ (s : State) (i : Nat) (k : Bytes) (e : Nat) (v : Version), Running s i 0x21 k ∧ s.part.entryOf (par k 0 4) (par k 4 2) = some e ∧ s.part.ver e = some v ∧ v.st = .available ∧ s.part.baseProtected e = false) ∧
    (∃ (s : State) (i : Nat) (k : Bytes), Running s i 0x22 k ∧ s.part.entryOf (par k 0 4) (par k 4 2) = none) ∧
    (∃ (s : State) (i : Nat) (k : Bytes) (e : Nat) (v : Version), Running s i 0x22 k ∧ s.part.entryOf (par k 0 4) (par k 4 2) = some e ∧ s.part.ver e = some v ∧ v.st ≠ .available) ∧
    (∃ (s : State) (i : Nat) (k : Bytes) (e : Nat) (v : Version), Running s i 0x22 k ∧ s.part.entryOf (par k 0 4) (par k 4 2) = some e ∧ s.part.ver e = some v ∧ v.st = .available ∧ v.current = false ∧ s.part.switchBlocked e v.model ((par k 6 1).testBit 0) = true) ∧
    (∃ (s : State) (i : Nat) (k : Bytes) (e : Nat) (v : Version), Running s i 0x22 k ∧ s.part.entryOf (par k 0 4) (par k 4 2) = some e ∧ s.part.ver e = some v ∧ v.st = .available ∧ (v.current = true ∨ s.part.switchBlocked e v.model ((par k 6 1).testBit 0) = false)) ∧
    (∃ (s : State) (i : Nat) (k : Bytes), Running s i 0x23 k ∧ s.part.entryOf (par k 0 4) (par k 4 2) = none) ∧
    (∃ (s : State) (i : Nat) (k : Bytes) (e : Nat), Running s i 0x23 k ∧ s.part.entryOf (par k 0 4) (par k 4 2) = some e) ∧
    (∃ (s : State), s.part.alive 1 = true ∧ (s.part.boot.stage ≠ 4 ∨ s.part.models.orphansDone = true ∨ s.part.now < s.part.boot.fullAt + 60000000000)) ∧
    (∃ (s : State), s.part.alive 1 = true ∧ s.part.boot.stage = 4 ∧ s.part.models.orphansDone = false ∧ s.part.boot.fullAt + 60000000000 ≤ s.part.now) :=
  ⟨(let s : State := sVersionsAreLoadedAndRetired 0; let i : Nat := 3; let k : Bytes := ((s.part.ses i).cur).get (by decide +kernel +zetaReduce); ⟨s, i, k, by decide +kernel +zetaReduce, by decide +kernel +zetaReduce⟩),
   (let s : State := sVersionsAreLoadedAndRetired 1; let i : Nat := 3; let k : Bytes := ((s.part.ses i).cur).get (by decide +kernel +zetaReduce); ⟨s, i, k, by decide +kernel +zetaReduce⟩),
   (let s : State := sVersionsAreLoadedAndRetired 2; let i : Nat := 3; let k : Bytes := ((s.part.ses i).cur).get (by decide +kernel +zetaReduce); let table : List Byte := k.drop (80 + 16 * cdiv (2 * par k 10 1) 16); let st : Nat := (s.part.loadFail (s.part.ses i).feat0 k table).get (by decide +kernel +zetaReduce); ⟨s, i, k, table, st, by decide +kernel +zetaReduce⟩),
   (let s : State := sVersionsAreLoadedAndRetired 3; let i : Nat := 3; let k : Bytes := ((s.part.ses i).cur).get (by decide +kernel +zetaReduce); let table : List Byte := k.drop (80 + 16 * cdiv (2 * par k 10 1) 16); let e : Nat := (((List.range 8192).find? fun e => (s.part.ver e).isNone)).get (by decide +kernel +zetaReduce); ⟨s, i, k, table, e, by decide +kernel +zetaReduce⟩),
   (let s : State := sVersionsAreLoadedAndRetired 4; let i : Nat := 3; let k : Bytes := ((s.part.ses i).cur).get (by decide +kernel +zetaReduce); ⟨s, i, k, by decide +kernel +zetaReduce⟩),
   (let s : State := sVersionsAreLoadedAndRetired 5; let i : Nat := 3; let k : Bytes := ((s.part.ses i).cur).get (by decide +kernel +zetaReduce); let e : Nat := (s.part.entryOf (par k 0 4) (par k 4 2)).get (by decide +kernel +zetaReduce); let v : Version := (s.part.ver e).get (by decide +kernel +zetaReduce); ⟨s, i, k, e, v, by decide +kernel +zetaReduce⟩),
   (let s : State := sVersionsAreLoadedAndRetired 6; let i : Nat := 3; let k : Bytes := ((s.part.ses i).cur).get (by decide +kernel +zetaReduce); let e : Nat := (s.part.entryOf (par k 0 4) (par k 4 2)).get (by decide +kernel +zetaReduce); let v : Version := (s.part.ver e).get (by decide +kernel +zetaReduce); ⟨s, i, k, e, v, by decide +kernel +zetaReduce⟩),
   (let s : State := sVersionsAreLoadedAndRetired 7; let i : Nat := 3; let k : Bytes := ((s.part.ses i).cur).get (by decide +kernel +zetaReduce); let e : Nat := (s.part.entryOf (par k 0 4) (par k 4 2)).get (by decide +kernel +zetaReduce); let v : Version := (s.part.ver e).get (by decide +kernel +zetaReduce); ⟨s, i, k, e, v, by decide +kernel +zetaReduce⟩),
   (let s : State := sVersionsAreLoadedAndRetired 8; let i : Nat := 3; let k : Bytes := ((s.part.ses i).cur).get (by decide +kernel +zetaReduce); let e : Nat := (s.part.entryOf (par k 0 4) (par k 4 2)).get (by decide +kernel +zetaReduce); let v : Version := (s.part.ver e).get (by decide +kernel +zetaReduce); ⟨s, i, k, e, v, by decide +kernel +zetaReduce⟩),
   (let s : State := sVersionsAreLoadedAndRetired 9; let i : Nat := 3; let k : Bytes := ((s.part.ses i).cur).get (by decide +kernel +zetaReduce); let e : Nat := (s.part.entryOf (par k 0 4) (par k 4 2)).get (by decide +kernel +zetaReduce); let v : Version := (s.part.ver e).get (by decide +kernel +zetaReduce); ⟨s, i, k, e, v, by decide +kernel +zetaReduce⟩),
   (let s : State := sVersionsAreLoadedAndRetired 10; let i : Nat := 3; let k : Bytes := ((s.part.ses i).cur).get (by decide +kernel +zetaReduce); let e : Nat := (s.part.entryOf (par k 0 4) (par k 4 2)).get (by decide +kernel +zetaReduce); let v : Version := (s.part.ver e).get (by decide +kernel +zetaReduce); ⟨s, i, k, e, v, by decide +kernel +zetaReduce⟩),
   (let s : State := sVersionsAreLoadedAndRetired 11; let i : Nat := 3; let k : Bytes := ((s.part.ses i).cur).get (by decide +kernel +zetaReduce); ⟨s, i, k, by decide +kernel +zetaReduce⟩),
   (let s : State := sVersionsAreLoadedAndRetired 12; let i : Nat := 3; let k : Bytes := ((s.part.ses i).cur).get (by decide +kernel +zetaReduce); let e : Nat := (s.part.entryOf (par k 0 4) (par k 4 2)).get (by decide +kernel +zetaReduce); let v : Version := (s.part.ver e).get (by decide +kernel +zetaReduce); ⟨s, i, k, e, v, by decide +kernel +zetaReduce⟩),
   (let s : State := sVersionsAreLoadedAndRetired 13; let i : Nat := 3; let k : Bytes := ((s.part.ses i).cur).get (by decide +kernel +zetaReduce); let e : Nat := (s.part.entryOf (par k 0 4) (par k 4 2)).get (by decide +kernel +zetaReduce); let v : Version := (s.part.ver e).get (by decide +kernel +zetaReduce); ⟨s, i, k, e, v, by decide +kernel +zetaReduce⟩),
   (let s : State := sVersionsAreLoadedAndRetired 14; let i : Nat := 3; let k : Bytes := ((s.part.ses i).cur).get (by decide +kernel +zetaReduce); let e : Nat := (s.part.entryOf (par k 0 4) (par k 4 2)).get (by decide +kernel +zetaReduce); let v : Version := (s.part.ver e).get (by decide +kernel +zetaReduce); ⟨s, i, k, e, v, by decide +kernel +zetaReduce⟩),
   (let s : State := sVersionsAreLoadedAndRetired 15; let i : Nat := 3; let k : Bytes := ((s.part.ses i).cur).get (by decide +kernel +zetaReduce); ⟨s, i, k, by decide +kernel +zetaReduce⟩),
   (let s : State := sVersionsAreLoadedAndRetired 16; let i : Nat := 3; let k : Bytes := ((s.part.ses i).cur).get (by decide +kernel +zetaReduce); let e : Nat := (s.part.entryOf (par k 0 4) (par k 4 2)).get (by decide +kernel +zetaReduce); ⟨s, i, k, e, by decide +kernel +zetaReduce⟩),
   ⟨sVersionsAreLoadedAndRetired 17, by decide +kernel⟩,
   ⟨sVersionsAreLoadedAndRetired 1, by decide +kernel⟩⟩

/-- States for `wit_ShardsAreStagedAndScrubbed`. -/
def sShardsAreStagedAndScrubbed (n : Nat) : State :=
  ([st (wsdOff pOn),
    st (wsdOff (qdS host8)),
    st qdS8,
    st (shd stg),
    st (shd fun x => { stg x with src := z 32 }),
    st { mdl (fun v => { v with mode := 1, shards := [(0, Shard.reset)] }) with models := { (mdl (fun v => { v with mode := 1, shards := [(0, Shard.reset)] })).models with queue := [] } },
    st (shd whl),
    st (wsdOff (mdl id)),
    st { mdl id with models := { (mdl id).models with scrubQueue := [(0, 0)] } },
    st pOn,
    st (mdl (tiered fun x => { x with scrubAt := pOn.now })),
    engFull,
    st (mdl id),
    st (pOn.setGram 2 { Grammar.reset with st := 2, scrubbing := true, scrubAt := pOn.now }),
    st (pOn.setGram 2 { Grammar.reset with st := 2 }),
    sScr (sha (memReadN State.reset.mem (scr []).base (scr []).payload)),
    sScr []] : List State).getD n State.reset

theorem wit_ShardsAreStagedAndScrubbed :
    (∃ (s : State) (e : Nat) (sh : Nat), isShard e sh = true ∧ s.part.alive 1 = true ∧ s.part.alive 19 = false ∧ s.part.models.queue = []) ∧
    (∃ (s : State) (e : Nat) (sh : Nat), isShard e sh = true ∧ s.part.alive 1 = true ∧ s.part.alive 19 = false ∧ s.part.models.queue ≠ []) ∧
    (∃ (s : State) (e : Nat) (sh : Nat) (base : Nat), isShard e sh = true ∧ s.part.alive 1 = true ∧ s.part.alive 19 = true ∧ (s.part.models.queue.head? ≠ some (e, sh) ∨ s.part.stageHead e sh base = none)) ∧
    (∃ (s : State) (e : Nat) (sh : Nat) (base : Nat) (q : Machine.Part), isShard e sh = true ∧ s.part.alive 1 = true ∧ s.part.alive 19 = true ∧ s.part.models.queue.head? = some (e, sh) ∧ s.part.stageHead e sh base = some q) ∧
    (∃ (s : State) (e : Nat) (sh : Nat), isShard e sh = true ∧ s.part.alive 1 = true ∧ s.part.shard e sh = none) ∧
    (∃ (s : State) (e : Nat) (sh : Nat) (v : Version) (x : Shard), isShard e sh = true ∧ s.part.alive 1 = true ∧ s.part.ver e = some v ∧ s.part.shard e sh = some x ∧ (s.part.now ≤ x.askedAt + v.timeout ∨ x.st = .verified ∨ x.st = .failed ∨ (x.st = .staging ∧ x.whole = true) ∨ (x.st = .waiting ∧ (v.mode = 0 ∨ (e, sh) ∈ s.part.models.queue)))) ∧
    (∃ (s : State) (e : Nat) (sh : Nat) (v : Version) (x : Shard), isShard e sh = true ∧ s.part.alive 1 = true ∧ s.part.ver e = some v ∧ s.part.shard e sh = some x ∧ x.askedAt + v.timeout < s.part.now ∧ x.st = .staging ∧ x.whole = false ∧ x.kind ≠ 0) ∧
    (∃ (s : State) (e : Nat) (sh : Nat) (v : Version) (x : Shard), isShard e sh = true ∧ s.part.alive 1 = true ∧ s.part.ver e = some v ∧ s.part.shard e sh = some x ∧ x.askedAt + v.timeout < s.part.now ∧ x.st = .staging ∧ x.whole = false ∧ x.kind = 0) ∧
    (∃ (s : State) (e : Nat) (sh : Nat) (v : Version) (x : Shard), isShard e sh = true ∧ s.part.alive 1 = true ∧ s.part.ver e = some v ∧ s.part.shard e sh = some x ∧ x.askedAt + v.timeout < s.part.now ∧ x.st = .waiting ∧ v.mode ≠ 0 ∧ (e, sh) ∉ s.part.models.queue) ∧
    (∃ (s : State) (e : Nat) (sh : Nat), isShard e sh = true ∧ s.part.alive 19 = true ∧ s.part.shard e sh = none) ∧
    (∃ (s : State) (e : Nat) (sh : Nat) (v : Version) (x : Shard), isShard e sh = true ∧ s.part.alive 19 = true ∧ s.part.ver e = some v ∧ s.part.shard e sh = some x ∧ (x.st ≠ .staging ∨ x.whole = false)) ∧
    (∃ (s : State) (e : Nat) (sh : Nat) (v : Version) (x : Shard) (c : Nat), isShard e sh = true ∧ s.part.alive 19 = true ∧ s.part.ver e = some v ∧ s.part.shard e sh = some x ∧ x.st = .staging ∧ x.whole = true ∧ ingotCheck v sh (mfind s.part.sec.keys (fld x.got 28 4)) x.got = .inr c) ∧
    (∃ (s : State) (e : Nat) (sh : Nat), isShard e sh = true ∧ s.part.alive 1 = true ∧ s.part.alive 19 = false ∧ s.part.scrubNear e sh = false) ∧
    (∃ (s : State) (e : Nat) (sh : Nat), isShard e sh = true ∧ s.part.alive 1 = true ∧ s.part.alive 19 = false ∧ s.part.scrubNear e sh = true) ∧
    (∃ (s : State) (e : Nat) (sh : Nat), isShard e sh = true ∧ s.part.alive 1 = true ∧ s.part.alive 19 = true ∧ (e, sh) ∈ s.part.models.scrubQueue) ∧
    (∃ (s : State) (e : Nat) (sh : Nat), isShard e sh = true ∧ s.part.alive 1 = true ∧ s.part.alive 19 = true ∧ e < 8192 ∧ s.part.shard e sh = none) ∧
    (∃ (s : State) (e : Nat) (sh : Nat) (x : Shard), isShard e sh = true ∧ s.part.alive 1 = true ∧ s.part.alive 19 = true ∧ e < 8192 ∧ s.part.shard e sh = some x ∧ (e, sh) ∉ s.part.models.scrubQueue ∧ (x.st ≠ .verified ∨ x.held = false ∨ x.scrubbing = true)) ∧
    (∃ (s : State) (e : Nat) (sh : Nat) (x : Shard), isShard e sh = true ∧ s.part.alive 1 = true ∧ s.part.alive 19 = true ∧ e < 8192 ∧ s.part.shard e sh = some x ∧ (e, sh) ∉ s.part.models.scrubQueue ∧ s.part.pwr.maint = false ∧ s.part.now < x.scrubAt + 890000000000) ∧
    (∃ (s : State) (e : Nat) (sh : Nat) (x : Shard), isShard e sh = true ∧ s.part.alive 1 = true ∧ s.part.alive 19 = true ∧ e < 8192 ∧ s.part.shard e sh = some x ∧ (e, sh) ∉ s.part.models.scrubQueue ∧ x.st = .verified ∧ x.held = true ∧ x.scrubbing = false ∧ x.scrubAt + 890000000000 ≤ s.part.now ∧ s.part.engineOf (s.part.scrubWsd e sh) = none) ∧
    (∃ (s : State) (e : Nat) (sh : Nat) (x : Shard) (n : Nat), isShard e sh = true ∧ s.part.alive 1 = true ∧ s.part.alive 19 = true ∧ e < 8192 ∧ s.part.shard e sh = some x ∧ (e, sh) ∉ s.part.models.scrubQueue ∧ x.st = .verified ∧ x.held = true ∧ x.scrubbing = false ∧ x.scrubAt + 890000000000 ≤ s.part.now ∧ s.part.engineOf (s.part.scrubWsd e sh) = some n) ∧
    (∃ (s : State) (e : Nat) (sh : Nat) (g : Grammar), isShard e sh = true ∧ s.part.alive 1 = true ∧ s.part.alive 19 = true ∧ 8192 ≤ e ∧ g = s.part.gram (e - 8192) ∧ (e, sh) ∉ s.part.models.scrubQueue ∧ g.st ≠ 2) ∧
    (∃ (s : State) (e : Nat) (sh : Nat) (g : Grammar), isShard e sh = true ∧ s.part.alive 1 = true ∧ s.part.alive 19 = true ∧ 8192 ≤ e ∧ g = s.part.gram (e - 8192) ∧ (e, sh) ∉ s.part.models.scrubQueue ∧ s.part.pwr.maint = false ∧ s.part.now < g.scrubAt + 890000000000) ∧
    (∃ (s : State) (e : Nat) (sh : Nat) (g : Grammar), isShard e sh = true ∧ s.part.alive 1 = true ∧ s.part.alive 19 = true ∧ 8192 ≤ e ∧ g = s.part.gram (e - 8192) ∧ (e, sh) ∉ s.part.models.scrubQueue ∧ g.st = 2 ∧ g.scrubbing = false ∧ g.scrubAt + 890000000000 ≤ s.part.now) ∧
    (∃ (s : State) (e : Nat) (sh : Nat), isShard e sh = true ∧ s.part.alive 19 = true ∧ e < 8192 ∧ (s.part.shard e sh = none ∨ s.part.engineOf (s.part.scrubWsd e sh) = none)) ∧
    (∃ (s : State) (e : Nat) (sh : Nat) (x : Shard) (n : Nat), isShard e sh = true ∧ s.part.alive 19 = true ∧ e < 8192 ∧ s.part.shard e sh = some x ∧ s.part.engineOf (s.part.scrubWsd e sh) = some n ∧ (x.st ≠ .verified ∨ x.held = false ∨ x.scrubbing = true)) ∧
    (∃ (s : State) (e : Nat) (sh : Nat) (x : Shard) (n : Nat), isShard e sh = true ∧ s.part.alive 19 = true ∧ e < 8192 ∧ s.part.shard e sh = some x ∧ s.part.engineOf (s.part.scrubWsd e sh) = some n ∧ x.st = .verified ∧ x.held = true ∧ x.scrubbing = false) ∧
    (∃ (s : State) (e : Nat) (sh : Nat), isShard e sh = true ∧ s.part.alive 19 = true ∧ 8192 ≤ e ∧ ((s.part.gram (e - 8192)).st ≠ 2 ∨ (s.part.gram (e - 8192)).scrubbing = true)) ∧
    (∃ (s : State) (e : Nat) (sh : Nat), isShard e sh = true ∧ s.part.alive 19 = true ∧ 8192 ≤ e ∧ (s.part.gram (e - 8192)).st = 2 ∧ (s.part.gram (e - 8192)).scrubbing = false) ∧
    (∃ (s : State) (e : Nat) (sh : Nat), isShard e sh = true ∧ s.part.alive 19 = true ∧ e < 8192 ∧ s.part.shard e sh = none) ∧
    (∃ (s : State) (e : Nat) (sh : Nat) (x : Shard), isShard e sh = true ∧ s.part.alive 19 = true ∧ e < 8192 ∧ s.part.shard e sh = some x ∧ x.scrubbing = false) ∧
    (∃ (s : State) (e : Nat) (sh : Nat) (bad : Bool) (x : Shard), isShard e sh = true ∧ s.part.alive 19 = true ∧ e < 8192 ∧ s.part.shard e sh = some x ∧ x.scrubbing = true ∧ bad = false ∧ sha (memReadN s.mem x.base x.payload) = bytesAt x.header 128 64) ∧
    (∃ (s : State) (e : Nat) (sh : Nat) (bad : Bool) (x : Shard), isShard e sh = true ∧ s.part.alive 19 = true ∧ e < 8192 ∧ s.part.shard e sh = some x ∧ x.scrubbing = true ∧ (bad = true ∨ sha (memReadN s.mem x.base x.payload) ≠ bytesAt x.header 128 64)) ∧
    (∃ (s : State) (e : Nat) (sh : Nat), isShard e sh = true ∧ s.part.alive 19 = true ∧ 8192 ≤ e ∧ (s.part.gram (e - 8192)).scrubbing = false) ∧
    (∃ (s : State) (e : Nat) (sh : Nat), isShard e sh = true ∧ s.part.alive 19 = true ∧ 8192 ≤ e ∧ (s.part.gram (e - 8192)).scrubbing = true) :=
  ⟨⟨sShardsAreStagedAndScrubbed 0, 0, 0, by decide +kernel⟩,
   ⟨sShardsAreStagedAndScrubbed 1, 0, 0, by decide +kernel⟩,
   ⟨sShardsAreStagedAndScrubbed 2, 8194, 0, stripeAddr 4, by decide +kernel⟩,
   (let s : State := sShardsAreStagedAndScrubbed 2; let e : Nat := ((s.part.models.queue.head?).map Prod.fst).get (by decide +kernel +zetaReduce); let sh : Nat := ((s.part.models.queue.head?).map Prod.snd).get (by decide +kernel +zetaReduce); let base : Nat := stripeAddr 4; let q : Machine.Part := (s.part.stageHead e sh base).get (by decide +kernel +zetaReduce); ⟨s, e, sh, base, q, by decide +kernel +zetaReduce⟩),
   ⟨sShardsAreStagedAndScrubbed 1, 8194, 0, by decide +kernel⟩,
   (let s : State := sShardsAreStagedAndScrubbed 1; let e : Nat := 0; let sh : Nat := 0; let v : Version := (s.part.ver e).get (by decide +kernel +zetaReduce); let x : Shard := (s.part.shard e sh).get (by decide +kernel +zetaReduce); ⟨s, e, sh, v, x, by decide +kernel +zetaReduce⟩),
   (let s : State := sShardsAreStagedAndScrubbed 3; let e : Nat := 0; let sh : Nat := 0; let v : Version := (s.part.ver e).get (by decide +kernel +zetaReduce); let x : Shard := (s.part.shard e sh).get (by decide +kernel +zetaReduce); ⟨s, e, sh, v, x, by decide +kernel +zetaReduce⟩),
   (let s : State := sShardsAreStagedAndScrubbed 4; let e : Nat := 0; let sh : Nat := 0; let v : Version := (s.part.ver e).get (by decide +kernel +zetaReduce); let x : Shard := (s.part.shard e sh).get (by decide +kernel +zetaReduce); ⟨s, e, sh, v, x, by decide +kernel +zetaReduce⟩),
   (let s : State := sShardsAreStagedAndScrubbed 5; let e : Nat := 0; let sh : Nat := 0; let v : Version := (s.part.ver e).get (by decide +kernel +zetaReduce); let x : Shard := (s.part.shard e sh).get (by decide +kernel +zetaReduce); ⟨s, e, sh, v, x, by decide +kernel +zetaReduce⟩),
   ⟨sShardsAreStagedAndScrubbed 2, 8194, 0, by decide +kernel⟩,
   (let s : State := sShardsAreStagedAndScrubbed 2; let e : Nat := 0; let sh : Nat := 0; let v : Version := (s.part.ver e).get (by decide +kernel +zetaReduce); let x : Shard := (s.part.shard e sh).get (by decide +kernel +zetaReduce); ⟨s, e, sh, v, x, by decide +kernel +zetaReduce⟩),
   (let s : State := sShardsAreStagedAndScrubbed 6; let e : Nat := 0; let sh : Nat := 0; let v : Version := (s.part.ver e).get (by decide +kernel +zetaReduce); let x : Shard := (s.part.shard e sh).get (by decide +kernel +zetaReduce); ⟨s, e, sh, v, x, causeHeader, by decide +kernel +zetaReduce⟩),
   ⟨sShardsAreStagedAndScrubbed 1, 0, 0, by decide +kernel⟩,
   ⟨sShardsAreStagedAndScrubbed 7, 0, 0, by decide +kernel⟩,
   ⟨sShardsAreStagedAndScrubbed 8, 0, 0, by decide +kernel⟩,
   ⟨sShardsAreStagedAndScrubbed 9, 0, 0, by decide +kernel⟩,
   (let s : State := sShardsAreStagedAndScrubbed 2; let e : Nat := 0; let sh : Nat := 0; let x : Shard := (s.part.shard e sh).get (by decide +kernel +zetaReduce); ⟨s, e, sh, x, by decide +kernel +zetaReduce⟩),
   (let s : State := sShardsAreStagedAndScrubbed 10; let e : Nat := 0; let sh : Nat := 0; let x : Shard := (s.part.shard e sh).get (by decide +kernel +zetaReduce); ⟨s, e, sh, x, by decide +kernel +zetaReduce⟩),
   (let s : State := sShardsAreStagedAndScrubbed 11; let e : Nat := 0; let sh : Nat := 0; let x : Shard := (s.part.shard e sh).get (by decide +kernel +zetaReduce); ⟨s, e, sh, x, by decide +kernel +zetaReduce⟩),
   (let s : State := sShardsAreStagedAndScrubbed 12; let e : Nat := 0; let sh : Nat := 0; let x : Shard := (s.part.shard e sh).get (by decide +kernel +zetaReduce); let n : Nat := (s.part.engineOf (s.part.scrubWsd e sh)).get (by decide +kernel +zetaReduce); ⟨s, e, sh, x, n, by decide +kernel +zetaReduce⟩),
   (let s : State := sShardsAreStagedAndScrubbed 2; let e : Nat := 8194; let g : Grammar := s.part.gram (e - 8192); ⟨s, e, 0, g, by decide +kernel +zetaReduce⟩),
   (let s : State := sShardsAreStagedAndScrubbed 13; let e : Nat := 8194; let g : Grammar := s.part.gram (e - 8192); ⟨s, e, 0, g, by decide +kernel +zetaReduce⟩),
   (let s : State := sShardsAreStagedAndScrubbed 14; let e : Nat := 8194; let g : Grammar := s.part.gram (e - 8192); ⟨s, e, 0, g, by decide +kernel +zetaReduce⟩),
   ⟨sShardsAreStagedAndScrubbed 9, 0, 0, by decide +kernel⟩,
   (let s : State := sShardsAreStagedAndScrubbed 2; let e : Nat := 0; let sh : Nat := 0; let x : Shard := (s.part.shard e sh).get (by decide +kernel +zetaReduce); let n : Nat := (s.part.engineOf (s.part.scrubWsd e sh)).get (by decide +kernel +zetaReduce); ⟨s, e, sh, x, n, by decide +kernel +zetaReduce⟩),
   (let s : State := sShardsAreStagedAndScrubbed 12; let e : Nat := 0; let sh : Nat := 0; let x : Shard := (s.part.shard e sh).get (by decide +kernel +zetaReduce); let n : Nat := (s.part.engineOf (s.part.scrubWsd e sh)).get (by decide +kernel +zetaReduce); ⟨s, e, sh, x, n, by decide +kernel +zetaReduce⟩),
   ⟨sShardsAreStagedAndScrubbed 2, 8194, 0, by decide +kernel⟩,
   ⟨sShardsAreStagedAndScrubbed 14, 8194, 0, by decide +kernel⟩,
   ⟨sShardsAreStagedAndScrubbed 9, 0, 0, by decide +kernel⟩,
   (let s : State := sShardsAreStagedAndScrubbed 2; let e : Nat := 0; let sh : Nat := 0; let x : Shard := (s.part.shard e sh).get (by decide +kernel +zetaReduce); ⟨s, e, sh, x, by decide +kernel +zetaReduce⟩),
   (let s : State := sShardsAreStagedAndScrubbed 15; let e : Nat := 0; let sh : Nat := 0; let bad : Bool := false; let x : Shard := (s.part.shard e sh).get (by decide +kernel +zetaReduce); ⟨s, e, sh, bad, x, by decide +kernel +zetaReduce, by decide +kernel +zetaReduce, by decide +kernel +zetaReduce, rfl, by decide +kernel +zetaReduce, by decide +kernel +zetaReduce, (by set_option maxRecDepth 20000 in rfl)⟩),
   (let s : State := sShardsAreStagedAndScrubbed 16; let e : Nat := 0; let sh : Nat := 0; let x : Shard := (s.part.shard e sh).get (by decide +kernel +zetaReduce); ⟨s, e, sh, true, x, by decide +kernel +zetaReduce, by decide +kernel +zetaReduce, by decide +kernel +zetaReduce, by decide +kernel +zetaReduce, by decide +kernel +zetaReduce, .inl rfl⟩),
   ⟨sShardsAreStagedAndScrubbed 2, 8194, 0, by decide +kernel⟩,
   ⟨sShardsAreStagedAndScrubbed 13, 8194, 0, by decide +kernel⟩⟩

/-- States for `wit_IngotsAndTierCopiesTravel`. -/
def sIngotsAndTierCopiesTravel (n : Nat) : State :=
  ([st (wsdOff pOn),
    st (inbF [(1024, chk1 9)] (wsdOff pOn)),
    st (mdl (fun v => { v with mode := 1, chain := [0, 1024, 2048], down := 1 })),
    st (inbF [(1024, chk1 9)] (mdl id)),
    st (inbF [(1024, chk1 5)] (shd stg)),
    st (inbF [(1024, .chunk 5 1 0 5 false [1, 2])] (shd stg)),
    st (inbF [(1024, chk1 5)] (mdl id)),
    st (inbF [(1024, chk1 5)] (shd id)),
    st (inbF [(1024, .shardAsk 9 1 0)] (mdl id)),
    st (inbF [(1024, .shardAsk 5 1 0)] (mdl id)),
    st (inbF [(1024, .accepted 5 1)] (mdl id)),
    st (inbF [(1024, brc 9)] (wsdOff pOn)),
    st (inbF [(1024, brc 9)] (mdl id)),
    st (inbF [(1024, brc 5)] (mdl id)),
    st (inbF [(1024, brc 5)] (mdl (fun v => { brl v with shards := [(0, stg Shard.reset)] }))),
    st (inbF [(1024, .broadcast 5 1 0 3 false [1, 2])] (mdl (fun v => { brl v with shards := [(0, stg Shard.reset)] }))),
    st (inbF [(1024, brc 5)] (mdl (fun v => { v with mode := 2, root := 1024 }))),
    st (wsdOff qdS8),
    st qdS8,
    st { pOn with models := { Models.reset with queue := [(0, 0)] } },
    engNone,
    st (fullP qdS8),
    dem true,
    dem false,
    st (tr [(1, ⟨0, 4096, false⟩)] (tiered fun x => { x with held := false, tier := some (tc true) })),
    st (mdl (tiered fun x => { x with tier := some (tc false) })),
    st (wsdOff (mdl (tiered fun x => { x with tier := some (tc true) }))),
    st (rds ⟨8, 64, 0, 4096, 2⟩ (mdl (tiered fun x => { x with held := false, tier := some (tc true) }))),
    st (mdl (tiered fun x => { x with held := false, tier := some { tc true with peer := true } }))] : List State).getD n State.reset

theorem wit_IngotsAndTierCopiesTravel :
    (∃ (s : State) (base : Nat) (p : Machine.Part), p = s.part.joinQueue ∧ s.part.alive 1 = true ∧ s.part.alive 19 = false ∧ s.part.fab.inbox.any (s.part.pipelineMsg base) = false) ∧
    (∃ (s : State) (base : Nat) (p : Machine.Part), p = s.part.joinQueue ∧ s.part.alive 1 = true ∧ s.part.alive 19 = false ∧ s.part.fab.inbox.any (s.part.pipelineMsg base) = true) ∧
    (∃ (s : State) (base : Nat) (p : Machine.Part), p = s.part.joinQueue ∧ s.part.alive 1 = true ∧ s.part.alive 19 = true ∧ p.takeMsg (p.pipelineMsg base) = none) ∧
    (∃ (s : State) (base : Nat) (p : Machine.Part) (x : Nat) (m : Nat) (v : Nat) (sh : Nat) (off : Nat) (last : Bool) (d : Bytes) (q : Machine.Part), p = s.part.joinQueue ∧ s.part.alive 1 = true ∧ s.part.alive 19 = true ∧ p.takeMsg (p.pipelineMsg base) = some ((x, .chunk m v sh off last d), q) ∧ q.entryOf m v = none) ∧
    (∃ (s : State) (base : Nat) (p : Machine.Part) (x : Nat) (m : Nat) (v : Nat) (sh : Nat) (off : Nat) (last : Bool) (d : Bytes) (q : Machine.Part) (e : Nat) (y : Shard), p = s.part.joinQueue ∧ s.part.alive 1 = true ∧ s.part.alive 19 = true ∧ p.takeMsg (p.pipelineMsg base) = some ((x, .chunk m v sh off last d), q) ∧ q.entryOf m v = some e ∧ q.shard e sh = some y ∧ y.st = .staging ∧ (q.ver e).isSome = true ∧ off = y.got.length) ∧
    (∃ (s : State) (base : Nat) (p : Machine.Part) (x : Nat) (m : Nat) (v : Nat) (sh : Nat) (off : Nat) (last : Bool) (d : Bytes) (q : Machine.Part) (e : Nat) (y : Shard), p = s.part.joinQueue ∧ s.part.alive 1 = true ∧ s.part.alive 19 = true ∧ p.takeMsg (p.pipelineMsg base) = some ((x, .chunk m v sh off last d), q) ∧ q.entryOf m v = some e ∧ q.shard e sh = some y ∧ y.st = .staging ∧ (q.ver e).isSome = true ∧ off ≠ y.got.length) ∧
    (∃ (s : State) (base : Nat) (p : Machine.Part) (x : Nat) (m : Nat) (v : Nat) (sh : Nat) (off : Nat) (last : Bool) (d : Bytes) (q : Machine.Part) (e : Nat) (y : Shard), p = s.part.joinQueue ∧ s.part.alive 1 = true ∧ s.part.alive 19 = true ∧ p.takeMsg (p.pipelineMsg base) = some ((x, .chunk m v sh off last d), q) ∧ q.entryOf m v = some e ∧ q.shard e sh = some y ∧ (y.st = .verified ∨ y.st = .failed)) ∧
    (∃ (s : State) (base : Nat) (p : Machine.Part) (x : Nat) (m : Nat) (v : Nat) (sh : Nat) (off : Nat) (last : Bool) (d : Bytes) (q : Machine.Part) (e : Nat) (y : Shard) (r : Machine.Part), p = s.part.joinQueue ∧ s.part.alive 1 = true ∧ s.part.alive 19 = true ∧ p.takeMsg (p.pipelineMsg base) = some ((x, .chunk m v sh off last d), q) ∧ q.entryOf m v = some e ∧ q.shard e sh = some y ∧ y.st = .waiting ∧ off = 0 ∧ (q.ver e).isSome = true ∧ q.stageAt e sh base (if d.length < 28 then y.need else min (fld d 24 4) (2 ^ 28)) = some r) ∧
    (∃ (s : State) (base : Nat) (p : Machine.Part) (x : Nat) (m : Nat) (v : Nat) (sh : Nat) (q : Machine.Part), p = s.part.joinQueue ∧ s.part.alive 1 = true ∧ s.part.alive 19 = true ∧ p.takeMsg (p.pipelineMsg base) = some ((x, .shardAsk m v sh), q) ∧ q.entryOf m v = none) ∧
    (∃ (s : State) (base : Nat) (p : Machine.Part) (x : Nat) (m : Nat) (v : Nat) (sh : Nat) (q : Machine.Part) (e : Nat), p = s.part.joinQueue ∧ s.part.alive 1 = true ∧ s.part.alive 19 = true ∧ p.takeMsg (p.pipelineMsg base) = some ((x, .shardAsk m v sh), q) ∧ q.entryOf m v = some e) ∧
    (∃ (s : State) (base : Nat) (p : Machine.Part) (x : Nat) (m : Nat) (v : Nat) (q : Machine.Part) (e : Nat), p = s.part.joinQueue ∧ s.part.alive 1 = true ∧ s.part.alive 19 = true ∧ p.takeMsg (p.pipelineMsg base) = some ((x, .accepted m v), q) ∧ q.entryOf m v = some e) ∧
    (∃ (s : State) (e : Nat), isVersion e = true ∧ s.part.alive 1 = true ∧ s.part.ver e = none) ∧
    (∃ (s : State) (e : Nat) (v : Version), isVersion e = true ∧ s.part.alive 1 = true ∧ s.part.ver e = some v ∧ (v.downstream = none ∨ v.downOk = true ∨ s.part.now < v.downSince + v.timeout)) ∧
    (∃ (s : State) (e : Nat) (v : Version) (d : Nat), isVersion e = true ∧ s.part.alive 1 = true ∧ s.part.ver e = some v ∧ v.downstream = some d ∧ v.downOk = false ∧ v.downSince + v.timeout ≤ s.part.now) ∧
    (∃ (s : State) (p : Machine.Part), p = s.part.joinQueue ∧ s.part.alive 1 = true ∧ s.part.alive 19 = false ∧ s.part.fab.inbox.any isBroadcast = false) ∧
    (∃ (s : State) (p : Machine.Part), p = s.part.joinQueue ∧ s.part.alive 1 = true ∧ s.part.alive 19 = false ∧ s.part.fab.inbox.any isBroadcast = true) ∧
    (∃ (s : State) (base : Nat) (p : Machine.Part), p = s.part.joinQueue ∧ s.part.alive 1 = true ∧ s.part.alive 19 = true ∧ ((p.takeMsg fun x => isBroadcast x && p.pieceReady base x) = none)) ∧
    (∃ (s : State) (base : Nat) (p : Machine.Part) (x : Nat) (m : Nat) (v : Nat) (sh : Nat) (off : Nat) (last : Bool) (d : Bytes) (q : Machine.Part), p = s.part.joinQueue ∧ s.part.alive 1 = true ∧ s.part.alive 19 = true ∧ ((p.takeMsg fun x => isBroadcast x && p.pieceReady base x) = some ((x, .broadcast m v sh off last d), q)) ∧ q.entryOf m v = none) ∧
    (∃ (s : State) (base : Nat) (p : Machine.Part) (x : Nat) (m : Nat) (v : Nat) (sh : Nat) (off : Nat) (last : Bool) (d : Bytes) (q : Machine.Part) (e : Nat) (w : Version), p = s.part.joinQueue ∧ s.part.alive 1 = true ∧ s.part.alive 19 = true ∧ ((p.takeMsg fun x => isBroadcast x && p.pieceReady base x) = some ((x, .broadcast m v sh off last d), q)) ∧ q.entryOf m v = some e ∧ q.ver e = some w ∧ (¬(w.mode = 2 ∧ w.root = x))) ∧
    (∃ (s : State) (base : Nat) (p : Machine.Part) (x : Nat) (m : Nat) (v : Nat) (sh : Nat) (off : Nat) (last : Bool) (d : Bytes) (q : Machine.Part) (e : Nat) (w : Version) (y : Shard), p = s.part.joinQueue ∧ s.part.alive 1 = true ∧ s.part.alive 19 = true ∧ ((p.takeMsg fun x => isBroadcast x && p.pieceReady base x) = some ((x, .broadcast m v sh off last d), q)) ∧ q.entryOf m v = some e ∧ q.ver e = some w ∧ w.mode = 2 ∧ w.root = x ∧ q.shard e sh = some y ∧ y.st = .staging ∧ off = y.got.length) ∧
    (∃ (s : State) (base : Nat) (p : Machine.Part) (x : Nat) (m : Nat) (v : Nat) (sh : Nat) (off : Nat) (last : Bool) (d : Bytes) (q : Machine.Part) (e : Nat) (w : Version) (y : Shard), p = s.part.joinQueue ∧ s.part.alive 1 = true ∧ s.part.alive 19 = true ∧ ((p.takeMsg fun x => isBroadcast x && p.pieceReady base x) = some ((x, .broadcast m v sh off last d), q)) ∧ q.entryOf m v = some e ∧ q.ver e = some w ∧ w.mode = 2 ∧ w.root = x ∧ q.shard e sh = some y ∧ y.st = .staging ∧ off ≠ y.got.length) ∧
    (∃ (s : State) (base : Nat) (p : Machine.Part) (x : Nat) (m : Nat) (v : Nat) (sh : Nat) (off : Nat) (last : Bool) (d : Bytes) (q : Machine.Part) (e : Nat) (w : Version) (y : Shard), p = s.part.joinQueue ∧ s.part.alive 1 = true ∧ s.part.alive 19 = true ∧ ((p.takeMsg fun x => isBroadcast x && p.pieceReady base x) = some ((x, .broadcast m v sh off last d), q)) ∧ q.entryOf m v = some e ∧ q.ver e = some w ∧ w.mode = 2 ∧ w.root = x ∧ q.shard e sh = some y ∧ (y.st = .verified ∨ y.st = .failed)) ∧
    (∃ (s : State), s.part.alive 1 = true ∧ s.part.alive 19 = false ∧ s.part.models.queue = []) ∧
    (∃ (s : State), s.part.alive 1 = true ∧ s.part.alive 19 = false ∧ s.part.models.queue ≠ []) ∧
    (∃ (s : State), s.part.alive 1 = true ∧ s.part.alive 19 = true ∧ s.part.models.queue = []) ∧
    (∃ (s : State) (base : Nat) (e : Nat) (sh : Nat) (rest : List (Nat × Nat)) (q : Machine.Part), s.part.alive 1 = true ∧ s.part.alive 19 = true ∧ s.part.models.queue = (e, sh) :: rest ∧ s.part.stageHead e sh base = some q) ∧
    (∃ (s : State) (base : Nat) (e : Nat) (sh : Nat) (rest : List (Nat × Nat)), s.part.alive 1 = true ∧ s.part.alive 19 = true ∧ s.part.models.queue = (e, sh) :: rest ∧ s.part.stageHead e sh base = none ∧ s.part.shard e sh = none) ∧
    (∃ (s : State) (base : Nat) (e : Nat) (sh : Nat) (rest : List (Nat × Nat)) (x : Shard), s.part.alive 1 = true ∧ s.part.alive 19 = true ∧ s.part.models.queue = (e, sh) :: rest ∧ s.part.stageHead e sh base = none ∧ s.part.shard e sh = some x ∧ (s.part.arrivalEngine = none ∨ s.part.roomFor (s.part.roomOf e sh x) = true ∨ s.part.demoting = true)) ∧
    (∃ (s : State) (base : Nat) (e : Nat) (sh : Nat) (rest : List (Nat × Nat)) (x : Shard), s.part.alive 1 = true ∧ s.part.alive 19 = true ∧ s.part.models.queue = (e, sh) :: rest ∧ s.part.stageHead e sh base = none ∧ s.part.shard e sh = some x ∧ s.part.arrivalEngine ≠ none ∧ s.part.roomFor (s.part.roomOf e sh x) = false ∧ s.part.demoting = false ∧ s.part.demotable = none) ∧
    (∃ (s : State) (base : Nat) (lender : Option (Nat × Nat)) (e : Nat) (sh : Nat) (rest : List (Nat × Nat)) (x : Shard) (a : Nat) (b : Nat) (t : State), s.part.alive 1 = true ∧ s.part.alive 19 = true ∧ s.part.models.queue = (e, sh) :: rest ∧ s.part.stageHead e sh base = none ∧ s.part.shard e sh = some x ∧ s.part.arrivalEngine ≠ none ∧ s.part.roomFor (s.part.roomOf e sh x) = false ∧ s.part.demoting = false ∧ s.part.demotable = some (a, b) ∧ s.demote a b lender = (t, true)) ∧
    (∃ (s : State) (base : Nat) (lender : Option (Nat × Nat)) (e : Nat) (sh : Nat) (rest : List (Nat × Nat)) (x : Shard) (a : Nat) (b : Nat) (t : State), s.part.alive 1 = true ∧ s.part.alive 19 = true ∧ s.part.models.queue = (e, sh) :: rest ∧ s.part.stageHead e sh base = none ∧ s.part.shard e sh = some x ∧ s.part.arrivalEngine ≠ none ∧ s.part.roomFor (s.part.roomOf e sh x) = false ∧ s.part.demoting = false ∧ s.part.demotable = some (a, b) ∧ s.demote a b lender = (t, false)) ∧
    (∃ (s : State) (e : Nat) (sh : Nat), isShard e sh = true ∧ s.part.alive 1 = true ∧ (((s.part.shard e sh).bind fun x => x.tier) = none)) ∧
    (∃ (s : State) (e : Nat) (sh : Nat) (x : Shard) (t : TierCopy), isShard e sh = true ∧ s.part.alive 1 = true ∧ s.part.shard e sh = some x ∧ x.tier = some t ∧ t.written = true) ∧
    (∃ (s : State) (e : Nat) (sh : Nat) (x : Shard) (t : TierCopy), isShard e sh = true ∧ s.part.alive 1 = true ∧ s.part.shard e sh = some x ∧ x.tier = some t ∧ t.written = false) ∧
    (∃ (s : State) (e : Nat) (sh : Nat) (x : Shard), isShard e sh = true ∧ s.part.alive 1 = true ∧ s.part.shard e sh = some x ∧ x.tier ≠ none ∧ s.part.alive 19 = false) ∧
    (∃ (s : State) (e : Nat) (sh : Nat), isShard e sh = true ∧ s.part.alive 1 = true ∧ (((s.part.shard e sh).bind fun x => x.tier) = none)) ∧
    (∃ (s : State) (e : Nat) (sh : Nat) (x : Shard) (t : TierCopy), isShard e sh = true ∧ s.part.alive 1 = true ∧ s.part.alive 19 = true ∧ s.part.shard e sh = some x ∧ x.tier = some t ∧ (t.written = false ∨ x.held = true)) ∧
    (∃ (s : State) (e : Nat) (sh : Nat) (x : Shard) (t : TierCopy), isShard e sh = true ∧ s.part.alive 1 = true ∧ s.part.alive 19 = true ∧ s.part.shard e sh = some x ∧ x.tier = some t ∧ t.written = true ∧ x.held = false ∧ t.peer = false ∧ x.got = [] ∧ (∃ r ∈ s.part.host.reads, r.kind = 8 ∧ r.key = shardRef e sh)) ∧
    (∃ (s : State) (e : Nat) (sh : Nat) (x : Shard) (t : TierCopy), isShard e sh = true ∧ s.part.alive 1 = true ∧ s.part.alive 19 = true ∧ s.part.shard e sh = some x ∧ x.tier = some t ∧ t.written = true ∧ x.held = false ∧ t.peer = false ∧ x.got = [] ∧ (∀ r ∈ s.part.host.reads, ¬(r.kind = 8 ∧ r.key = shardRef e sh))) ∧
    (∃ (s : State) (e : Nat) (sh : Nat) (x : Shard) (t : TierCopy), isShard e sh = true ∧ s.part.alive 1 = true ∧ s.part.alive 19 = true ∧ s.part.shard e sh = some x ∧ x.tier = some t ∧ t.written = true ∧ x.held = false ∧ t.peer = true ∧ s.part.takeMsg (tierDataFor t.place t.off) = none ∧ x.got = []) :=
  ⟨(let s : State := sIngotsAndTierCopiesTravel 0; let p : Machine.Part := s.part.joinQueue; ⟨s, stripeAddr 4, p, by decide +kernel +zetaReduce⟩),
   (let s : State := sIngotsAndTierCopiesTravel 1; let p : Machine.Part := s.part.joinQueue; ⟨s, stripeAddr 4, p, by decide +kernel +zetaReduce⟩),
   (let s : State := sIngotsAndTierCopiesTravel 2; let p : Machine.Part := s.part.joinQueue; ⟨s, stripeAddr 4, p, by decide +kernel +zetaReduce⟩),
   (let s : State := sIngotsAndTierCopiesTravel 3; let base : Nat := stripeAddr 4; let p : Machine.Part := s.part.joinQueue; let x : Nat := ((p.takeMsg (p.pipelineMsg base)).bind fun z_ => match z_ with | ((a_, .chunk _ _ _ _ _ _), _) => some a_ | _ => none).get (by decide +kernel +zetaReduce); let m : Nat := ((p.takeMsg (p.pipelineMsg base)).bind fun z_ => match z_ with | ((_, .chunk a_ _ _ _ _ _), _) => some a_ | _ => none).get (by decide +kernel +zetaReduce); let v : Nat := ((p.takeMsg (p.pipelineMsg base)).bind fun z_ => match z_ with | ((_, .chunk _ a_ _ _ _ _), _) => some a_ | _ => none).get (by decide +kernel +zetaReduce); let sh : Nat := ((p.takeMsg (p.pipelineMsg base)).bind fun z_ => match z_ with | ((_, .chunk _ _ a_ _ _ _), _) => some a_ | _ => none).get (by decide +kernel +zetaReduce); let off : Nat := ((p.takeMsg (p.pipelineMsg base)).bind fun z_ => match z_ with | ((_, .chunk _ _ _ a_ _ _), _) => some a_ | _ => none).get (by decide +kernel +zetaReduce); let last : Bool := ((p.takeMsg (p.pipelineMsg base)).bind fun z_ => match z_ with | ((_, .chunk _ _ _ _ a_ _), _) => some a_ | _ => none).get (by decide +kernel +zetaReduce); let d : Bytes := ((p.takeMsg (p.pipelineMsg base)).bind fun z_ => match z_ with | ((_, .chunk _ _ _ _ _ a_), _) => some a_ | _ => none).get (by decide +kernel +zetaReduce); let q : Machine.Part := ((p.takeMsg (p.pipelineMsg base)).bind fun z_ => match z_ with | ((_, .chunk _ _ _ _ _ _), a_) => some a_ | _ => none).get (by decide +kernel +zetaReduce); ⟨s, base, p, x, m, v, sh, off, last, d, q, by decide +kernel +zetaReduce⟩),
   (let s : State := sIngotsAndTierCopiesTravel 4; let base : Nat := stripeAddr 4; let p : Machine.Part := s.part.joinQueue; let x : Nat := ((p.takeMsg (p.pipelineMsg base)).bind fun z_ => match z_ with | ((a_, .chunk _ _ _ _ _ _), _) => some a_ | _ => none).get (by decide +kernel +zetaReduce); let m : Nat := ((p.takeMsg (p.pipelineMsg base)).bind fun z_ => match z_ with | ((_, .chunk a_ _ _ _ _ _), _) => some a_ | _ => none).get (by decide +kernel +zetaReduce); let v : Nat := ((p.takeMsg (p.pipelineMsg base)).bind fun z_ => match z_ with | ((_, .chunk _ a_ _ _ _ _), _) => some a_ | _ => none).get (by decide +kernel +zetaReduce); let sh : Nat := ((p.takeMsg (p.pipelineMsg base)).bind fun z_ => match z_ with | ((_, .chunk _ _ a_ _ _ _), _) => some a_ | _ => none).get (by decide +kernel +zetaReduce); let off : Nat := ((p.takeMsg (p.pipelineMsg base)).bind fun z_ => match z_ with | ((_, .chunk _ _ _ a_ _ _), _) => some a_ | _ => none).get (by decide +kernel +zetaReduce); let last : Bool := ((p.takeMsg (p.pipelineMsg base)).bind fun z_ => match z_ with | ((_, .chunk _ _ _ _ a_ _), _) => some a_ | _ => none).get (by decide +kernel +zetaReduce); let d : Bytes := ((p.takeMsg (p.pipelineMsg base)).bind fun z_ => match z_ with | ((_, .chunk _ _ _ _ _ a_), _) => some a_ | _ => none).get (by decide +kernel +zetaReduce); let q : Machine.Part := ((p.takeMsg (p.pipelineMsg base)).bind fun z_ => match z_ with | ((_, .chunk _ _ _ _ _ _), a_) => some a_ | _ => none).get (by decide +kernel +zetaReduce); let e : Nat := (q.entryOf m v).get (by decide +kernel +zetaReduce); let y : Shard := (q.shard e sh).get (by decide +kernel +zetaReduce); ⟨s, base, p, x, m, v, sh, off, last, d, q, e, y, by decide +kernel +zetaReduce⟩),
   (let s : State := sIngotsAndTierCopiesTravel 5; let base : Nat := stripeAddr 4; let p : Machine.Part := s.part.joinQueue; let x : Nat := ((p.takeMsg (p.pipelineMsg base)).bind fun z_ => match z_ with | ((a_, .chunk _ _ _ _ _ _), _) => some a_ | _ => none).get (by decide +kernel +zetaReduce); let m : Nat := ((p.takeMsg (p.pipelineMsg base)).bind fun z_ => match z_ with | ((_, .chunk a_ _ _ _ _ _), _) => some a_ | _ => none).get (by decide +kernel +zetaReduce); let v : Nat := ((p.takeMsg (p.pipelineMsg base)).bind fun z_ => match z_ with | ((_, .chunk _ a_ _ _ _ _), _) => some a_ | _ => none).get (by decide +kernel +zetaReduce); let sh : Nat := ((p.takeMsg (p.pipelineMsg base)).bind fun z_ => match z_ with | ((_, .chunk _ _ a_ _ _ _), _) => some a_ | _ => none).get (by decide +kernel +zetaReduce); let off : Nat := ((p.takeMsg (p.pipelineMsg base)).bind fun z_ => match z_ with | ((_, .chunk _ _ _ a_ _ _), _) => some a_ | _ => none).get (by decide +kernel +zetaReduce); let last : Bool := ((p.takeMsg (p.pipelineMsg base)).bind fun z_ => match z_ with | ((_, .chunk _ _ _ _ a_ _), _) => some a_ | _ => none).get (by decide +kernel +zetaReduce); let d : Bytes := ((p.takeMsg (p.pipelineMsg base)).bind fun z_ => match z_ with | ((_, .chunk _ _ _ _ _ a_), _) => some a_ | _ => none).get (by decide +kernel +zetaReduce); let q : Machine.Part := ((p.takeMsg (p.pipelineMsg base)).bind fun z_ => match z_ with | ((_, .chunk _ _ _ _ _ _), a_) => some a_ | _ => none).get (by decide +kernel +zetaReduce); let e : Nat := (q.entryOf m v).get (by decide +kernel +zetaReduce); let y : Shard := (q.shard e sh).get (by decide +kernel +zetaReduce); ⟨s, base, p, x, m, v, sh, off, last, d, q, e, y, by decide +kernel +zetaReduce⟩),
   (let s : State := sIngotsAndTierCopiesTravel 6; let base : Nat := stripeAddr 4; let p : Machine.Part := s.part.joinQueue; let x : Nat := ((p.takeMsg (p.pipelineMsg base)).bind fun z_ => match z_ with | ((a_, .chunk _ _ _ _ _ _), _) => some a_ | _ => none).get (by decide +kernel +zetaReduce); let m : Nat := ((p.takeMsg (p.pipelineMsg base)).bind fun z_ => match z_ with | ((_, .chunk a_ _ _ _ _ _), _) => some a_ | _ => none).get (by decide +kernel +zetaReduce); let v : Nat := ((p.takeMsg (p.pipelineMsg base)).bind fun z_ => match z_ with | ((_, .chunk _ a_ _ _ _ _), _) => some a_ | _ => none).get (by decide +kernel +zetaReduce); let sh : Nat := ((p.takeMsg (p.pipelineMsg base)).bind fun z_ => match z_ with | ((_, .chunk _ _ a_ _ _ _), _) => some a_ | _ => none).get (by decide +kernel +zetaReduce); let off : Nat := ((p.takeMsg (p.pipelineMsg base)).bind fun z_ => match z_ with | ((_, .chunk _ _ _ a_ _ _), _) => some a_ | _ => none).get (by decide +kernel +zetaReduce); let last : Bool := ((p.takeMsg (p.pipelineMsg base)).bind fun z_ => match z_ with | ((_, .chunk _ _ _ _ a_ _), _) => some a_ | _ => none).get (by decide +kernel +zetaReduce); let d : Bytes := ((p.takeMsg (p.pipelineMsg base)).bind fun z_ => match z_ with | ((_, .chunk _ _ _ _ _ a_), _) => some a_ | _ => none).get (by decide +kernel +zetaReduce); let q : Machine.Part := ((p.takeMsg (p.pipelineMsg base)).bind fun z_ => match z_ with | ((_, .chunk _ _ _ _ _ _), a_) => some a_ | _ => none).get (by decide +kernel +zetaReduce); let e : Nat := (q.entryOf m v).get (by decide +kernel +zetaReduce); let y : Shard := (q.shard e sh).get (by decide +kernel +zetaReduce); ⟨s, base, p, x, m, v, sh, off, last, d, q, e, y, by decide +kernel +zetaReduce⟩),
   (let s : State := sIngotsAndTierCopiesTravel 7; let base : Nat := stripeAddr 4; let p : Machine.Part := s.part.joinQueue; let x : Nat := ((p.takeMsg (p.pipelineMsg base)).bind fun z_ => match z_ with | ((a_, .chunk _ _ _ _ _ _), _) => some a_ | _ => none).get (by decide +kernel +zetaReduce); let m : Nat := ((p.takeMsg (p.pipelineMsg base)).bind fun z_ => match z_ with | ((_, .chunk a_ _ _ _ _ _), _) => some a_ | _ => none).get (by decide +kernel +zetaReduce); let v : Nat := ((p.takeMsg (p.pipelineMsg base)).bind fun z_ => match z_ with | ((_, .chunk _ a_ _ _ _ _), _) => some a_ | _ => none).get (by decide +kernel +zetaReduce); let sh : Nat := ((p.takeMsg (p.pipelineMsg base)).bind fun z_ => match z_ with | ((_, .chunk _ _ a_ _ _ _), _) => some a_ | _ => none).get (by decide +kernel +zetaReduce); let off : Nat := ((p.takeMsg (p.pipelineMsg base)).bind fun z_ => match z_ with | ((_, .chunk _ _ _ a_ _ _), _) => some a_ | _ => none).get (by decide +kernel +zetaReduce); let last : Bool := ((p.takeMsg (p.pipelineMsg base)).bind fun z_ => match z_ with | ((_, .chunk _ _ _ _ a_ _), _) => some a_ | _ => none).get (by decide +kernel +zetaReduce); let d : Bytes := ((p.takeMsg (p.pipelineMsg base)).bind fun z_ => match z_ with | ((_, .chunk _ _ _ _ _ a_), _) => some a_ | _ => none).get (by decide +kernel +zetaReduce); let q : Machine.Part := ((p.takeMsg (p.pipelineMsg base)).bind fun z_ => match z_ with | ((_, .chunk _ _ _ _ _ _), a_) => some a_ | _ => none).get (by decide +kernel +zetaReduce); let e : Nat := (q.entryOf m v).get (by decide +kernel +zetaReduce); let y : Shard := (q.shard e sh).get (by decide +kernel +zetaReduce); let r : Machine.Part := (q.stageAt e sh base (if d.length < 28 then y.need else min (fld d 24 4) (2 ^ 28))).get (by decide +kernel +zetaReduce); ⟨s, base, p, x, m, v, sh, off, last, d, q, e, y, r, by decide +kernel +zetaReduce⟩),
   (let s : State := sIngotsAndTierCopiesTravel 8; let base : Nat := stripeAddr 4; let p : Machine.Part := s.part.joinQueue; let x : Nat := ((p.takeMsg (p.pipelineMsg base)).bind fun z_ => match z_ with | ((a_, .shardAsk _ _ _), _) => some a_ | _ => none).get (by decide +kernel +zetaReduce); let m : Nat := ((p.takeMsg (p.pipelineMsg base)).bind fun z_ => match z_ with | ((_, .shardAsk a_ _ _), _) => some a_ | _ => none).get (by decide +kernel +zetaReduce); let v : Nat := ((p.takeMsg (p.pipelineMsg base)).bind fun z_ => match z_ with | ((_, .shardAsk _ a_ _), _) => some a_ | _ => none).get (by decide +kernel +zetaReduce); let sh : Nat := ((p.takeMsg (p.pipelineMsg base)).bind fun z_ => match z_ with | ((_, .shardAsk _ _ a_), _) => some a_ | _ => none).get (by decide +kernel +zetaReduce); let q : Machine.Part := ((p.takeMsg (p.pipelineMsg base)).bind fun z_ => match z_ with | ((_, .shardAsk _ _ _), a_) => some a_ | _ => none).get (by decide +kernel +zetaReduce); ⟨s, base, p, x, m, v, sh, q, by decide +kernel +zetaReduce⟩),
   (let s : State := sIngotsAndTierCopiesTravel 9; let base : Nat := stripeAddr 4; let p : Machine.Part := s.part.joinQueue; let x : Nat := ((p.takeMsg (p.pipelineMsg base)).bind fun z_ => match z_ with | ((a_, .shardAsk _ _ _), _) => some a_ | _ => none).get (by decide +kernel +zetaReduce); let m : Nat := ((p.takeMsg (p.pipelineMsg base)).bind fun z_ => match z_ with | ((_, .shardAsk a_ _ _), _) => some a_ | _ => none).get (by decide +kernel +zetaReduce); let v : Nat := ((p.takeMsg (p.pipelineMsg base)).bind fun z_ => match z_ with | ((_, .shardAsk _ a_ _), _) => some a_ | _ => none).get (by decide +kernel +zetaReduce); let sh : Nat := ((p.takeMsg (p.pipelineMsg base)).bind fun z_ => match z_ with | ((_, .shardAsk _ _ a_), _) => some a_ | _ => none).get (by decide +kernel +zetaReduce); let q : Machine.Part := ((p.takeMsg (p.pipelineMsg base)).bind fun z_ => match z_ with | ((_, .shardAsk _ _ _), a_) => some a_ | _ => none).get (by decide +kernel +zetaReduce); let e : Nat := (q.entryOf m v).get (by decide +kernel +zetaReduce); ⟨s, base, p, x, m, v, sh, q, e, by decide +kernel +zetaReduce⟩),
   (let s : State := sIngotsAndTierCopiesTravel 10; let base : Nat := stripeAddr 4; let p : Machine.Part := s.part.joinQueue; let x : Nat := ((p.takeMsg (p.pipelineMsg base)).bind fun z_ => match z_ with | ((a_, .accepted _ _), _) => some a_ | _ => none).get (by decide +kernel +zetaReduce); let m : Nat := ((p.takeMsg (p.pipelineMsg base)).bind fun z_ => match z_ with | ((_, .accepted a_ _), _) => some a_ | _ => none).get (by decide +kernel +zetaReduce); let v : Nat := ((p.takeMsg (p.pipelineMsg base)).bind fun z_ => match z_ with | ((_, .accepted _ a_), _) => some a_ | _ => none).get (by decide +kernel +zetaReduce); let q : Machine.Part := ((p.takeMsg (p.pipelineMsg base)).bind fun z_ => match z_ with | ((_, .accepted _ _), a_) => some a_ | _ => none).get (by decide +kernel +zetaReduce); let e : Nat := (q.entryOf m v).get (by decide +kernel +zetaReduce); ⟨s, base, p, x, m, v, q, e, by decide +kernel +zetaReduce⟩),
   ⟨sIngotsAndTierCopiesTravel 0, 0, by decide +kernel⟩,
   (let s : State := sIngotsAndTierCopiesTravel 3; let e : Nat := 0; let v : Version := (s.part.ver e).get (by decide +kernel +zetaReduce); ⟨s, e, v, by decide +kernel +zetaReduce⟩),
   (let s : State := sIngotsAndTierCopiesTravel 2; let e : Nat := 0; let v : Version := (s.part.ver e).get (by decide +kernel +zetaReduce); let d : Nat := (v.downstream).get (by decide +kernel +zetaReduce); ⟨s, e, v, d, by decide +kernel +zetaReduce⟩),
   (let s : State := sIngotsAndTierCopiesTravel 0; let p : Machine.Part := s.part.joinQueue; ⟨s, p, by decide +kernel +zetaReduce⟩),
   (let s : State := sIngotsAndTierCopiesTravel 11; let p : Machine.Part := s.part.joinQueue; ⟨s, p, by decide +kernel +zetaReduce⟩),
   (let s : State := sIngotsAndTierCopiesTravel 3; let p : Machine.Part := s.part.joinQueue; ⟨s, stripeAddr 4, p, by decide +kernel +zetaReduce⟩),
   (let s : State := sIngotsAndTierCopiesTravel 12; let base : Nat := stripeAddr 4; let p : Machine.Part := s.part.joinQueue; let x : Nat := (((p.takeMsg fun x => isBroadcast x && p.pieceReady base x)).bind fun z_ => match z_ with | ((a_, .broadcast _ _ _ _ _ _), _) => some a_ | _ => none).get (by decide +kernel +zetaReduce); let m : Nat := (((p.takeMsg fun x => isBroadcast x && p.pieceReady base x)).bind fun z_ => match z_ with | ((_, .broadcast a_ _ _ _ _ _), _) => some a_ | _ => none).get (by decide +kernel +zetaReduce); let v : Nat := (((p.takeMsg fun x => isBroadcast x && p.pieceReady base x)).bind fun z_ => match z_ with | ((_, .broadcast _ a_ _ _ _ _), _) => some a_ | _ => none).get (by decide +kernel +zetaReduce); let sh : Nat := (((p.takeMsg fun x => isBroadcast x && p.pieceReady base x)).bind fun z_ => match z_ with | ((_, .broadcast _ _ a_ _ _ _), _) => some a_ | _ => none).get (by decide +kernel +zetaReduce); let off : Nat := (((p.takeMsg fun x => isBroadcast x && p.pieceReady base x)).bind fun z_ => match z_ with | ((_, .broadcast _ _ _ a_ _ _), _) => some a_ | _ => none).get (by decide +kernel +zetaReduce); let last : Bool := (((p.takeMsg fun x => isBroadcast x && p.pieceReady base x)).bind fun z_ => match z_ with | ((_, .broadcast _ _ _ _ a_ _), _) => some a_ | _ => none).get (by decide +kernel +zetaReduce); let d : Bytes := (((p.takeMsg fun x => isBroadcast x && p.pieceReady base x)).bind fun z_ => match z_ with | ((_, .broadcast _ _ _ _ _ a_), _) => some a_ | _ => none).get (by decide +kernel +zetaReduce); let q : Machine.Part := (((p.takeMsg fun x => isBroadcast x && p.pieceReady base x)).bind fun z_ => match z_ with | ((_, .broadcast _ _ _ _ _ _), a_) => some a_ | _ => none).get (by decide +kernel +zetaReduce); ⟨s, base, p, x, m, v, sh, off, last, d, q, by decide +kernel +zetaReduce⟩),
   (let s : State := sIngotsAndTierCopiesTravel 13; let base : Nat := stripeAddr 4; let p : Machine.Part := s.part.joinQueue; let x : Nat := (((p.takeMsg fun x => isBroadcast x && p.pieceReady base x)).bind fun z_ => match z_ with | ((a_, .broadcast _ _ _ _ _ _), _) => some a_ | _ => none).get (by decide +kernel +zetaReduce); let m : Nat := (((p.takeMsg fun x => isBroadcast x && p.pieceReady base x)).bind fun z_ => match z_ with | ((_, .broadcast a_ _ _ _ _ _), _) => some a_ | _ => none).get (by decide +kernel +zetaReduce); let v : Nat := (((p.takeMsg fun x => isBroadcast x && p.pieceReady base x)).bind fun z_ => match z_ with | ((_, .broadcast _ a_ _ _ _ _), _) => some a_ | _ => none).get (by decide +kernel +zetaReduce); let sh : Nat := (((p.takeMsg fun x => isBroadcast x && p.pieceReady base x)).bind fun z_ => match z_ with | ((_, .broadcast _ _ a_ _ _ _), _) => some a_ | _ => none).get (by decide +kernel +zetaReduce); let off : Nat := (((p.takeMsg fun x => isBroadcast x && p.pieceReady base x)).bind fun z_ => match z_ with | ((_, .broadcast _ _ _ a_ _ _), _) => some a_ | _ => none).get (by decide +kernel +zetaReduce); let last : Bool := (((p.takeMsg fun x => isBroadcast x && p.pieceReady base x)).bind fun z_ => match z_ with | ((_, .broadcast _ _ _ _ a_ _), _) => some a_ | _ => none).get (by decide +kernel +zetaReduce); let d : Bytes := (((p.takeMsg fun x => isBroadcast x && p.pieceReady base x)).bind fun z_ => match z_ with | ((_, .broadcast _ _ _ _ _ a_), _) => some a_ | _ => none).get (by decide +kernel +zetaReduce); let q : Machine.Part := (((p.takeMsg fun x => isBroadcast x && p.pieceReady base x)).bind fun z_ => match z_ with | ((_, .broadcast _ _ _ _ _ _), a_) => some a_ | _ => none).get (by decide +kernel +zetaReduce); let e : Nat := (q.entryOf m v).get (by decide +kernel +zetaReduce); let w : Version := (q.ver e).get (by decide +kernel +zetaReduce); ⟨s, base, p, x, m, v, sh, off, last, d, q, e, w, by decide +kernel +zetaReduce⟩),
   (let s : State := sIngotsAndTierCopiesTravel 14; let base : Nat := stripeAddr 4; let p : Machine.Part := s.part.joinQueue; let x : Nat := (((p.takeMsg fun x => isBroadcast x && p.pieceReady base x)).bind fun z_ => match z_ with | ((a_, .broadcast _ _ _ _ _ _), _) => some a_ | _ => none).get (by decide +kernel +zetaReduce); let m : Nat := (((p.takeMsg fun x => isBroadcast x && p.pieceReady base x)).bind fun z_ => match z_ with | ((_, .broadcast a_ _ _ _ _ _), _) => some a_ | _ => none).get (by decide +kernel +zetaReduce); let v : Nat := (((p.takeMsg fun x => isBroadcast x && p.pieceReady base x)).bind fun z_ => match z_ with | ((_, .broadcast _ a_ _ _ _ _), _) => some a_ | _ => none).get (by decide +kernel +zetaReduce); let sh : Nat := (((p.takeMsg fun x => isBroadcast x && p.pieceReady base x)).bind fun z_ => match z_ with | ((_, .broadcast _ _ a_ _ _ _), _) => some a_ | _ => none).get (by decide +kernel +zetaReduce); let off : Nat := (((p.takeMsg fun x => isBroadcast x && p.pieceReady base x)).bind fun z_ => match z_ with | ((_, .broadcast _ _ _ a_ _ _), _) => some a_ | _ => none).get (by decide +kernel +zetaReduce); let last : Bool := (((p.takeMsg fun x => isBroadcast x && p.pieceReady base x)).bind fun z_ => match z_ with | ((_, .broadcast _ _ _ _ a_ _), _) => some a_ | _ => none).get (by decide +kernel +zetaReduce); let d : Bytes := (((p.takeMsg fun x => isBroadcast x && p.pieceReady base x)).bind fun z_ => match z_ with | ((_, .broadcast _ _ _ _ _ a_), _) => some a_ | _ => none).get (by decide +kernel +zetaReduce); let q : Machine.Part := (((p.takeMsg fun x => isBroadcast x && p.pieceReady base x)).bind fun z_ => match z_ with | ((_, .broadcast _ _ _ _ _ _), a_) => some a_ | _ => none).get (by decide +kernel +zetaReduce); let e : Nat := (q.entryOf m v).get (by decide +kernel +zetaReduce); let w : Version := (q.ver e).get (by decide +kernel +zetaReduce); let y : Shard := (q.shard e sh).get (by decide +kernel +zetaReduce); ⟨s, base, p, x, m, v, sh, off, last, d, q, e, w, y, by decide +kernel +zetaReduce⟩),
   (let s : State := sIngotsAndTierCopiesTravel 15; let base : Nat := stripeAddr 4; let p : Machine.Part := s.part.joinQueue; let x : Nat := (((p.takeMsg fun x => isBroadcast x && p.pieceReady base x)).bind fun z_ => match z_ with | ((a_, .broadcast _ _ _ _ _ _), _) => some a_ | _ => none).get (by decide +kernel +zetaReduce); let m : Nat := (((p.takeMsg fun x => isBroadcast x && p.pieceReady base x)).bind fun z_ => match z_ with | ((_, .broadcast a_ _ _ _ _ _), _) => some a_ | _ => none).get (by decide +kernel +zetaReduce); let v : Nat := (((p.takeMsg fun x => isBroadcast x && p.pieceReady base x)).bind fun z_ => match z_ with | ((_, .broadcast _ a_ _ _ _ _), _) => some a_ | _ => none).get (by decide +kernel +zetaReduce); let sh : Nat := (((p.takeMsg fun x => isBroadcast x && p.pieceReady base x)).bind fun z_ => match z_ with | ((_, .broadcast _ _ a_ _ _ _), _) => some a_ | _ => none).get (by decide +kernel +zetaReduce); let off : Nat := (((p.takeMsg fun x => isBroadcast x && p.pieceReady base x)).bind fun z_ => match z_ with | ((_, .broadcast _ _ _ a_ _ _), _) => some a_ | _ => none).get (by decide +kernel +zetaReduce); let last : Bool := (((p.takeMsg fun x => isBroadcast x && p.pieceReady base x)).bind fun z_ => match z_ with | ((_, .broadcast _ _ _ _ a_ _), _) => some a_ | _ => none).get (by decide +kernel +zetaReduce); let d : Bytes := (((p.takeMsg fun x => isBroadcast x && p.pieceReady base x)).bind fun z_ => match z_ with | ((_, .broadcast _ _ _ _ _ a_), _) => some a_ | _ => none).get (by decide +kernel +zetaReduce); let q : Machine.Part := (((p.takeMsg fun x => isBroadcast x && p.pieceReady base x)).bind fun z_ => match z_ with | ((_, .broadcast _ _ _ _ _ _), a_) => some a_ | _ => none).get (by decide +kernel +zetaReduce); let e : Nat := (q.entryOf m v).get (by decide +kernel +zetaReduce); let w : Version := (q.ver e).get (by decide +kernel +zetaReduce); let y : Shard := (q.shard e sh).get (by decide +kernel +zetaReduce); ⟨s, base, p, x, m, v, sh, off, last, d, q, e, w, y, by decide +kernel +zetaReduce⟩),
   (let s : State := sIngotsAndTierCopiesTravel 16; let base : Nat := stripeAddr 4; let p : Machine.Part := s.part.joinQueue; let x : Nat := (((p.takeMsg fun x => isBroadcast x && p.pieceReady base x)).bind fun z_ => match z_ with | ((a_, .broadcast _ _ _ _ _ _), _) => some a_ | _ => none).get (by decide +kernel +zetaReduce); let m : Nat := (((p.takeMsg fun x => isBroadcast x && p.pieceReady base x)).bind fun z_ => match z_ with | ((_, .broadcast a_ _ _ _ _ _), _) => some a_ | _ => none).get (by decide +kernel +zetaReduce); let v : Nat := (((p.takeMsg fun x => isBroadcast x && p.pieceReady base x)).bind fun z_ => match z_ with | ((_, .broadcast _ a_ _ _ _ _), _) => some a_ | _ => none).get (by decide +kernel +zetaReduce); let sh : Nat := (((p.takeMsg fun x => isBroadcast x && p.pieceReady base x)).bind fun z_ => match z_ with | ((_, .broadcast _ _ a_ _ _ _), _) => some a_ | _ => none).get (by decide +kernel +zetaReduce); let off : Nat := (((p.takeMsg fun x => isBroadcast x && p.pieceReady base x)).bind fun z_ => match z_ with | ((_, .broadcast _ _ _ a_ _ _), _) => some a_ | _ => none).get (by decide +kernel +zetaReduce); let last : Bool := (((p.takeMsg fun x => isBroadcast x && p.pieceReady base x)).bind fun z_ => match z_ with | ((_, .broadcast _ _ _ _ a_ _), _) => some a_ | _ => none).get (by decide +kernel +zetaReduce); let d : Bytes := (((p.takeMsg fun x => isBroadcast x && p.pieceReady base x)).bind fun z_ => match z_ with | ((_, .broadcast _ _ _ _ _ a_), _) => some a_ | _ => none).get (by decide +kernel +zetaReduce); let q : Machine.Part := (((p.takeMsg fun x => isBroadcast x && p.pieceReady base x)).bind fun z_ => match z_ with | ((_, .broadcast _ _ _ _ _ _), a_) => some a_ | _ => none).get (by decide +kernel +zetaReduce); let e : Nat := (q.entryOf m v).get (by decide +kernel +zetaReduce); let w : Version := (q.ver e).get (by decide +kernel +zetaReduce); let y : Shard := (q.shard e sh).get (by decide +kernel +zetaReduce); ⟨s, base, p, x, m, v, sh, off, last, d, q, e, w, y, by decide +kernel +zetaReduce⟩),
   ⟨sIngotsAndTierCopiesTravel 0, by decide +kernel⟩,
   ⟨sIngotsAndTierCopiesTravel 17, by decide +kernel⟩,
   ⟨sIngotsAndTierCopiesTravel 3, by decide +kernel⟩,
   (let s : State := sIngotsAndTierCopiesTravel 18; let base : Nat := stripeAddr 4; let e : Nat := (match s.part.models.queue with | (a_, _) :: _ => ([a_] : List (Nat)) | _ => []).headD 0; let sh : Nat := (match s.part.models.queue with | (_, a_) :: _ => ([a_] : List (Nat)) | _ => []).headD 0; let rest : List (Nat × Nat) := (match s.part.models.queue with | (_, _) :: a_ => ([a_] : List (List (Nat × Nat))) | _ => []).headD []; let q : Machine.Part := (s.part.stageHead e sh base).get (by decide +kernel +zetaReduce); ⟨s, base, e, sh, rest, q, by decide +kernel +zetaReduce⟩),
   (let s : State := sIngotsAndTierCopiesTravel 19; let e : Nat := (match s.part.models.queue with | (a_, _) :: _ => ([a_] : List (Nat)) | _ => []).headD 0; let sh : Nat := (match s.part.models.queue with | (_, a_) :: _ => ([a_] : List (Nat)) | _ => []).headD 0; let rest : List (Nat × Nat) := (match s.part.models.queue with | (_, _) :: a_ => ([a_] : List (List (Nat × Nat))) | _ => []).headD []; ⟨s, stripeAddr 4, e, sh, rest, by decide +kernel +zetaReduce⟩),
   (let s : State := sIngotsAndTierCopiesTravel 20; let e : Nat := (match s.part.models.queue with | (a_, _) :: _ => ([a_] : List (Nat)) | _ => []).headD 0; let sh : Nat := (match s.part.models.queue with | (_, a_) :: _ => ([a_] : List (Nat)) | _ => []).headD 0; let rest : List (Nat × Nat) := (match s.part.models.queue with | (_, _) :: a_ => ([a_] : List (List (Nat × Nat))) | _ => []).headD []; let x : Shard := (s.part.shard e sh).get (by decide +kernel +zetaReduce); ⟨s, stripeAddr 4, e, sh, rest, x, by decide +kernel +zetaReduce⟩),
   (let s : State := sIngotsAndTierCopiesTravel 21; let e : Nat := (match s.part.models.queue with | (a_, _) :: _ => ([a_] : List (Nat)) | _ => []).headD 0; let sh : Nat := (match s.part.models.queue with | (_, a_) :: _ => ([a_] : List (Nat)) | _ => []).headD 0; let rest : List (Nat × Nat) := (match s.part.models.queue with | (_, _) :: a_ => ([a_] : List (List (Nat × Nat))) | _ => []).headD []; let x : Shard := (s.part.shard e sh).get (by decide +kernel +zetaReduce); ⟨s, stripeAddr 4, e, sh, rest, x, by decide +kernel +zetaReduce⟩),
   (let s : State := sIngotsAndTierCopiesTravel 22; let lender : Option (Nat × Nat) := none; let e : Nat := (match s.part.models.queue with | (a_, _) :: _ => ([a_] : List (Nat)) | _ => []).headD 0; let sh : Nat := (match s.part.models.queue with | (_, a_) :: _ => ([a_] : List (Nat)) | _ => []).headD 0; let rest : List (Nat × Nat) := (match s.part.models.queue with | (_, _) :: a_ => ([a_] : List (List (Nat × Nat))) | _ => []).headD []; let x : Shard := (s.part.shard e sh).get (by decide +kernel +zetaReduce); let a : Nat := ((s.part.demotable).map Prod.fst).get (by decide +kernel +zetaReduce); let b : Nat := ((s.part.demotable).map Prod.snd).get (by decide +kernel +zetaReduce); let t : State := (s.demote a b lender).1; ⟨s, stripeAddr 4, lender, e, sh, rest, x, a, b, t, by decide +kernel +zetaReduce, by decide +kernel +zetaReduce, by decide +kernel +zetaReduce, by decide +kernel +zetaReduce, by decide +kernel +zetaReduce, by decide +kernel +zetaReduce, by decide +kernel +zetaReduce, by decide +kernel +zetaReduce, by decide +kernel +zetaReduce, Prod.ext rfl (by decide +kernel +zetaReduce)⟩),
   (let s : State := sIngotsAndTierCopiesTravel 23; let lender : Option (Nat × Nat) := none; let e : Nat := (match s.part.models.queue with | (a_, _) :: _ => ([a_] : List (Nat)) | _ => []).headD 0; let sh : Nat := (match s.part.models.queue with | (_, a_) :: _ => ([a_] : List (Nat)) | _ => []).headD 0; let rest : List (Nat × Nat) := (match s.part.models.queue with | (_, _) :: a_ => ([a_] : List (List (Nat × Nat))) | _ => []).headD []; let x : Shard := (s.part.shard e sh).get (by decide +kernel +zetaReduce); let a : Nat := ((s.part.demotable).map Prod.fst).get (by decide +kernel +zetaReduce); let b : Nat := ((s.part.demotable).map Prod.snd).get (by decide +kernel +zetaReduce); let t : State := (s.demote a b lender).1; ⟨s, stripeAddr 4, lender, e, sh, rest, x, a, b, t, by decide +kernel +zetaReduce, by decide +kernel +zetaReduce, by decide +kernel +zetaReduce, by decide +kernel +zetaReduce, by decide +kernel +zetaReduce, by decide +kernel +zetaReduce, by decide +kernel +zetaReduce, by decide +kernel +zetaReduce, by decide +kernel +zetaReduce, Prod.ext rfl (by decide +kernel +zetaReduce)⟩),
   ⟨sIngotsAndTierCopiesTravel 3, 0, 0, by decide +kernel⟩,
   (let s : State := sIngotsAndTierCopiesTravel 24; let e : Nat := 0; let sh : Nat := 0; let x : Shard := (s.part.shard e sh).get (by decide +kernel +zetaReduce); let t : TierCopy := (x.tier).get (by decide +kernel +zetaReduce); ⟨s, e, sh, x, t, by decide +kernel +zetaReduce⟩),
   (let s : State := sIngotsAndTierCopiesTravel 25; let e : Nat := 0; let sh : Nat := 0; let x : Shard := (s.part.shard e sh).get (by decide +kernel +zetaReduce); let t : TierCopy := (x.tier).get (by decide +kernel +zetaReduce); ⟨s, e, sh, x, t, by decide +kernel +zetaReduce⟩),
   (let s : State := sIngotsAndTierCopiesTravel 26; let e : Nat := 0; let sh : Nat := 0; let x : Shard := (s.part.shard e sh).get (by decide +kernel +zetaReduce); ⟨s, e, sh, x, by decide +kernel +zetaReduce⟩),
   ⟨sIngotsAndTierCopiesTravel 3, 0, 0, by decide +kernel⟩,
   (let s : State := sIngotsAndTierCopiesTravel 25; let e : Nat := 0; let sh : Nat := 0; let x : Shard := (s.part.shard e sh).get (by decide +kernel +zetaReduce); let t : TierCopy := (x.tier).get (by decide +kernel +zetaReduce); ⟨s, e, sh, x, t, by decide +kernel +zetaReduce⟩),
   (let s : State := sIngotsAndTierCopiesTravel 27; let e : Nat := 0; let sh : Nat := 0; let x : Shard := (s.part.shard e sh).get (by decide +kernel +zetaReduce); let t : TierCopy := (x.tier).get (by decide +kernel +zetaReduce); ⟨s, e, sh, x, t, by decide +kernel +zetaReduce, by decide +kernel +zetaReduce, by decide +kernel +zetaReduce, by decide +kernel +zetaReduce, by decide +kernel +zetaReduce, by decide +kernel +zetaReduce, by decide +kernel +zetaReduce, by decide +kernel +zetaReduce, by decide +kernel +zetaReduce, by decide +kernel +zetaReduce⟩),
   (let s : State := sIngotsAndTierCopiesTravel 24; let e : Nat := 0; let sh : Nat := 0; let x : Shard := (s.part.shard e sh).get (by decide +kernel +zetaReduce); let t : TierCopy := (x.tier).get (by decide +kernel +zetaReduce); ⟨s, e, sh, x, t, by decide +kernel +zetaReduce⟩),
   (let s : State := sIngotsAndTierCopiesTravel 28; let e : Nat := 0; let sh : Nat := 0; let x : Shard := (s.part.shard e sh).get (by decide +kernel +zetaReduce); let t : TierCopy := (x.tier).get (by decide +kernel +zetaReduce); ⟨s, e, sh, x, t, by decide +kernel +zetaReduce⟩)⟩

/-- States for `wit_ReadsTiersAndGrammars`. -/
def sReadsTiersAndGrammars (n : Nat) : State :=
  ([st (pOn.setNvme 1 { NvmeConn.reset with st := 1, cfg := z 22 ++ [8] ++ z 41, sess := 3 }),
    st (nvm [(0, 8192)] (shd stg)),
    st (rds ⟨1, 64, 0, 4096, 2⟩ (shd stg)),
    st (pOn.setNvme 1 { NvmeConn.reset with st := 2, reads := [⟨0, 1, 0, 1, 0⟩] }),
    st (pOn.setNvme 1 { NvmeConn.reset with st := 2, reads := [⟨0, 1, 0, 2, 2⟩] }),
    st (rds ⟨2, 64, 0, 4096, 2⟩ pOn),
    st (rds ⟨4, 3, 2, 4096, 2⟩ (ctl fun c => { c with load := some ⟨4, 0, 0, 0, 2, false⟩ })),
    st (rds ⟨5, 3, 2, 4096, 2⟩ (pOn.setGram 2 { Grammar.reset with st := 1 })),
    st (rds ⟨6, 3, 0, 4096, 64⟩ ldr.part),
    st (rds ⟨8, 64, 0, 4096, 2⟩ (mdl (tiered fun x => { x with held := false, tier := some (tc true) }))),
    run (tr ((List.range 16).map fun i => (i, ⟨65536 * i, 65536, false⟩)) id) addPk,
    run (tr [(0, ⟨0, 4096, false⟩)] id) addPk,
    run (tr [(0, ⟨0, 4096, false⟩)] id) remPk,
    run (tr [(1, ⟨0, 4096, true⟩)] id) remPk,
    run (fullP (tr [(1, ⟨0, 4096, false⟩)] (tiered fun x => { x with held := false, tier := some (tc true) }))) remPk,
    gr (fun g => { g with st := 1 }) 0x48,
    gr (fun g => { g with st := 2 }) 0x48,
    gr (fun g => g) 0x49,
    gr (fun g => { g with st := 2, pins := 1 }) 0x49,
    gr (fun g => { g with st := 2, image := [1], addr := 5 }) 0x49] : List State).getD n State.reset

theorem wit_ReadsTiersAndGrammars :
    (∃ (s : State) (c : Nat) (n : NvmeConn), isController c = true ∧ s.part.alive 19 = true ∧ n = s.part.nvme c ∧ n.st = 1) ∧
    (∃ (s : State) (c : Nat) (n : NvmeConn) (ioq : Nat), isController c = true ∧ s.part.alive 19 = true ∧ n = s.part.nvme c ∧ n.st = 1 ∧ 1 ≤ ioq) ∧
    (∃ (s : State) (c : Nat) (n : NvmeConn), isController c = true ∧ s.part.alive 19 = true ∧ n = s.part.nvme c ∧ n.st = 1) ∧
    (∃ (s : State) (c : Nat) (n : NvmeConn), isController c = true ∧ s.part.alive 19 = true ∧ n = s.part.nvme c ∧ n.st ≠ 1) ∧
    (∃ (s : State) (c : Nat) (n : NvmeConn), isController c = true ∧ s.part.alive 19 = true ∧ n = s.part.nvme c ∧ n.st ≠ 1) ∧
    (∃ (s : State) (c : Nat) (n : NvmeConn), isController c = true ∧ s.part.alive 19 = true ∧ n = s.part.nvme c ∧ n.st ≠ 1 ∧ n.st ≠ 2) ∧
    (∃ (s : State) (c : Nat) (n : NvmeConn), isController c = true ∧ s.part.alive 19 = true ∧ n = s.part.nvme c ∧ (n.reads = [] ∨ n.st ≠ 2)) ∧
    (∃ (s : State) (c : Nat) (n : NvmeConn), isController c = true ∧ s.part.alive 19 = true ∧ n = s.part.nvme c ∧ (n.reads = [] ∨ n.st ≠ 2)) ∧
    (∃ (s : State) (c : Nat) (n : NvmeConn) (r : NvmeRead) (rest : List NvmeRead) (b : Bytes), isController c = true ∧ s.part.alive 19 = true ∧ n = s.part.nvme c ∧ n.st = 2 ∧ n.reads = r :: rest ∧ r.len < r.got + b.length) ∧
    (∃ (s : State) (c : Nat) (n : NvmeConn) (r : NvmeRead) (rest : List NvmeRead) (b : Bytes), isController c = true ∧ s.part.alive 19 = true ∧ n = s.part.nvme c ∧ n.st = 2 ∧ n.reads = r :: rest ∧ r.got + b.length ≤ r.len) ∧
    (∃ (s : State) (c : Nat) (n : NvmeConn) (r : NvmeRead) (rest : List NvmeRead), isController c = true ∧ s.part.alive 19 = true ∧ n = s.part.nvme c ∧ n.st = 2 ∧ n.reads = r :: rest ∧ r.got ≠ r.len) ∧
    (∃ (s : State) (c : Nat) (n : NvmeConn) (r : NvmeRead) (rest : List NvmeRead), isController c = true ∧ s.part.alive 19 = true ∧ n = s.part.nvme c ∧ n.st = 2 ∧ n.reads = r :: rest ∧ r.got = r.len) ∧
    (∃ (s : State) (j : Nat), s.part.alive 1 = true ∧ s.part.takeRead j = none) ∧
    (∃ (s : State) (j : Nat) (d : Bytes) (r : HostRead) (q : Machine.Part), s.part.alive 1 = true ∧ s.part.takeRead j = some (r, q) ∧ (d.length ≠ r.len ∨ s.part.canWrite = false)) ∧
    (∃ (s : State) (j : Nat) (d : Bytes) (r : HostRead) (q : Machine.Part), s.part.alive 1 = true ∧ s.part.takeRead j = some (r, q) ∧ d.length = r.len ∧ s.part.canWrite = true ∧ r.kind = 1) ∧
    (∃ (s : State) (j : Nat) (d : Bytes) (r : HostRead) (q : Machine.Part), s.part.alive 1 = true ∧ s.part.takeRead j = some (r, q) ∧ d.length = r.len ∧ s.part.canWrite = true ∧ (r.kind = 2 ∨ r.kind = 3)) ∧
    (∃ (s : State) (j : Nat) (d : Bytes) (r : HostRead) (q : Machine.Part), s.part.alive 1 = true ∧ s.part.takeRead j = some (r, q) ∧ d.length = r.len ∧ s.part.canWrite = true ∧ r.kind = 4) ∧
    (∃ (s : State) (j : Nat) (d : Bytes) (r : HostRead) (q : Machine.Part), s.part.alive 1 = true ∧ s.part.takeRead j = some (r, q) ∧ d.length = r.len ∧ s.part.canWrite = true ∧ r.kind = 5) ∧
    (∃ (s : State) (j : Nat) (d : Bytes) (r : HostRead) (q : Machine.Part) (k : Bytes), s.part.alive 1 = true ∧ s.part.takeRead j = some (r, q) ∧ d.length = r.len ∧ s.part.canWrite = true ∧ r.kind = 6 ∧ (q.ses r.sess).cur = some k) ∧
    (∃ (s : State) (j : Nat) (d : Bytes) (r : HostRead) (q : Machine.Part), s.part.alive 1 = true ∧ s.part.takeRead j = some (r, q) ∧ d.length = r.len ∧ s.part.canWrite = true ∧ r.kind = 8) ∧
    (∃ (s : State) (j : Nat) (r : HostRead) (q : Machine.Part) (q' : Machine.Part), s.part.alive 1 = true ∧ s.part.takeRead j = some (r, q) ∧ q' = { q with host := { q.host with aer := q.host.aer + 1 } } ∧ r.kind = 1) ∧
    (∃ (s : State) (j : Nat) (r : HostRead) (q : Machine.Part) (q' : Machine.Part), s.part.alive 1 = true ∧ s.part.takeRead j = some (r, q) ∧ q' = { q with host := { q.host with aer := q.host.aer + 1 } } ∧ r.kind = 6) ∧
    (∃ (s : State) (j : Nat) (r : HostRead) (q : Machine.Part) (q' : Machine.Part), s.part.alive 1 = true ∧ s.part.takeRead j = some (r, q) ∧ q' = { q with host := { q.host with aer := q.host.aer + 1 } } ∧ r.kind = 5) ∧
    (∃ (s : State) (j : Nat) (r : HostRead) (q : Machine.Part) (q' : Machine.Part), s.part.alive 1 = true ∧ s.part.takeRead j = some (r, q) ∧ q' = { q with host := { q.host with aer := q.host.aer + 1 } } ∧ r.kind = 8) ∧
    (∃ (s : State) (i : Nat) (k : Bytes), Running s i 0x26 k ∧ (((List.range 16).find? fun r => (mfind s.part.models.tiers r).isNone) = none ∨ 2 ^ 36 < sumNat (s.part.models.tiers.map fun g => g.2.len) + par k 8 8)) ∧
    (∃ (s : State) (i : Nat) (k : Bytes) (r : Nat), Running s i 0x26 k ∧ (((List.range 16).find? fun r => (mfind s.part.models.tiers r).isNone) = some r) ∧ (sumNat (s.part.models.tiers.map fun g => g.2.len) + par k 8 8 ≤ 2 ^ 36)) ∧
    (∃ (s : State) (i : Nat) (k : Bytes), Running s i 0x27 k ∧ mfind s.part.models.tiers (par k 0 1) = none) ∧
    (∃ (s : State) (i : Nat) (k : Bytes) (g : TierRegion), Running s i 0x27 k ∧ mfind s.part.models.tiers (par k 0 1) = some g ∧ g.closed = true) ∧
    (∃ (s : State) (i : Nat) (k : Bytes) (g : TierRegion), Running s i 0x27 k ∧ mfind s.part.models.tiers (par k 0 1) = some g ∧ g.closed = false) ∧
    (∃ (s : State) (i : Nat) (k : Bytes), Running s i 0x48 k ∧ ((s.part.gram (par k 0 1)).pins ≠ 0 ∨ (s.part.gram (par k 0 1)).st = 1)) ∧
    (∃ (s : State) (i : Nat) (k : Bytes), Running s i 0x48 k ∧ (s.part.gram (par k 0 1)).pins = 0 ∧ (s.part.gram (par k 0 1)).st ≠ 1) ∧
    (∃ (s : State) (i : Nat) (k : Bytes), Running s i 0x49 k ∧ (s.part.gram (par k 0 1)).st = 0) ∧
    (∃ (s : State) (i : Nat) (k : Bytes), Running s i 0x49 k ∧ (s.part.gram (par k 0 1)).st ≠ 0 ∧ ((s.part.gram (par k 0 1)).pins ≠ 0 ∨ (s.part.gram (par k 0 1)).st = 1)) ∧
    (∃ (s : State) (i : Nat) (k : Bytes), Running s i 0x49 k ∧ (s.part.gram (par k 0 1)).st ≠ 0 ∧ (s.part.gram (par k 0 1)).pins = 0 ∧ (s.part.gram (par k 0 1)).st ≠ 1) :=
  ⟨(let s : State := sReadsTiersAndGrammars 0; let c : Nat := 1; let n : NvmeConn := s.part.nvme c; ⟨s, c, n, by decide +kernel +zetaReduce⟩),
   (let s : State := sReadsTiersAndGrammars 0; let c : Nat := 1; let n : NvmeConn := s.part.nvme c; ⟨s, c, n, 4, by decide +kernel +zetaReduce⟩),
   (let s : State := sReadsTiersAndGrammars 0; let c : Nat := 1; let n : NvmeConn := s.part.nvme c; ⟨s, c, n, by decide +kernel +zetaReduce⟩),
   (let s : State := sReadsTiersAndGrammars 1; let c : Nat := 1; let n : NvmeConn := s.part.nvme c; ⟨s, c, n, by decide +kernel +zetaReduce⟩),
   (let s : State := sReadsTiersAndGrammars 1; let c : Nat := 1; let n : NvmeConn := s.part.nvme c; ⟨s, c, n, by decide +kernel +zetaReduce⟩),
   (let s : State := sReadsTiersAndGrammars 2; let c : Nat := 1; let n : NvmeConn := s.part.nvme c; ⟨s, c, n, by decide +kernel +zetaReduce⟩),
   (let s : State := sReadsTiersAndGrammars 2; let c : Nat := 1; let n : NvmeConn := s.part.nvme c; ⟨s, c, n, by decide +kernel +zetaReduce⟩),
   (let s : State := sReadsTiersAndGrammars 2; let c : Nat := 1; let n : NvmeConn := s.part.nvme c; ⟨s, c, n, by decide +kernel +zetaReduce⟩),
   (let s : State := sReadsTiersAndGrammars 3; let c : Nat := 1; let n : NvmeConn := s.part.nvme c; let r : NvmeRead := (n.reads).head (by decide +kernel +zetaReduce); let rest : List NvmeRead := (n.reads).tail; ⟨s, c, n, r, rest, ([9, 9] : Bytes), by decide +kernel +zetaReduce⟩),
   (let s : State := sReadsTiersAndGrammars 1; let c : Nat := 1; let n : NvmeConn := s.part.nvme c; let r : NvmeRead := (n.reads).head (by decide +kernel +zetaReduce); let rest : List NvmeRead := (n.reads).tail; ⟨s, c, n, r, rest, ([9, 9] : Bytes), by decide +kernel +zetaReduce⟩),
   (let s : State := sReadsTiersAndGrammars 1; let c : Nat := 1; let n : NvmeConn := s.part.nvme c; let r : NvmeRead := (n.reads).head (by decide +kernel +zetaReduce); let rest : List NvmeRead := (n.reads).tail; ⟨s, c, n, r, rest, by decide +kernel +zetaReduce⟩),
   (let s : State := sReadsTiersAndGrammars 4; let c : Nat := 1; let n : NvmeConn := s.part.nvme c; let r : NvmeRead := (n.reads).head (by decide +kernel +zetaReduce); let rest : List NvmeRead := (n.reads).tail; ⟨s, c, n, r, rest, by decide +kernel +zetaReduce⟩),
   ⟨sReadsTiersAndGrammars 1, 0, by decide +kernel⟩,
   (let s : State := sReadsTiersAndGrammars 2; let j : Nat := 0; let r : HostRead := ((s.part.takeRead j).map Prod.fst).get (by decide +kernel +zetaReduce); let q : Machine.Part := ((s.part.takeRead j).map Prod.snd).get (by decide +kernel +zetaReduce); ⟨s, j, z 64, r, q, by decide +kernel +zetaReduce⟩),
   (let s : State := sReadsTiersAndGrammars 2; let j : Nat := 0; let r : HostRead := ((s.part.takeRead j).map Prod.fst).get (by decide +kernel +zetaReduce); let q : Machine.Part := ((s.part.takeRead j).map Prod.snd).get (by decide +kernel +zetaReduce); ⟨s, j, [9, 9], r, q, by decide +kernel +zetaReduce⟩),
   (let s : State := sReadsTiersAndGrammars 5; let j : Nat := 0; let r : HostRead := ((s.part.takeRead j).map Prod.fst).get (by decide +kernel +zetaReduce); let q : Machine.Part := ((s.part.takeRead j).map Prod.snd).get (by decide +kernel +zetaReduce); ⟨s, j, [9, 9], r, q, by decide +kernel +zetaReduce⟩),
   (let s : State := sReadsTiersAndGrammars 6; let j : Nat := 0; let r : HostRead := ((s.part.takeRead j).map Prod.fst).get (by decide +kernel +zetaReduce); let q : Machine.Part := ((s.part.takeRead j).map Prod.snd).get (by decide +kernel +zetaReduce); ⟨s, j, [9, 9], r, q, by decide +kernel +zetaReduce⟩),
   (let s : State := sReadsTiersAndGrammars 7; let j : Nat := 0; let r : HostRead := ((s.part.takeRead j).map Prod.fst).get (by decide +kernel +zetaReduce); let q : Machine.Part := ((s.part.takeRead j).map Prod.snd).get (by decide +kernel +zetaReduce); ⟨s, j, [9, 9], r, q, by decide +kernel +zetaReduce⟩),
   (let s : State := sReadsTiersAndGrammars 8; let j : Nat := 0; let r : HostRead := ((s.part.takeRead j).map Prod.fst).get (by decide +kernel +zetaReduce); let q : Machine.Part := ((s.part.takeRead j).map Prod.snd).get (by decide +kernel +zetaReduce); let k : Bytes := ((q.ses r.sess).cur).get (by decide +kernel +zetaReduce); ⟨s, j, z 64, r, q, k, by decide +kernel +zetaReduce⟩),
   (let s : State := sReadsTiersAndGrammars 9; let j : Nat := 0; let r : HostRead := ((s.part.takeRead j).map Prod.fst).get (by decide +kernel +zetaReduce); let q : Machine.Part := ((s.part.takeRead j).map Prod.snd).get (by decide +kernel +zetaReduce); ⟨s, j, [9, 9], r, q, by decide +kernel +zetaReduce⟩),
   (let s : State := sReadsTiersAndGrammars 2; let j : Nat := 0; let r : HostRead := ((s.part.takeRead j).map Prod.fst).get (by decide +kernel +zetaReduce); let q : Machine.Part := ((s.part.takeRead j).map Prod.snd).get (by decide +kernel +zetaReduce); let q' : Machine.Part := { q with host := { q.host with aer := q.host.aer + 1 } }; ⟨s, j, r, q, q', by decide +kernel +zetaReduce⟩),
   (let s : State := sReadsTiersAndGrammars 8; let j : Nat := 0; let r : HostRead := ((s.part.takeRead j).map Prod.fst).get (by decide +kernel +zetaReduce); let q : Machine.Part := ((s.part.takeRead j).map Prod.snd).get (by decide +kernel +zetaReduce); let q' : Machine.Part := { q with host := { q.host with aer := q.host.aer + 1 } }; ⟨s, j, r, q, q', by decide +kernel +zetaReduce⟩),
   (let s : State := sReadsTiersAndGrammars 7; let j : Nat := 0; let r : HostRead := ((s.part.takeRead j).map Prod.fst).get (by decide +kernel +zetaReduce); let q : Machine.Part := ((s.part.takeRead j).map Prod.snd).get (by decide +kernel +zetaReduce); let q' : Machine.Part := { q with host := { q.host with aer := q.host.aer + 1 } }; ⟨s, j, r, q, q', by decide +kernel +zetaReduce⟩),
   (let s : State := sReadsTiersAndGrammars 9; let j : Nat := 0; let r : HostRead := ((s.part.takeRead j).map Prod.fst).get (by decide +kernel +zetaReduce); let q : Machine.Part := ((s.part.takeRead j).map Prod.snd).get (by decide +kernel +zetaReduce); let q' : Machine.Part := { q with host := { q.host with aer := q.host.aer + 1 } }; ⟨s, j, r, q, q', by decide +kernel +zetaReduce⟩),
   (let s : State := sReadsTiersAndGrammars 10; let i : Nat := 3; let k : Bytes := ((s.part.ses i).cur).get (by decide +kernel +zetaReduce); ⟨s, i, k, by decide +kernel +zetaReduce⟩),
   (let s : State := sReadsTiersAndGrammars 11; let i : Nat := 3; let k : Bytes := ((s.part.ses i).cur).get (by decide +kernel +zetaReduce); let r : Nat := (((List.range 16).find? fun r => (mfind s.part.models.tiers r).isNone)).get (by decide +kernel +zetaReduce); ⟨s, i, k, r, by decide +kernel +zetaReduce⟩),
   (let s : State := sReadsTiersAndGrammars 12; let i : Nat := 3; let k : Bytes := ((s.part.ses i).cur).get (by decide +kernel +zetaReduce); ⟨s, i, k, by decide +kernel +zetaReduce⟩),
   (let s : State := sReadsTiersAndGrammars 13; let i : Nat := 3; let k : Bytes := ((s.part.ses i).cur).get (by decide +kernel +zetaReduce); let g : TierRegion := (mfind s.part.models.tiers (par k 0 1)).get (by decide +kernel +zetaReduce); ⟨s, i, k, g, by decide +kernel +zetaReduce⟩),
   (let s : State := sReadsTiersAndGrammars 14; let i : Nat := 3; let k : Bytes := ((s.part.ses i).cur).get (by decide +kernel +zetaReduce); let g : TierRegion := (mfind s.part.models.tiers (par k 0 1)).get (by decide +kernel +zetaReduce); ⟨s, i, k, g, by decide +kernel +zetaReduce⟩),
   (let s : State := sReadsTiersAndGrammars 15; let i : Nat := 3; let k : Bytes := ((s.part.ses i).cur).get (by decide +kernel +zetaReduce); ⟨s, i, k, by decide +kernel +zetaReduce⟩),
   (let s : State := sReadsTiersAndGrammars 16; let i : Nat := 3; let k : Bytes := ((s.part.ses i).cur).get (by decide +kernel +zetaReduce); ⟨s, i, k, by decide +kernel +zetaReduce⟩),
   (let s : State := sReadsTiersAndGrammars 17; let i : Nat := 3; let k : Bytes := ((s.part.ses i).cur).get (by decide +kernel +zetaReduce); ⟨s, i, k, by decide +kernel +zetaReduce⟩),
   (let s : State := sReadsTiersAndGrammars 18; let i : Nat := 3; let k : Bytes := ((s.part.ses i).cur).get (by decide +kernel +zetaReduce); ⟨s, i, k, by decide +kernel +zetaReduce⟩),
   (let s : State := sReadsTiersAndGrammars 19; let i : Nat := 3; let k : Bytes := ((s.part.ses i).cur).get (by decide +kernel +zetaReduce); ⟨s, i, k, by decide +kernel +zetaReduce⟩)⟩

/-- States for `wit_PagesAreOperatedOn`. -/
def sPagesAreOperatedOn (n : Nat) : State :=
  ([sa 0xC0 6 id,
    soonS 0xC4,
    sa 0xC4 5 id,
    soonS 0xC3,
    sa 0xC3 6 id,
    sa 0xC3 6 (fun _ => KvSlot.reset),
    sa 0 6 (fun v => { pgs 3 v with inStep := true, ops := [wop .alloc] }),
    sa 0 6 (fun v => { pgs 3 v with ops := [wop .alloc] }),
    { sCopy (.truncate 7) with part := { (sCopy (.truncate 7)).part with clk := { pOn.clk with cycles := 0 } } },
    sCopy (.truncate 7),
    sa 0 6 (fun v => { pgs 2 v with rebuild := [1] })] : List State).getD n State.reset

theorem wit_PagesAreOperatedOn :
    (∃ (s : State) (cxd : Nat) (sl : Nat) (c : Instr) (op : Nat) (u : Nat) (o : PageOp), isCxd cxd = true ∧ isSlot sl = true ∧ s.part.alive (11 + cxd) = true ∧ u = s.part.pageUnit cxd sl op ∧ ((c = .pageAlloc cxd sl ∧ op = 0xC0 ∧ o = .alloc) ∨ (∃ t n, c = .pageFork cxd sl t n ∧ op = 0xC1 ∧ o = .fork t n) ∨ (∃ n, c = .pageTruncate cxd sl n ∧ op = 0xC2 ∧ o = .truncate n) ∨ (c = .slotRelease cxd sl ∧ op = 0xC4 ∧ o = .release)) ∧ s.part.headCmd (8 + cxd) u op = none) ∧
    (∃ (s : State) (cxd : Nat) (sl : Nat) (c : Instr) (op : Nat) (u : Nat) (o : PageOp) (m : DieMsg), isCxd cxd = true ∧ isSlot sl = true ∧ s.part.alive (11 + cxd) = true ∧ u = s.part.pageUnit cxd sl op ∧ ((c = .pageAlloc cxd sl ∧ op = 0xC0 ∧ o = .alloc) ∨ (∃ t n, c = .pageFork cxd sl t n ∧ op = 0xC1 ∧ o = .fork t n) ∨ (∃ n, c = .pageTruncate cxd sl n ∧ op = 0xC2 ∧ o = .truncate n) ∨ (c = .slotRelease cxd sl ∧ op = 0xC4 ∧ o = .release)) ∧ s.part.headCmd (8 + cxd) u op = some m ∧ op = 0xC4 ∧ s.part.epochSoon cxd sl = true) ∧
    (∃ (s : State) (cxd : Nat) (sl : Nat) (c : Instr) (op : Nat) (u : Nat) (o : PageOp) (m : DieMsg), isCxd cxd = true ∧ isSlot sl = true ∧ s.part.alive (11 + cxd) = true ∧ u = s.part.pageUnit cxd sl op ∧ ((c = .pageAlloc cxd sl ∧ op = 0xC0 ∧ o = .alloc) ∨ (∃ t n, c = .pageFork cxd sl t n ∧ op = 0xC1 ∧ o = .fork t n) ∨ (∃ n, c = .pageTruncate cxd sl n ∧ op = 0xC2 ∧ o = .truncate n) ∨ (c = .slotRelease cxd sl ∧ op = 0xC4 ∧ o = .release)) ∧ s.part.headCmd (8 + cxd) u op = some m ∧ (op ≠ 0xC4 ∨ s.part.epochSoon cxd sl = false) ∧ (s.part.kvSlot sl).assigned = true ∧ (s.part.kvSlot sl).home = cxd ∧ (u ≠ sl ∨ m.epoch = s.part.slotEpoch cxd sl)) ∧
    (∃ (s : State) (cxd : Nat) (sl : Nat) (c : Instr) (op : Nat) (u : Nat) (o : PageOp) (m : DieMsg), isCxd cxd = true ∧ isSlot sl = true ∧ s.part.alive (11 + cxd) = true ∧ u = s.part.pageUnit cxd sl op ∧ ((c = .pageAlloc cxd sl ∧ op = 0xC0 ∧ o = .alloc) ∨ (∃ t n, c = .pageFork cxd sl t n ∧ op = 0xC1 ∧ o = .fork t n) ∨ (∃ n, c = .pageTruncate cxd sl n ∧ op = 0xC2 ∧ o = .truncate n) ∨ (c = .slotRelease cxd sl ∧ op = 0xC4 ∧ o = .release)) ∧ s.part.headCmd (8 + cxd) u op = some m ∧ (op ≠ 0xC4 ∨ s.part.epochSoon cxd sl = false) ∧ ((s.part.kvSlot sl).assigned = false ∨ (s.part.kvSlot sl).home ≠ cxd ∨ (u = sl ∧ m.epoch ≠ s.part.slotEpoch cxd sl))) ∧
    (∃ (s : State) (cxd : Nat) (sl : Nat), isCxd cxd = true ∧ isSlot sl = true ∧ s.part.alive (11 + cxd) = true ∧ s.part.headCmd (8 + cxd) sl 0xC3 = none) ∧
    (∃ (s : State) (cxd : Nat) (sl : Nat) (m : DieMsg), isCxd cxd = true ∧ isSlot sl = true ∧ s.part.alive (11 + cxd) = true ∧ s.part.headCmd (8 + cxd) sl 0xC3 = some m ∧ s.part.epochSoon cxd sl = true) ∧
    (∃ (s : State) (cxd : Nat) (sl : Nat) (m : DieMsg), isCxd cxd = true ∧ isSlot sl = true ∧ s.part.alive (11 + cxd) = true ∧ s.part.headCmd (8 + cxd) sl 0xC3 = some m ∧ s.part.epochSoon cxd sl = false ∧ (s.part.kvSlot sl).assigned = true) ∧
    (∃ (s : State) (cxd : Nat) (sl : Nat) (m : DieMsg), isCxd cxd = true ∧ isSlot sl = true ∧ s.part.alive (11 + cxd) = true ∧ s.part.headCmd (8 + cxd) sl 0xC3 = some m ∧ s.part.epochSoon cxd sl = false ∧ (s.part.kvSlot sl).assigned = false) ∧
    (∃ (s : State) (sl : Nat), isSlot sl = true ∧ s.part.alive (11 + (s.part.kvSlot sl).home) = true ∧ (s.part.kvSlot sl).ops = []) ∧
    (∃ (s : State) (sl : Nat) (w : WaitingOp) (rest : List WaitingOp), isSlot sl = true ∧ s.part.alive (11 + (s.part.kvSlot sl).home) = true ∧ (s.part.kvSlot sl).ops = w :: rest ∧ s.part.opHeld sl w = true) ∧
    (∃ (s : State) (sl : Nat) (w : WaitingOp) (rest : List WaitingOp), isSlot sl = true ∧ s.part.alive (11 + (s.part.kvSlot sl).home) = true ∧ (s.part.kvSlot sl).ops = w :: rest ∧ s.part.opHeld sl w = false) ∧
    (∃ (p : Machine.Part) (sl : Nat) (w : WaitingOp) (m : DieMsg), w.msg = some m ∧ (p.kvSlot sl).inStep = true) ∧
    (∃ (p : Machine.Part) (sl : Nat) (w : WaitingOp) (m : DieMsg) (g : Page) (q : Machine.Part), w.msg = some m ∧ w.op = .alloc ∧ (p.kvSlot sl).pages.length < 2048 ∧ p.takeFrame (p.kvSlot sl).home (p.slotPage sl) = some (g, q)) ∧
    (∃ (p : Machine.Part) (sl : Nat) (w : WaitingOp) (m : DieMsg) (n : Nat), w.msg = some m ∧ w.op = .truncate n ∧ n ≤ (p.kvSlot sl).len ∧ n % 64 = 0) ∧
    (∃ (p : Machine.Part) (sl : Nat) (w : WaitingOp) (m : DieMsg) (t : Nat) (n : Nat), w.msg = some m ∧ w.op = .fork t n ∧ 0 < n ∧ n ≤ (p.kvSlot sl).len ∧ n % 64 = 0 ∧ t < 16384 ∧ t ≠ sl ∧ (p.kvSlot t).assigned = false) ∧
    (∃ (p : Machine.Part) (sl : Nat) (w : WaitingOp) (m : DieMsg), w.msg = some m ∧ w.op = .release ∧ (p.kvSlot sl).assigned = true ∧ (p.kvSlot sl).ops = []) ∧
    (∃ (s : State) (sl : Nat), isSlot sl = true ∧ s.part.alive (11 + (s.part.kvSlot sl).home) = true ∧ (takeFirst (fun c : PageCopy => c.slot == sl) s.part.kv.copies = none)) ∧
    (∃ (s : State) (sl : Nat) (c : PageCopy) (rest : List PageCopy), isSlot sl = true ∧ s.part.alive (11 + (s.part.kvSlot sl).home) = true ∧ (takeFirst (fun c : PageCopy => c.slot == sl) s.part.kv.copies = some (c, rest)) ∧ (s.part.now < c.done ∨ (∃ i ∈ (s.part.kvSlot sl).rebuild, (s.part.kvSlot sl).pages[i]? = some c.src))) ∧
    (∃ (s : State) (sl : Nat) (c : PageCopy) (rest : List PageCopy), isSlot sl = true ∧ s.part.alive (11 + (s.part.kvSlot sl).home) = true ∧ (takeFirst (fun c : PageCopy => c.slot == sl) s.part.kv.copies = some (c, rest)) ∧ c.done ≤ s.part.now ∧ (∀ i ∈ (s.part.kvSlot sl).rebuild, (s.part.kvSlot sl).pages[i]? ≠ some c.src) ∧ ((∃ t n, c.op.op = .fork t n) ∨ (∃ n, c.op.op = .truncate n))) ∧
    (∃ (s : State) (sl : Nat) (i : Nat), isSlot sl = true ∧ s.part.alive (11 + (s.part.kvSlot sl).home) = true ∧ ((s.part.kvSlot sl).pages[i]? = none ∨ i ∉ (s.part.kvSlot sl).rebuild ∨ s.part.takeFrame (s.part.kvSlot sl).home (s.part.slotPage sl) = none)) ∧
    (∃ (s : State) (sl : Nat) (i : Nat) (g : Page) (d : Page) (q : Machine.Part), isSlot sl = true ∧ s.part.alive (11 + (s.part.kvSlot sl).home) = true ∧ (s.part.kvSlot sl).pages[i]? = some g ∧ s.part.takeFrame (s.part.kvSlot sl).home (s.part.slotPage sl) = some (d, q) ∧ i ∈ (s.part.kvSlot sl).rebuild) :=
  ⟨(let s : State := sPagesAreOperatedOn 0; let cxd : Nat := 0; let sl : Nat := 4; let op : Nat := 0xC4; let u : Nat := s.part.pageUnit cxd sl op; ⟨s, cxd, sl, .slotRelease 0 4, op, u, .release, by decide +kernel +zetaReduce, by decide +kernel +zetaReduce, by decide +kernel +zetaReduce, by decide +kernel +zetaReduce, .inr (.inr (.inr ⟨rfl, rfl, rfl⟩)), by decide +kernel +zetaReduce⟩),
   (let s : State := sPagesAreOperatedOn 1; let cxd : Nat := 0; let sl : Nat := 4; let op : Nat := 0xC4; let u : Nat := s.part.pageUnit cxd sl op; let m : DieMsg := (s.part.headCmd (8 + cxd) u op).get (by decide +kernel +zetaReduce); ⟨s, cxd, sl, .slotRelease 0 4, op, u, .release, m, by decide +kernel +zetaReduce, by decide +kernel +zetaReduce, by decide +kernel +zetaReduce, by decide +kernel +zetaReduce, .inr (.inr (.inr ⟨rfl, rfl, rfl⟩)), by decide +kernel +zetaReduce, by decide +kernel +zetaReduce, by decide +kernel +zetaReduce⟩),
   (let s : State := sPagesAreOperatedOn 0; let cxd : Nat := 0; let sl : Nat := 4; let op : Nat := 0xC0; let u : Nat := s.part.pageUnit cxd sl op; let m : DieMsg := (s.part.headCmd (8 + cxd) u op).get (by decide +kernel +zetaReduce); ⟨s, cxd, sl, .pageAlloc 0 4, op, u, .alloc, m, by decide +kernel +zetaReduce, by decide +kernel +zetaReduce, by decide +kernel +zetaReduce, by decide +kernel +zetaReduce, .inl ⟨rfl, rfl, rfl⟩, by decide +kernel +zetaReduce, by decide +kernel +zetaReduce, by decide +kernel +zetaReduce, by decide +kernel +zetaReduce, by decide +kernel +zetaReduce⟩),
   (let s : State := sPagesAreOperatedOn 2; let cxd : Nat := 0; let sl : Nat := 4; let op : Nat := 0xC4; let u : Nat := s.part.pageUnit cxd sl op; let m : DieMsg := (s.part.headCmd (8 + cxd) u op).get (by decide +kernel +zetaReduce); ⟨s, cxd, sl, .slotRelease 0 4, op, u, .release, m, by decide +kernel +zetaReduce, by decide +kernel +zetaReduce, by decide +kernel +zetaReduce, by decide +kernel +zetaReduce, .inr (.inr (.inr ⟨rfl, rfl, rfl⟩)), by decide +kernel +zetaReduce, by decide +kernel +zetaReduce, by decide +kernel +zetaReduce⟩),
   ⟨sPagesAreOperatedOn 0, 0, 4, by decide +kernel⟩,
   (let s : State := sPagesAreOperatedOn 3; let cxd : Nat := 0; let sl : Nat := 4; let m : DieMsg := (s.part.headCmd (8 + cxd) sl 0xC3).get (by decide +kernel +zetaReduce); ⟨s, cxd, sl, m, by decide +kernel +zetaReduce⟩),
   (let s : State := sPagesAreOperatedOn 4; let cxd : Nat := 0; let sl : Nat := 4; let m : DieMsg := (s.part.headCmd (8 + cxd) sl 0xC3).get (by decide +kernel +zetaReduce); ⟨s, cxd, sl, m, by decide +kernel +zetaReduce⟩),
   (let s : State := sPagesAreOperatedOn 5; let cxd : Nat := 0; let sl : Nat := 4; let m : DieMsg := (s.part.headCmd (8 + cxd) sl 0xC3).get (by decide +kernel +zetaReduce); ⟨s, cxd, sl, m, by decide +kernel +zetaReduce⟩),
   ⟨sPagesAreOperatedOn 0, 4, by decide +kernel⟩,
   (let s : State := sPagesAreOperatedOn 6; let sl : Nat := 4; let w : WaitingOp := ((s.part.kvSlot sl).ops).head (by decide +kernel +zetaReduce); let rest : List WaitingOp := ((s.part.kvSlot sl).ops).tail; ⟨s, sl, w, rest, by decide +kernel +zetaReduce⟩),
   (let s : State := sPagesAreOperatedOn 7; let sl : Nat := 4; let w : WaitingOp := ((s.part.kvSlot sl).ops).head (by decide +kernel +zetaReduce); let rest : List WaitingOp := ((s.part.kvSlot sl).ops).tail; ⟨s, sl, w, rest, by decide +kernel +zetaReduce⟩),
   (let w : WaitingOp := wop .alloc; let m : DieMsg := (w.msg).get (by decide +kernel +zetaReduce); ⟨(sa 0 6 (fun v => { v with inStep := true })).part, 4, w, m, by decide +kernel +zetaReduce⟩),
   (let p : Machine.Part := (sa 0 6 (pgs 2)).part; let sl : Nat := 4; let w : WaitingOp := wop .alloc; let m : DieMsg := (w.msg).get (by decide +kernel +zetaReduce); let g : Page := ((p.takeFrame (p.kvSlot sl).home (p.slotPage sl)).map Prod.fst).get (by decide +kernel +zetaReduce); let q : Machine.Part := ((p.takeFrame (p.kvSlot sl).home (p.slotPage sl)).map Prod.snd).get (by decide +kernel +zetaReduce); ⟨p, sl, w, m, g, q, by decide +kernel +zetaReduce⟩),
   (let w : WaitingOp := wop (.truncate 64); let m : DieMsg := (w.msg).get (by decide +kernel +zetaReduce); let n : Nat := (match w.op with | .truncate a_ => ([a_] : List (Nat)) | _ => []).headD 0; ⟨(sa 0 6 (pgs 2)).part, 4, w, m, n, by decide +kernel +zetaReduce⟩),
   (let w : WaitingOp := wop (.fork 7 64); let m : DieMsg := (w.msg).get (by decide +kernel +zetaReduce); let t : Nat := (match w.op with | .fork a_ _ => ([a_] : List (Nat)) | _ => []).headD 0; let n : Nat := (match w.op with | .fork _ a_ => ([a_] : List (Nat)) | _ => []).headD 0; ⟨(sa 0 6 (pgs 2)).part, 4, w, m, t, n, by decide +kernel +zetaReduce⟩),
   (let w : WaitingOp := wop .release; let m : DieMsg := (w.msg).get (by decide +kernel +zetaReduce); ⟨(sa 0 6 (pgs 2)).part, 4, w, m, by decide +kernel +zetaReduce⟩),
   ⟨sPagesAreOperatedOn 0, 4, by decide +kernel⟩,
   (let s : State := sPagesAreOperatedOn 8; let sl : Nat := 4; let c : PageCopy := ((takeFirst (fun c : PageCopy => c.slot == sl) s.part.kv.copies).map Prod.fst).get (by decide +kernel +zetaReduce); let rest : List PageCopy := ((takeFirst (fun c : PageCopy => c.slot == sl) s.part.kv.copies).map Prod.snd).get (by decide +kernel +zetaReduce); ⟨s, sl, c, rest, by decide +kernel +zetaReduce, by decide +kernel +zetaReduce, by decide +kernel +zetaReduce, by decide +kernel +zetaReduce⟩),
   (let s : State := sPagesAreOperatedOn 9; let sl : Nat := 4; let c : PageCopy := ((takeFirst (fun c : PageCopy => c.slot == sl) s.part.kv.copies).map Prod.fst).get (by decide +kernel +zetaReduce); let rest : List PageCopy := ((takeFirst (fun c : PageCopy => c.slot == sl) s.part.kv.copies).map Prod.snd).get (by decide +kernel +zetaReduce); ⟨s, sl, c, rest, by decide +kernel +zetaReduce, by decide +kernel +zetaReduce, by decide +kernel +zetaReduce, by decide +kernel +zetaReduce, by decide +kernel +zetaReduce, (by first | exact .inl ⟨_, _, rfl⟩ | exact .inr ⟨_, rfl⟩)⟩),
   ⟨sPagesAreOperatedOn 0, 4, 1, by decide +kernel⟩,
   (let s : State := sPagesAreOperatedOn 10; let sl : Nat := 4; let i : Nat := 1; let g : Page := ((s.part.kvSlot sl).pages[i]?).get (by decide +kernel +zetaReduce); let d : Page := ((s.part.takeFrame (s.part.kvSlot sl).home (s.part.slotPage sl)).map Prod.fst).get (by decide +kernel +zetaReduce); let q : Machine.Part := ((s.part.takeFrame (s.part.kvSlot sl).home (s.part.slotPage sl)).map Prod.snd).get (by decide +kernel +zetaReduce); ⟨s, sl, i, g, d, q, by decide +kernel +zetaReduce⟩)⟩

/-- States for `wit_HostKvCommands`. -/
def sHostKvCommands (n : Nat) : State :=
  ([hkWait,
    hk 0x60 1 true 9,
    hk 0x62 0 false 9,
    hk 0x60 0 true 1,
    hk 0x60 0 true 2,
    hk 0x61 0 true 1,
    hk 0x62 0 true 1,
    hk 0x63 1 true 1,
    hk 0x63 0 false 1,
    hk 0x63 0 true 1] : List State).getD n State.reset

theorem wit_HostKvCommands :
    (∃ (s : State) (i : Nat) (op : Nat) (k : Bytes) (n : Nat) (c : Instr), Running s i op k ∧ n = par k 0 2 ∧ ((c = .kvFork i ∧ op = 0x60) ∨ (c = .kvTruncate i ∧ op = 0x61) ∨ (c = .kvRelease i ∧ op = 0x62)) ∧ s.part.opWaits i n = true) ∧
    (∃ (s : State) (i : Nat) (op : Nat) (k : Bytes) (n : Nat) (c : Instr), Running s i op k ∧ n = par k 0 2 ∧ ((c = .kvFork i ∧ op = 0x60) ∨ (c = .kvTruncate i ∧ op = 0x61) ∨ (c = .kvRelease i ∧ op = 0x62)) ∧ s.part.opWaits i n = false ∧ s.part.epochOk k n = false) ∧
    (∃ (s : State) (i : Nat) (op : Nat) (k : Bytes) (n : Nat) (c : Instr), Running s i op k ∧ n = par k 0 2 ∧ ((c = .kvFork i ∧ op = 0x60) ∨ (c = .kvTruncate i ∧ op = 0x61) ∨ (c = .kvRelease i ∧ op = 0x62)) ∧ s.part.opWaits i n = false ∧ s.part.epochOk k n = true ∧ s.part.heldBy i n = false ∧ (op ≠ 0x60 ∨ s.part.runsFor i n = false)) ∧
    (∃ (s : State) (i : Nat) (op : Nat) (k : Bytes) (n : Nat) (c : Instr), Running s i op k ∧ n = par k 0 2 ∧ ((c = .kvFork i ∧ op = 0x60) ∨ (c = .kvTruncate i ∧ op = 0x61) ∨ (c = .kvRelease i ∧ op = 0x62)) ∧ s.part.opWaits i n = false ∧ op = 0x60 ∧ s.part.epochOk k n = true ∧ (s.part.heldBy i n = true ∨ s.part.runsFor i n = true) ∧ s.part.slotsLeft 1 = false) ∧
    (∃ (s : State) (i : Nat) (op : Nat) (k : Bytes) (n : Nat) (c : Instr), Running s i op k ∧ n = par k 0 2 ∧ ((c = .kvFork i ∧ op = 0x60) ∨ (c = .kvTruncate i ∧ op = 0x61) ∨ (c = .kvRelease i ∧ op = 0x62)) ∧ s.part.opWaits i n = false ∧ op = 0x60 ∧ s.part.epochOk k n = true ∧ (s.part.heldBy i n = true ∨ s.part.runsFor i n = true) ∧ s.part.slotsLeft 1 = true) ∧
    (∃ (s : State) (i : Nat) (op : Nat) (k : Bytes) (n : Nat) (c : Instr), Running s i op k ∧ n = par k 0 2 ∧ ((c = .kvFork i ∧ op = 0x60) ∨ (c = .kvTruncate i ∧ op = 0x61) ∨ (c = .kvRelease i ∧ op = 0x62)) ∧ s.part.opWaits i n = false ∧ op = 0x61 ∧ s.part.epochOk k n = true ∧ s.part.heldBy i n = true) ∧
    (∃ (s : State) (i : Nat) (op : Nat) (k : Bytes) (n : Nat) (c : Instr), Running s i op k ∧ n = par k 0 2 ∧ ((c = .kvFork i ∧ op = 0x60) ∨ (c = .kvTruncate i ∧ op = 0x61) ∨ (c = .kvRelease i ∧ op = 0x62)) ∧ s.part.opWaits i n = false ∧ op = 0x62 ∧ s.part.epochOk k n = true ∧ s.part.heldBy i n = true) ∧
    (∃ (s : State) (i : Nat) (k : Bytes), Running s i 0x63 k ∧ s.part.epochOk k (par k 0 2) = false) ∧
    (∃ (s : State) (i : Nat) (k : Bytes), Running s i 0x63 k ∧ s.part.epochOk k (par k 0 2) = true ∧ s.part.heldBy i (par k 0 2) = false) ∧
    (∃ (s : State) (i : Nat) (k : Bytes), Running s i 0x63 k ∧ s.part.epochOk k (par k 0 2) = true ∧ s.part.heldBy i (par k 0 2) = true) :=
  ⟨(let s : State := sHostKvCommands 0; let i : Nat := 3; let k : Bytes := ((s.part.ses i).cur).get (by decide +kernel +zetaReduce); let n : Nat := par k 0 2; ⟨s, i, 0x60, k, n, .kvFork 3, by decide +kernel +zetaReduce⟩),
   (let s : State := sHostKvCommands 1; let i : Nat := 3; let k : Bytes := ((s.part.ses i).cur).get (by decide +kernel +zetaReduce); let n : Nat := par k 0 2; ⟨s, i, 0x60, k, n, .kvFork 3, by decide +kernel +zetaReduce⟩),
   (let s : State := sHostKvCommands 2; let i : Nat := 3; let k : Bytes := ((s.part.ses i).cur).get (by decide +kernel +zetaReduce); let n : Nat := par k 0 2; ⟨s, i, 0x62, k, n, .kvRelease 3, by decide +kernel +zetaReduce⟩),
   (let s : State := sHostKvCommands 3; let i : Nat := 3; let op : Nat := 0x60; let k : Bytes := ((s.part.ses i).cur).get (by decide +kernel +zetaReduce); let n : Nat := par k 0 2; ⟨s, i, op, k, n, .kvFork 3, by decide +kernel +zetaReduce⟩),
   (let s : State := sHostKvCommands 4; let i : Nat := 3; let op : Nat := 0x60; let k : Bytes := ((s.part.ses i).cur).get (by decide +kernel +zetaReduce); let n : Nat := par k 0 2; ⟨s, i, op, k, n, .kvFork 3, by decide +kernel +zetaReduce⟩),
   (let s : State := sHostKvCommands 5; let i : Nat := 3; let op : Nat := 0x61; let k : Bytes := ((s.part.ses i).cur).get (by decide +kernel +zetaReduce); let n : Nat := par k 0 2; ⟨s, i, op, k, n, .kvTruncate 3, by decide +kernel +zetaReduce⟩),
   (let s : State := sHostKvCommands 6; let i : Nat := 3; let op : Nat := 0x62; let k : Bytes := ((s.part.ses i).cur).get (by decide +kernel +zetaReduce); let n : Nat := par k 0 2; ⟨s, i, op, k, n, .kvRelease 3, by decide +kernel +zetaReduce⟩),
   (let s : State := sHostKvCommands 7; let i : Nat := 3; let k : Bytes := ((s.part.ses i).cur).get (by decide +kernel +zetaReduce); ⟨s, i, k, by decide +kernel +zetaReduce⟩),
   (let s : State := sHostKvCommands 8; let i : Nat := 3; let k : Bytes := ((s.part.ses i).cur).get (by decide +kernel +zetaReduce); ⟨s, i, k, by decide +kernel +zetaReduce⟩),
   (let s : State := sHostKvCommands 9; let i : Nat := 3; let k : Bytes := ((s.part.ses i).cur).get (by decide +kernel +zetaReduce); ⟨s, i, k, by decide +kernel +zetaReduce⟩)⟩

/-- States for `wit_AppendsAreWritten`. -/
def sAppendsAreWritten (n : Nat) : State :=
  ([st (meshUp (mdl id)),
    apS 2 0 5 32 id,
    apS 2 1 6 32 id,
    apS 64 0 6 32 id,
    apS 1 0 6 32 (fun v => { v with tags := [(7, 0, 1), (8, 0, 1), (9, 0, 1), (10, 0, 1)] }),
    apS 63 0 6 32 id] : List State).getD n State.reset

theorem wit_AppendsAreWritten :
    (∃ (s : State) (cxd : Nat) (sl : Nat), isCxd cxd = true ∧ isSlot sl = true ∧ s.part.alive (11 + cxd) = true ∧ (s.part.inbox (8 + cxd) sl = [] ∨ (∃ a rest, s.part.inbox (8 + cxd) sl = a :: rest ∧ a.m.cls ≠ 4))) ∧
    (∃ (s : State) (cxd : Nat) (sl : Nat) (a : Arrived) (rest : List Arrived) (v : KvSlot) (n : Nat), isCxd cxd = true ∧ isSlot sl = true ∧ s.part.alive (11 + cxd) = true ∧ s.part.inbox (8 + cxd) sl = a :: rest ∧ a.m.cls = 4 ∧ v = s.part.kvSlot sl ∧ n = fld a.m.payload 0 4 ∧ (v.assigned = false ∨ v.home ≠ cxd ∨ a.m.epoch ≠ s.part.slotEpoch cxd sl)) ∧
    (∃ (s : State) (cxd : Nat) (sl : Nat) (a : Arrived) (rest : List Arrived) (v : KvSlot) (n : Nat) (g : Graph) (st : Nat), isCxd cxd = true ∧ isSlot sl = true ∧ s.part.alive (11 + cxd) = true ∧ s.part.inbox (8 + cxd) sl = a :: rest ∧ a.m.cls = 4 ∧ v = s.part.kvSlot sl ∧ n = fld a.m.payload 0 4 ∧ v.assigned = true ∧ v.home = cxd ∧ a.m.epoch = s.part.slotEpoch cxd sl ∧ s.part.shapeOf sl = some g ∧ appendFail g a.m = some st) ∧
    (∃ (s : State) (cxd : Nat) (sl : Nat) (a : Arrived) (rest : List Arrived) (v : KvSlot) (n : Nat) (g : Graph), isCxd cxd = true ∧ isSlot sl = true ∧ s.part.alive (11 + cxd) = true ∧ s.part.inbox (8 + cxd) sl = a :: rest ∧ a.m.cls = 4 ∧ v = s.part.kvSlot sl ∧ n = fld a.m.payload 0 4 ∧ v.assigned = true ∧ v.home = cxd ∧ a.m.epoch = s.part.slotEpoch cxd sl ∧ s.part.shapeOf sl = some g ∧ appendFail g a.m = none ∧ v.pages.length ≤ n / 64) ∧
    (∃ (s : State) (cxd : Nat) (sl : Nat) (a : Arrived) (rest : List Arrived) (v : KvSlot) (n : Nat) (g : Graph) (t : Nat) (more : List Nat), isCxd cxd = true ∧ isSlot sl = true ∧ s.part.alive (11 + cxd) = true ∧ s.part.inbox (8 + cxd) sl = a :: rest ∧ a.m.cls = 4 ∧ v = s.part.kvSlot sl ∧ n = fld a.m.payload 0 4 ∧ v.assigned = true ∧ v.home = cxd ∧ a.m.epoch = s.part.slotEpoch cxd sl ∧ s.part.shapeOf sl = some g ∧ appendFail g a.m = none ∧ n / 64 < v.pages.length ∧ v.tagList = t :: more ∧ 3 ≤ more.length ∧ v.tagList.contains (fld a.m.payload 10 2) = false ∧ s.part.tagDone sl t = false ∧ v.chunk = false) ∧
    (∃ (s : State) (cxd : Nat) (sl : Nat) (a : Arrived) (rest : List Arrived) (v : KvSlot) (n : Nat) (g : Graph) (pg : Page), isCxd cxd = true ∧ isSlot sl = true ∧ s.part.alive (11 + cxd) = true ∧ s.part.inbox (8 + cxd) sl = a :: rest ∧ a.m.cls = 4 ∧ v = s.part.kvSlot sl ∧ n = fld a.m.payload 0 4 ∧ v.assigned = true ∧ v.home = cxd ∧ a.m.epoch = s.part.slotEpoch cxd sl ∧ s.part.shapeOf sl = some g ∧ appendFail g a.m = none ∧ v.pages[n / 64]? = some pg ∧ (v.tagList.length < 4 ∨ v.tagList.contains (fld a.m.payload 10 2) = true)) :=
  ⟨⟨sAppendsAreWritten 0, 0, 4, by decide +kernel, by decide +kernel, by decide +kernel, .inl (by decide +kernel)⟩,
   (let s : State := sAppendsAreWritten 1; let cxd : Nat := 0; let sl : Nat := 4; let a : Arrived := (s.part.inbox (8 + cxd) sl).head (by decide +kernel +zetaReduce); let rest : List Arrived := (s.part.inbox (8 + cxd) sl).tail; let v : KvSlot := s.part.kvSlot sl; let n : Nat := fld a.m.payload 0 4; ⟨s, cxd, sl, a, rest, v, n, by decide +kernel +zetaReduce⟩),
   (let s : State := sAppendsAreWritten 2; let cxd : Nat := 0; let sl : Nat := 4; let a : Arrived := (s.part.inbox (8 + cxd) sl).head (by decide +kernel +zetaReduce); let rest : List Arrived := (s.part.inbox (8 + cxd) sl).tail; let v : KvSlot := s.part.kvSlot sl; let n : Nat := fld a.m.payload 0 4; let g : Graph := (s.part.shapeOf sl).get (by decide +kernel +zetaReduce); let st : Nat := (appendFail g a.m).get (by decide +kernel +zetaReduce); ⟨s, cxd, sl, a, rest, v, n, g, st, by decide +kernel +zetaReduce⟩),
   (let s : State := sAppendsAreWritten 3; let cxd : Nat := 0; let sl : Nat := 4; let a : Arrived := (s.part.inbox (8 + cxd) sl).head (by decide +kernel +zetaReduce); let rest : List Arrived := (s.part.inbox (8 + cxd) sl).tail; let v : KvSlot := s.part.kvSlot sl; let n : Nat := fld a.m.payload 0 4; let g : Graph := (s.part.shapeOf sl).get (by decide +kernel +zetaReduce); ⟨s, cxd, sl, a, rest, v, n, g, by decide +kernel +zetaReduce⟩),
   (let s : State := sAppendsAreWritten 4; let cxd : Nat := 0; let sl : Nat := 4; let a : Arrived := (s.part.inbox (8 + cxd) sl).head (by decide +kernel +zetaReduce); let rest : List Arrived := (s.part.inbox (8 + cxd) sl).tail; let v : KvSlot := s.part.kvSlot sl; let n : Nat := fld a.m.payload 0 4; let g : Graph := (s.part.shapeOf sl).get (by decide +kernel +zetaReduce); let t : Nat := (v.tagList).head (by decide +kernel +zetaReduce); let more : List Nat := (v.tagList).tail; ⟨s, cxd, sl, a, rest, v, n, g, t, more, by decide +kernel +zetaReduce⟩),
   (let s : State := sAppendsAreWritten 5; let cxd : Nat := 0; let sl : Nat := 4; let a : Arrived := (s.part.inbox (8 + cxd) sl).head (by decide +kernel +zetaReduce); let rest : List Arrived := (s.part.inbox (8 + cxd) sl).tail; let v : KvSlot := s.part.kvSlot sl; let n : Nat := fld a.m.payload 0 4; let g : Graph := (s.part.shapeOf sl).get (by decide +kernel +zetaReduce); let pg : Page := (v.pages[n / 64]?).get (by decide +kernel +zetaReduce); ⟨s, cxd, sl, a, rest, v, n, g, pg, by decide +kernel +zetaReduce⟩)⟩

/-- States for `wit_AttentionAndStacks`. -/
def sAttentionAndStacks (n : Nat) : State :=
  ([stk (fun x => { x with ready := true }),
    att [],
    attT [],
    attT [att0],
    att [{ att0 with started := true }],
    att [att0],
    stk (fun x => { x with lower := [(1, 5)], band := 3, temp := 300 }),
    stk (fun x => { x with hot := true })] : List State).getD n State.reset

theorem wit_AttentionAndStacks :
    (∃ (s : State) (cxd : Nat) (sl : Nat) (v : KvSlot), isCxd cxd = true ∧ isSlot sl = true ∧ s.part.alive (11 + cxd) = true ∧ v = s.part.kvSlot sl ∧ s.part.headCmd (8 + cxd) 0x4000 0xC8 = none) ∧
    (∃ (s : State) (cxd : Nat) (sl : Nat) (tag : Nat) (v : KvSlot) (m : DieMsg), isCxd cxd = true ∧ isSlot sl = true ∧ s.part.alive (11 + cxd) = true ∧ v = s.part.kvSlot sl ∧ s.part.headCmd (8 + cxd) 0x4000 0xC8 = some m ∧ tag ≠ v.tag ∧ v.tagList.contains tag = false) ∧
    (∃ (s : State) (cxd : Nat) (sl : Nat) (layer : Nat) (first : Nat) (count : Nat) (tag : Nat) (v : KvSlot) (m : DieMsg), isCxd cxd = true ∧ isSlot sl = true ∧ s.part.alive (11 + cxd) = true ∧ v = s.part.kvSlot sl ∧ s.part.headCmd (8 + cxd) 0x4000 0xC8 = some m ∧ (tag = v.tag ∨ v.tagList.contains tag = true) ∧ (count = 0 ∨ 4096 < count ∨ v.home ≠ cxd ∨ v.len < first + count ∨ (∃ g, s.part.shapeOf sl = some g ∧ g.layersKv ≤ layer))) ∧
    (∃ (s : State) (cxd : Nat) (id : Nat) (sl : Nat) (layer : Nat) (first : Nat) (count : Nat) (tag : Nat) (v : KvSlot) (m : DieMsg) (g : Graph), isCxd cxd = true ∧ isSlot sl = true ∧ s.part.alive (11 + cxd) = true ∧ v = s.part.kvSlot sl ∧ s.part.headCmd (8 + cxd) 0x4000 0xC8 = some m ∧ (tag = v.tag ∨ v.tagList.contains tag = true) ∧ 0 < count ∧ count ≤ 4096 ∧ v.home = cxd ∧ first + count ≤ v.len ∧ s.part.shapeOf sl = some g ∧ layer < g.layersKv ∧ (∃ r ∈ s.part.kv.atts, r.id = id)) ∧
    (∃ (s : State) (cxd : Nat) (id : Nat) (sl : Nat) (layer : Nat) (first : Nat) (count : Nat) (tag : Nat) (v : KvSlot) (m : DieMsg) (g : Graph), isCxd cxd = true ∧ isSlot sl = true ∧ s.part.alive (11 + cxd) = true ∧ v = s.part.kvSlot sl ∧ s.part.headCmd (8 + cxd) 0x4000 0xC8 = some m ∧ (tag = v.tag ∨ v.tagList.contains tag = true) ∧ 0 < count ∧ count ≤ 4096 ∧ v.home = cxd ∧ first + count ≤ v.len ∧ s.part.shapeOf sl = some g ∧ layer < g.layersKv ∧ (∀ r ∈ s.part.kv.atts, r.id ≠ id)) ∧
    (∃ (s : State) (id : Nat), s.part.alive (s.attDomain id) = true ∧ ((s.part.kv.atts.find? fun r => r.id == id) = none) ∧ (s.part.kvSlot 0).chunk = false) ∧
    (∃ (s : State) (id : Nat) (r : AttReq) (v : KvSlot), s.part.alive (s.attDomain id) = true ∧ ((s.part.kv.atts.find? fun r => r.id == id) = some r) ∧ v = s.part.kvSlot r.slot ∧ v.chunk = false ∧ (r.started = true ∨ s.part.pwr.paced = true ∨ v.appends r.tag r.layer < r.appends ∨ s.part.attBlocked r = true)) ∧
    (∃ (s : State) (id : Nat) (r : AttReq) (v : KvSlot), s.part.alive (s.attDomain id) = true ∧ ((s.part.kv.atts.find? fun r => r.id == id) = some r) ∧ v = s.part.kvSlot r.slot ∧ v.chunk = false ∧ r.started = false ∧ s.part.pwr.paced = false ∧ r.appends ≤ v.appends r.tag r.layer ∧ s.part.attBlocked r = false) ∧
    (∃ (s : State) (id : Nat) (r : AttReq) (v : KvSlot), s.part.alive (s.attDomain id) = true ∧ ((s.part.kv.atts.find? fun r => r.id == id) = some r) ∧ v = s.part.kvSlot r.slot ∧ v.chunk = false ∧ (r.started = false ∨ s.part.shapeOf r.slot = none)) ∧
    (∃ (s : State) (id : Nat) (r : AttReq) (v : KvSlot) (g : Graph), s.part.alive (s.attDomain id) = true ∧ ((s.part.kv.atts.find? fun r => r.id == id) = some r) ∧ v = s.part.kvSlot r.slot ∧ v.chunk = false ∧ r.started = true ∧ s.part.shapeOf r.slot = some g) ∧
    (∃ (s : State) (k : Nat) (demand : Bool) (last : Bool), isStack k = true ∧ s.part.alive (11 + k / 8) = true ∧ (last = false ∨ demand = true)) ∧
    (∃ (s : State) (k : Nat), isStack k = true ∧ s.part.alive (11 + k / 8) = true ∧ ((s.part.stack k).ready = false ∨ 1000 * s.part.now < 1000 * (s.part.stack k).refreshAt + (s.part.stack k).refreshPs)) ∧
    (∃ (s : State) (k : Nat), isStack k = true ∧ s.part.alive (11 + k / 8) = true ∧ (s.part.stack k).ready = true ∧ 1000 * (s.part.stack k).refreshAt + (s.part.stack k).refreshPs ≤ 1000 * s.part.now) ∧
    (∃ (s : State) (k : Nat), isStack k = true ∧ s.part.alive (11 + k / 8) = true ∧ (((s.part.stack k).lower.find? fun x => decide (x.2 + 1000000000 ≤ s.part.now)) = none)) ∧
    (∃ (s : State) (k : Nat) (x : Nat × Nat), isStack k = true ∧ s.part.alive (11 + k / 8) = true ∧ (((s.part.stack k).lower.find? fun x => decide (x.2 + 1000000000 ≤ s.part.now)) = some x)) ∧
    (∃ (s : State) (k : Nat) (t : Int), isStack k = true ∧ s.part.alive (11 + k / 8) = true ∧ s.part.therm.quenched = false ∧ 0 ≤ t ∧ t ≤ 600 ∧ ((s.part.stack k).hot = false ∨ (s.part.stack k).blind = true ∨ t < 420)) ∧
    (∃ (s : State) (k : Nat) (t : Int), isStack k = true ∧ s.part.alive (11 + k / 8) = true ∧ s.part.therm.quenched = false ∧ 420 ≤ t ∧ t ≤ 600 ∧ (s.part.stack k).hot = true ∧ (s.part.stack k).blind = false) ∧
    (∃ (s : State) (k : Nat) (t : Option Int), isStack k = true ∧ s.part.alive (11 + k / 8) = true ∧ s.part.therm.quenched = false ∧ (∀ x, t = some x → x < 0 ∨ 600 < x)) :=
  ⟨(let s : State := sAttentionAndStacks 0; let sl : Nat := 4; let v : KvSlot := s.part.kvSlot sl; ⟨s, 0, sl, v, by decide +kernel +zetaReduce⟩),
   (let s : State := sAttentionAndStacks 1; let cxd : Nat := 0; let sl : Nat := 4; let v : KvSlot := s.part.kvSlot sl; let m : DieMsg := (s.part.headCmd (8 + cxd) 0x4000 0xC8).get (by decide +kernel +zetaReduce); ⟨s, cxd, sl, 3, v, m, by decide +kernel +zetaReduce⟩),
   (let s : State := sAttentionAndStacks 2; let cxd : Nat := 0; let sl : Nat := 4; let v : KvSlot := s.part.kvSlot sl; let m : DieMsg := (s.part.headCmd (8 + cxd) 0x4000 0xC8).get (by decide +kernel +zetaReduce); ⟨s, cxd, sl, 0, 0, 3, 3, v, m, by decide +kernel +zetaReduce, by decide +kernel +zetaReduce, by decide +kernel +zetaReduce, by decide +kernel +zetaReduce, by decide +kernel +zetaReduce, by decide +kernel +zetaReduce, by decide +kernel +zetaReduce⟩),
   (let s : State := sAttentionAndStacks 3; let cxd : Nat := 0; let sl : Nat := 4; let v : KvSlot := s.part.kvSlot sl; let m : DieMsg := (s.part.headCmd (8 + cxd) 0x4000 0xC8).get (by decide +kernel +zetaReduce); let g : Graph := (s.part.shapeOf sl).get (by decide +kernel +zetaReduce); ⟨s, cxd, 5, sl, 0, 0, 2, 3, v, m, g, by decide +kernel +zetaReduce, by decide +kernel +zetaReduce, by decide +kernel +zetaReduce, by decide +kernel +zetaReduce, by decide +kernel +zetaReduce, by decide +kernel +zetaReduce, by decide +kernel +zetaReduce, by decide +kernel +zetaReduce, by decide +kernel +zetaReduce, by decide +kernel +zetaReduce, by decide +kernel +zetaReduce, by decide +kernel +zetaReduce, by decide +kernel +zetaReduce⟩),
   (let s : State := sAttentionAndStacks 2; let cxd : Nat := 0; let sl : Nat := 4; let v : KvSlot := s.part.kvSlot sl; let m : DieMsg := (s.part.headCmd (8 + cxd) 0x4000 0xC8).get (by decide +kernel +zetaReduce); let g : Graph := (s.part.shapeOf sl).get (by decide +kernel +zetaReduce); ⟨s, cxd, 5, sl, 0, 0, 2, 3, v, m, g, by decide +kernel +zetaReduce⟩),
   ⟨sAttentionAndStacks 1, 5, by decide +kernel⟩,
   (let s : State := sAttentionAndStacks 4; let id : Nat := 5; let r : AttReq := ((s.part.kv.atts.find? fun r => r.id == id)).get (by decide +kernel +zetaReduce); let v : KvSlot := s.part.kvSlot r.slot; ⟨s, id, r, v, by decide +kernel +zetaReduce⟩),
   (let s : State := sAttentionAndStacks 5; let id : Nat := 5; let r : AttReq := ((s.part.kv.atts.find? fun r => r.id == id)).get (by decide +kernel +zetaReduce); let v : KvSlot := s.part.kvSlot r.slot; ⟨s, id, r, v, by decide +kernel +zetaReduce⟩),
   (let s : State := sAttentionAndStacks 5; let id : Nat := 5; let r : AttReq := ((s.part.kv.atts.find? fun r => r.id == id)).get (by decide +kernel +zetaReduce); let v : KvSlot := s.part.kvSlot r.slot; ⟨s, id, r, v, by decide +kernel +zetaReduce⟩),
   (let s : State := sAttentionAndStacks 4; let id : Nat := 5; let r : AttReq := ((s.part.kv.atts.find? fun r => r.id == id)).get (by decide +kernel +zetaReduce); let v : KvSlot := s.part.kvSlot r.slot; let g : Graph := (s.part.shapeOf r.slot).get (by decide +kernel +zetaReduce); ⟨s, id, r, v, g, by decide +kernel +zetaReduce⟩),
   (let demand : Bool := true; let last : Bool := false ∨ demand = true; ⟨sAttentionAndStacks 1, 9, demand, last, by decide +kernel +zetaReduce⟩),
   ⟨sAttentionAndStacks 1, 9, by decide +kernel⟩,
   ⟨sAttentionAndStacks 0, 9, by decide +kernel⟩,
   ⟨sAttentionAndStacks 1, 9, by decide +kernel⟩,
   (let s : State := sAttentionAndStacks 6; let k : Nat := 9; let x : Nat × Nat := (((s.part.stack k).lower.find? fun x => decide (x.2 + 1000000000 ≤ s.part.now))).get (by decide +kernel +zetaReduce); ⟨s, k, x, by decide +kernel +zetaReduce⟩),
   ⟨sAttentionAndStacks 1, 9, 419, by decide +kernel⟩,
   ⟨sAttentionAndStacks 7, 9, 420, by decide +kernel⟩,
   ⟨sAttentionAndStacks 1, 9, some 601, by decide +kernel, by decide +kernel, by decide +kernel, all_some (by decide +kernel)⟩⟩

/-- States for `wit_LinksAndFlits`. -/
def sLinksAndFlits (n : Nat) : State :=
  ([sLnk (fun x => { x with good := 254 }),
    sLnk id,
    sLnk (fun x => { x with mode := 2 }),
    sLnk (fun x => { x with width := 4, good := 0x7F, peerGood := 255, retrain := [(7, 5)] }),
    sLnk (fun x => { x with st := 0 }),
    sLnk (fun x => { x with st := 1, since := pOn.now }),
    sLnk (fun x => { x with st := 1 }),
    sLnk (fun x => { x with st := 0, retry := true }),
    sLnk (fun x => { x with st := 3, since := pOn.now }),
    sLnk (fun x => { x with st := 3 })] : List State).getD n State.reset

theorem wit_LinksAndFlits :
    (∃ (s : State) (l : Nat) (lane : Nat) (k : Link), isLink l = true ∧ isLane lane = true ∧ s.part.alive (15 + l / 4) = true ∧ k = s.part.link l ∧ k.mode ≠ 2 ∧ (k.st ≠ 2 ∨ k.uses lane = false)) ∧
    (∃ (s : State) (l : Nat) (lane : Nat) (k : Link), isLink l = true ∧ isLane lane = true ∧ s.part.alive (15 + l / 4) = true ∧ k = s.part.link l ∧ k.mode ≠ 2 ∧ k.st = 2 ∧ k.uses lane = true) ∧
    (∃ (s : State) (l : Nat) (lane : Nat) (k : Link), isLink l = true ∧ isLane lane = true ∧ s.part.alive (15 + l / 4) = true ∧ k = s.part.link l ∧ k.mode = 2) ∧
    (∃ (s : State) (l : Nat) (lane : Nat) (k : Link), isLink l = true ∧ isLane lane = true ∧ s.part.alive (15 + l / 4) = true ∧ k = s.part.link l ∧ ((k.st ≠ 2 ∧ k.st ≠ 3) ∨ k.good.testBit lane = true ∨ (∃ t, mfind k.retrain lane = some t ∧ s.part.now < t + 10000000000))) ∧
    (∃ (s : State) (l : Nat) (lane : Nat) (k : Link), isLink l = true ∧ isLane lane = true ∧ s.part.alive (15 + l / 4) = true ∧ k = s.part.link l ∧ (k.st = 2 ∨ k.st = 3) ∧ k.good.testBit lane = false ∧ (mfind k.retrain lane = none ∨ (∃ t, mfind k.retrain lane = some t ∧ t + 10000000000 ≤ s.part.now))) ∧
    (∃ (s : State) (l : Nat) (lane : Nat) (k : Link), isLink l = true ∧ isLane lane = true ∧ s.part.alive (15 + l / 4) = true ∧ k = s.part.link l ∧ (mfind k.retrain lane = none ∨ (∃ t, mfind k.retrain lane = some t ∧ s.part.now < t + 1000000000))) ∧
    (∃ (s : State) (l : Nat) (lane : Nat) (peer : Bool) (k : Link) (n : Link), isLink l = true ∧ isLane lane = true ∧ s.part.alive (15 + l / 4) = true ∧ k = s.part.link l ∧ n = (if peer then { k with peerGood := k.peerGood ||| 2 ^ lane } else { k with good := k.good ||| 2 ^ lane, retrain := merase k.retrain lane }) ∧ (peer = true ∨ (∃ t, mfind k.retrain lane = some t ∧ t + 1000000000 ≤ s.part.now)) ∧ (¬(k.st = 2 ∧ k.mode = 1 ∧ k.width < n.wide))) ∧
    (∃ (s : State) (l : Nat) (lane : Nat) (peer : Bool) (k : Link) (n : Link), isLink l = true ∧ isLane lane = true ∧ s.part.alive (15 + l / 4) = true ∧ k = s.part.link l ∧ n = (if peer then { k with peerGood := k.peerGood ||| 2 ^ lane } else { k with good := k.good ||| 2 ^ lane, retrain := merase k.retrain lane }) ∧ (peer = true ∨ (∃ t, mfind k.retrain lane = some t ∧ t + 1000000000 ≤ s.part.now)) ∧ k.st = 2 ∧ k.mode = 1 ∧ k.width < n.wide) ∧
    (∃ (s : State) (l : Nat) (k : Link), isLink l = true ∧ s.part.alive (15 + l / 4) = true ∧ k = s.part.link l ∧ (¬(s.part.fabCfg.configured = true ∧ k.mode = 1 ∧ k.st = 0 ∧ k.retry = false ∧ s.part.domSt (15 + l / 4) = .on))) ∧
    (∃ (s : State) (l : Nat) (k : Link), isLink l = true ∧ s.part.alive (15 + l / 4) = true ∧ k = s.part.link l ∧ s.part.fabCfg.configured = true ∧ k.mode = 1 ∧ k.st = 0 ∧ k.retry = false ∧ s.part.domSt (15 + l / 4) = .on) ∧
    (∃ (s : State) (l : Nat) (k : Link), isLink l = true ∧ s.part.alive (15 + l / 4) = true ∧ k = s.part.link l ∧ (k.st ≠ 1 ∨ k.since + 100000000 < s.part.now)) ∧
    (∃ (s : State) (l : Nat) (k : Link) (pp : Nat) (q : Nat) (g : Nat) (pg : Nat), isLink l = true ∧ s.part.alive (15 + l / 4) = true ∧ k = s.part.link l ∧ k.st = 1 ∧ s.part.now ≤ k.since + 100000000 ∧ pp = s.part.fabCfg.neighbourOf s.part.fabCfg.partId k.port ∧ pp < 65536 ∧ q = oppositePort k.port ∧ ones8 ((g % 256) &&& (pg % 256)) = 0) ∧
    (∃ (s : State) (l : Nat) (k : Link) (pp : Nat) (q : Nat) (g : Nat) (pg : Nat), isLink l = true ∧ s.part.alive (15 + l / 4) = true ∧ k = s.part.link l ∧ k.st = 1 ∧ s.part.now ≤ k.since + 100000000 ∧ pp = s.part.fabCfg.neighbourOf s.part.fabCfg.partId k.port ∧ pp < 65536 ∧ q = oppositePort k.port ∧ 0 < ones8 ((g % 256) &&& (pg % 256))) ∧
    (∃ (s : State) (l : Nat) (k : Link) (pp : Nat) (dx : Nat) (dy : Nat) (dz : Nat) (q : Nat), isLink l = true ∧ s.part.alive (15 + l / 4) = true ∧ k = s.part.link l ∧ k.st = 1 ∧ s.part.now ≤ k.since + 100000000 ∧ (pp ≠ s.part.fabCfg.neighbourOf s.part.fabCfg.partId k.port ∨ dx ≠ s.part.fabCfg.dimX ∨ dy ≠ s.part.fabCfg.dimY ∨ dz ≠ s.part.fabCfg.dimZ ∨ q ≠ oppositePort k.port)) ∧
    (∃ (s : State) (l : Nat) (k : Link), isLink l = true ∧ s.part.alive (15 + l / 4) = true ∧ k = s.part.link l ∧ (k.st ≠ 1 ∨ k.mode ≠ 1 ∨ s.part.now ≤ k.since + 100000000)) ∧
    (∃ (s : State) (l : Nat) (k : Link), isLink l = true ∧ s.part.alive (15 + l / 4) = true ∧ k = s.part.link l ∧ k.st = 1 ∧ k.mode = 1 ∧ k.since + 100000000 < s.part.now) ∧
    (∃ (s : State) (l : Nat) (k : Link), isLink l = true ∧ s.part.alive (15 + l / 4) = true ∧ k = s.part.link l ∧ (¬(k.st = 0 ∧ k.retry = true ∧ k.since + 1000000000 ≤ s.part.now ∧ s.part.domSt (15 + l / 4) = .on))) ∧
    (∃ (s : State) (l : Nat) (k : Link), isLink l = true ∧ s.part.alive (15 + l / 4) = true ∧ k = s.part.link l ∧ k.st = 0 ∧ k.retry = true ∧ k.since + 1000000000 ≤ s.part.now ∧ s.part.domSt (15 + l / 4) = .on) ∧
    (∃ (s : State) (l : Nat) (k : Link), isLink l = true ∧ s.part.alive (15 + l / 4) = true ∧ k = s.part.link l ∧ (k.isActive = false ∨ s.part.now < k.lastRx + 1000000)) ∧
    (∃ (s : State) (l : Nat) (k : Link), isLink l = true ∧ s.part.alive (15 + l / 4) = true ∧ k = s.part.link l ∧ k.isActive = true ∧ k.lastRx + 1000000 ≤ s.part.now) ∧
    (∃ (s : State) (l : Nat) (k : Link), isLink l = true ∧ s.part.alive (15 + l / 4) = true ∧ k = s.part.link l ∧ (k.st ≠ 3 ∨ k.since + 50000 < s.part.now)) ∧
    (∃ (s : State) (l : Nat) (k : Link), isLink l = true ∧ s.part.alive (15 + l / 4) = true ∧ k = s.part.link l ∧ k.st = 3 ∧ s.part.now ≤ k.since + 50000) ∧
    (∃ (s : State) (l : Nat) (k : Link), isLink l = true ∧ s.part.alive (15 + l / 4) = true ∧ k = s.part.link l ∧ (k.st ≠ 3 ∨ s.part.now ≤ k.since + 50000)) ∧
    (∃ (s : State) (l : Nat) (k : Link), isLink l = true ∧ s.part.alive (15 + l / 4) = true ∧ k = s.part.link l ∧ k.st = 3 ∧ k.since + 50000 < s.part.now) ∧
    (∃ (s : State) (l : Nat), isLink l = true ∧ s.part.alive (15 + l / 4) = true ∧ (s.part.link l).isActive = false) ∧
    (∃ (s : State) (l : Nat) (f : FPort), isLink l = true ∧ s.part.alive (15 + l / 4) = true ∧ f = s.part.fport (s.part.link l).port ∧ (s.part.link l).isActive = true) :=
  ⟨(let s : State := sLinksAndFlits 0; let l : Nat := 0; let k : Link := s.part.link l; ⟨s, l, 0, k, by decide +kernel +zetaReduce⟩),
   (let s : State := sLinksAndFlits 1; let l : Nat := 0; let k : Link := s.part.link l; ⟨s, l, 3, k, by decide +kernel +zetaReduce⟩),
   (let s : State := sLinksAndFlits 2; let l : Nat := 0; let k : Link := s.part.link l; ⟨s, l, 3, k, by decide +kernel +zetaReduce⟩),
   (let s : State := sLinksAndFlits 1; let l : Nat := 0; let k : Link := s.part.link l; ⟨s, l, 3, k, by decide +kernel +zetaReduce, by decide +kernel +zetaReduce, by decide +kernel +zetaReduce, by decide +kernel +zetaReduce, by decide +kernel +zetaReduce⟩),
   (let s : State := sLinksAndFlits 0; let l : Nat := 0; let k : Link := s.part.link l; ⟨s, l, 0, k, by decide +kernel +zetaReduce, by decide +kernel +zetaReduce, by decide +kernel +zetaReduce, by decide +kernel +zetaReduce, by decide +kernel +zetaReduce, by decide +kernel +zetaReduce, by decide +kernel +zetaReduce⟩),
   (let s : State := sLinksAndFlits 1; let l : Nat := 0; let k : Link := s.part.link l; ⟨s, l, 3, k, by decide +kernel +zetaReduce, by decide +kernel +zetaReduce, by decide +kernel +zetaReduce, by decide +kernel +zetaReduce, by decide +kernel +zetaReduce⟩),
   (let s : State := sLinksAndFlits 1; let l : Nat := 0; let lane : Nat := 3; let peer : Bool := true; let k : Link := s.part.link l; let n : Link := (if peer then { k with peerGood := k.peerGood ||| 2 ^ lane } else { k with good := k.good ||| 2 ^ lane, retrain := merase k.retrain lane }); ⟨s, l, lane, peer, k, n, by decide +kernel +zetaReduce, by decide +kernel +zetaReduce, by decide +kernel +zetaReduce, by decide +kernel +zetaReduce, by decide +kernel +zetaReduce, by decide +kernel +zetaReduce, by decide +kernel +zetaReduce⟩),
   (let s : State := sLinksAndFlits 3; let l : Nat := 0; let lane : Nat := 7; let peer : Bool := false; let k : Link := s.part.link l; let n : Link := (if peer then { k with peerGood := k.peerGood ||| 2 ^ lane } else { k with good := k.good ||| 2 ^ lane, retrain := merase k.retrain lane }); ⟨s, l, lane, peer, k, n, by decide +kernel +zetaReduce, by decide +kernel +zetaReduce, by decide +kernel +zetaReduce, by decide +kernel +zetaReduce, by decide +kernel +zetaReduce, by decide +kernel +zetaReduce, by decide +kernel +zetaReduce, by decide +kernel +zetaReduce, by decide +kernel +zetaReduce⟩),
   (let s : State := sLinksAndFlits 1; let l : Nat := 0; let k : Link := s.part.link l; ⟨s, l, k, by decide +kernel +zetaReduce⟩),
   (let s : State := sLinksAndFlits 4; let l : Nat := 0; let k : Link := s.part.link l; ⟨s, l, k, by decide +kernel +zetaReduce⟩),
   (let s : State := sLinksAndFlits 1; let l : Nat := 0; let k : Link := s.part.link l; ⟨s, l, k, by decide +kernel +zetaReduce⟩),
   (let s : State := sLinksAndFlits 5; let l : Nat := 0; let k : Link := s.part.link l; let pp : Nat := s.part.fabCfg.neighbourOf s.part.fabCfg.partId k.port; let q : Nat := oppositePort k.port; ⟨s, l, k, pp, q, 0, 15, by decide +kernel +zetaReduce⟩),
   (let s : State := sLinksAndFlits 5; let l : Nat := 0; let k : Link := s.part.link l; let pp : Nat := s.part.fabCfg.neighbourOf s.part.fabCfg.partId k.port; let q : Nat := oppositePort k.port; ⟨s, l, k, pp, q, 255, 15, by decide +kernel +zetaReduce⟩),
   (let s : State := sLinksAndFlits 5; let l : Nat := 0; let k : Link := s.part.link l; ⟨s, l, k, 1024, 5, 2, 2, 1, by decide +kernel +zetaReduce⟩),
   (let s : State := sLinksAndFlits 1; let l : Nat := 0; let k : Link := s.part.link l; ⟨s, l, k, by decide +kernel +zetaReduce⟩),
   (let s : State := sLinksAndFlits 6; let l : Nat := 0; let k : Link := s.part.link l; ⟨s, l, k, by decide +kernel +zetaReduce⟩),
   (let s : State := sLinksAndFlits 1; let l : Nat := 0; let k : Link := s.part.link l; ⟨s, l, k, by decide +kernel +zetaReduce⟩),
   (let s : State := sLinksAndFlits 7; let l : Nat := 0; let k : Link := s.part.link l; ⟨s, l, k, by decide +kernel +zetaReduce⟩),
   (let s : State := sLinksAndFlits 4; let l : Nat := 0; let k : Link := s.part.link l; ⟨s, l, k, by decide +kernel +zetaReduce⟩),
   (let s : State := sLinksAndFlits 1; let l : Nat := 0; let k : Link := s.part.link l; ⟨s, l, k, by decide +kernel +zetaReduce⟩),
   (let s : State := sLinksAndFlits 1; let l : Nat := 0; let k : Link := s.part.link l; ⟨s, l, k, by decide +kernel +zetaReduce⟩),
   (let s : State := sLinksAndFlits 8; let l : Nat := 0; let k : Link := s.part.link l; ⟨s, l, k, by decide +kernel +zetaReduce⟩),
   (let s : State := sLinksAndFlits 1; let l : Nat := 0; let k : Link := s.part.link l; ⟨s, l, k, by decide +kernel +zetaReduce⟩),
   (let s : State := sLinksAndFlits 9; let l : Nat := 0; let k : Link := s.part.link l; ⟨s, l, k, by decide +kernel +zetaReduce⟩),
   ⟨sLinksAndFlits 4, 0, by decide +kernel⟩,
   (let s : State := sLinksAndFlits 1; let l : Nat := 0; let f : FPort := s.part.fport (s.part.link l).port; ⟨s, l, f, by decide +kernel +zetaReduce⟩)⟩

/-- States for `wit_PacketsTravelTheFabric`. -/
def sPacketsTravelTheFabric (n : Nat) : State :=
  ([fltS,
    st ((tor id).setFPort 0 { FPort.reset with rxPkts := [leBytes 2 0 ++ z 14] }),
    st (tor fun x => { x with out := [kp] }),
    st (tor fun x => { x with held := [hp] }),
    st { lnk id with fab := { (lnk id).fab with held := [hp] } },
    stuckS,
    st (tor fun x => { x with inbox := [(1024, .ack 0 0)], kept := [⟨kp, 0, 0⟩] }),
    st (tor fun x => { x with lastAck := [(1024, 5)], kept := [⟨kp, 5, 5⟩] }),
    st (tor fun x => { x with psRx := [(1024 * 8 + 3, flow)] })] : List State).getD n State.reset

theorem wit_PacketsTravelTheFabric :
    (∃ (s : State) (o : Option Nat), s.part.alive 1 = true ∧ (∀ q, o = some q → isFabPort q = true) ∧ s.part.faulted = true) ∧
    (∃ (s : State), s.part.alive 1 = true ∧ s.part.faulted = false ∧ s.part.fab.out = []) ∧
    (∃ (s : State) (x : FabPkt) (xs : List FabPkt), s.part.alive 1 = true ∧ s.part.faulted = false ∧ s.part.fab.nextOut = some (x, xs)) ∧
    (∃ (s : State) (x : FabPkt) (xs : List FabPkt), s.part.alive 1 = true ∧ s.part.faulted = false ∧ s.part.fab.out = x :: xs ∧ x.cls = 0) ∧
    (∃ (s : State) (q : Nat), s.part.alive 1 = true ∧ s.part.faulted = false ∧ isFabPort q = true ∧ (s.part.fport q).rxPkts = []) ∧
    (∃ (s : State) (k : FabPkt) (q : Nat) (b : Bytes) (l : List Bytes), s.part.alive 1 = true ∧ s.part.faulted = false ∧ isFabPort q = true ∧ (s.part.fport q).rxPkts = b :: l ∧ pktIs b k = false) ∧
    (∃ (s : State) (k : FabPkt) (q : Nat) (b : Bytes) (l : List Bytes), s.part.alive 1 = true ∧ s.part.faulted = false ∧ isFabPort q = true ∧ (s.part.fport q).rxPkts = b :: l ∧ pktIs b k = true) ∧
    (∃ (k : FabPkt), pktOk k = false) ∧
    (∃ (p : Machine.Part) (k : FabPkt), pktOk k = true ∧ k.bcast = false ∧ k.dst = p.fabCfg.partId) ∧
    (∃ (p : Machine.Part) (k : FabPkt), pktOk k = true ∧ k.bcast = false ∧ k.dst ≠ p.fabCfg.partId ∧ k.long = 0 ∧ 128 ≤ k.hops) ∧
    (∃ (p : Machine.Part) (k : FabPkt), pktOk k = true ∧ k.bcast = false ∧ k.slice = 0xFFFF ∧ k.long = 0 ∧ k.detour = 0 ∧ k.hops < 128 ∧ coord k.dst 0 ≠ coord p.fabCfg.partId 0 ∧ 2 * ((coord k.dst 0 + max 1 p.fabCfg.dimX - coord p.fabCfg.partId 0) % max 1 p.fabCfg.dimX) < max 1 p.fabCfg.dimX ∧ p.portUp 0 = true) ∧
    (∃ (s : State), s.part.alive 1 = true ∧ (takeFirst (fun h : HeldPkt => decide (h.tried + 10000 ≤ s.part.now)) s.part.fab.held = none)) ∧
    (∃ (s : State) (h : HeldPkt) (l : List HeldPkt) (k : FabPkt), s.part.alive 1 = true ∧ (takeFirst (fun h : HeldPkt => decide (h.tried + 10000 ≤ s.part.now)) s.part.fab.held = some (h, l)) ∧ s.part.routeHop (s.part.area h.k.slice) h.port 3 h.k = .hold k) ∧
    (∃ (s : State) (h : HeldPkt) (l : List HeldPkt), s.part.alive 1 = true ∧ (takeFirst (fun h : HeldPkt => decide (h.tried + 10000 ≤ s.part.now)) s.part.fab.held = some (h, l)) ∧ (∀ k, s.part.routeHop (s.part.area h.k.slice) h.port 3 h.k ≠ .hold k)) ∧
    (∃ (s : State), s.part.alive 1 = true ∧ (takeFirst (fun h : HeldPkt => decide (h.since + 1000000 ≤ s.part.now)) s.part.fab.held = none) ∧ s.part.vc2Stuck = none) ∧
    (∃ (s : State) (h : HeldPkt) (l : List HeldPkt), s.part.alive 1 = true ∧ (takeFirst (fun h : HeldPkt => decide (h.since + 1000000 ≤ s.part.now)) s.part.fab.held = some (h, l))) ∧
    (∃ (s : State) (q : Nat) (w : WaitPkt) (l : List WaitPkt), s.part.alive 1 = true ∧ (takeFirst (fun h : HeldPkt => decide (h.since + 1000000 ≤ s.part.now)) s.part.fab.held = none) ∧ s.part.vc2Stuck = some q ∧ (takeFirst (fun w : WaitPkt => w.k.vc == 2 && decide (w.since + 1000000 ≤ s.part.now)) (s.part.fport q).wait = some (w, l))) ∧
    (∃ (s : State), s.part.alive 1 = true ∧ (∀ x ∈ s.part.fab.inbox, ∀ cls n, x.2 ≠ .ack cls n)) ∧
    (∃ (s : State) (src : Nat) (cls : Nat) (n : Nat) (l : List (Nat × FabMsg)), s.part.alive 1 = true ∧ s.part.fab.inbox = (src, .ack cls n) :: l) ∧
    (∃ (s : State), s.part.alive 1 = true ∧ (s.part.faulted = true ∨ takeFirst (fun k : Kept => decide (k.last + 200000 ≤ s.part.now)) s.part.fab.kept = none)) ∧
    (∃ (s : State) (k : Kept) (l : List Kept), s.part.alive 1 = true ∧ s.part.faulted = false ∧ (takeFirst (fun k : Kept => decide (k.last + 200000 ≤ s.part.now)) s.part.fab.kept = some (k, l))) ∧
    (∃ (s : State) (d : Nat), s.part.alive 1 = true ∧ isPart d = true ∧ (mfind s.part.fab.lastAck d = none ∨ s.part.fab.unreachable.contains d = true ∨ (∃ t, mfind s.part.fab.lastAck d = some t ∧ s.part.now < t + 100000000))) ∧
    (∃ (s : State) (d : Nat) (t : Nat), s.part.alive 1 = true ∧ isPart d = true ∧ mfind s.part.fab.lastAck d = some t ∧ t + 100000000 ≤ s.part.now ∧ s.part.fab.unreachable.contains d = false ∧ s.part.jrn.partner ≠ some d ∧ s.part.jsrc d = none ∧ s.part.fab.slices = [] ∧ s.part.models.table = []) ∧
    (∃ (s : State) (src : Nat) (cls : Nat) (f : RxFlow), s.part.alive 1 = true ∧ f = mget RxFlow.reset s.part.fab.psRx (psKey src cls) ∧ (f.gap = none ∨ cls < 3 ∨ 5 < cls ∨ (∃ t, f.gap = some t ∧ s.part.now < t + 1000000) ∨ f.early = [])) ∧
    (∃ (s : State) (src : Nat) (cls : Nat) (f : RxFlow) (t : Nat) (n : Nat), s.part.alive 1 = true ∧ f = mget RxFlow.reset s.part.fab.psRx (psKey src cls) ∧ f.gap = some t ∧ 3 ≤ cls ∧ cls ≤ 5 ∧ t + 1000000 ≤ s.part.now ∧ (lowest (f.early.map fun k => (k.pseq + 2 ^ 32 - f.next) % 2 ^ 32) = some n)) :=
  ⟨⟨sPacketsTravelTheFabric 0, none, by decide +kernel, all_some (by decide +kernel), by decide +kernel⟩,
   ⟨sPacketsTravelTheFabric 1, by decide +kernel⟩,
   (let s : State := sPacketsTravelTheFabric 2; let x : FabPkt := ((s.part.fab.nextOut).map Prod.fst).get (by decide +kernel +zetaReduce); let xs : List FabPkt := ((s.part.fab.nextOut).map Prod.snd).get (by decide +kernel +zetaReduce); ⟨s, x, xs, by decide +kernel +zetaReduce⟩),
   (let s : State := sPacketsTravelTheFabric 2; let x : FabPkt := (s.part.fab.out).head (by decide +kernel +zetaReduce); let xs : List FabPkt := (s.part.fab.out).tail; ⟨s, x, xs, by decide +kernel +zetaReduce⟩),
   ⟨sPacketsTravelTheFabric 2, 0, by decide +kernel⟩,
   (let s : State := sPacketsTravelTheFabric 1; let q : Nat := 0; let b : Bytes := ((s.part.fport q).rxPkts).head (by decide +kernel +zetaReduce); let l : List Bytes := ((s.part.fport q).rxPkts).tail; ⟨s, kp, q, b, l, by decide +kernel +zetaReduce⟩),
   (let s : State := sPacketsTravelTheFabric 1; let q : Nat := 0; let b : Bytes := ((s.part.fport q).rxPkts).head (by decide +kernel +zetaReduce); let l : List Bytes := ((s.part.fport q).rxPkts).tail; ⟨s, pktOf (leBytes 2 0 ++ z 14) .partnerAsk, q, b, l, by decide +kernel +zetaReduce⟩),
   ⟨pktOf (leBytes 2 0 ++ z 14) .partnerAsk, by decide +kernel⟩,
   ⟨tor id, kpMine, by decide +kernel⟩,
   ⟨tor id, { kp with hops := 128 }, by decide +kernel⟩,
   ⟨lnk id, kp, by decide +kernel⟩,
   ⟨sPacketsTravelTheFabric 2, by decide +kernel⟩,
   (let s : State := sPacketsTravelTheFabric 3; let h : HeldPkt := ((takeFirst (fun h : HeldPkt => decide (h.tried + 10000 ≤ s.part.now)) s.part.fab.held).map Prod.fst).get (by decide +kernel +zetaReduce); let l : List HeldPkt := ((takeFirst (fun h : HeldPkt => decide (h.tried + 10000 ≤ s.part.now)) s.part.fab.held).map Prod.snd).get (by decide +kernel +zetaReduce); let k : FabPkt := (match s.part.routeHop (s.part.area h.k.slice) h.port 3 h.k with | .hold a_ => ([a_] : List (FabPkt)) | _ => []).headD kp; ⟨s, h, l, k, by decide +kernel +zetaReduce⟩),
   (let s : State := sPacketsTravelTheFabric 4; let h : HeldPkt := ((takeFirst (fun h : HeldPkt => decide (h.tried + 10000 ≤ s.part.now)) s.part.fab.held).map Prod.fst).get (by decide +kernel +zetaReduce); let l : List HeldPkt := ((takeFirst (fun h : HeldPkt => decide (h.tried + 10000 ≤ s.part.now)) s.part.fab.held).map Prod.snd).get (by decide +kernel +zetaReduce); ⟨s, h, l, by decide +kernel +zetaReduce, by decide +kernel +zetaReduce, not_held (by decide +kernel +zetaReduce)⟩),
   ⟨sPacketsTravelTheFabric 2, by decide +kernel⟩,
   (let s : State := sPacketsTravelTheFabric 3; let h : HeldPkt := ((takeFirst (fun h : HeldPkt => decide (h.since + 1000000 ≤ s.part.now)) s.part.fab.held).map Prod.fst).get (by decide +kernel +zetaReduce); let l : List HeldPkt := ((takeFirst (fun h : HeldPkt => decide (h.since + 1000000 ≤ s.part.now)) s.part.fab.held).map Prod.snd).get (by decide +kernel +zetaReduce); ⟨s, h, l, by decide +kernel +zetaReduce⟩),
   (let s : State := sPacketsTravelTheFabric 5; let q : Nat := (s.part.vc2Stuck).get (by decide +kernel +zetaReduce); let w : WaitPkt := ((takeFirst (fun w : WaitPkt => w.k.vc == 2 && decide (w.since + 1000000 ≤ s.part.now)) (s.part.fport q).wait).map Prod.fst).get (by decide +kernel +zetaReduce); let l : List WaitPkt := ((takeFirst (fun w : WaitPkt => w.k.vc == 2 && decide (w.since + 1000000 ≤ s.part.now)) (s.part.fport q).wait).map Prod.snd).get (by decide +kernel +zetaReduce); ⟨s, q, w, l, by decide +kernel +zetaReduce⟩),
   ⟨sPacketsTravelTheFabric 2, by decide +kernel, fun x hx _ _ => no_msg (fun m => match m with | .ack _ _ => true | _ => false) (by decide +kernel) rfl x hx⟩,
   (let s : State := sPacketsTravelTheFabric 6; let src : Nat := (match s.part.fab.inbox with | (a_, .ack _ _) :: _ => ([a_] : List (Nat)) | _ => []).headD 0; let cls : Nat := (match s.part.fab.inbox with | (_, .ack a_ _) :: _ => ([a_] : List (Nat)) | _ => []).headD 0; let n : Nat := (match s.part.fab.inbox with | (_, .ack _ a_) :: _ => ([a_] : List (Nat)) | _ => []).headD 0; let l : List (Nat × FabMsg) := (match s.part.fab.inbox with | (_, .ack _ _) :: a_ => ([a_] : List (List (Nat × FabMsg))) | _ => []).headD []; ⟨s, src, cls, n, l, by decide +kernel +zetaReduce⟩),
   ⟨sPacketsTravelTheFabric 2, by decide +kernel⟩,
   (let s : State := sPacketsTravelTheFabric 6; let k : Kept := ((takeFirst (fun k : Kept => decide (k.last + 200000 ≤ s.part.now)) s.part.fab.kept).map Prod.fst).get (by decide +kernel +zetaReduce); let l : List Kept := ((takeFirst (fun k : Kept => decide (k.last + 200000 ≤ s.part.now)) s.part.fab.kept).map Prod.snd).get (by decide +kernel +zetaReduce); ⟨s, k, l, by decide +kernel +zetaReduce⟩),
   ⟨sPacketsTravelTheFabric 2, 1024, by decide +kernel, by decide +kernel, by decide +kernel⟩,
   (let s : State := sPacketsTravelTheFabric 7; let d : Nat := 1024; let t : Nat := (mfind s.part.fab.lastAck d).get (by decide +kernel +zetaReduce); ⟨s, d, t, by decide +kernel +zetaReduce⟩),
   (let s : State := sPacketsTravelTheFabric 2; let src : Nat := 1024; let cls : Nat := 0; let f : RxFlow := mget RxFlow.reset s.part.fab.psRx (psKey src cls); ⟨s, src, cls, f, by decide +kernel +zetaReduce, by decide +kernel +zetaReduce, by decide +kernel +zetaReduce⟩),
   (let s : State := sPacketsTravelTheFabric 8; let src : Nat := 1024; let cls : Nat := 3; let f : RxFlow := mget RxFlow.reset s.part.fab.psRx (psKey src cls); let t : Nat := (f.gap).get (by decide +kernel +zetaReduce); let n : Nat := (lowest (f.early.map fun k => (k.pseq + 2 ^ 32 - f.next) % 2 ^ 32)).get (by decide +kernel +zetaReduce); ⟨s, src, cls, f, t, n, by decide +kernel +zetaReduce⟩)⟩

/-- States for `wit_FabricAndSlices`. -/
def sFabricAndSlices (n : Nat) : State :=
  ([run pOn (pkCfg 4 8),
    run pOn (pkCfg 65 6),
    run (tor fun x => { x with slices := [sl9 id] }) (pkCfg 4 6),
    run pOn (pkCfg 4 7),
    run pOn (pk 0x72 0 0 (z 16)),
    run pOn (pk 0x72 0 0 ([1] ++ z 15)),
    run (tor id) (pkJn 5),
    run (tor id) (pkJn 2),
    run (tor id) pkLv,
    run (tor fun x => { x with slices := [sl9 id] }) pkLv,
    run (tor fun x => { x with slices := [sl9 joining] }) pkLv,
    st (inb (.descriptor (d9 3) 1) joining),
    st (inb (.descriptor (d9 2) 1) joining),
    st (tor fun x => { x with inbox := [(1024, .active 7 stOk 0 [])] }),
    st (inb (.active 9 stBadParam 0 []) fun x => { x with st := 1, tight := false }),
    st (inb (.active 9 stBadParam 0 []) id),
    st (inb (.active 9 stOk 0 []) fun x => { x with st := 1, tight := false })] : List State).getD n State.reset

theorem wit_FabricAndSlices :
    (∃ (s : State) (i : Nat) (k : Bytes) (st : Nat), Running s i 0x73 k ∧ portCfgFail k = some st) ∧
    (∃ (s : State) (i : Nat) (k : Bytes), Running s i 0x73 k ∧ par k 2 1 > 64) ∧
    (∃ (s : State) (i : Nat) (k : Bytes), Running s i 0x73 k ∧ portCfgFail k = none ∧ (s.part.fab.slices ≠ [] ∨ (∃ l, l < 16 ∧ s.part.assignChanges k l = true ∧ s.part.linkInUse l = true))) ∧
    (∃ (s : State) (i : Nat) (k : Bytes), Running s i 0x73 k ∧ portCfgFail k = none ∧ s.part.fab.slices = [] ∧ (∀ l, l < 16 → s.part.assignChanges k l = true → s.part.linkInUse l = false)) ∧
    (∃ (s : State) (i : Nat) (k : Bytes) (b : Bytes), Running s i 0x72 k ∧ s.part.fabricBody (par k 0 1) (par k 2 2) = some b) ∧
    (∃ (s : State) (i : Nat) (k : Bytes), Running s i 0x72 k ∧ par k 0 1 ≠ 1) ∧
    (∃ (s : State) (i : Nat) (k : Bytes), Running s i 0x72 k ∧ par k 0 1 = 1 ∧ s.part.sliceRec (par k 2 2) = none) ∧
    (∃ (s : State) (i : Nat) (k : Bytes) (d : SliceDesc) (st : Nat), Running s i 0x70 k ∧ d = { slice := par k 0 2, origin := par k 4 2, ex := par k 6 1, ey := par k 7 1, ez := par k 8 1 } ∧ s.part.joinRejected d ((par k 2 1).testBit 0) (par k 10 2) = some st) ∧
    (∃ (s : State) (i : Nat) (k : Bytes) (d : SliceDesc), Running s i 0x70 k ∧ d = { slice := par k 0 2, origin := par k 4 2, ex := par k 6 1, ey := par k 7 1, ez := par k 8 1 } ∧ s.part.joinRejected d ((par k 2 1).testBit 0) (par k 10 2) = none) ∧
    (∃ (s : State) (i : Nat) (k : Bytes), Running s i 0x71 k ∧ s.part.sliceRec (par k 0 2) = none) ∧
    (∃ (s : State) (i : Nat) (k : Bytes) (r : SliceRec), Running s i 0x71 k ∧ s.part.sliceRec (par k 0 2) = some r ∧ r.st ≠ 1) ∧
    (∃ (s : State) (i : Nat) (k : Bytes) (r : SliceRec), Running s i 0x71 k ∧ s.part.sliceRec (par k 0 2) = some r ∧ r.st = 1) ∧
    (∃ (s : State), s.part.alive 1 = true ∧ ((s.part.takeMsg fun x => s.part.rootsHere x.2) = none)) ∧
    (∃ (s : State) (src : Nat) (d : SliceDesc) (rack : Nat) (p : Machine.Part) (r : SliceRec) (st : Nat), s.part.alive 1 = true ∧ (s.part.takeMsg (fun x => s.part.rootsHere x.2) = some ((src, .descriptor d rack), p)) ∧ p.sliceRec d.slice = some r ∧ r.joinFail d src rack = some st) ∧
    (∃ (s : State) (src : Nat) (d : SliceDesc) (rack : Nat) (p : Machine.Part) (r : SliceRec), s.part.alive 1 = true ∧ (s.part.takeMsg (fun x => s.part.rootsHere x.2) = some ((src, .descriptor d rack), p)) ∧ p.sliceRec d.slice = some r ∧ d ≠ r.desc) ∧
    (∃ (s : State) (src : Nat) (d : SliceDesc) (rack : Nat) (p : Machine.Part) (r : SliceRec), s.part.alive 1 = true ∧ (s.part.takeMsg (fun x => s.part.rootsHere x.2) = some ((src, .descriptor d rack), p)) ∧ p.sliceRec d.slice = some r ∧ r.joinFail d src rack = none) ∧
    (∃ (s : State), s.part.alive 1 = true ∧ (∀ x ∈ s.part.fab.inbox, ∀ id st leader mates, x.2 ≠ .active id st leader mates)) ∧
    (∃ (s : State) (src : Nat) (id : Nat) (st : Nat) (leader : Nat) (mates : List Nat) (l : List (Nat × FabMsg)), s.part.alive 1 = true ∧ s.part.fab.inbox = (src, .active id st leader mates) :: l ∧ s.part.sliceRec id = none) ∧
    (∃ (s : State) (src : Nat) (id : Nat) (st : Nat) (leader : Nat) (mates : List Nat) (l : List (Nat × FabMsg)) (r : SliceRec), s.part.alive 1 = true ∧ s.part.fab.inbox = (src, .active id st leader mates) :: l ∧ s.part.sliceRec id = some r ∧ st ≠ stOk ∧ r.st = 1) ∧
    (∃ (s : State) (src : Nat) (id : Nat) (st : Nat) (leader : Nat) (mates : List Nat) (l : List (Nat × FabMsg)) (r : SliceRec), s.part.alive 1 = true ∧ s.part.fab.inbox = (src, .active id st leader mates) :: l ∧ s.part.sliceRec id = some r ∧ st ≠ stOk ∧ r.st ≠ 1) ∧
    (∃ (s : State) (src : Nat) (id : Nat) (st : Nat) (leader : Nat) (mates : List Nat) (l : List (Nat × FabMsg)) (r : SliceRec), s.part.alive 1 = true ∧ s.part.fab.inbox = (src, .active id st leader mates) :: l ∧ s.part.sliceRec id = some r ∧ st = stOk ∧ r.tight = false) :=
  ⟨(let s : State := sFabricAndSlices 0; let i : Nat := 3; let k : Bytes := ((s.part.ses i).cur).get (by decide +kernel +zetaReduce); let st : Nat := (portCfgFail k).get (by decide +kernel +zetaReduce); ⟨s, i, k, st, by decide +kernel +zetaReduce⟩),
   (let s : State := sFabricAndSlices 1; let i : Nat := 3; let k : Bytes := ((s.part.ses i).cur).get (by decide +kernel +zetaReduce); ⟨s, i, k, by decide +kernel +zetaReduce⟩),
   (let s : State := sFabricAndSlices 2; let i : Nat := 3; let k : Bytes := ((s.part.ses i).cur).get (by decide +kernel +zetaReduce); ⟨s, i, k, by decide +kernel +zetaReduce, by decide +kernel +zetaReduce, by decide +kernel +zetaReduce⟩),
   (let s : State := sFabricAndSlices 3; let i : Nat := 3; let k : Bytes := ((s.part.ses i).cur).get (by decide +kernel +zetaReduce); ⟨s, i, k, by decide +kernel +zetaReduce, by decide +kernel +zetaReduce, by decide +kernel +zetaReduce, by decide +kernel +zetaReduce⟩),
   (let s : State := sFabricAndSlices 4; let i : Nat := 3; let k : Bytes := ((s.part.ses i).cur).get (by decide +kernel +zetaReduce); let b : Bytes := (s.part.fabricBody (par k 0 1) (par k 2 2)).get (by decide +kernel +zetaReduce); ⟨s, i, k, b, by decide +kernel +zetaReduce⟩),
   (let s : State := sFabricAndSlices 4; let i : Nat := 3; let k : Bytes := ((s.part.ses i).cur).get (by decide +kernel +zetaReduce); ⟨s, i, k, by decide +kernel +zetaReduce⟩),
   (let s : State := sFabricAndSlices 5; let i : Nat := 3; let k : Bytes := ((s.part.ses i).cur).get (by decide +kernel +zetaReduce); ⟨s, i, k, by decide +kernel +zetaReduce⟩),
   (let s : State := sFabricAndSlices 6; let i : Nat := 3; let k : Bytes := ((s.part.ses i).cur).get (by decide +kernel +zetaReduce); let d : SliceDesc := { slice := par k 0 2, origin := par k 4 2, ex := par k 6 1, ey := par k 7 1, ez := par k 8 1 }; let st : Nat := (s.part.joinRejected d ((par k 2 1).testBit 0) (par k 10 2)).get (by decide +kernel +zetaReduce); ⟨s, i, k, d, st, by decide +kernel +zetaReduce⟩),
   (let s : State := sFabricAndSlices 7; let i : Nat := 3; let k : Bytes := ((s.part.ses i).cur).get (by decide +kernel +zetaReduce); let d : SliceDesc := { slice := par k 0 2, origin := par k 4 2, ex := par k 6 1, ey := par k 7 1, ez := par k 8 1 }; ⟨s, i, k, d, by decide +kernel +zetaReduce⟩),
   (let s : State := sFabricAndSlices 8; let i : Nat := 3; let k : Bytes := ((s.part.ses i).cur).get (by decide +kernel +zetaReduce); ⟨s, i, k, by decide +kernel +zetaReduce⟩),
   (let s : State := sFabricAndSlices 9; let i : Nat := 3; let k : Bytes := ((s.part.ses i).cur).get (by decide +kernel +zetaReduce); let r : SliceRec := (s.part.sliceRec (par k 0 2)).get (by decide +kernel +zetaReduce); ⟨s, i, k, r, by decide +kernel +zetaReduce⟩),
   (let s : State := sFabricAndSlices 10; let i : Nat := 3; let k : Bytes := ((s.part.ses i).cur).get (by decide +kernel +zetaReduce); let r : SliceRec := (s.part.sliceRec (par k 0 2)).get (by decide +kernel +zetaReduce); ⟨s, i, k, r, by decide +kernel +zetaReduce⟩),
   ⟨sFabricAndSlices 0, by decide +kernel⟩,
   (let s : State := sFabricAndSlices 11; let src : Nat := ((s.part.takeMsg (fun x => s.part.rootsHere x.2)).bind fun z_ => match z_ with | ((a_, .descriptor _ _), _) => some a_ | _ => none).get (by decide +kernel +zetaReduce); let d : SliceDesc := ((s.part.takeMsg (fun x => s.part.rootsHere x.2)).bind fun z_ => match z_ with | ((_, .descriptor a_ _), _) => some a_ | _ => none).get (by decide +kernel +zetaReduce); let rack : Nat := ((s.part.takeMsg (fun x => s.part.rootsHere x.2)).bind fun z_ => match z_ with | ((_, .descriptor _ a_), _) => some a_ | _ => none).get (by decide +kernel +zetaReduce); let p : Machine.Part := ((s.part.takeMsg (fun x => s.part.rootsHere x.2)).bind fun z_ => match z_ with | ((_, .descriptor _ _), a_) => some a_ | _ => none).get (by decide +kernel +zetaReduce); let r : SliceRec := (p.sliceRec d.slice).get (by decide +kernel +zetaReduce); let st : Nat := (r.joinFail d src rack).get (by decide +kernel +zetaReduce); ⟨s, src, d, rack, p, r, st, by decide +kernel +zetaReduce⟩),
   (let s : State := sFabricAndSlices 11; let src : Nat := ((s.part.takeMsg (fun x => s.part.rootsHere x.2)).bind fun z_ => match z_ with | ((a_, .descriptor _ _), _) => some a_ | _ => none).get (by decide +kernel +zetaReduce); let d : SliceDesc := ((s.part.takeMsg (fun x => s.part.rootsHere x.2)).bind fun z_ => match z_ with | ((_, .descriptor a_ _), _) => some a_ | _ => none).get (by decide +kernel +zetaReduce); let rack : Nat := ((s.part.takeMsg (fun x => s.part.rootsHere x.2)).bind fun z_ => match z_ with | ((_, .descriptor _ a_), _) => some a_ | _ => none).get (by decide +kernel +zetaReduce); let p : Machine.Part := ((s.part.takeMsg (fun x => s.part.rootsHere x.2)).bind fun z_ => match z_ with | ((_, .descriptor _ _), a_) => some a_ | _ => none).get (by decide +kernel +zetaReduce); let r : SliceRec := (p.sliceRec d.slice).get (by decide +kernel +zetaReduce); ⟨s, src, d, rack, p, r, by decide +kernel +zetaReduce⟩),
   (let s : State := sFabricAndSlices 12; let src : Nat := ((s.part.takeMsg (fun x => s.part.rootsHere x.2)).bind fun z_ => match z_ with | ((a_, .descriptor _ _), _) => some a_ | _ => none).get (by decide +kernel +zetaReduce); let d : SliceDesc := ((s.part.takeMsg (fun x => s.part.rootsHere x.2)).bind fun z_ => match z_ with | ((_, .descriptor a_ _), _) => some a_ | _ => none).get (by decide +kernel +zetaReduce); let rack : Nat := ((s.part.takeMsg (fun x => s.part.rootsHere x.2)).bind fun z_ => match z_ with | ((_, .descriptor _ a_), _) => some a_ | _ => none).get (by decide +kernel +zetaReduce); let p : Machine.Part := ((s.part.takeMsg (fun x => s.part.rootsHere x.2)).bind fun z_ => match z_ with | ((_, .descriptor _ _), a_) => some a_ | _ => none).get (by decide +kernel +zetaReduce); let r : SliceRec := (p.sliceRec d.slice).get (by decide +kernel +zetaReduce); ⟨s, src, d, rack, p, r, by decide +kernel +zetaReduce⟩),
   ⟨sFabricAndSlices 0, by decide +kernel, fun x hx _ _ _ _ => no_msg (fun m => match m with | .active _ _ _ _ => true | _ => false) (by decide +kernel) rfl x hx⟩,
   (let s : State := sFabricAndSlices 13; let src : Nat := (match s.part.fab.inbox with | (a_, .active _ _ _ _) :: _ => ([a_] : List (Nat)) | _ => []).headD 0; let id : Nat := (match s.part.fab.inbox with | (_, .active a_ _ _ _) :: _ => ([a_] : List (Nat)) | _ => []).headD 0; let st : Nat := (match s.part.fab.inbox with | (_, .active _ a_ _ _) :: _ => ([a_] : List (Nat)) | _ => []).headD 0; let leader : Nat := (match s.part.fab.inbox with | (_, .active _ _ a_ _) :: _ => ([a_] : List (Nat)) | _ => []).headD 0; let mates : List Nat := (match s.part.fab.inbox with | (_, .active _ _ _ a_) :: _ => ([a_] : List (List Nat)) | _ => []).headD []; let l : List (Nat × FabMsg) := (match s.part.fab.inbox with | (_, .active _ _ _ _) :: a_ => ([a_] : List (List (Nat × FabMsg))) | _ => []).headD []; ⟨s, src, id, st, leader, mates, l, by decide +kernel +zetaReduce⟩),
   (let s : State := sFabricAndSlices 14; let src : Nat := (match s.part.fab.inbox with | (a_, .active _ _ _ _) :: _ => ([a_] : List (Nat)) | _ => []).headD 0; let id : Nat := (match s.part.fab.inbox with | (_, .active a_ _ _ _) :: _ => ([a_] : List (Nat)) | _ => []).headD 0; let st : Nat := (match s.part.fab.inbox with | (_, .active _ a_ _ _) :: _ => ([a_] : List (Nat)) | _ => []).headD 0; let leader : Nat := (match s.part.fab.inbox with | (_, .active _ _ a_ _) :: _ => ([a_] : List (Nat)) | _ => []).headD 0; let mates : List Nat := (match s.part.fab.inbox with | (_, .active _ _ _ a_) :: _ => ([a_] : List (List Nat)) | _ => []).headD []; let l : List (Nat × FabMsg) := (match s.part.fab.inbox with | (_, .active _ _ _ _) :: a_ => ([a_] : List (List (Nat × FabMsg))) | _ => []).headD []; let r : SliceRec := (s.part.sliceRec id).get (by decide +kernel +zetaReduce); ⟨s, src, id, st, leader, mates, l, r, by decide +kernel +zetaReduce⟩),
   (let s : State := sFabricAndSlices 15; let src : Nat := (match s.part.fab.inbox with | (a_, .active _ _ _ _) :: _ => ([a_] : List (Nat)) | _ => []).headD 0; let id : Nat := (match s.part.fab.inbox with | (_, .active a_ _ _ _) :: _ => ([a_] : List (Nat)) | _ => []).headD 0; let st : Nat := (match s.part.fab.inbox with | (_, .active _ a_ _ _) :: _ => ([a_] : List (Nat)) | _ => []).headD 0; let leader : Nat := (match s.part.fab.inbox with | (_, .active _ _ a_ _) :: _ => ([a_] : List (Nat)) | _ => []).headD 0; let mates : List Nat := (match s.part.fab.inbox with | (_, .active _ _ _ a_) :: _ => ([a_] : List (List Nat)) | _ => []).headD []; let l : List (Nat × FabMsg) := (match s.part.fab.inbox with | (_, .active _ _ _ _) :: a_ => ([a_] : List (List (Nat × FabMsg))) | _ => []).headD []; let r : SliceRec := (s.part.sliceRec id).get (by decide +kernel +zetaReduce); ⟨s, src, id, st, leader, mates, l, r, by decide +kernel +zetaReduce⟩),
   (let s : State := sFabricAndSlices 16; let src : Nat := (match s.part.fab.inbox with | (a_, .active _ _ _ _) :: _ => ([a_] : List (Nat)) | _ => []).headD 0; let id : Nat := (match s.part.fab.inbox with | (_, .active a_ _ _ _) :: _ => ([a_] : List (Nat)) | _ => []).headD 0; let st : Nat := (match s.part.fab.inbox with | (_, .active _ a_ _ _) :: _ => ([a_] : List (Nat)) | _ => []).headD 0; let leader : Nat := (match s.part.fab.inbox with | (_, .active _ _ a_ _) :: _ => ([a_] : List (Nat)) | _ => []).headD 0; let mates : List Nat := (match s.part.fab.inbox with | (_, .active _ _ _ a_) :: _ => ([a_] : List (List Nat)) | _ => []).headD []; let l : List (Nat × FabMsg) := (match s.part.fab.inbox with | (_, .active _ _ _ _) :: a_ => ([a_] : List (List (Nat × FabMsg))) | _ => []).headD []; let r : SliceRec := (s.part.sliceRec id).get (by decide +kernel +zetaReduce); ⟨s, src, id, st, leader, mates, l, r, by decide +kernel +zetaReduce⟩)⟩

/-- States for `wit_StripesAndRounds`. -/
def sStripesAndRounds (n : Nat) : State :=
  ([st (inb (.arrive 9 5 false) id),
    st (tor fun x => { x with inbox := [(1024, .lendAsk 8 100)] }),
    st (inb (.lendFree (stripeAddr 0) 1) lentS),
    st (inb (.tierPut (stripeAddr 1) [7]) lentS),
    st (inb (.tierPut (stripeAddr 0) [7]) lentS),
    st (inb (.tierAsk (stripeAddr 5) 2) lentS),
    st (inb (.tierAsk (stripeAddr 0) 2) lentS),
    st (inb (.arrive 8 5 false) id),
    st (inb (.go 8 6 5) id),
    st (inb (.arrive 9 6 true) mem9),
    st (inb (.arrive 9 6 false) id),
    st (inb (.go 9 5 5) id),
    st (inb (.go 9 6 2000000000000) id),
    st (inb (.go 9 6 5) id),
    st (tor fun x => { x with slices := [sl9 fun x => { x with go := some (6, 5) }] }),
    st (tor fun x => { x with slices := [sl9 fun x => { mem9 x with firstAt := some 5 }] }),
    st (tor fun x => { x with slices := [sl9 fun x => { x with rackFirstAt := some 5, rackArrived := [0] }] })] : List State).getD n State.reset

theorem wit_StripesAndRounds :
    (∃ (s : State), s.part.alive 1 = true ∧ (∀ x ∈ s.part.fab.inbox, lenderMsg x = false)) ∧
    (∃ (s : State) (src : Nat) (l : List (Nat × FabMsg)) (id : Nat) (n : Nat), s.part.alive 1 = true ∧ s.part.fab.inbox = (src, .lendAsk id n) :: l ∧ s.part.sliceRec id = none) ∧
    (∃ (s : State) (src : Nat) (l : List (Nat × FabMsg)) (a : Nat) (k : Nat), s.part.alive 1 = true ∧ s.part.fab.inbox = (src, .lendFree a k) :: l) ∧
    (∃ (s : State) (src : Nat) (l : List (Nat × FabMsg)) (a : Nat) (d : Bytes), s.part.alive 1 = true ∧ s.part.fab.inbox = (src, .tierPut a d) :: l ∧ s.part.lentTo src a = none) ∧
    (∃ (s : State) (src : Nat) (l : List (Nat × FabMsg)) (a : Nat) (d : Bytes) (x : Nat × Nat), s.part.alive 1 = true ∧ s.part.fab.inbox = (src, .tierPut a d) :: l ∧ s.part.lentTo src a = some x) ∧
    (∃ (s : State) (src : Nat) (l : List (Nat × FabMsg)) (a : Nat) (n : Nat), s.part.alive 1 = true ∧ s.part.fab.inbox = (src, .tierAsk a n) :: l ∧ s.part.lentTo src a = none) ∧
    (∃ (s : State) (src : Nat) (l : List (Nat × FabMsg)) (a : Nat) (n : Nat) (x : Nat × Nat), s.part.alive 1 = true ∧ s.part.fab.inbox = (src, .tierAsk a n) :: l ∧ s.part.lentTo src a = some x) ∧
    (∃ (s : State), s.part.alive 1 = true ∧ (∀ x ∈ s.part.fab.inbox, s.part.arriveNow x.2 = false)) ∧
    (∃ (s : State), s.part.alive 1 = true ∧ (∀ x ∈ s.part.fab.inbox, ∀ id n t, x.2 ≠ .go id n t)) ∧
    (∃ (s : State) (id : Nat), s.part.alive 1 = true ∧ s.part.sliceRec id = none) ∧
    (∃ (s : State) (src : Nat) (id : Nat) (n : Nat) (rack : Bool) (l : List (Nat × FabMsg)), s.part.alive 1 = true ∧ s.part.fab.inbox = (src, .arrive id n rack) :: l ∧ s.part.sliceRec id = none) ∧
    (∃ (s : State) (src : Nat) (id : Nat) (n : Nat) (t : Nat) (l : List (Nat × FabMsg)), s.part.alive 1 = true ∧ s.part.fab.inbox = (src, .go id n t) :: l ∧ s.part.sliceRec id = none) ∧
    (∃ (s : State) (id : Nat) (r : SliceRec) (src : Nat) (n : Nat) (rack : Bool) (l : List (Nat × FabMsg)), s.part.alive 1 = true ∧ s.part.sliceRec id = some r ∧ s.part.fab.inbox = (src, .arrive id n rack) :: l ∧ n < r.round) ∧
    (∃ (s : State) (id : Nat) (r : SliceRec) (src : Nat) (n : Nat) (rack : Bool) (l : List (Nat × FabMsg)), s.part.alive 1 = true ∧ s.part.sliceRec id = some r ∧ s.part.fab.inbox = (src, .arrive id n rack) :: l ∧ n = r.round ∧ rack = true ∧ r.root ≠ s.part.fabCfg.partId) ∧
    (∃ (s : State) (id : Nat) (r : SliceRec) (src : Nat) (n : Nat) (rack : Bool) (l : List (Nat × FabMsg)), s.part.alive 1 = true ∧ s.part.sliceRec id = some r ∧ s.part.fab.inbox = (src, .arrive id n rack) :: l ∧ n = r.round ∧ rack = false) ∧
    (∃ (s : State) (id : Nat) (r : SliceRec) (src : Nat) (n : Nat) (t : Nat) (l : List (Nat × FabMsg)), s.part.alive 1 = true ∧ s.part.sliceRec id = some r ∧ s.part.fab.inbox = (src, .go id n t) :: l ∧ n ≠ r.round) ∧
    (∃ (s : State) (id : Nat) (r : SliceRec) (src : Nat) (n : Nat) (t : Nat) (l : List (Nat × FabMsg)), s.part.alive 1 = true ∧ s.part.sliceRec id = some r ∧ s.part.fab.inbox = (src, .go id n t) :: l ∧ n = r.round ∧ s.part.now < t) ∧
    (∃ (s : State) (id : Nat) (r : SliceRec) (src : Nat) (n : Nat) (t : Nat) (l : List (Nat × FabMsg)), s.part.alive 1 = true ∧ s.part.sliceRec id = some r ∧ s.part.fab.inbox = (src, .go id n t) :: l ∧ n = r.round ∧ t ≤ s.part.now) ∧
    (∃ (s : State) (id : Nat) (r : SliceRec), s.part.alive 1 = true ∧ s.part.sliceRec id = some r ∧ (r.go = none ∨ (∃ n t, r.go = some (n, t) ∧ s.part.now < t))) ∧
    (∃ (s : State) (id : Nat) (r : SliceRec) (n : Nat) (t : Nat), s.part.alive 1 = true ∧ s.part.sliceRec id = some r ∧ r.go = some (n, t) ∧ t ≤ s.part.now) ∧
    (∃ (s : State) (id : Nat) (r : SliceRec), s.part.alive 1 = true ∧ s.part.sliceRec id = some r ∧ s.part.tenMs r.firstAt = false ∧ (s.part.tenMs r.rackFirstAt = false ∨ r.root ≠ s.part.fabCfg.partId)) ∧
    (∃ (s : State) (id : Nat) (r : SliceRec), s.part.alive 1 = true ∧ s.part.sliceRec id = some r ∧ s.part.tenMs r.firstAt = true ∧ r.root ≠ s.part.fabCfg.partId) ∧
    (∃ (s : State) (id : Nat) (r : SliceRec), s.part.alive 1 = true ∧ s.part.sliceRec id = some r ∧ s.part.tenMs r.rackFirstAt = true ∧ s.part.tenMs r.firstAt = false ∧ r.root = s.part.fabCfg.partId) ∧
    (∃ (s : State) (id : Nat) (r : SliceRec), s.part.alive 1 = true ∧ s.part.sliceRec id = some r) :=
  ⟨⟨sStripesAndRounds 0, by decide +kernel⟩,
   (let s : State := sStripesAndRounds 1; let src : Nat := (match s.part.fab.inbox with | (a_, .lendAsk _ _) :: _ => ([a_] : List (Nat)) | _ => []).headD 0; let l : List (Nat × FabMsg) := (match s.part.fab.inbox with | (_, .lendAsk _ _) :: a_ => ([a_] : List (List (Nat × FabMsg))) | _ => []).headD []; let id : Nat := (match s.part.fab.inbox with | (_, .lendAsk a_ _) :: _ => ([a_] : List (Nat)) | _ => []).headD 0; let n : Nat := (match s.part.fab.inbox with | (_, .lendAsk _ a_) :: _ => ([a_] : List (Nat)) | _ => []).headD 0; ⟨s, src, l, id, n, by decide +kernel +zetaReduce⟩),
   (let s : State := sStripesAndRounds 2; let src : Nat := (match s.part.fab.inbox with | (a_, .lendFree _ _) :: _ => ([a_] : List (Nat)) | _ => []).headD 0; let l : List (Nat × FabMsg) := (match s.part.fab.inbox with | (_, .lendFree _ _) :: a_ => ([a_] : List (List (Nat × FabMsg))) | _ => []).headD []; let a : Nat := (match s.part.fab.inbox with | (_, .lendFree a_ _) :: _ => ([a_] : List (Nat)) | _ => []).headD 0; let k : Nat := (match s.part.fab.inbox with | (_, .lendFree _ a_) :: _ => ([a_] : List (Nat)) | _ => []).headD 0; ⟨s, src, l, a, k, by decide +kernel +zetaReduce⟩),
   (let s : State := sStripesAndRounds 3; let src : Nat := (match s.part.fab.inbox with | (a_, .tierPut _ _) :: _ => ([a_] : List (Nat)) | _ => []).headD 0; let l : List (Nat × FabMsg) := (match s.part.fab.inbox with | (_, .tierPut _ _) :: a_ => ([a_] : List (List (Nat × FabMsg))) | _ => []).headD []; let a : Nat := (match s.part.fab.inbox with | (_, .tierPut a_ _) :: _ => ([a_] : List (Nat)) | _ => []).headD 0; let d : Bytes := (match s.part.fab.inbox with | (_, .tierPut _ a_) :: _ => ([a_] : List (Bytes)) | _ => []).headD []; ⟨s, src, l, a, d, by decide +kernel +zetaReduce⟩),
   (let s : State := sStripesAndRounds 4; let src : Nat := (match s.part.fab.inbox with | (a_, .tierPut _ _) :: _ => ([a_] : List (Nat)) | _ => []).headD 0; let l : List (Nat × FabMsg) := (match s.part.fab.inbox with | (_, .tierPut _ _) :: a_ => ([a_] : List (List (Nat × FabMsg))) | _ => []).headD []; let a : Nat := (match s.part.fab.inbox with | (_, .tierPut a_ _) :: _ => ([a_] : List (Nat)) | _ => []).headD 0; let d : Bytes := (match s.part.fab.inbox with | (_, .tierPut _ a_) :: _ => ([a_] : List (Bytes)) | _ => []).headD []; let x : Nat × Nat := (s.part.lentTo src a).get (by decide +kernel +zetaReduce); ⟨s, src, l, a, d, x, by decide +kernel +zetaReduce⟩),
   (let s : State := sStripesAndRounds 5; let src : Nat := (match s.part.fab.inbox with | (a_, .tierAsk _ _) :: _ => ([a_] : List (Nat)) | _ => []).headD 0; let l : List (Nat × FabMsg) := (match s.part.fab.inbox with | (_, .tierAsk _ _) :: a_ => ([a_] : List (List (Nat × FabMsg))) | _ => []).headD []; let a : Nat := (match s.part.fab.inbox with | (_, .tierAsk a_ _) :: _ => ([a_] : List (Nat)) | _ => []).headD 0; let n : Nat := (match s.part.fab.inbox with | (_, .tierAsk _ a_) :: _ => ([a_] : List (Nat)) | _ => []).headD 0; ⟨s, src, l, a, n, by decide +kernel +zetaReduce⟩),
   (let s : State := sStripesAndRounds 6; let src : Nat := (match s.part.fab.inbox with | (a_, .tierAsk _ _) :: _ => ([a_] : List (Nat)) | _ => []).headD 0; let l : List (Nat × FabMsg) := (match s.part.fab.inbox with | (_, .tierAsk _ _) :: a_ => ([a_] : List (List (Nat × FabMsg))) | _ => []).headD []; let a : Nat := (match s.part.fab.inbox with | (_, .tierAsk a_ _) :: _ => ([a_] : List (Nat)) | _ => []).headD 0; let n : Nat := (match s.part.fab.inbox with | (_, .tierAsk _ a_) :: _ => ([a_] : List (Nat)) | _ => []).headD 0; let x : Nat × Nat := (s.part.lentTo src a).get (by decide +kernel +zetaReduce); ⟨s, src, l, a, n, x, by decide +kernel +zetaReduce⟩),
   ⟨sStripesAndRounds 1, by decide +kernel⟩,
   ⟨sStripesAndRounds 1, by decide +kernel, fun x hx _ _ _ => no_msg (fun m => match m with | .go _ _ _ => true | _ => false) (by decide +kernel) rfl x hx⟩,
   ⟨sStripesAndRounds 1, 8, by decide +kernel⟩,
   (let s : State := sStripesAndRounds 7; let src : Nat := (match s.part.fab.inbox with | (a_, .arrive _ _ _) :: _ => ([a_] : List (Nat)) | _ => []).headD 0; let id : Nat := (match s.part.fab.inbox with | (_, .arrive a_ _ _) :: _ => ([a_] : List (Nat)) | _ => []).headD 0; let n : Nat := (match s.part.fab.inbox with | (_, .arrive _ a_ _) :: _ => ([a_] : List (Nat)) | _ => []).headD 0; let rack : Bool := (match s.part.fab.inbox with | (_, .arrive _ _ a_) :: _ => ([a_] : List (Bool)) | _ => []).headD false; let l : List (Nat × FabMsg) := (match s.part.fab.inbox with | (_, .arrive _ _ _) :: a_ => ([a_] : List (List (Nat × FabMsg))) | _ => []).headD []; ⟨s, src, id, n, rack, l, by decide +kernel +zetaReduce⟩),
   (let s : State := sStripesAndRounds 8; let src : Nat := (match s.part.fab.inbox with | (a_, .go _ _ _) :: _ => ([a_] : List (Nat)) | _ => []).headD 0; let id : Nat := (match s.part.fab.inbox with | (_, .go a_ _ _) :: _ => ([a_] : List (Nat)) | _ => []).headD 0; let n : Nat := (match s.part.fab.inbox with | (_, .go _ a_ _) :: _ => ([a_] : List (Nat)) | _ => []).headD 0; let t : Nat := (match s.part.fab.inbox with | (_, .go _ _ a_) :: _ => ([a_] : List (Nat)) | _ => []).headD 0; let l : List (Nat × FabMsg) := (match s.part.fab.inbox with | (_, .go _ _ _) :: a_ => ([a_] : List (List (Nat × FabMsg))) | _ => []).headD []; ⟨s, src, id, n, t, l, by decide +kernel +zetaReduce⟩),
   (let s : State := sStripesAndRounds 0; let id : Nat := (match s.part.fab.inbox with | (_, .arrive a_ _ _) :: _ => ([a_] : List (Nat)) | _ => []).headD 0; let r : SliceRec := (s.part.sliceRec id).get (by decide +kernel +zetaReduce); let src : Nat := (match s.part.fab.inbox with | (a_, .arrive _ _ _) :: _ => ([a_] : List (Nat)) | _ => []).headD 0; let n : Nat := (match s.part.fab.inbox with | (_, .arrive _ a_ _) :: _ => ([a_] : List (Nat)) | _ => []).headD 0; let rack : Bool := (match s.part.fab.inbox with | (_, .arrive _ _ a_) :: _ => ([a_] : List (Bool)) | _ => []).headD false; let l : List (Nat × FabMsg) := (match s.part.fab.inbox with | (_, .arrive _ _ _) :: a_ => ([a_] : List (List (Nat × FabMsg))) | _ => []).headD []; ⟨s, id, r, src, n, rack, l, by decide +kernel +zetaReduce⟩),
   (let s : State := sStripesAndRounds 9; let id : Nat := (match s.part.fab.inbox with | (_, .arrive a_ _ _) :: _ => ([a_] : List (Nat)) | _ => []).headD 0; let r : SliceRec := (s.part.sliceRec id).get (by decide +kernel +zetaReduce); let src : Nat := (match s.part.fab.inbox with | (a_, .arrive _ _ _) :: _ => ([a_] : List (Nat)) | _ => []).headD 0; let n : Nat := (match s.part.fab.inbox with | (_, .arrive _ a_ _) :: _ => ([a_] : List (Nat)) | _ => []).headD 0; let rack : Bool := (match s.part.fab.inbox with | (_, .arrive _ _ a_) :: _ => ([a_] : List (Bool)) | _ => []).headD false; let l : List (Nat × FabMsg) := (match s.part.fab.inbox with | (_, .arrive _ _ _) :: a_ => ([a_] : List (List (Nat × FabMsg))) | _ => []).headD []; ⟨s, id, r, src, n, rack, l, by decide +kernel +zetaReduce⟩),
   (let s : State := sStripesAndRounds 10; let id : Nat := (match s.part.fab.inbox with | (_, .arrive a_ _ _) :: _ => ([a_] : List (Nat)) | _ => []).headD 0; let r : SliceRec := (s.part.sliceRec id).get (by decide +kernel +zetaReduce); let src : Nat := (match s.part.fab.inbox with | (a_, .arrive _ _ _) :: _ => ([a_] : List (Nat)) | _ => []).headD 0; let n : Nat := (match s.part.fab.inbox with | (_, .arrive _ a_ _) :: _ => ([a_] : List (Nat)) | _ => []).headD 0; let rack : Bool := (match s.part.fab.inbox with | (_, .arrive _ _ a_) :: _ => ([a_] : List (Bool)) | _ => []).headD false; let l : List (Nat × FabMsg) := (match s.part.fab.inbox with | (_, .arrive _ _ _) :: a_ => ([a_] : List (List (Nat × FabMsg))) | _ => []).headD []; ⟨s, id, r, src, n, rack, l, by decide +kernel +zetaReduce⟩),
   (let s : State := sStripesAndRounds 11; let id : Nat := (match s.part.fab.inbox with | (_, .go a_ _ _) :: _ => ([a_] : List (Nat)) | _ => []).headD 0; let r : SliceRec := (s.part.sliceRec id).get (by decide +kernel +zetaReduce); let src : Nat := (match s.part.fab.inbox with | (a_, .go _ _ _) :: _ => ([a_] : List (Nat)) | _ => []).headD 0; let n : Nat := (match s.part.fab.inbox with | (_, .go _ a_ _) :: _ => ([a_] : List (Nat)) | _ => []).headD 0; let t : Nat := (match s.part.fab.inbox with | (_, .go _ _ a_) :: _ => ([a_] : List (Nat)) | _ => []).headD 0; let l : List (Nat × FabMsg) := (match s.part.fab.inbox with | (_, .go _ _ _) :: a_ => ([a_] : List (List (Nat × FabMsg))) | _ => []).headD []; ⟨s, id, r, src, n, t, l, by decide +kernel +zetaReduce⟩),
   (let s : State := sStripesAndRounds 12; let id : Nat := (match s.part.fab.inbox with | (_, .go a_ _ _) :: _ => ([a_] : List (Nat)) | _ => []).headD 0; let r : SliceRec := (s.part.sliceRec id).get (by decide +kernel +zetaReduce); let src : Nat := (match s.part.fab.inbox with | (a_, .go _ _ _) :: _ => ([a_] : List (Nat)) | _ => []).headD 0; let n : Nat := (match s.part.fab.inbox with | (_, .go _ a_ _) :: _ => ([a_] : List (Nat)) | _ => []).headD 0; let t : Nat := (match s.part.fab.inbox with | (_, .go _ _ a_) :: _ => ([a_] : List (Nat)) | _ => []).headD 0; let l : List (Nat × FabMsg) := (match s.part.fab.inbox with | (_, .go _ _ _) :: a_ => ([a_] : List (List (Nat × FabMsg))) | _ => []).headD []; ⟨s, id, r, src, n, t, l, by decide +kernel +zetaReduce⟩),
   (let s : State := sStripesAndRounds 13; let id : Nat := (match s.part.fab.inbox with | (_, .go a_ _ _) :: _ => ([a_] : List (Nat)) | _ => []).headD 0; let r : SliceRec := (s.part.sliceRec id).get (by decide +kernel +zetaReduce); let src : Nat := (match s.part.fab.inbox with | (a_, .go _ _ _) :: _ => ([a_] : List (Nat)) | _ => []).headD 0; let n : Nat := (match s.part.fab.inbox with | (_, .go _ a_ _) :: _ => ([a_] : List (Nat)) | _ => []).headD 0; let t : Nat := (match s.part.fab.inbox with | (_, .go _ _ a_) :: _ => ([a_] : List (Nat)) | _ => []).headD 0; let l : List (Nat × FabMsg) := (match s.part.fab.inbox with | (_, .go _ _ _) :: a_ => ([a_] : List (List (Nat × FabMsg))) | _ => []).headD []; ⟨s, id, r, src, n, t, l, by decide +kernel +zetaReduce⟩),
   (let s : State := sStripesAndRounds 3; let id : Nat := 9; let r : SliceRec := (s.part.sliceRec id).get (by decide +kernel +zetaReduce); ⟨s, id, r, by decide +kernel +zetaReduce, by decide +kernel +zetaReduce, .inl (by decide +kernel +zetaReduce)⟩),
   (let s : State := sStripesAndRounds 14; let id : Nat := 9; let r : SliceRec := (s.part.sliceRec id).get (by decide +kernel +zetaReduce); let n : Nat := ((r.go).map Prod.fst).get (by decide +kernel +zetaReduce); let t : Nat := ((r.go).map Prod.snd).get (by decide +kernel +zetaReduce); ⟨s, id, r, n, t, by decide +kernel +zetaReduce⟩),
   (let s : State := sStripesAndRounds 3; let id : Nat := 9; let r : SliceRec := (s.part.sliceRec id).get (by decide +kernel +zetaReduce); ⟨s, id, r, by decide +kernel +zetaReduce⟩),
   (let s : State := sStripesAndRounds 15; let id : Nat := 9; let r : SliceRec := (s.part.sliceRec id).get (by decide +kernel +zetaReduce); ⟨s, id, r, by decide +kernel +zetaReduce⟩),
   (let s : State := sStripesAndRounds 16; let id : Nat := 9; let r : SliceRec := (s.part.sliceRec id).get (by decide +kernel +zetaReduce); ⟨s, id, r, by decide +kernel +zetaReduce⟩),
   (let s : State := sStripesAndRounds 3; let id : Nat := 9; let r : SliceRec := (s.part.sliceRec id).get (by decide +kernel +zetaReduce); ⟨s, id, r, by decide +kernel +zetaReduce⟩)⟩

/-- States for `wit_EthernetAndIngress`. -/
def sEthernetAndIngress (n : Nat) : State :=
  ([run pOn pkE,
    run (pEth id) (pk 0x74 0 0 ([12, 5] ++ z 54 ++ [0, 8] ++ z 6)),
    run useN (pk 0x74 0 0 ([12, 1] ++ z 14 ++ [1] ++ z 47)),
    run (pEth id) pkE,
    st (pEth fun e => { e with up := false }),
    st (pEth fun e => { e with cfg := [12, 5, 0xDC, 5] ++ z 10 ++ [24, 64, 10, 0, 0, 1] ++ z 36 ++ [8, 4] ++ z 6 }),
    ing id,
    ing (fun s => { s with st := .opened })] : List State).getD n State.reset

theorem wit_EthernetAndIngress :
    (∃ (s : State) (i : Nat) (l : Nat) (k : Bytes), Running s i 0x74 k ∧ l = par k 0 1 ∧ isEthLink l = true ∧ (s.part.link l).mode ≠ 2) ∧
    (∃ (s : State) (i : Nat) (l : Nat) (k : Bytes), Running s i 0x74 k ∧ l = par k 0 1 ∧ isEthLink l = true ∧ (s.part.link l).mode = 2 ∧ (par k 1 1).testBit 2 = true ∧ (∃ n, par k 56 1 ≤ n ∧ n < par k 56 1 + par k 57 1 ∧ (s.part.ses n).st = .opened ∧ (s.part.ses n).ingress = false)) ∧
    (∃ (s : State) (i : Nat) (l : Nat) (k : Bytes), Running s i 0x74 k ∧ l = par k 0 1 ∧ isEthLink l = true ∧ (s.part.link l).mode = 2 ∧ s.part.linkInUse l = true ∧ bytesAt k 16 64 ≠ (s.part.eth l).cfg) ∧
    (∃ (s : State) (i : Nat) (l : Nat) (k : Bytes), Running s i 0x74 k ∧ l = par k 0 1 ∧ isEthLink l = true ∧ (s.part.link l).mode = 2 ∧ ((par k 1 1).testBit 2 = false ∨ (∀ n, par k 56 1 ≤ n → n < par k 56 1 + par k 57 1 → (s.part.ses n).st ≠ .opened ∨ (s.part.ses n).ingress = true)) ∧ (s.part.linkInUse l = false ∨ bytesAt k 16 64 = (s.part.eth l).cfg)) ∧
    (∃ (s : State) (l : Nat), isEthLink l = true ∧ s.part.alive 18 = true ∧ ((s.part.link l).mode ≠ 2 ∨ (s.part.eth l).enabled = false ∨ (s.part.eth l).up = true ∨ s.part.domSt (15 + l / 4) ≠ .on)) ∧
    (∃ (s : State) (l : Nat), isEthLink l = true ∧ s.part.alive 18 = true ∧ (s.part.link l).mode = 2 ∧ (s.part.eth l).enabled = true ∧ (s.part.eth l).up = false ∧ s.part.domSt (15 + l / 4) = .on) ∧
    (∃ (s : State) (l : Nat) (vlan : Nat) (len : Nat) (f : EthFrame), isEthLink l = true ∧ s.part.alive 18 = true ∧ ((s.part.eth l).up = false ∨ fld (s.part.eth l).cfg 2 2 < len ∨ vlan ≠ fld (s.part.eth l).cfg 4 2 ∨ (s.part.eth l).reply f = none)) ∧
    (∃ (s : State) (l : Nat) (len : Nat) (f : EthFrame) (g : EthFrame), isEthLink l = true ∧ s.part.alive 18 = true ∧ (s.part.eth l).up = true ∧ len ≤ fld (s.part.eth l).cfg 2 2 ∧ (s.part.eth l).reply f = some g) ∧
    (∃ (s : State) (l : Nat) (conn : Nat) (b : Bytes), isEthLink l = true ∧ s.part.alive 1 = true ∧ ((s.part.eth l).up = false ∨ (∃ c ∈ s.part.fab.ingress, c.conn = conn) ∨ 256 ≤ s.part.tcpCount ∨ claimSession b = none)) ∧
    (∃ (s : State) (l : Nat) (b : Bytes) (i : Nat), isEthLink l = true ∧ s.part.alive 1 = true ∧ claimSession b = some i ∧ ((s.part.eth l).ingressHas i = false ∨ (s.part.ses i).st = .opened ∨ (s.part.ses i).claimed = true)) ∧
    (∃ (s : State) (l : Nat) (conn : Nat) (b : Bytes) (i : Nat), isEthLink l = true ∧ s.part.alive 1 = true ∧ claimSession b = some i ∧ (s.part.eth l).up = true ∧ (∀ c ∈ s.part.fab.ingress, c.conn ≠ conn) ∧ s.part.tcpCount < 256 ∧ (s.part.eth l).ingressHas i = true ∧ (s.part.ses i).st ≠ .opened ∧ (s.part.ses i).claimed = false) ∧
    (∃ (s : State) (conn : Nat), s.part.alive 1 = true ∧ ((s.part.fab.ingress.find? fun c => c.conn == conn) = none)) ∧
    (∃ (s : State) (conn : Nat), s.part.alive 1 = true ∧ ((s.part.fab.ingress.find? fun c => c.conn == conn) = none)) ∧
    (∃ (s : State) (conn : Nat) (c : Ingress) (b : Bytes), s.part.alive 1 = true ∧ (s.part.fab.ingress.find? (fun c => c.conn == conn) = some c) ∧ c.carry.length + b.length < 16) ∧
    (∃ (s : State) (conn : Nat) (c : Ingress) (b : Bytes) (q : Machine.Part) (r : Bytes), s.part.alive 1 = true ∧ (s.part.fab.ingress.find? (fun c => c.conn == conn) = some c) ∧ s.part.streamPackets c.sess (c.carry.length + b.length) (c.carry ++ b) = (q, r)) ∧
    (∃ (s : State) (conn : Nat) (c : Ingress), s.part.alive 1 = true ∧ (s.part.fab.ingress.find? (fun c => c.conn == conn) = some c) ∧ (s.part.ses c.sess).st = .opened) ∧
    (∃ (s : State) (conn : Nat) (c : Ingress), s.part.alive 1 = true ∧ (s.part.fab.ingress.find? (fun c => c.conn == conn) = some c) ∧ (s.part.ses c.sess).st ≠ .opened) :=
  ⟨(let s : State := sEthernetAndIngress 0; let i : Nat := 3; let k : Bytes := ((s.part.ses i).cur).get (by decide +kernel +zetaReduce); ⟨s, i, 12, k, by decide +kernel +zetaReduce⟩),
   (let s : State := sEthernetAndIngress 1; let i : Nat := 3; let k : Bytes := ((s.part.ses i).cur).get (by decide +kernel +zetaReduce); ⟨s, i, 12, k, by decide +kernel +zetaReduce, by decide +kernel +zetaReduce, by decide +kernel +zetaReduce, by decide +kernel +zetaReduce, by decide +kernel +zetaReduce, ⟨3, by decide +kernel +zetaReduce⟩⟩),
   (let s : State := sEthernetAndIngress 2; let i : Nat := 3; let k : Bytes := ((s.part.ses i).cur).get (by decide +kernel +zetaReduce); ⟨s, i, 12, k, by decide +kernel +zetaReduce⟩),
   (let s : State := sEthernetAndIngress 3; let i : Nat := 3; let k : Bytes := ((s.part.ses i).cur).get (by decide +kernel +zetaReduce); ⟨s, i, 12, k, by decide +kernel +zetaReduce, by decide +kernel +zetaReduce, by decide +kernel +zetaReduce, by decide +kernel +zetaReduce, .inl (by decide +kernel +zetaReduce), by decide +kernel +zetaReduce⟩),
   ⟨sEthernetAndIngress 0, 12, by decide +kernel⟩,
   ⟨sEthernetAndIngress 4, 12, by decide +kernel⟩,
   ⟨sEthernetAndIngress 0, 12, 0, 64, .tcp ip 4420 [], by decide +kernel⟩,
   (let s : State := sEthernetAndIngress 5; let l : Nat := 12; let f : EthFrame := .arp ip [10, 0, 0, 9]; let g : EthFrame := ((s.part.eth l).reply f).get (by decide +kernel +zetaReduce); ⟨s, l, 64, f, g, by decide +kernel +zetaReduce⟩),
   ⟨sEthernetAndIngress 0, 12, 7, z 16, by decide +kernel, by decide +kernel, by decide +kernel⟩,
   (let b : Bytes := claim 12; let i : Nat := (claimSession b).get (by decide +kernel +zetaReduce); ⟨sEthernetAndIngress 0, 12, b, i, by decide +kernel +zetaReduce⟩),
   (let b : Bytes := claim 11; let i : Nat := (claimSession b).get (by decide +kernel +zetaReduce); ⟨sEthernetAndIngress 3, 12, 7, b, i, by decide +kernel +zetaReduce⟩),
   ⟨sEthernetAndIngress 0, 7, by decide +kernel⟩,
   ⟨sEthernetAndIngress 0, 7, by decide +kernel⟩,
   (let s : State := sEthernetAndIngress 6; let conn : Nat := 7; let c : Ingress := (s.part.fab.ingress.find? (fun c => c.conn == conn)).get (by decide +kernel +zetaReduce); ⟨s, conn, c, ([3] : Bytes), by decide +kernel +zetaReduce⟩),
   (let s : State := sEthernetAndIngress 6; let conn : Nat := 7; let c : Ingress := (s.part.fab.ingress.find? (fun c => c.conn == conn)).get (by decide +kernel +zetaReduce); let b : Bytes := z 16; let q : Machine.Part := (s.part.streamPackets c.sess (c.carry.length + b.length) (c.carry ++ b)).1; let r : Bytes := (s.part.streamPackets c.sess (c.carry.length + b.length) (c.carry ++ b)).2; ⟨s, conn, c, b, q, r, by decide +kernel +zetaReduce⟩),
   (let s : State := sEthernetAndIngress 7; let conn : Nat := 7; let c : Ingress := (s.part.fab.ingress.find? (fun c => c.conn == conn)).get (by decide +kernel +zetaReduce); ⟨s, conn, c, by decide +kernel +zetaReduce⟩),
   (let s : State := sEthernetAndIngress 6; let conn : Nat := 7; let c : Ingress := (s.part.fab.ingress.find? (fun c => c.conn == conn)).get (by decide +kernel +zetaReduce); ⟨s, conn, c, by decide +kernel +zetaReduce⟩)⟩

/-- States for `wit_NvmeControllers`. -/
def sNvmeControllers (n : Nat) : State :=
  ([run (nv fun c => { c with st := 2 }) (pkN 0x28),
    run pOn (pkN 0x28),
    run (nv id) (pkN 0x28),
    st (nv fun c => { c with st := 1 }),
    run pOn (pkN 0x29),
    run (nv fun c => { c with st := 2, reads := [⟨1, 1, 0, 2, 0⟩] }) (pkN 0x29),
    run (nv fun c => { c with st := 2 }) (pkN 0x29)] : List State).getD n State.reset

theorem wit_NvmeControllers :
    (∃ (s : State) (i : Nat) (c : Nat) (k : Bytes), Running s i 0x28 k ∧ c = par k 0 1 ∧ ((s.part.nvme c).st ≠ 0 ∨ 256 < s.part.tcpCount + 1 + par k 22 1)) ∧
    (∃ (s : State) (i : Nat) (c : Nat) (k : Bytes), Running s i 0x28 k ∧ c = par k 0 1 ∧ (s.part.nvme c).st = 0 ∧ s.part.tcpCount + 1 + par k 22 1 ≤ 256 ∧ (s.part.eth (par k 1 1)).enabled = false) ∧
    (∃ (s : State) (i : Nat) (c : Nat) (k : Bytes), Running s i 0x28 k ∧ c = par k 0 1 ∧ (s.part.nvme c).st = 0 ∧ s.part.tcpCount + 1 + par k 22 1 ≤ 256 ∧ (s.part.eth (par k 1 1)).enabled = true) ∧
    (∃ (s : State) (c : Nat) (n : NvmeConn), isController c = true ∧ s.part.alive 1 = true ∧ n = s.part.nvme c ∧ (n.st ≠ 1 ∨ s.part.now < n.since + 2000000000)) ∧
    (∃ (s : State) (c : Nat) (n : NvmeConn), isController c = true ∧ s.part.alive 1 = true ∧ n = s.part.nvme c ∧ n.st = 1 ∧ n.since + 2000000000 ≤ s.part.now) ∧
    (∃ (s : State) (c : Nat) (n : NvmeConn), isController c = true ∧ s.part.alive 1 = true ∧ n = s.part.nvme c ∧ (n.st ≠ 2 ∨ s.part.now < n.aliveAt + 1000000000 * n.kato)) ∧
    (∃ (s : State) (c : Nat) (n : NvmeConn), isController c = true ∧ s.part.alive 1 = true ∧ n = s.part.nvme c ∧ n.st = 2 ∧ n.aliveAt + 1000000000 * n.kato ≤ s.part.now) ∧
    (∃ (s : State) (i : Nat) (k : Bytes) (n : NvmeConn), Running s i 0x29 k ∧ n = s.part.nvme (par k 0 1) ∧ n.st = 0) ∧
    (∃ (s : State) (i : Nat) (k : Bytes) (n : NvmeConn), Running s i 0x29 k ∧ n = s.part.nvme (par k 0 1) ∧ n.st ≠ 0 ∧ (n.reads ≠ [] ∨ n.st = 1)) ∧
    (∃ (s : State) (i : Nat) (k : Bytes) (n : NvmeConn), Running s i 0x29 k ∧ n = s.part.nvme (par k 0 1) ∧ n.st ≠ 0 ∧ n.st ≠ 1 ∧ n.reads = []) :=
  ⟨(let s : State := sNvmeControllers 0; let i : Nat := 3; let k : Bytes := ((s.part.ses i).cur).get (by decide +kernel +zetaReduce); ⟨s, i, 2, k, by decide +kernel +zetaReduce⟩),
   (let s : State := sNvmeControllers 1; let i : Nat := 3; let k : Bytes := ((s.part.ses i).cur).get (by decide +kernel +zetaReduce); ⟨s, i, 2, k, by decide +kernel +zetaReduce⟩),
   (let s : State := sNvmeControllers 2; let i : Nat := 3; let k : Bytes := ((s.part.ses i).cur).get (by decide +kernel +zetaReduce); ⟨s, i, 2, k, by decide +kernel +zetaReduce⟩),
   (let s : State := sNvmeControllers 0; let c : Nat := 2; let n : NvmeConn := s.part.nvme c; ⟨s, c, n, by decide +kernel +zetaReduce⟩),
   (let s : State := sNvmeControllers 3; let c : Nat := 2; let n : NvmeConn := s.part.nvme c; ⟨s, c, n, by decide +kernel +zetaReduce⟩),
   (let s : State := sNvmeControllers 1; let c : Nat := 2; let n : NvmeConn := s.part.nvme c; ⟨s, c, n, by decide +kernel +zetaReduce⟩),
   (let s : State := sNvmeControllers 0; let c : Nat := 2; let n : NvmeConn := s.part.nvme c; ⟨s, c, n, by decide +kernel +zetaReduce⟩),
   (let s : State := sNvmeControllers 4; let i : Nat := 3; let k : Bytes := ((s.part.ses i).cur).get (by decide +kernel +zetaReduce); let n : NvmeConn := s.part.nvme (par k 0 1); ⟨s, i, k, n, by decide +kernel +zetaReduce⟩),
   (let s : State := sNvmeControllers 5; let i : Nat := 3; let k : Bytes := ((s.part.ses i).cur).get (by decide +kernel +zetaReduce); let n : NvmeConn := s.part.nvme (par k 0 1); ⟨s, i, k, n, by decide +kernel +zetaReduce⟩),
   (let s : State := sNvmeControllers 6; let i : Nat := 3; let k : Bytes := ((s.part.ses i).cur).get (by decide +kernel +zetaReduce); let n : NvmeConn := s.part.nvme (par k 0 1); ⟨s, i, k, n, by decide +kernel +zetaReduce⟩)⟩

/-- States for `wit_SubmissionsAreTaken`. -/
def sSubmissionsAreTaken (n : Nat) : State :=
  ([ses id,
    ses fun s => { s with granted := false },
    st (Part.setSes { pOn with host := { pOn.host with bme := false, linkUp := false } } 3 Session.reset),
    sGran (leBytes 2 1 ++ leBytes 2 17 ++ z 12),
    sGran (pk 1 0 8 []),
    ses (fun s => { s with gran := [(0, pk 1 0 7 (z 16))], seqExpect := 7 }),
    sGran pkNop,
    ses (fun s => { s with st := .closed, gran := [(0, pkOpen.take 16)] }),
    ses (fun s => { s with st := .closed, gran := (List.range 5).map fun i => (i, (pkOpen.drop (16 * i)).take 16) }),
    ses (fun s => { s with st := .faulted, takePtr := 3, gran := [(12, pkNop)] }),
    ses (fun s => { s with st := .closed, queue := [(pkOpen, .closed)] }),
    ses (fun s => { s with queue := [(pkNop, .opened)] }),
    ses (fun s => { s with queue := [(pk 0xEE 0 7 [], .opened)] }),
    ses (fun s => { s with queue := [(pk 0xF0 0 7 (z 8), .opened)] }),
    ses (fun s => { s with queue := [(pk 0x0A 0 7 (z 7), .opened)] }),
    ses (fun s => { s with st := .closed, queue := [(pk 0x06 0 7 (z 7), .closed)] })] : List State).getD n State.reset

theorem wit_SubmissionsAreTaken :
    (∃ (s : State) (i : Nat) (x : Session) (o : Nat), isSession i = true ∧ s.part.alive 1 = true ∧ x = s.part.ses i ∧ (s.part.bar0Open = false ∨ 0x400000 ≤ o ∨ (o / 65536 = i ∧ x.ingress = true))) ∧
    (∃ (s : State) (i : Nat) (x : Session) (g : Nat) (b : Bytes), isSession i = true ∧ s.part.alive 1 = true ∧ x = s.part.ses i ∧ g < 4096 ∧ b.length = 16 ∧ s.part.bar0Open = true ∧ x.ingress = false ∧ (g / 4 + 1024 - x.takePtr) % 1024 < x.heldUnits ∧ x.st = .opened ∧ x.granule g = none) ∧
    (∃ (s : State) (i : Nat) (x : Session) (g : Nat) (b : Bytes), isSession i = true ∧ s.part.alive 1 = true ∧ x = s.part.ses i ∧ g < 4096 ∧ b.length = 16 ∧ s.part.bar0Open = true ∧ x.ingress = false ∧ x.heldUnits ≤ (g / 4 + 1024 - x.takePtr) % 1024 ∧ x.st = .opened) ∧
    (∃ (s : State) (i : Nat) (x : Session) (g : Nat) (b : Bytes), isSession i = true ∧ s.part.alive 1 = true ∧ x = s.part.ses i ∧ g < 4096 ∧ b.length = 16 ∧ s.part.bar0Open = true ∧ x.ingress = false ∧ x.heldUnits ≤ (g / 4 + 1024 - x.takePtr) % 1024 ∧ x.st ≠ .opened) ∧
    (∃ (s : State) (i : Nat) (x : Session) (o : Nat) (b : List Byte), isSession i = true ∧ s.part.alive 1 = true ∧ x = s.part.ses i ∧ o < 65536 ∧ 0 < o % 16 ∧ b ≠ [] ∧ b.length < 16 - o % 16 ∧ s.part.bar0Open = true ∧ x.ingress = false ∧ (o / 64 + 1024 - x.takePtr) % 1024 < x.heldUnits) ∧
    (∃ (s : State) (i : Nat) (x : Session) (o : Nat) (b : List Byte), isSession i = true ∧ s.part.alive 1 = true ∧ x = s.part.ses i ∧ o < 65536 ∧ 0 < o % 16 ∧ b ≠ [] ∧ b.length < 16 - o % 16 ∧ s.part.bar0Open = true ∧ x.ingress = false ∧ x.heldUnits ≤ (o / 64 + 1024 - x.takePtr) % 1024) ∧
    (∃ (s : State) (i : Nat) (x : Session), isSession i = true ∧ s.part.alive 1 = true ∧ x = s.part.ses i ∧ (s.part.boot.noTake = true ∨ x.granule (4 * x.takePtr) = none)) ∧
    (∃ (s : State) (i : Nat) (x : Session) (h : Bytes), isSession i = true ∧ s.part.alive 1 = true ∧ x = s.part.ses i ∧ s.part.boot.noTake = false ∧ x.granule (4 * x.takePtr) = some h ∧ x.st = .opened ∧ (pkLen h % 16 ≠ 0 ∨ pkLen h < 16 ∨ 16384 < pkLen h)) ∧
    (∃ (s : State) (i : Nat) (x : Session) (h : Bytes), isSession i = true ∧ s.part.alive 1 = true ∧ x = s.part.ses i ∧ s.part.boot.noTake = false ∧ x.granule (4 * x.takePtr) = some h ∧ x.st = .opened ∧ pkLen h % 16 = 0 ∧ 16 ≤ pkLen h ∧ pkLen h ≤ 16384 ∧ pkSeq h ≠ x.seqExpect) ∧
    (∃ (s : State) (i : Nat) (x : Session) (h : Bytes), isSession i = true ∧ s.part.alive 1 = true ∧ x = s.part.ses i ∧ s.part.boot.noTake = false ∧ x.granule (4 * x.takePtr) = some h ∧ x.st = .opened ∧ pkLen h % 16 = 0 ∧ 16 ≤ pkLen h ∧ pkLen h ≤ 16384 ∧ pkSeq h = x.seqExpect ∧ (x.granules (4 * x.takePtr) (pkLen h / 16) = false ∨ 64 ≤ x.queue.length)) ∧
    (∃ (s : State) (i : Nat) (x : Session) (h : Bytes), isSession i = true ∧ s.part.alive 1 = true ∧ x = s.part.ses i ∧ s.part.boot.noTake = false ∧ x.granule (4 * x.takePtr) = some h ∧ x.st = .opened ∧ pkLen h % 16 = 0 ∧ 16 ≤ pkLen h ∧ pkLen h ≤ 16384 ∧ pkSeq h = x.seqExpect ∧ x.granules (4 * x.takePtr) (pkLen h / 16) = true ∧ x.queue.length < 64) ∧
    (∃ (s : State) (i : Nat) (x : Session) (h : Bytes), isSession i = true ∧ s.part.alive 1 = true ∧ x = s.part.ses i ∧ s.part.boot.noTake = false ∧ x.granule (4 * x.takePtr) = some h ∧ x.st ≠ .opened ∧ x.takePtr = 0 ∧ pkOp h = allowedOp x.st ∧ pkSeq h = 0 ∧ pkLen h % 16 = 0 ∧ 16 ≤ pkLen h ∧ pkLen h ≤ 1024 ∧ (x.granules 0 (pkLen h / 16) = false ∨ 64 ≤ x.queue.length)) ∧
    (∃ (s : State) (i : Nat) (x : Session) (h : Bytes), isSession i = true ∧ s.part.alive 1 = true ∧ x = s.part.ses i ∧ s.part.boot.noTake = false ∧ x.granule (4 * x.takePtr) = some h ∧ x.st ≠ .opened ∧ x.takePtr = 0 ∧ pkOp h = allowedOp x.st ∧ pkSeq h = 0 ∧ pkLen h % 16 = 0 ∧ 16 ≤ pkLen h ∧ pkLen h ≤ 1024 ∧ x.granules 0 (pkLen h / 16) = true ∧ x.queue.length < 64) ∧
    (∃ (s : State) (i : Nat) (x : Session) (h : Bytes), isSession i = true ∧ s.part.alive 1 = true ∧ x = s.part.ses i ∧ s.part.boot.noTake = false ∧ x.granule (4 * x.takePtr) = some h ∧ x.st ≠ .opened ∧ x.takePtr ≠ 0) ∧
    (∃ (s : State) (i : Nat) (x : Session), isSession i = true ∧ s.part.alive 1 = true ∧ x = s.part.ses i ∧ (x.cur ≠ none ∨ x.hold ≠ none ∨ x.queue = [])) ∧
    (∃ (s : State) (i : Nat) (x : Session) (k : Bytes) (st : SessState) (rest : List (Bytes × SessState)) (y : Session), isSession i = true ∧ s.part.alive 1 = true ∧ x = s.part.ses i ∧ x.cur = none ∧ x.hold = none ∧ x.queue = (k, st) :: rest ∧ y = { x with queue := rest, cur := some k, curIn := st, serial := x.serial + 1 } ∧ st ≠ .opened ∧ pkOp k = 0x02) ∧
    (∃ (s : State) (i : Nat) (x : Session) (k : Bytes) (st : SessState) (rest : List (Bytes × SessState)) (y : Session), isSession i = true ∧ s.part.alive 1 = true ∧ x = s.part.ses i ∧ x.cur = none ∧ x.hold = none ∧ x.queue = (k, st) :: rest ∧ y = { x with queue := rest, cur := some k, curIn := st, serial := x.serial + 1 } ∧ checkFail s.part.fabCfg.partId s.part.boot.stage x.feat0 x.feat2 x.ifMinor k = none) ∧
    (∃ (s : State) (i : Nat) (x : Session) (k : Bytes) (st : SessState) (rest : List (Bytes × SessState)) (y : Session) (e : Nat), isSession i = true ∧ s.part.alive 1 = true ∧ x = s.part.ses i ∧ x.cur = none ∧ x.hold = none ∧ x.queue = (k, st) :: rest ∧ y = { x with queue := rest, cur := some k, curIn := st, serial := x.serial + 1 } ∧ checkFail s.part.fabCfg.partId s.part.boot.stage x.feat0 x.feat2 x.ifMinor k = some e ∧ st = .opened ∧ pkOp k ≠ 0x0A ∧ pkOp k ≠ 0xF0 ∧ pkOp k ≠ 0x05) ∧
    (∃ (s : State) (i : Nat) (x : Session) (k : Bytes) (st : SessState) (rest : List (Bytes × SessState)) (y : Session) (e : Nat), isSession i = true ∧ s.part.alive 1 = true ∧ x = s.part.ses i ∧ x.cur = none ∧ x.hold = none ∧ x.queue = (k, st) :: rest ∧ y = { x with queue := rest, cur := some k, curIn := st, serial := x.serial + 1 } ∧ checkFail s.part.fabCfg.partId s.part.boot.stage x.feat0 x.feat2 x.ifMinor k = some e ∧ st = .opened ∧ (pkOp k = 0xF0 ∨ pkOp k = 0x05)) ∧
    (∃ (s : State) (i : Nat) (x : Session) (k : Bytes) (st : SessState) (rest : List (Bytes × SessState)) (y : Session) (e : Nat), isSession i = true ∧ s.part.alive 1 = true ∧ x = s.part.ses i ∧ x.cur = none ∧ x.hold = none ∧ x.queue = (k, st) :: rest ∧ y = { x with queue := rest, cur := some k, curIn := st, serial := x.serial + 1 } ∧ checkFail s.part.fabCfg.partId s.part.boot.stage x.feat0 x.feat2 x.ifMinor k = some e ∧ st = .opened ∧ pkOp k = 0x0A) ∧
    (∃ (s : State) (i : Nat) (x : Session) (k : Bytes) (st : SessState) (rest : List (Bytes × SessState)) (y : Session) (e : Nat), isSession i = true ∧ s.part.alive 1 = true ∧ x = s.part.ses i ∧ x.cur = none ∧ x.hold = none ∧ x.queue = (k, st) :: rest ∧ y = { x with queue := rest, cur := some k, curIn := st, serial := x.serial + 1 } ∧ checkFail s.part.fabCfg.partId s.part.boot.stage x.feat0 x.feat2 x.ifMinor k = some e ∧ st ≠ .opened ∧ pkOp k ≠ 0x02 ∧ pkOp k ≠ 0x0A ∧ pkOp k ≠ 0xF0 ∧ pkOp k ≠ 0x05) :=
  ⟨(let s : State := sSubmissionsAreTaken 0; let i : Nat := 3; let x : Session := s.part.ses i; ⟨s, i, x, 0x400000, by decide +kernel +zetaReduce⟩),
   (let s : State := sSubmissionsAreTaken 0; let i : Nat := 3; let x : Session := s.part.ses i; ⟨s, i, x, 5, z 16, by decide +kernel +zetaReduce⟩),
   (let s : State := sSubmissionsAreTaken 1; let i : Nat := 3; let x : Session := s.part.ses i; ⟨s, i, x, 64, z 16, by decide +kernel +zetaReduce⟩),
   (let s : State := sSubmissionsAreTaken 2; let i : Nat := 3; let x : Session := s.part.ses i; ⟨s, i, x, 64, z 16, by decide +kernel +zetaReduce⟩),
   (let s : State := sSubmissionsAreTaken 0; let i : Nat := 3; let x : Session := s.part.ses i; ⟨s, i, x, 8, [1, 2], by decide +kernel +zetaReduce⟩),
   (let s : State := sSubmissionsAreTaken 1; let i : Nat := 3; let x : Session := s.part.ses i; ⟨s, i, x, 65528, [1, 2], by decide +kernel +zetaReduce⟩),
   (let s : State := sSubmissionsAreTaken 0; let i : Nat := 3; let x : Session := s.part.ses i; ⟨s, i, x, by decide +kernel +zetaReduce⟩),
   (let s : State := sSubmissionsAreTaken 3; let i : Nat := 3; let x : Session := s.part.ses i; let h : Bytes := (x.granule (4 * x.takePtr)).get (by decide +kernel +zetaReduce); ⟨s, i, x, h, by decide +kernel +zetaReduce⟩),
   (let s : State := sSubmissionsAreTaken 4; let i : Nat := 3; let x : Session := s.part.ses i; let h : Bytes := (x.granule (4 * x.takePtr)).get (by decide +kernel +zetaReduce); ⟨s, i, x, h, by decide +kernel +zetaReduce⟩),
   (let s : State := sSubmissionsAreTaken 5; let i : Nat := 3; let x : Session := s.part.ses i; let h : Bytes := (x.granule (4 * x.takePtr)).get (by decide +kernel +zetaReduce); ⟨s, i, x, h, by decide +kernel +zetaReduce⟩),
   (let s : State := sSubmissionsAreTaken 6; let i : Nat := 3; let x : Session := s.part.ses i; let h : Bytes := (x.granule (4 * x.takePtr)).get (by decide +kernel +zetaReduce); ⟨s, i, x, h, by decide +kernel +zetaReduce⟩),
   (let s : State := sSubmissionsAreTaken 7; let i : Nat := 3; let x : Session := s.part.ses i; let h : Bytes := (x.granule (4 * x.takePtr)).get (by decide +kernel +zetaReduce); ⟨s, i, x, h, by decide +kernel +zetaReduce⟩),
   (let s : State := sSubmissionsAreTaken 8; let i : Nat := 3; let x : Session := s.part.ses i; let h : Bytes := (x.granule (4 * x.takePtr)).get (by decide +kernel +zetaReduce); ⟨s, i, x, h, by decide +kernel +zetaReduce⟩),
   (let s : State := sSubmissionsAreTaken 9; let i : Nat := 3; let x : Session := s.part.ses i; let h : Bytes := (x.granule (4 * x.takePtr)).get (by decide +kernel +zetaReduce); ⟨s, i, x, h, by decide +kernel +zetaReduce⟩),
   (let s : State := sSubmissionsAreTaken 0; let i : Nat := 3; let x : Session := s.part.ses i; ⟨s, i, x, by decide +kernel +zetaReduce⟩),
   (let s : State := sSubmissionsAreTaken 10; let i : Nat := 3; let x : Session := s.part.ses i; let k : Bytes := (match x.queue with | (a_, _) :: _ => ([a_] : List (Bytes)) | _ => []).headD []; let st : SessState := (match x.queue with | (_, a_) :: _ => ([a_] : List (SessState)) | _ => []).headD .closed; let rest : List (Bytes × SessState) := (match x.queue with | (_, _) :: a_ => ([a_] : List (List (Bytes × SessState))) | _ => []).headD []; let y : Session := { x with queue := rest, cur := some k, curIn := st, serial := x.serial + 1 }; ⟨s, i, x, k, st, rest, y, by decide +kernel +zetaReduce⟩),
   (let s : State := sSubmissionsAreTaken 11; let i : Nat := 3; let x : Session := s.part.ses i; let k : Bytes := (match x.queue with | (a_, _) :: _ => ([a_] : List (Bytes)) | _ => []).headD []; let st : SessState := (match x.queue with | (_, a_) :: _ => ([a_] : List (SessState)) | _ => []).headD .closed; let rest : List (Bytes × SessState) := (match x.queue with | (_, _) :: a_ => ([a_] : List (List (Bytes × SessState))) | _ => []).headD []; let y : Session := { x with queue := rest, cur := some k, curIn := st, serial := x.serial + 1 }; ⟨s, i, x, k, st, rest, y, by decide +kernel +zetaReduce⟩),
   (let s : State := sSubmissionsAreTaken 12; let i : Nat := 3; let x : Session := s.part.ses i; let k : Bytes := (match x.queue with | (a_, _) :: _ => ([a_] : List (Bytes)) | _ => []).headD []; let st : SessState := (match x.queue with | (_, a_) :: _ => ([a_] : List (SessState)) | _ => []).headD .closed; let rest : List (Bytes × SessState) := (match x.queue with | (_, _) :: a_ => ([a_] : List (List (Bytes × SessState))) | _ => []).headD []; let y : Session := { x with queue := rest, cur := some k, curIn := st, serial := x.serial + 1 }; let e : Nat := (checkFail s.part.fabCfg.partId s.part.boot.stage x.feat0 x.feat2 x.ifMinor k).get (by decide +kernel +zetaReduce); ⟨s, i, x, k, st, rest, y, e, by decide +kernel +zetaReduce⟩),
   (let s : State := sSubmissionsAreTaken 13; let i : Nat := 3; let x : Session := s.part.ses i; let k : Bytes := (match x.queue with | (a_, _) :: _ => ([a_] : List (Bytes)) | _ => []).headD []; let st : SessState := (match x.queue with | (_, a_) :: _ => ([a_] : List (SessState)) | _ => []).headD .closed; let rest : List (Bytes × SessState) := (match x.queue with | (_, _) :: a_ => ([a_] : List (List (Bytes × SessState))) | _ => []).headD []; let y : Session := { x with queue := rest, cur := some k, curIn := st, serial := x.serial + 1 }; let e : Nat := (checkFail s.part.fabCfg.partId s.part.boot.stage x.feat0 x.feat2 x.ifMinor k).get (by decide +kernel +zetaReduce); ⟨s, i, x, k, st, rest, y, e, by decide +kernel +zetaReduce⟩),
   (let s : State := sSubmissionsAreTaken 14; let i : Nat := 3; let x : Session := s.part.ses i; let k : Bytes := (match x.queue with | (a_, _) :: _ => ([a_] : List (Bytes)) | _ => []).headD []; let st : SessState := (match x.queue with | (_, a_) :: _ => ([a_] : List (SessState)) | _ => []).headD .closed; let rest : List (Bytes × SessState) := (match x.queue with | (_, _) :: a_ => ([a_] : List (List (Bytes × SessState))) | _ => []).headD []; let y : Session := { x with queue := rest, cur := some k, curIn := st, serial := x.serial + 1 }; let e : Nat := (checkFail s.part.fabCfg.partId s.part.boot.stage x.feat0 x.feat2 x.ifMinor k).get (by decide +kernel +zetaReduce); ⟨s, i, x, k, st, rest, y, e, by decide +kernel +zetaReduce⟩),
   (let s : State := sSubmissionsAreTaken 15; let i : Nat := 3; let x : Session := s.part.ses i; let k : Bytes := (match x.queue with | (a_, _) :: _ => ([a_] : List (Bytes)) | _ => []).headD []; let st : SessState := (match x.queue with | (_, a_) :: _ => ([a_] : List (SessState)) | _ => []).headD .closed; let rest : List (Bytes × SessState) := (match x.queue with | (_, _) :: a_ => ([a_] : List (List (Bytes × SessState))) | _ => []).headD []; let y : Session := { x with queue := rest, cur := some k, curIn := st, serial := x.serial + 1 }; let e : Nat := (checkFail s.part.fabCfg.partId s.part.boot.stage x.feat0 x.feat2 x.ifMinor k).get (by decide +kernel +zetaReduce); ⟨s, i, x, k, st, rest, y, e, by decide +kernel +zetaReduce⟩)⟩

/-- States for `wit_SessionCommands`. -/
def sSessionCommands (n : Nat) : State :=
  ([run pOn pkNop,
    run pOn pkOpen,
    runF (fun s => { s with st := .closed, curIn := .closed }) pOn (pk 2 0 0 (z 64)),
    runF (fun s => { s with st := .closed, curIn := .closed }) { pOn with host := { pOn.host with bme := false } } (pk 2 0 0 (leBytes 2 2 ++ openPars.drop 2)),
    runF (fun s => { s with st := .closed, curIn := .closed }) pOn (pk 2 0 0 (leBytes 2 2 ++ openPars.drop 2)),
    runF (fun s => { s with st := .closed, curIn := .closed }) pOn pkOpen,
    runF (fun s => { s with running := [⟨1, 1, 1, 0, 0, 0⟩] }) pOn (pk 3 0 0 []),
    run pOn (pk 3 0 0 []),
    run pOn (pk 4 0 0 []),
    runF (fun s => { s with st := .faulted, curIn := .faulted }) pOn (pk 4 0 0 []),
    run pOn (pk 5 0 0 []),
    run pOn (pk 6 0 0 []),
    run pOn (pk 8 0 0 (leBytes 4 77 ++ z 12))] : List State).getD n State.reset

theorem wit_SessionCommands :
    (∃ (s : State) (i : Nat) (k : Bytes), Running s i 0x01 k) ∧
    (∃ (s : State) (i : Nat) (k : Bytes) (x : Session), Running s i 0x02 k ∧ x = s.part.ses i ∧ x.curIn = .opened) ∧
    (∃ (s : State) (i : Nat) (k : Bytes) (x : Session), Running s i 0x02 k ∧ x = s.part.ses i ∧ x.curIn ≠ .opened ∧ ringOk k = false) ∧
    (∃ (s : State) (i : Nat) (k : Bytes) (x : Session) (st : Nat), Running s i 0x02 k ∧ x = s.part.ses i ∧ x.curIn ≠ .opened ∧ ringOk k = true ∧ s.part.openFail x.ingress k = some st ∧ s.part.canReply i = false) ∧
    (∃ (s : State) (i : Nat) (k : Bytes) (x : Session) (st : Nat), Running s i 0x02 k ∧ x = s.part.ses i ∧ x.curIn ≠ .opened ∧ ringOk k = true ∧ s.part.openFail x.ingress k = some st ∧ s.part.canReply i = true) ∧
    (∃ (s : State) (i : Nat) (k : Bytes) (x : Session), Running s i 0x02 k ∧ x = s.part.ses i ∧ x.curIn ≠ .opened ∧ ringOk k = true ∧ s.part.openFail x.ingress k = none) ∧
    (∃ (s : State) (i : Nat) (k : Bytes), Running s i 0x03 k ∧ (s.part.sessionBusy i = true ∨ (s.part.ses i).running ≠ [])) ∧
    (∃ (s : State) (i : Nat) (k : Bytes), Running s i 0x03 k ∧ s.part.sessionBusy i = false ∧ (s.part.ses i).running = []) ∧
    (∃ (s : State) (i : Nat) (k : Bytes), Running s i 0x04 k ∧ (s.part.ses i).curIn = .opened) ∧
    (∃ (s : State) (i : Nat) (k : Bytes), Running s i 0x04 k ∧ (s.part.ses i).curIn ≠ .opened) ∧
    (∃ (s : State) (i : Nat) (k : Bytes), Running s i 0x05 k) ∧
    (∃ (s : State) (i : Nat) (k : Bytes), Running s i 0x06 k) ∧
    (∃ (s : State) (i : Nat) (k : Bytes), Running s i 0x08 k) :=
  ⟨(let s : State := sSessionCommands 0; let i : Nat := 3; let k : Bytes := ((s.part.ses i).cur).get (by decide +kernel +zetaReduce); ⟨s, i, k, by decide +kernel +zetaReduce⟩),
   (let s : State := sSessionCommands 1; let i : Nat := 3; let k : Bytes := ((s.part.ses i).cur).get (by decide +kernel +zetaReduce); let x : Session := s.part.ses i; ⟨s, i, k, x, by decide +kernel +zetaReduce⟩),
   (let s : State := sSessionCommands 2; let i : Nat := 3; let k : Bytes := ((s.part.ses i).cur).get (by decide +kernel +zetaReduce); let x : Session := s.part.ses i; ⟨s, i, k, x, by decide +kernel +zetaReduce⟩),
   (let s : State := sSessionCommands 3; let i : Nat := 3; let k : Bytes := ((s.part.ses i).cur).get (by decide +kernel +zetaReduce); let x : Session := s.part.ses i; let st : Nat := (s.part.openFail x.ingress k).get (by decide +kernel +zetaReduce); ⟨s, i, k, x, st, by decide +kernel +zetaReduce⟩),
   (let s : State := sSessionCommands 4; let i : Nat := 3; let k : Bytes := ((s.part.ses i).cur).get (by decide +kernel +zetaReduce); let x : Session := s.part.ses i; let st : Nat := (s.part.openFail x.ingress k).get (by decide +kernel +zetaReduce); ⟨s, i, k, x, st, by decide +kernel +zetaReduce⟩),
   (let s : State := sSessionCommands 5; let i : Nat := 3; let k : Bytes := ((s.part.ses i).cur).get (by decide +kernel +zetaReduce); let x : Session := s.part.ses i; ⟨s, i, k, x, by decide +kernel +zetaReduce⟩),
   (let s : State := sSessionCommands 6; let i : Nat := 3; let k : Bytes := ((s.part.ses i).cur).get (by decide +kernel +zetaReduce); ⟨s, i, k, by decide +kernel +zetaReduce⟩),
   (let s : State := sSessionCommands 7; let i : Nat := 3; let k : Bytes := ((s.part.ses i).cur).get (by decide +kernel +zetaReduce); ⟨s, i, k, by decide +kernel +zetaReduce⟩),
   (let s : State := sSessionCommands 8; let i : Nat := 3; let k : Bytes := ((s.part.ses i).cur).get (by decide +kernel +zetaReduce); ⟨s, i, k, by decide +kernel +zetaReduce⟩),
   (let s : State := sSessionCommands 9; let i : Nat := 3; let k : Bytes := ((s.part.ses i).cur).get (by decide +kernel +zetaReduce); ⟨s, i, k, by decide +kernel +zetaReduce⟩),
   (let s : State := sSessionCommands 10; let i : Nat := 3; let k : Bytes := ((s.part.ses i).cur).get (by decide +kernel +zetaReduce); ⟨s, i, k, by decide +kernel +zetaReduce⟩),
   (let s : State := sSessionCommands 11; let i : Nat := 3; let k : Bytes := ((s.part.ses i).cur).get (by decide +kernel +zetaReduce); ⟨s, i, k, by decide +kernel +zetaReduce⟩),
   (let s : State := sSessionCommands 12; let i : Nat := 3; let k : Bytes := ((s.part.ses i).cur).get (by decide +kernel +zetaReduce); ⟨s, i, k, by decide +kernel +zetaReduce⟩)⟩

/-- States for `wit_RepliesAreWritten`. -/
def sRepliesAreWritten (n : Nat) : State :=
  ([ses (fun s => { s with unreported := 3 }),
    ses (fun s => { s with waiting := [rp], replyHeld := 1 }),
    ses (fun s => { s with waiting := [rp], ingress := true, claimed := true }),
    ses (fun s => { s with waiting := [rp] }),
    ses (fun s => { s with waiting := [rpBig], replyPtr := 255, replyHeld := 2 }),
    ses (fun s => { s with waiting := [rpBig], replyPtr := 255 }),
    ses (fun s => { s with msixLast := some 5, msixDue := true })] : List State).getD n State.reset

theorem wit_RepliesAreWritten :
    (∃ (s : State) (i : Nat) (x : Session), isSession i = true ∧ s.part.alive 1 = true ∧ x = s.part.ses i ∧ x.waiting = []) ∧
    (∃ (s : State) (i : Nat) (x : Session) (r : Reply) (rest : List Reply), isSession i = true ∧ s.part.alive 1 = true ∧ x = s.part.ses i ∧ x.waiting = r :: rest ∧ (s.part.canReply i = false ∨ x.replyHeld < replyUnits r + 1)) ∧
    (∃ (s : State) (i : Nat) (x : Session) (r : Reply) (rest : List Reply), isSession i = true ∧ s.part.alive 1 = true ∧ x = s.part.ses i ∧ x.waiting = r :: rest ∧ s.part.canReply i = true ∧ x.ingress = true ∧ replyUnits r + 1 ≤ x.replyHeld ∧ x.granted = true ∧ x.closing = false) ∧
    (∃ (s : State) (i : Nat) (x : Session) (r : Reply) (rest : List Reply), isSession i = true ∧ s.part.alive 1 = true ∧ x = s.part.ses i ∧ x.waiting = r :: rest ∧ s.part.canReply i = true ∧ x.ingress = false ∧ x.replyPtr + replyUnits r ≤ x.ringUnits ∧ replyUnits r + 1 ≤ x.replyHeld ∧ x.granted = true ∧ x.closing = false) ∧
    (∃ (s : State) (i : Nat) (x : Session) (r : Reply) (rest : List Reply) (pad : Nat), isSession i = true ∧ s.part.alive 1 = true ∧ x = s.part.ses i ∧ x.waiting = r :: rest ∧ x.ingress = false ∧ pad = x.ringUnits - x.replyPtr ∧ x.ringUnits < x.replyPtr + replyUnits r ∧ x.replyHeld < pad + replyUnits r + 1) ∧
    (∃ (s : State) (i : Nat) (x : Session) (r : Reply) (rest : List Reply) (pad : Nat), isSession i = true ∧ s.part.alive 1 = true ∧ x = s.part.ses i ∧ x.waiting = r :: rest ∧ x.ingress = false ∧ pad = x.ringUnits - x.replyPtr ∧ x.ringUnits < x.replyPtr + replyUnits r ∧ s.part.canReply i = true ∧ pad + replyUnits r + 1 ≤ x.replyHeld ∧ 0 < pad ∧ replyUnits r < x.ringUnits ∧ x.granted = true ∧ x.closing = false) ∧
    (∃ (s : State) (i : Nat) (x : Session), isSession i = true ∧ s.part.alive 1 = true ∧ x = s.part.ses i ∧ (x.unreported = 0 ∨ x.replyHeld = 0 ∨ x.ringUnits = 0 ∨ s.part.canReply i = false ∨ (s.part.now < x.lastReply + 10000 ∧ x.unreported < 256))) ∧
    (∃ (s : State) (i : Nat) (x : Session), isSession i = true ∧ s.part.alive 1 = true ∧ x = s.part.ses i ∧ 0 < x.unreported ∧ 0 < x.replyHeld ∧ 0 < x.ringUnits ∧ s.part.canReply i = true ∧ (x.lastReply + 10000 ≤ s.part.now ∨ 256 ≤ x.unreported)) ∧
    (∃ (s : State) (i : Nat) (x : Session), isSession i = true ∧ s.part.alive 1 = true ∧ x = s.part.ses i ∧ (x.msixLast = none ∨ x.msixDue = false ∨ (∃ t, x.msixLast = some t ∧ s.part.now < t + 1000 * x.holdoff))) ∧
    (∃ (s : State) (i : Nat) (x : Session) (t : Nat), isSession i = true ∧ s.part.alive 1 = true ∧ x = s.part.ses i ∧ x.msixLast = some t ∧ x.msixDue = true ∧ t + 1000 * x.holdoff ≤ s.part.now) :=
  ⟨(let s : State := sRepliesAreWritten 0; let i : Nat := 3; let x : Session := s.part.ses i; ⟨s, i, x, by decide +kernel +zetaReduce⟩),
   (let s : State := sRepliesAreWritten 1; let i : Nat := 3; let x : Session := s.part.ses i; let r : Reply := (x.waiting).head (by decide +kernel +zetaReduce); let rest : List Reply := (x.waiting).tail; ⟨s, i, x, r, rest, by decide +kernel +zetaReduce⟩),
   (let s : State := sRepliesAreWritten 2; let i : Nat := 3; let x : Session := s.part.ses i; let r : Reply := (x.waiting).head (by decide +kernel +zetaReduce); let rest : List Reply := (x.waiting).tail; ⟨s, i, x, r, rest, by decide +kernel +zetaReduce⟩),
   (let s : State := sRepliesAreWritten 3; let i : Nat := 3; let x : Session := s.part.ses i; let r : Reply := (x.waiting).head (by decide +kernel +zetaReduce); let rest : List Reply := (x.waiting).tail; ⟨s, i, x, r, rest, by decide +kernel +zetaReduce⟩),
   (let s : State := sRepliesAreWritten 4; let i : Nat := 3; let x : Session := s.part.ses i; let r : Reply := (x.waiting).head (by decide +kernel +zetaReduce); let rest : List Reply := (x.waiting).tail; let pad : Nat := x.ringUnits - x.replyPtr; ⟨s, i, x, r, rest, pad, by decide +kernel +zetaReduce⟩),
   (let s : State := sRepliesAreWritten 5; let i : Nat := 3; let x : Session := s.part.ses i; let r : Reply := (x.waiting).head (by decide +kernel +zetaReduce); let rest : List Reply := (x.waiting).tail; let pad : Nat := x.ringUnits - x.replyPtr; ⟨s, i, x, r, rest, pad, by decide +kernel +zetaReduce⟩),
   (let s : State := sRepliesAreWritten 1; let i : Nat := 3; let x : Session := s.part.ses i; ⟨s, i, x, by decide +kernel +zetaReduce⟩),
   (let s : State := sRepliesAreWritten 0; let i : Nat := 3; let x : Session := s.part.ses i; ⟨s, i, x, by decide +kernel +zetaReduce⟩),
   (let s : State := sRepliesAreWritten 1; let i : Nat := 3; let x : Session := s.part.ses i; ⟨s, i, x, by decide +kernel +zetaReduce, by decide +kernel +zetaReduce, by decide +kernel +zetaReduce, by decide +kernel +zetaReduce⟩),
   (let s : State := sRepliesAreWritten 6; let i : Nat := 3; let x : Session := s.part.ses i; let t : Nat := (x.msixLast).get (by decide +kernel +zetaReduce); ⟨s, i, x, t, by decide +kernel +zetaReduce⟩)⟩

/-- States for `wit_RequestsAreAdmittedAndStopped`. -/
def sRequestsAreAdmittedAndStopped (n : Nat) : State :=
  ([run (rds ⟨2, 3, 0, 4096, 2⟩ (mdl id)) (pkAdm 78 5 4096),
    run (mdl id) (pkAdm 78 0 0),
    run (mdl id) (pkAdm 78 5 4096),
    run (mdl id) (pkAdmL 78 5),
    run (mdl id) pkAdmBad,
    run { mdl id with failedDie := some 5 } (pkAdm 78 5 0),
    run { mdl id with boot := { pOn.boot with noTake := true } } (pkAdm 78 5 0),
    run (mdl id) (pkAdm 78 6 0),
    run { mdl id with sec := pOn.sec } (pkAdm 78 5 0),
    run (mdl id) (pkAdm 78 5 0),
    run (srv (fun r => { r with st := .ending }) id) (pkI 0x41 77),
    st ((srv (fun r => { r with st := .admitting, stage := .asking }) id).regSet aPolCfg 0x100),
    st (srv (fun r => { r with st := .admitting, stage := .asking }) id),
    st (srv (fun r => { r with limitNs := some 5 }) id),
    run (srv (fun r => { r with cancels := [(3, 0)] }) id) (pkI 0x41 77),
    run (mdl id) (pkI 0x41 77),
    run { srv id id with kv := { (srv id id).kv with epochs := [(4, 6)] } } (pk 0x41 1 0 (leBytes 4 77 ++ z 12)),
    run (srv (fun r => { r with st := .admitting }) id) (pkI 0x41 77),
    run (srv id id) (pkI 0x41 77),
    st (atUnit 8 0x4002 mMark (meshUp (mdl id))),
    st (atUnit 8 0x4002 mMark (srv id id)),
    run pOn (pkI 0x42 77),
    run { srv id id with kv := { (srv id id).kv with epochs := [(4, 6)] } } (pk 0x42 1 0 (leBytes 4 77 ++ z 12)),
    run (srv id id) (pkI 0x42 77)] : List State).getD n State.reset

theorem wit_RequestsAreAdmittedAndStopped :
    (∃ (s : State) (i : Nat) (k : Bytes), Running s i 0x40 k ∧ (∃ r ∈ s.part.host.reads, (r.kind = 2 ∨ r.kind = 3) ∧ r.sess = i)) ∧
    (∃ (s : State) (i : Nat) (k : Bytes) (st : Nat), Running s i 0x40 k ∧ (∀ r ∈ s.part.host.reads, ¬((r.kind = 2 ∨ r.kind = 3) ∧ r.sess = i)) ∧ s.part.admitFieldFail i k = some st) ∧
    (∃ (s : State) (i : Nat) (k : Bytes), Running s i 0x40 k ∧ (∀ r ∈ s.part.host.reads, ¬((r.kind = 2 ∨ r.kind = 3) ∧ r.sess = i)) ∧ s.part.admitFieldFail i k = none ∧ par k 96 8 ≠ 0) ∧
    (∃ (s : State) (i : Nat) (k : Bytes), Running s i 0x40 k ∧ (∀ r ∈ s.part.host.reads, ¬((r.kind = 2 ∨ r.kind = 3) ∧ r.sess = i)) ∧ s.part.admitFieldFail i k = none ∧ par k 96 8 = 0 ∧ par k 104 8 ≠ 0 ∧ par k 46 2 ≠ 0) ∧
    (∃ (s : State) (i : Nat) (k : Bytes) (st : Nat), Running s i 0x40 k ∧ (∀ r ∈ s.part.host.reads, ¬((r.kind = 2 ∨ r.kind = 3) ∧ r.sess = i)) ∧ s.part.admitFieldFail i k = none ∧ par k 96 8 = 0 ∧ (par k 104 8 = 0 ∨ par k 46 2 = 0) ∧ s.part.admitListFail k = some st) ∧
    (∃ (s : State) (i : Nat) (k : Bytes), Running s i 0x40 k ∧ (∀ r ∈ s.part.host.reads, ¬((r.kind = 2 ∨ r.kind = 3) ∧ r.sess = i)) ∧ s.part.admitFieldFail i k = none ∧ par k 96 8 = 0 ∧ (par k 104 8 = 0 ∨ par k 46 2 = 0) ∧ s.part.admitListFail k = none ∧ s.part.faulted = true) ∧
    (∃ (s : State) (i : Nat) (k : Bytes), Running s i 0x40 k ∧ (∀ r ∈ s.part.host.reads, ¬((r.kind = 2 ∨ r.kind = 3) ∧ r.sess = i)) ∧ s.part.admitFieldFail i k = none ∧ par k 96 8 = 0 ∧ (par k 104 8 = 0 ∨ par k 46 2 = 0) ∧ s.part.admitListFail k = none ∧ s.part.faulted = false ∧ s.part.boot.noTake = true) ∧
    (∃ (s : State) (i : Nat) (k : Bytes), Running s i 0x40 k ∧ (∀ r ∈ s.part.host.reads, ¬((r.kind = 2 ∨ r.kind = 3) ∧ r.sess = i)) ∧ s.part.admitFieldFail i k = none ∧ par k 96 8 = 0 ∧ (par k 104 8 = 0 ∨ par k 46 2 = 0) ∧ s.part.admitListFail k = none ∧ s.part.faulted = false ∧ s.part.boot.noTake = false ∧ (s.part.binds (par k 4 4) (par k 8 2) = none ∨ (par k 12 4 ≠ 0 ∧ s.part.binds (par k 12 4) (par k 10 2) = none))) ∧
    (∃ (s : State) (i : Nat) (k : Bytes) (e : Nat), Running s i 0x40 k ∧ (∀ r ∈ s.part.host.reads, ¬((r.kind = 2 ∨ r.kind = 3) ∧ r.sess = i)) ∧ s.part.admitFieldFail i k = none ∧ par k 96 8 = 0 ∧ (par k 104 8 = 0 ∨ par k 46 2 = 0) ∧ s.part.admitListFail k = none ∧ s.part.faulted = false ∧ s.part.boot.noTake = false ∧ s.part.binds (par k 4 4) (par k 8 2) = some e ∧ par k 12 4 = 0 ∧ admitPrefix k = false ∧ (par k 43 1).testBit 1 = false ∧ (s.part.slotsLeft 1 = false ∨ s.part.freeSlot [] = none)) ∧
    (∃ (s : State) (i : Nat) (k : Bytes) (e : Nat) (sl : Nat), Running s i 0x40 k ∧ (∀ r ∈ s.part.host.reads, ¬((r.kind = 2 ∨ r.kind = 3) ∧ r.sess = i)) ∧ s.part.admitFieldFail i k = none ∧ par k 96 8 = 0 ∧ (par k 104 8 = 0 ∨ par k 46 2 = 0) ∧ s.part.admitListFail k = none ∧ s.part.faulted = false ∧ s.part.boot.noTake = false ∧ s.part.binds (par k 4 4) (par k 8 2) = some e ∧ par k 12 4 = 0 ∧ admitPrefix k = false ∧ (par k 43 1).testBit 1 = false ∧ s.part.ctl.loaded = false ∧ s.part.jrn.partner = none ∧ s.part.slotsLeft 1 = true ∧ s.part.freeSlot [] = some sl) ∧
    (∃ (s : State) (sl : Nat), isSlot sl = true ∧ s.part.alive 1 = true ∧ s.part.req sl = none) ∧
    (∃ (s : State) (sl : Nat) (r : Req), isSlot sl = true ∧ s.part.alive 1 = true ∧ s.part.req sl = some r ∧ (¬(r.st = .admitting ∧ r.stage = .asking ∧ r.askAt + s.part.askLimit < s.part.now))) ∧
    (∃ (s : State) (sl : Nat) (r : Req), isSlot sl = true ∧ s.part.alive 1 = true ∧ s.part.req sl = some r ∧ r.st = .admitting ∧ r.stage = .asking ∧ r.askAt + s.part.askLimit < s.part.now ∧ s.part.regFld aPolCfg 8 1 = 1) ∧
    (∃ (s : State) (sl : Nat) (r : Req), isSlot sl = true ∧ s.part.alive 1 = true ∧ s.part.req sl = some r ∧ r.st = .admitting ∧ r.stage = .asking ∧ r.askAt + s.part.askLimit < s.part.now ∧ s.part.regFld aPolCfg 8 1 = 0) ∧
    (∃ (s : State) (sl : Nat) (r : Req), isSlot sl = true ∧ s.part.alive 1 = true ∧ s.part.req sl = some r ∧ (r.limitNs = none ∨ r.st = .admitting ∨ r.st = .ending ∨ (∃ t, r.limitNs = some t ∧ s.part.now ≤ t))) ∧
    (∃ (s : State) (sl : Nat) (r : Req) (t : Nat), isSlot sl = true ∧ s.part.alive 1 = true ∧ s.part.req sl = some r ∧ r.limitNs = some t ∧ r.st ≠ .admitting ∧ r.st ≠ .ending ∧ t < s.part.now) ∧
    (∃ (s : State) (i : Nat) (k : Bytes), Running s i 0x41 k ∧ (∃ x ∈ s.part.serv.reqs, ∃ c ∈ x.2.cancels, c.1 = i)) ∧
    (∃ (s : State) (i : Nat) (k : Bytes), Running s i 0x41 k ∧ (∀ x ∈ s.part.serv.reqs, ∀ c ∈ x.2.cancels, c.1 ≠ i) ∧ s.part.reqOf (par k 0 4) = none) ∧
    (∃ (s : State) (i : Nat) (k : Bytes) (sl : Nat) (r : Req), Running s i 0x41 k ∧ (∀ x ∈ s.part.serv.reqs, ∀ c ∈ x.2.cancels, c.1 ≠ i) ∧ s.part.reqOf (par k 0 4) = some (sl, r) ∧ r.st = .ending) ∧
    (∃ (s : State) (i : Nat) (k : Bytes) (sl : Nat) (r : Req), Running s i 0x41 k ∧ (∀ x ∈ s.part.serv.reqs, ∀ c ∈ x.2.cancels, c.1 ≠ i) ∧ s.part.reqOf (par k 0 4) = some (sl, r) ∧ r.st ≠ .ending ∧ s.part.epochOk k sl = false) ∧
    (∃ (s : State) (i : Nat) (k : Bytes) (sl : Nat) (r : Req), Running s i 0x41 k ∧ (∀ x ∈ s.part.serv.reqs, ∀ c ∈ x.2.cancels, c.1 ≠ i) ∧ s.part.reqOf (par k 0 4) = some (sl, r) ∧ s.part.epochOk k sl = true ∧ r.st = .admitting) ∧
    (∃ (s : State) (i : Nat) (k : Bytes) (sl : Nat) (r : Req), Running s i 0x41 k ∧ (∀ x ∈ s.part.serv.reqs, ∀ c ∈ x.2.cancels, c.1 ≠ i) ∧ s.part.reqOf (par k 0 4) = some (sl, r) ∧ s.part.epochOk k sl = true ∧ r.st ≠ .ending ∧ r.st ≠ .admitting) ∧
    (∃ (r : Req), r.run = none) ∧
    (∃ (r : Req), r.run ≠ none ∧ r.cancelEnd = 0) ∧
    (∃ (r : Req), r.run ≠ none ∧ r.cancelEnd ≠ 0) ∧
    (∃ (s : State) (cxd : Nat), isCxd cxd = true ∧ s.part.alive (11 + cxd) = true ∧ s.part.headCmd (8 + cxd) 0x4002 0xC9 = none) ∧
    (∃ (s : State) (cxd : Nat) (m : DieMsg) (sl : Nat), isCxd cxd = true ∧ s.part.alive (11 + cxd) = true ∧ s.part.headCmd (8 + cxd) 0x4002 0xC9 = some m ∧ sl = fld m.payload 16 2 ∧ ((s.part.kvSlot sl).assigned = false ∨ (s.part.kvSlot sl).home ≠ cxd ∨ fld m.payload 18 2 ≠ s.part.slotEpoch cxd sl)) ∧
    (∃ (s : State) (cxd : Nat) (m : DieMsg) (sl : Nat), isCxd cxd = true ∧ s.part.alive (11 + cxd) = true ∧ s.part.headCmd (8 + cxd) 0x4002 0xC9 = some m ∧ sl = fld m.payload 16 2 ∧ (s.part.kvSlot sl).assigned = true ∧ (s.part.kvSlot sl).home = cxd ∧ fld m.payload 18 2 = s.part.slotEpoch cxd sl) ∧
    (∃ (s : State) (i : Nat) (k : Bytes), Running s i 0x42 k ∧ s.part.reqOf (par k 0 4) = none) ∧
    (∃ (s : State) (i : Nat) (k : Bytes) (sl : Nat) (r : Req), Running s i 0x42 k ∧ s.part.reqOf (par k 0 4) = some (sl, r) ∧ s.part.epochOk k sl = false) ∧
    (∃ (s : State) (i : Nat) (k : Bytes) (sl : Nat) (r : Req), Running s i 0x42 k ∧ s.part.reqOf (par k 0 4) = some (sl, r) ∧ s.part.epochOk k sl = true) :=
  ⟨(let s : State := sRequestsAreAdmittedAndStopped 0; let i : Nat := 3; let k : Bytes := ((s.part.ses i).cur).get (by decide +kernel +zetaReduce); ⟨s, i, k, by decide +kernel +zetaReduce, by decide +kernel +zetaReduce⟩),
   (let s : State := sRequestsAreAdmittedAndStopped 1; let i : Nat := 3; let k : Bytes := ((s.part.ses i).cur).get (by decide +kernel +zetaReduce); let st : Nat := (s.part.admitFieldFail i k).get (by decide +kernel +zetaReduce); ⟨s, i, k, st, by decide +kernel +zetaReduce⟩),
   (let s : State := sRequestsAreAdmittedAndStopped 2; let i : Nat := 3; let k : Bytes := ((s.part.ses i).cur).get (by decide +kernel +zetaReduce); ⟨s, i, k, by decide +kernel +zetaReduce⟩),
   (let s : State := sRequestsAreAdmittedAndStopped 3; let i : Nat := 3; let k : Bytes := ((s.part.ses i).cur).get (by decide +kernel +zetaReduce); ⟨s, i, k, by decide +kernel +zetaReduce⟩),
   (let s : State := sRequestsAreAdmittedAndStopped 4; let i : Nat := 3; let k : Bytes := ((s.part.ses i).cur).get (by decide +kernel +zetaReduce); let st : Nat := (s.part.admitListFail k).get (by decide +kernel +zetaReduce); ⟨s, i, k, st, by decide +kernel +zetaReduce⟩),
   (let s : State := sRequestsAreAdmittedAndStopped 5; let i : Nat := 3; let k : Bytes := ((s.part.ses i).cur).get (by decide +kernel +zetaReduce); ⟨s, i, k, by decide +kernel +zetaReduce⟩),
   (let s : State := sRequestsAreAdmittedAndStopped 6; let i : Nat := 3; let k : Bytes := ((s.part.ses i).cur).get (by decide +kernel +zetaReduce); ⟨s, i, k, by decide +kernel +zetaReduce⟩),
   (let s : State := sRequestsAreAdmittedAndStopped 7; let i : Nat := 3; let k : Bytes := ((s.part.ses i).cur).get (by decide +kernel +zetaReduce); ⟨s, i, k, by decide +kernel +zetaReduce⟩),
   (let s : State := sRequestsAreAdmittedAndStopped 8; let i : Nat := 3; let k : Bytes := ((s.part.ses i).cur).get (by decide +kernel +zetaReduce); let e : Nat := (s.part.binds (par k 4 4) (par k 8 2)).get (by decide +kernel +zetaReduce); ⟨s, i, k, e, by decide +kernel +zetaReduce⟩),
   (let s : State := sRequestsAreAdmittedAndStopped 9; let i : Nat := 3; let k : Bytes := ((s.part.ses i).cur).get (by decide +kernel +zetaReduce); let e : Nat := (s.part.binds (par k 4 4) (par k 8 2)).get (by decide +kernel +zetaReduce); let sl : Nat := (s.part.freeSlot []).get (by decide +kernel +zetaReduce); ⟨s, i, k, e, sl, by decide +kernel +zetaReduce⟩),
   ⟨sRequestsAreAdmittedAndStopped 1, 0, by decide +kernel⟩,
   (let s : State := sRequestsAreAdmittedAndStopped 10; let sl : Nat := 4; let r : Req := (s.part.req sl).get (by decide +kernel +zetaReduce); ⟨s, sl, r, by decide +kernel +zetaReduce⟩),
   (let s : State := sRequestsAreAdmittedAndStopped 11; let sl : Nat := 4; let r : Req := (s.part.req sl).get (by decide +kernel +zetaReduce); ⟨s, sl, r, by decide +kernel +zetaReduce⟩),
   (let s : State := sRequestsAreAdmittedAndStopped 12; let sl : Nat := 4; let r : Req := (s.part.req sl).get (by decide +kernel +zetaReduce); ⟨s, sl, r, by decide +kernel +zetaReduce⟩),
   (let s : State := sRequestsAreAdmittedAndStopped 12; let sl : Nat := 4; let r : Req := (s.part.req sl).get (by decide +kernel +zetaReduce); ⟨s, sl, r, by decide +kernel +zetaReduce, by decide +kernel +zetaReduce, by decide +kernel +zetaReduce, by decide +kernel +zetaReduce⟩),
   (let s : State := sRequestsAreAdmittedAndStopped 13; let sl : Nat := 4; let r : Req := (s.part.req sl).get (by decide +kernel +zetaReduce); let t : Nat := (r.limitNs).get (by decide +kernel +zetaReduce); ⟨s, sl, r, t, by decide +kernel +zetaReduce⟩),
   (let s : State := sRequestsAreAdmittedAndStopped 14; let i : Nat := 3; let k : Bytes := ((s.part.ses i).cur).get (by decide +kernel +zetaReduce); ⟨s, i, k, by decide +kernel +zetaReduce, by decide +kernel +zetaReduce⟩),
   (let s : State := sRequestsAreAdmittedAndStopped 15; let i : Nat := 3; let k : Bytes := ((s.part.ses i).cur).get (by decide +kernel +zetaReduce); ⟨s, i, k, by decide +kernel +zetaReduce⟩),
   (let s : State := sRequestsAreAdmittedAndStopped 10; let i : Nat := 3; let k : Bytes := ((s.part.ses i).cur).get (by decide +kernel +zetaReduce); let sl : Nat := ((s.part.reqOf (par k 0 4)).map Prod.fst).get (by decide +kernel +zetaReduce); let r : Req := ((s.part.reqOf (par k 0 4)).map Prod.snd).get (by decide +kernel +zetaReduce); ⟨s, i, k, sl, r, by decide +kernel +zetaReduce⟩),
   (let s : State := sRequestsAreAdmittedAndStopped 16; let i : Nat := 3; let k : Bytes := ((s.part.ses i).cur).get (by decide +kernel +zetaReduce); let sl : Nat := ((s.part.reqOf (par k 0 4)).map Prod.fst).get (by decide +kernel +zetaReduce); let r : Req := ((s.part.reqOf (par k 0 4)).map Prod.snd).get (by decide +kernel +zetaReduce); ⟨s, i, k, sl, r, by decide +kernel +zetaReduce⟩),
   (let s : State := sRequestsAreAdmittedAndStopped 17; let i : Nat := 3; let k : Bytes := ((s.part.ses i).cur).get (by decide +kernel +zetaReduce); let sl : Nat := ((s.part.reqOf (par k 0 4)).map Prod.fst).get (by decide +kernel +zetaReduce); let r : Req := ((s.part.reqOf (par k 0 4)).map Prod.snd).get (by decide +kernel +zetaReduce); ⟨s, i, k, sl, r, by decide +kernel +zetaReduce⟩),
   (let s : State := sRequestsAreAdmittedAndStopped 18; let i : Nat := 3; let k : Bytes := ((s.part.ses i).cur).get (by decide +kernel +zetaReduce); let sl : Nat := ((s.part.reqOf (par k 0 4)).map Prod.fst).get (by decide +kernel +zetaReduce); let r : Req := ((s.part.reqOf (par k 0 4)).map Prod.snd).get (by decide +kernel +zetaReduce); ⟨s, i, k, sl, r, by decide +kernel +zetaReduce⟩),
   ⟨req0, by decide +kernel⟩,
   ⟨{ req0 with run := some (runPl 0 true) }, by decide +kernel⟩,
   ⟨{ req0 with run := some (runPl 0 true), cancelEnd := 6 }, by decide +kernel⟩,
   ⟨sRequestsAreAdmittedAndStopped 1, 0, by decide +kernel⟩,
   (let s : State := sRequestsAreAdmittedAndStopped 19; let cxd : Nat := 0; let m : DieMsg := (s.part.headCmd (8 + cxd) 0x4002 0xC9).get (by decide +kernel +zetaReduce); let sl : Nat := fld m.payload 16 2; ⟨s, cxd, m, sl, by decide +kernel +zetaReduce⟩),
   (let s : State := sRequestsAreAdmittedAndStopped 20; let cxd : Nat := 0; let m : DieMsg := (s.part.headCmd (8 + cxd) 0x4002 0xC9).get (by decide +kernel +zetaReduce); let sl : Nat := fld m.payload 16 2; ⟨s, cxd, m, sl, by decide +kernel +zetaReduce⟩),
   (let s : State := sRequestsAreAdmittedAndStopped 21; let i : Nat := 3; let k : Bytes := ((s.part.ses i).cur).get (by decide +kernel +zetaReduce); ⟨s, i, k, by decide +kernel +zetaReduce⟩),
   (let s : State := sRequestsAreAdmittedAndStopped 22; let i : Nat := 3; let k : Bytes := ((s.part.ses i).cur).get (by decide +kernel +zetaReduce); let sl : Nat := ((s.part.reqOf (par k 0 4)).map Prod.fst).get (by decide +kernel +zetaReduce); let r : Req := ((s.part.reqOf (par k 0 4)).map Prod.snd).get (by decide +kernel +zetaReduce); ⟨s, i, k, sl, r, by decide +kernel +zetaReduce⟩),
   (let s : State := sRequestsAreAdmittedAndStopped 23; let i : Nat := 3; let k : Bytes := ((s.part.ses i).cur).get (by decide +kernel +zetaReduce); let sl : Nat := ((s.part.reqOf (par k 0 4)).map Prod.fst).get (by decide +kernel +zetaReduce); let r : Req := ((s.part.reqOf (par k 0 4)).map Prod.snd).get (by decide +kernel +zetaReduce); ⟨s, i, k, sl, r, by decide +kernel +zetaReduce⟩)⟩

/-- States for `wit_StepsAreIssuedAndCommitted`. -/
def sStepsAreIssuedAndCommitted (n : Nat) : State :=
  ([st pOn,
    st { srv id id with failedDie := some 3 },
    st (srv id id),
    st (srv id stepping),
    st { srv id stepping with serv := pOn.serv },
    st (srv (fun r => { dc r with st := .ending }) stepping),
    st { srv (fun r => { dc r with cancelEnd := 5 }) stepping with kv := { (srv (fun r => { dc r with cancelEnd := 5 }) stepping).kv with marks := [(4, 5)] } },
    st (srv pf stepping),
    st (srv dc stepping)] : List State).getD n State.reset

theorem wit_StepsAreIssuedAndCommitted :
    (∃ (s : State) (e : Nat) (p : Machine.Part), isVersion e = true ∧ s.part.alive 1 = true ∧ p = s.part.endNeedy e ∧ p.ver e = none) ∧
    (∃ (s : State) (e : Nat) (p : Machine.Part) (v : Version), isVersion e = true ∧ s.part.alive 1 = true ∧ p = s.part.endNeedy e ∧ p.ver e = some v ∧ (p.faulted = true ∨ p.boot.noTake = true ∨ p.spanStarted v = false)) ∧
    (∃ (s : State) (e : Nat) (items : List BatchItem) (p : Machine.Part) (v : Version) (c : Nat) (q : Machine.Part) (l : List Nat), isVersion e = true ∧ s.part.alive 1 = true ∧ p = s.part.endNeedy e ∧ p.ver e = some v ∧ p.faulted = false ∧ p.boot.noTake = false ∧ p.spanStarted v = true ∧ c = p.stepCohort e v items ∧ p.issueItems e (v.stepNo c) c items = (q, l) ∧ l = []) ∧
    (∃ (s : State) (e : Nat) (items : List BatchItem) (p : Machine.Part) (v : Version) (c : Nat) (q : Machine.Part) (l : List Nat) (w : Version), isVersion e = true ∧ s.part.alive 1 = true ∧ p = s.part.endNeedy e ∧ p.ver e = some v ∧ p.faulted = false ∧ p.boot.noTake = false ∧ p.spanStarted v = true ∧ c = p.stepCohort e v items ∧ p.issueItems e (v.stepNo c) c items = (q, l) ∧ l ≠ [] ∧ q.ver e = some w) ∧
    (∃ (s : State) (e : Nat) (p : Machine.Part), isVersion e = true ∧ s.part.alive 1 = true ∧ p = s.part.endNeedy e ∧ s.part.needsLost e = false) ∧
    (∃ (p : Machine.Part) (sl : Nat) (r : Req) (stop : Nat) (n : Nat), (p.issueMain sl r stop n).2 = true) ∧
    (∃ (s : State) (sl : Nat) (v : KvSlot), isSlot sl = true ∧ s.part.alive (11 + (s.part.kvSlot sl).home) = true ∧ v = s.part.kvSlot sl ∧ (v.inStep = false ∨ (v.chunk = true ∧ s.part.appendsIn sl = false ∧ s.part.stepLives sl = true))) ∧
    (∃ (s : State) (sl : Nat) (v : KvSlot) (r : Req), isSlot sl = true ∧ s.part.alive (11 + (s.part.kvSlot sl).home) = true ∧ v = s.part.kvSlot sl ∧ v.inStep = true ∧ (v.chunk = false ∨ s.part.appendsIn sl = true ∨ s.part.stepLives sl = false) ∧ s.part.req sl = some r ∧ r.run = none) ∧
    (∃ (s : State) (sl : Nat) (v : KvSlot), isSlot sl = true ∧ s.part.alive (11 + (s.part.kvSlot sl).home) = true ∧ v = s.part.kvSlot sl ∧ v.inStep = true ∧ (v.chunk = false ∨ s.part.appendsIn sl = true ∨ s.part.stepLives sl = false) ∧ s.part.req sl = none ∧ (∀ x ∈ s.part.serv.reqs, x.2.companion ≠ some sl)) ∧
    (∃ (s : State) (sl : Nat) (v : KvSlot) (r : Req) (g : StepRun), isSlot sl = true ∧ s.part.alive (11 + (s.part.kvSlot sl).home) = true ∧ v = s.part.kvSlot sl ∧ v.inStep = true ∧ (v.chunk = false ∨ s.part.appendsIn sl = true ∨ s.part.stepLives sl = false) ∧ s.part.req sl = some r ∧ r.run = some g ∧ r.st = .ending) ∧
    (∃ (s : State) (sl : Nat) (v : KvSlot) (r : Req) (g : StepRun), isSlot sl = true ∧ s.part.alive (11 + (s.part.kvSlot sl).home) = true ∧ v = s.part.kvSlot sl ∧ v.inStep = true ∧ (v.chunk = false ∨ s.part.appendsIn sl = true ∨ s.part.stepLives sl = false) ∧ s.part.req sl = some r ∧ r.run = some g ∧ r.st ≠ .ending ∧ r.cancelEnd ≠ 0 ∧ s.part.markedBefore sl = true) ∧
    (∃ (s : State) (sl : Nat) (v : KvSlot) (r : Req) (g : StepRun), isSlot sl = true ∧ s.part.alive (11 + (s.part.kvSlot sl).home) = true ∧ v = s.part.kvSlot sl ∧ v.inStep = true ∧ (v.chunk = false ∨ s.part.appendsIn sl = true ∨ s.part.stepLives sl = false) ∧ s.part.req sl = some r ∧ r.run = some g ∧ r.st ≠ .ending ∧ r.cancelEnd = 0 ∧ g.samples = false ∧ s.part.gramLost r = false) ∧
    (∃ (s : State) (sl : Nat) (main : List (List Nat)) (draft : List (List Nat)) (v : KvSlot) (r : Req) (g : StepRun), isSlot sl = true ∧ s.part.alive (11 + (s.part.kvSlot sl).home) = true ∧ v = s.part.kvSlot sl ∧ v.inStep = true ∧ (v.chunk = false ∨ s.part.appendsIn sl = true ∨ s.part.stepLives sl = false) ∧ s.part.req sl = some r ∧ r.run = some g ∧ r.st ≠ .ending ∧ (r.cancelEnd = 0 ∨ s.part.markedBefore sl = false) ∧ g.samples = true ∧ (main.length ≠ g.drafts + 1 ∨ draft.length ≠ g.drafts)) ∧
    (∃ (s : State) (sl : Nat) (main : List (List Nat)) (draft : List (List Nat)) (v : KvSlot) (r : Req) (g : StepRun), isSlot sl = true ∧ s.part.alive (11 + (s.part.kvSlot sl).home) = true ∧ v = s.part.kvSlot sl ∧ v.inStep = true ∧ (v.chunk = false ∨ s.part.appendsIn sl = true ∨ s.part.stepLives sl = false) ∧ s.part.req sl = some r ∧ r.run = some g ∧ r.st ≠ .ending ∧ (r.cancelEnd = 0 ∨ s.part.markedBefore sl = false) ∧ g.samples = true ∧ main.length = g.drafts + 1 ∧ draft.length = g.drafts ∧ r.finalDone = false) :=
  ⟨(let s : State := sStepsAreIssuedAndCommitted 0; let e : Nat := 0; let p : Machine.Part := s.part.endNeedy e; ⟨s, e, p, by decide +kernel +zetaReduce⟩),
   (let s : State := sStepsAreIssuedAndCommitted 1; let e : Nat := 0; let p : Machine.Part := s.part.endNeedy e; let v : Version := (p.ver e).get (by decide +kernel +zetaReduce); ⟨s, e, p, v, by decide +kernel +zetaReduce⟩),
   (let s : State := sStepsAreIssuedAndCommitted 2; let e : Nat := 0; let items : List BatchItem := []; let p : Machine.Part := s.part.endNeedy e; let v : Version := (p.ver e).get (by decide +kernel +zetaReduce); let c : Nat := p.stepCohort e v items; let q : Machine.Part := (p.issueItems e (v.stepNo c) c items).1; let l : List Nat := (p.issueItems e (v.stepNo c) c items).2; ⟨s, e, items, p, v, c, q, l, by decide +kernel +zetaReduce⟩),
   (let s : State := sStepsAreIssuedAndCommitted 2; let e : Nat := 0; let items : List BatchItem := itm; let p : Machine.Part := s.part.endNeedy e; let v : Version := (p.ver e).get (by decide +kernel +zetaReduce); let c : Nat := p.stepCohort e v items; let q : Machine.Part := (p.issueItems e (v.stepNo c) c items).1; let l : List Nat := (p.issueItems e (v.stepNo c) c items).2; let w : Version := (q.ver e).get (by decide +kernel +zetaReduce); ⟨s, e, items, p, v, c, q, l, w, by decide +kernel +zetaReduce⟩),
   (let s : State := sStepsAreIssuedAndCommitted 1; let e : Nat := 0; let p : Machine.Part := s.part.endNeedy e; ⟨s, e, p, by decide +kernel +zetaReduce⟩),
   ⟨srv id id, 4, req0, 2, 7, by decide +kernel⟩,
   (let s : State := sStepsAreIssuedAndCommitted 1; let sl : Nat := 4; let v : KvSlot := s.part.kvSlot sl; ⟨s, sl, v, by decide +kernel +zetaReduce⟩),
   (let s : State := sStepsAreIssuedAndCommitted 3; let sl : Nat := 4; let v : KvSlot := s.part.kvSlot sl; let r : Req := (s.part.req sl).get (by decide +kernel +zetaReduce); ⟨s, sl, v, r, by decide +kernel +zetaReduce⟩),
   (let s : State := sStepsAreIssuedAndCommitted 4; let sl : Nat := 4; let v : KvSlot := s.part.kvSlot sl; ⟨s, sl, v, by decide +kernel +zetaReduce⟩),
   (let s : State := sStepsAreIssuedAndCommitted 5; let sl : Nat := 4; let v : KvSlot := s.part.kvSlot sl; let r : Req := (s.part.req sl).get (by decide +kernel +zetaReduce); let g : StepRun := (r.run).get (by decide +kernel +zetaReduce); ⟨s, sl, v, r, g, by decide +kernel +zetaReduce⟩),
   (let s : State := sStepsAreIssuedAndCommitted 6; let sl : Nat := 4; let v : KvSlot := s.part.kvSlot sl; let r : Req := (s.part.req sl).get (by decide +kernel +zetaReduce); let g : StepRun := (r.run).get (by decide +kernel +zetaReduce); ⟨s, sl, v, r, g, by decide +kernel +zetaReduce⟩),
   (let s : State := sStepsAreIssuedAndCommitted 7; let sl : Nat := 4; let v : KvSlot := s.part.kvSlot sl; let r : Req := (s.part.req sl).get (by decide +kernel +zetaReduce); let g : StepRun := (r.run).get (by decide +kernel +zetaReduce); ⟨s, sl, v, r, g, by decide +kernel +zetaReduce⟩),
   (let s : State := sStepsAreIssuedAndCommitted 8; let sl : Nat := 4; let v : KvSlot := s.part.kvSlot sl; let r : Req := (s.part.req sl).get (by decide +kernel +zetaReduce); let g : StepRun := (r.run).get (by decide +kernel +zetaReduce); ⟨s, sl, [], [], v, r, g, by decide +kernel +zetaReduce⟩),
   (let s : State := sStepsAreIssuedAndCommitted 8; let sl : Nat := 4; let v : KvSlot := s.part.kvSlot sl; let r : Req := (s.part.req sl).get (by decide +kernel +zetaReduce); let g : StepRun := (r.run).get (by decide +kernel +zetaReduce); ⟨s, sl, [[0, 0x3F800000, 0]], [], v, r, g, by decide +kernel +zetaReduce⟩)⟩

/-- States for `wit_JournalsAndPartners`. -/
def sJournalsAndPartners (n : Nat) : State :=
  ([st { pOn with failedDie := some 3 },
    sMsg .partnerAsk (fun j => { j with sources := [⟨7, true, [], [], 0⟩, ⟨6, true, [], [], 0⟩] }),
    sMsg (.journal (z 8 ++ [9, 0, 0, 0])) id,
    sMsg (.journal rec16) id,
    sMsg (.journal rec16) (fun j => { j with sources := [src5 true] }),
    sMsg (.journal ([2, 0, 0, 0] ++ leBytes 4 77 ++ leBytes 4 0 ++ z 4)) (fun j => { j with sources := [src5 false] }),
    sMsg (.journal rec16) (fun j => { j with sources := [src5 false] }),
    sMsg (.journalAck 3 77) id,
    sMsg (.journalAck 3 77) (fun j => { j with partner := some 5 }),
    sMsg (.partnerAnswer true) id,
    sMsg (.partnerAnswer true) (fun j => { j with set := some (jset 4) }),
    sMsg (.journalRefuse 3 77) id,
    sMsg (.journalRefuse 3 77) (fun j => { j with partner := some 5 }),
    sRef .admitting .journaling,
    sRef .decode .done,
    sMsg .journalSealed id,
    sMsg .journalSealed prt5,
    sMsg (.partnerAnswer false) id,
    sMsg (.partnerAnswer false) (fun j => { j with set := some (jset 4) }),
    run pOn (pkJ 4 0 0),
    run (jrn fun j => { j with set := some (jset 4) }) (pkJ 0 5 0),
    run (jrn fun j => { j with set := some (jset 3) }) (pkJ 0 5 0),
    run pOn (pkJ 0 0 0),
    run pOn (pkJ 0 5 0),
    st (jrn fun j => { j with set := some { jset 3 with answered := true } }),
    run (jrn fun j => { j with partner := some 5 }) (pkJ 4 0 0),
    run pOn (pkJ 1 5 0),
    run (jsrcs true) (pkJ 1 5 0),
    run (jsrcs false) (pkJ 1 5 0),
    run (jsrcs false) (pkJ 2 5 1),
    run (jsrcs true) (pkJ 2 5 1),
    run (jsrcs false) (pkJ 3 5 0),
    run (jsrcs true) (pkJ 3 5 0)] : List State).getD n State.reset

theorem wit_JournalsAndPartners :
    (∃ (s : State), s.part.alive 1 = true ∧ s.part.faulted = true) ∧
    (∃ (s : State), s.part.alive 1 = true ∧ (∀ x ∈ s.part.fab.inbox, partnerMsg x = false)) ∧
    (∃ (s : State), s.part.alive 1 = true ∧ (∀ x ∈ s.part.fab.inbox, ackMsg x = false)) ∧
    (∃ (s : State), s.part.alive 1 = true ∧ (∀ x ∈ s.part.fab.inbox, refuseMsg x = false)) ∧
    (∃ (s : State) (src : Nat) (p : Machine.Part), s.part.alive 1 = true ∧ s.part.faulted = false ∧ s.part.takeMsg partnerMsg = some ((src, .partnerAsk), p) ∧ p.jsrc src = none ∧ 2 ≤ p.jrn.sources.length) ∧
    (∃ (s : State) (src : Nat) (b : Bytes) (p : Machine.Part) (buf : List Byte), s.part.alive 1 = true ∧ s.part.faulted = false ∧ s.part.takeMsg partnerMsg = some ((src, .journal b), p) ∧ buf = mget [] s.part.jrn.partial_ src ++ b ∧ buf.length < 16 + fld buf 8 4) ∧
    (∃ (s : State) (src : Nat) (b : Bytes) (p : Machine.Part) (buf : List Byte), s.part.alive 1 = true ∧ s.part.faulted = false ∧ s.part.takeMsg partnerMsg = some ((src, .journal b), p) ∧ buf = mget [] s.part.jrn.partial_ src ++ b ∧ 16 + fld buf 8 4 ≤ buf.length ∧ p.jsrc src = none) ∧
    (∃ (s : State) (src : Nat) (b : Bytes) (p : Machine.Part) (buf : List Byte) (v : JSrc), s.part.alive 1 = true ∧ s.part.faulted = false ∧ s.part.takeMsg partnerMsg = some ((src, .journal b), p) ∧ buf = mget [] s.part.jrn.partial_ src ++ b ∧ 16 + fld buf 8 4 ≤ buf.length ∧ p.jsrc src = some v ∧ v.isSealed = true) ∧
    (∃ (s : State) (src : Nat) (b : Bytes) (p : Machine.Part) (buf : List Byte) (v : JSrc), s.part.alive 1 = true ∧ s.part.faulted = false ∧ s.part.takeMsg partnerMsg = some ((src, .journal b), p) ∧ buf = mget [] s.part.jrn.partial_ src ++ b ∧ 16 + fld buf 8 4 ≤ buf.length ∧ p.jsrc src = some v ∧ v.isSealed = false ∧ v.after (fld buf 0 1) (fld buf 4 4) (buf.drop 16) = none) ∧
    (∃ (s : State) (src : Nat) (b : Bytes) (p : Machine.Part) (buf : List Byte) (v : JSrc) (rs : List JReq), s.part.alive 1 = true ∧ s.part.faulted = false ∧ s.part.takeMsg partnerMsg = some ((src, .journal b), p) ∧ buf = mget [] s.part.jrn.partial_ src ++ b ∧ 16 + fld buf 8 4 ≤ buf.length ∧ p.jsrc src = some v ∧ v.isSealed = false ∧ v.after (fld buf 0 1) (fld buf 4 4) (buf.drop 16) = some rs ∧ { v with reqs := rs }.need ≤ v.stripes.length ∧ v.stripes.length ≤ 64) ∧
    (∃ (s : State) (src : Nat) (kind : Nat) (id : Nat) (p : Machine.Part), s.part.alive 1 = true ∧ s.part.faulted = false ∧ s.part.takeMsg ackMsg = some ((src, .journalAck kind id), p) ∧ p.isPartner src = false) ∧
    (∃ (s : State) (src : Nat) (kind : Nat) (id : Nat) (p : Machine.Part), s.part.alive 1 = true ∧ s.part.faulted = false ∧ s.part.takeMsg ackMsg = some ((src, .journalAck kind id), p) ∧ p.isPartner src = true ∧ kind ≠ 1 ∧ kind ≠ 2 ∧ p.jrn.pending = []) ∧
    (∃ (s : State) (src : Nat) (ok : Bool) (p : Machine.Part), s.part.alive 1 = true ∧ s.part.faulted = false ∧ s.part.takeMsg ackMsg = some ((src, .partnerAnswer ok), p) ∧ (∀ x, p.jrn.set = some x → x.part ≠ src ∨ x.answered = true)) ∧
    (∃ (s : State) (src : Nat) (ok : Bool) (p : Machine.Part) (x : JSet), s.part.alive 1 = true ∧ s.part.faulted = false ∧ s.part.takeMsg ackMsg = some ((src, .partnerAnswer ok), p) ∧ p.jrn.set = some x ∧ x.part = src ∧ x.answered = false ∧ p.serv.reqs = []) ∧
    (∃ (s : State) (src : Nat) (kind : Nat) (id : Nat) (p : Machine.Part), s.part.alive 1 = true ∧ s.part.faulted = false ∧ s.part.takeMsg refuseMsg = some ((src, .journalRefuse kind id), p) ∧ p.isPartner src = false) ∧
    (∃ (s : State) (src : Nat) (kind : Nat) (id : Nat) (p : Machine.Part), s.part.alive 1 = true ∧ s.part.faulted = false ∧ s.part.takeMsg refuseMsg = some ((src, .journalRefuse kind id), p) ∧ p.isPartner src = true ∧ p.reqOf id = none) ∧
    (∃ (s : State) (src : Nat) (kind : Nat) (id : Nat) (p : Machine.Part) (sl : Nat) (r : Req), s.part.alive 1 = true ∧ s.part.faulted = false ∧ s.part.takeMsg refuseMsg = some ((src, .journalRefuse kind id), p) ∧ p.isPartner src = true ∧ p.reqOf id = some (sl, r) ∧ kind = 1 ∧ r.st = .admitting ∧ r.stage = .journaling) ∧
    (∃ (s : State) (src : Nat) (kind : Nat) (id : Nat) (p : Machine.Part) (sl : Nat) (r : Req), s.part.alive 1 = true ∧ s.part.faulted = false ∧ s.part.takeMsg refuseMsg = some ((src, .journalRefuse kind id), p) ∧ p.isPartner src = true ∧ p.reqOf id = some (sl, r) ∧ (kind ≠ 1 ∨ r.st ≠ .admitting ∨ r.stage ≠ .journaling)) ∧
    (∃ (s : State) (src : Nat) (p : Machine.Part), s.part.alive 1 = true ∧ s.part.faulted = false ∧ s.part.takeMsg refuseMsg = some ((src, .journalSealed), p) ∧ p.isPartner src = false) ∧
    (∃ (s : State) (src : Nat) (p : Machine.Part), s.part.alive 1 = true ∧ s.part.faulted = false ∧ s.part.takeMsg refuseMsg = some ((src, .journalSealed), p) ∧ p.isPartner src = true) ∧
    (∃ (s : State) (src : Nat) (ok : Bool) (p : Machine.Part), s.part.alive 1 = true ∧ s.part.faulted = false ∧ s.part.takeMsg refuseMsg = some ((src, .partnerAnswer ok), p) ∧ (∀ x, p.jrn.set = some x → x.part ≠ src ∨ x.answered = true)) ∧
    (∃ (s : State) (src : Nat) (ok : Bool) (p : Machine.Part) (x : JSet), s.part.alive 1 = true ∧ s.part.faulted = false ∧ s.part.takeMsg refuseMsg = some ((src, .partnerAnswer ok), p) ∧ p.jrn.set = some x ∧ x.part = src ∧ x.answered = false) ∧
    (∃ (s : State) (d : Nat), s.part.alive 1 = true ∧ s.part.faulted = false ∧ s.part.jrn.partner = some d ∧ s.part.jrn.lost = false ∧ s.part.jrn.set = none ∧ s.part.serv.reqs = []) ∧
    (∃ (s : State) (i : Nat) (k : Bytes), Running s i 0x09 k ∧ par k 0 1 ≠ 0) ∧
    (∃ (s : State) (i : Nat) (k : Bytes), Running s i 0x09 k ∧ par k 0 1 ≠ 1) ∧
    (∃ (s : State) (i : Nat) (k : Bytes), Running s i 0x09 k ∧ par k 0 1 ≠ 2) ∧
    (∃ (s : State) (i : Nat) (k : Bytes), Running s i 0x09 k ∧ par k 0 1 ≠ 3) ∧
    (∃ (s : State) (i : Nat) (k : Bytes), Running s i 0x09 k ∧ par k 0 1 ≠ 4) ∧
    (∃ (s : State) (i : Nat) (k : Bytes) (x : JSet), Running s i 0x09 k ∧ par k 0 1 = 0 ∧ s.part.jrn.set = some x ∧ x.sess ≠ i) ∧
    (∃ (s : State) (i : Nat) (k : Bytes) (x : JSet), Running s i 0x09 k ∧ par k 0 1 = 0 ∧ s.part.jrn.set = some x ∧ x.sess = i) ∧
    (∃ (s : State) (i : Nat) (k : Bytes), Running s i 0x09 k ∧ par k 0 1 = 0 ∧ s.part.jrn.set = none ∧ par k 2 2 = s.part.fabCfg.partId) ∧
    (∃ (s : State) (i : Nat) (k : Bytes), Running s i 0x09 k ∧ par k 0 1 = 0 ∧ s.part.jrn.set = none ∧ par k 2 2 ≠ s.part.fabCfg.partId) ∧
    (∃ (s : State), s.part.alive 1 = true ∧ s.part.jrn.set = none) ∧
    (∃ (s : State) (x : JSet), s.part.alive 1 = true ∧ s.part.jrn.set = some x ∧ (x.answered = true ∨ s.part.now ≤ x.since + 100000000)) ∧
    (∃ (s : State) (x : JSet), s.part.alive 1 = true ∧ s.part.jrn.set = some x ∧ x.answered = false ∧ x.since + 100000000 < s.part.now) ∧
    (∃ (s : State) (i : Nat) (k : Bytes), Running s i 0x09 k ∧ par k 0 1 = 4 ∧ s.part.jrn.partner = none) ∧
    (∃ (s : State) (i : Nat) (k : Bytes) (d : Nat), Running s i 0x09 k ∧ par k 0 1 = 4 ∧ s.part.jrn.partner = some d ∧ s.part.serv.reqs = []) ∧
    (∃ (s : State) (i : Nat) (k : Bytes) (p : Machine.Part), Running s i 0x09 k ∧ par k 0 1 = 1 ∧ p = (if s.part.faulted = true then s.part else s.part.takeArrived (par k 2 2) s.part.fab.inbox.length) ∧ (∀ b, (par k 2 2, FabMsg.journal b) ∉ s.part.fab.inbox)) ∧
    (∃ (s : State) (i : Nat) (k : Bytes) (p : Machine.Part), Running s i 0x09 k ∧ par k 0 1 = 1 ∧ p = (if s.part.faulted = true then s.part else s.part.takeArrived (par k 2 2) s.part.fab.inbox.length) ∧ p.jsrc (par k 2 2) = none) ∧
    (∃ (s : State) (i : Nat) (k : Bytes) (p : Machine.Part) (v : JSrc), Running s i 0x09 k ∧ par k 0 1 = 1 ∧ p = (if s.part.faulted = true then s.part else s.part.takeArrived (par k 2 2) s.part.fab.inbox.length) ∧ p.jsrc (par k 2 2) = some v ∧ v.isSealed = true) ∧
    (∃ (s : State) (i : Nat) (k : Bytes) (p : Machine.Part) (v : JSrc), Running s i 0x09 k ∧ par k 0 1 = 1 ∧ p = (if s.part.faulted = true then s.part else s.part.takeArrived (par k 2 2) s.part.fab.inbox.length) ∧ p.jsrc (par k 2 2) = some v ∧ v.isSealed = false) ∧
    (∃ (s : State) (i : Nat) (k : Bytes), Running s i 0x09 k ∧ par k 0 1 = 2 ∧ (∀ v, s.part.jsrc (par k 2 2) = some v → v.isSealed = false)) ∧
    (∃ (s : State) (i : Nat) (k : Bytes) (v : JSrc) (q : Machine.Part) (n : List Nat), Running s i 0x09 k ∧ par k 0 1 = 2 ∧ s.part.jsrc (par k 2 2) = some v ∧ v.isSealed = true ∧ s.part.adoptAll i k (par k 2 2) (List.range (par k 4 2)) [0, 0, 0, 0] = (q, n) ∧ v.reqs = [] ∧ par k 4 2 = 1) ∧
    (∃ (p : Machine.Part) (part : Nat) (id : Nat) (next : Nat) (v : JSrc) (j : JReq), p.jsrc part = some v ∧ (v.reqs.find? (fun r => r.id == id) = some j) ∧ (j.lost = true ∨ j.tokens.length < next)) ∧
    (∃ (p : Machine.Part) (part : Nat) (id : Nat) (next : Nat) (v : JSrc) (j : JReq), p.jsrc part = some v ∧ (v.reqs.find? (fun r => r.id == id) = some j) ∧ j.lost = false ∧ next ≤ j.tokens.length ∧ (p.reqOf id).isSome = true) ∧
    (∃ (p : Machine.Part) (q : Machine.Part) (i : Nat) (part : Nat) (id : Nat) (next : Nat) (k : Bytes) (v : JSrc) (j : JReq) (b : Nat × Option Nat × Option Nat), p.jsrc part = some v ∧ (v.reqs.find? (fun r => r.id == id) = some j) ∧ j.lost = false ∧ next ≤ j.tokens.length ∧ p.adoptEntry i k part id next = (q, 0) ∧ j.end_ = 0 ∧ p.adoptBind j.admission = some b ∧ fld j.admission 32 4 = 0) ∧
    (∃ (s : State) (i : Nat) (k : Bytes), Running s i 0x09 k ∧ par k 0 1 = 3 ∧ (∀ v, s.part.jsrc (par k 2 2) = some v → v.isSealed = false)) ∧
    (∃ (s : State) (i : Nat) (k : Bytes) (v : JSrc), Running s i 0x09 k ∧ par k 0 1 = 3 ∧ s.part.jsrc (par k 2 2) = some v ∧ v.isSealed = true) :=
  ⟨⟨sJournalsAndPartners 0, by decide +kernel⟩,
   ⟨sJournalsAndPartners 0, by decide +kernel⟩,
   ⟨sJournalsAndPartners 0, by decide +kernel⟩,
   ⟨sJournalsAndPartners 0, by decide +kernel⟩,
   (let s : State := sJournalsAndPartners 1; let src : Nat := ((s.part.takeMsg partnerMsg).bind fun z_ => match z_ with | ((a_, .partnerAsk), _) => some a_ | _ => none).get (by decide +kernel +zetaReduce); let p : Machine.Part := ((s.part.takeMsg partnerMsg).bind fun z_ => match z_ with | ((_, .partnerAsk), a_) => some a_ | _ => none).get (by decide +kernel +zetaReduce); ⟨s, src, p, by decide +kernel +zetaReduce⟩),
   (let s : State := sJournalsAndPartners 2; let src : Nat := ((s.part.takeMsg partnerMsg).bind fun z_ => match z_ with | ((a_, .journal _), _) => some a_ | _ => none).get (by decide +kernel +zetaReduce); let b : Bytes := ((s.part.takeMsg partnerMsg).bind fun z_ => match z_ with | ((_, .journal a_), _) => some a_ | _ => none).get (by decide +kernel +zetaReduce); let p : Machine.Part := ((s.part.takeMsg partnerMsg).bind fun z_ => match z_ with | ((_, .journal _), a_) => some a_ | _ => none).get (by decide +kernel +zetaReduce); let buf : List Byte := mget [] s.part.jrn.partial_ src ++ b; ⟨s, src, b, p, buf, by decide +kernel +zetaReduce⟩),
   (let s : State := sJournalsAndPartners 3; let src : Nat := ((s.part.takeMsg partnerMsg).bind fun z_ => match z_ with | ((a_, .journal _), _) => some a_ | _ => none).get (by decide +kernel +zetaReduce); let b : Bytes := ((s.part.takeMsg partnerMsg).bind fun z_ => match z_ with | ((_, .journal a_), _) => some a_ | _ => none).get (by decide +kernel +zetaReduce); let p : Machine.Part := ((s.part.takeMsg partnerMsg).bind fun z_ => match z_ with | ((_, .journal _), a_) => some a_ | _ => none).get (by decide +kernel +zetaReduce); let buf : List Byte := mget [] s.part.jrn.partial_ src ++ b; ⟨s, src, b, p, buf, by decide +kernel +zetaReduce⟩),
   (let s : State := sJournalsAndPartners 4; let src : Nat := ((s.part.takeMsg partnerMsg).bind fun z_ => match z_ with | ((a_, .journal _), _) => some a_ | _ => none).get (by decide +kernel +zetaReduce); let b : Bytes := ((s.part.takeMsg partnerMsg).bind fun z_ => match z_ with | ((_, .journal a_), _) => some a_ | _ => none).get (by decide +kernel +zetaReduce); let p : Machine.Part := ((s.part.takeMsg partnerMsg).bind fun z_ => match z_ with | ((_, .journal _), a_) => some a_ | _ => none).get (by decide +kernel +zetaReduce); let buf : List Byte := mget [] s.part.jrn.partial_ src ++ b; let v : JSrc := (p.jsrc src).get (by decide +kernel +zetaReduce); ⟨s, src, b, p, buf, v, by decide +kernel +zetaReduce⟩),
   (let s : State := sJournalsAndPartners 5; let src : Nat := ((s.part.takeMsg partnerMsg).bind fun z_ => match z_ with | ((a_, .journal _), _) => some a_ | _ => none).get (by decide +kernel +zetaReduce); let b : Bytes := ((s.part.takeMsg partnerMsg).bind fun z_ => match z_ with | ((_, .journal a_), _) => some a_ | _ => none).get (by decide +kernel +zetaReduce); let p : Machine.Part := ((s.part.takeMsg partnerMsg).bind fun z_ => match z_ with | ((_, .journal _), a_) => some a_ | _ => none).get (by decide +kernel +zetaReduce); let buf : List Byte := mget [] s.part.jrn.partial_ src ++ b; let v : JSrc := (p.jsrc src).get (by decide +kernel +zetaReduce); ⟨s, src, b, p, buf, v, by decide +kernel +zetaReduce⟩),
   (let s : State := sJournalsAndPartners 6; let src : Nat := ((s.part.takeMsg partnerMsg).bind fun z_ => match z_ with | ((a_, .journal _), _) => some a_ | _ => none).get (by decide +kernel +zetaReduce); let b : Bytes := ((s.part.takeMsg partnerMsg).bind fun z_ => match z_ with | ((_, .journal a_), _) => some a_ | _ => none).get (by decide +kernel +zetaReduce); let p : Machine.Part := ((s.part.takeMsg partnerMsg).bind fun z_ => match z_ with | ((_, .journal _), a_) => some a_ | _ => none).get (by decide +kernel +zetaReduce); let buf : List Byte := mget [] s.part.jrn.partial_ src ++ b; let v : JSrc := (p.jsrc src).get (by decide +kernel +zetaReduce); let rs : List JReq := (v.after (fld buf 0 1) (fld buf 4 4) (buf.drop 16)).get (by decide +kernel +zetaReduce); ⟨s, src, b, p, buf, v, rs, by decide +kernel +zetaReduce⟩),
   (let s : State := sJournalsAndPartners 7; let src : Nat := ((s.part.takeMsg ackMsg).bind fun z_ => match z_ with | ((a_, .journalAck _ _), _) => some a_ | _ => none).get (by decide +kernel +zetaReduce); let kind : Nat := ((s.part.takeMsg ackMsg).bind fun z_ => match z_ with | ((_, .journalAck a_ _), _) => some a_ | _ => none).get (by decide +kernel +zetaReduce); let id : Nat := ((s.part.takeMsg ackMsg).bind fun z_ => match z_ with | ((_, .journalAck _ a_), _) => some a_ | _ => none).get (by decide +kernel +zetaReduce); let p : Machine.Part := ((s.part.takeMsg ackMsg).bind fun z_ => match z_ with | ((_, .journalAck _ _), a_) => some a_ | _ => none).get (by decide +kernel +zetaReduce); ⟨s, src, kind, id, p, by decide +kernel +zetaReduce⟩),
   (let s : State := sJournalsAndPartners 8; let src : Nat := ((s.part.takeMsg ackMsg).bind fun z_ => match z_ with | ((a_, .journalAck _ _), _) => some a_ | _ => none).get (by decide +kernel +zetaReduce); let kind : Nat := ((s.part.takeMsg ackMsg).bind fun z_ => match z_ with | ((_, .journalAck a_ _), _) => some a_ | _ => none).get (by decide +kernel +zetaReduce); let id : Nat := ((s.part.takeMsg ackMsg).bind fun z_ => match z_ with | ((_, .journalAck _ a_), _) => some a_ | _ => none).get (by decide +kernel +zetaReduce); let p : Machine.Part := ((s.part.takeMsg ackMsg).bind fun z_ => match z_ with | ((_, .journalAck _ _), a_) => some a_ | _ => none).get (by decide +kernel +zetaReduce); ⟨s, src, kind, id, p, by decide +kernel +zetaReduce⟩),
   (let s : State := sJournalsAndPartners 9; let src : Nat := ((s.part.takeMsg ackMsg).bind fun z_ => match z_ with | ((a_, .partnerAnswer _), _) => some a_ | _ => none).get (by decide +kernel +zetaReduce); let ok : Bool := ((s.part.takeMsg ackMsg).bind fun z_ => match z_ with | ((_, .partnerAnswer a_), _) => some a_ | _ => none).get (by decide +kernel +zetaReduce); let p : Machine.Part := ((s.part.takeMsg ackMsg).bind fun z_ => match z_ with | ((_, .partnerAnswer _), a_) => some a_ | _ => none).get (by decide +kernel +zetaReduce); ⟨s, src, ok, p, by decide +kernel +zetaReduce, by decide +kernel +zetaReduce, by decide +kernel +zetaReduce, all_some (by decide +kernel +zetaReduce)⟩),
   (let s : State := sJournalsAndPartners 10; let src : Nat := ((s.part.takeMsg ackMsg).bind fun z_ => match z_ with | ((a_, .partnerAnswer _), _) => some a_ | _ => none).get (by decide +kernel +zetaReduce); let ok : Bool := ((s.part.takeMsg ackMsg).bind fun z_ => match z_ with | ((_, .partnerAnswer a_), _) => some a_ | _ => none).get (by decide +kernel +zetaReduce); let p : Machine.Part := ((s.part.takeMsg ackMsg).bind fun z_ => match z_ with | ((_, .partnerAnswer _), a_) => some a_ | _ => none).get (by decide +kernel +zetaReduce); let x : JSet := (p.jrn.set).get (by decide +kernel +zetaReduce); ⟨s, src, ok, p, x, by decide +kernel +zetaReduce⟩),
   (let s : State := sJournalsAndPartners 11; let src : Nat := ((s.part.takeMsg refuseMsg).bind fun z_ => match z_ with | ((a_, .journalRefuse _ _), _) => some a_ | _ => none).get (by decide +kernel +zetaReduce); let kind : Nat := ((s.part.takeMsg refuseMsg).bind fun z_ => match z_ with | ((_, .journalRefuse a_ _), _) => some a_ | _ => none).get (by decide +kernel +zetaReduce); let id : Nat := ((s.part.takeMsg refuseMsg).bind fun z_ => match z_ with | ((_, .journalRefuse _ a_), _) => some a_ | _ => none).get (by decide +kernel +zetaReduce); let p : Machine.Part := ((s.part.takeMsg refuseMsg).bind fun z_ => match z_ with | ((_, .journalRefuse _ _), a_) => some a_ | _ => none).get (by decide +kernel +zetaReduce); ⟨s, src, kind, id, p, by decide +kernel +zetaReduce⟩),
   (let s : State := sJournalsAndPartners 12; let src : Nat := ((s.part.takeMsg refuseMsg).bind fun z_ => match z_ with | ((a_, .journalRefuse _ _), _) => some a_ | _ => none).get (by decide +kernel +zetaReduce); let kind : Nat := ((s.part.takeMsg refuseMsg).bind fun z_ => match z_ with | ((_, .journalRefuse a_ _), _) => some a_ | _ => none).get (by decide +kernel +zetaReduce); let id : Nat := ((s.part.takeMsg refuseMsg).bind fun z_ => match z_ with | ((_, .journalRefuse _ a_), _) => some a_ | _ => none).get (by decide +kernel +zetaReduce); let p : Machine.Part := ((s.part.takeMsg refuseMsg).bind fun z_ => match z_ with | ((_, .journalRefuse _ _), a_) => some a_ | _ => none).get (by decide +kernel +zetaReduce); ⟨s, src, kind, id, p, by decide +kernel +zetaReduce⟩),
   (let s : State := sJournalsAndPartners 13; let src : Nat := ((s.part.takeMsg refuseMsg).bind fun z_ => match z_ with | ((a_, .journalRefuse _ _), _) => some a_ | _ => none).get (by decide +kernel +zetaReduce); let kind : Nat := ((s.part.takeMsg refuseMsg).bind fun z_ => match z_ with | ((_, .journalRefuse a_ _), _) => some a_ | _ => none).get (by decide +kernel +zetaReduce); let id : Nat := ((s.part.takeMsg refuseMsg).bind fun z_ => match z_ with | ((_, .journalRefuse _ a_), _) => some a_ | _ => none).get (by decide +kernel +zetaReduce); let p : Machine.Part := ((s.part.takeMsg refuseMsg).bind fun z_ => match z_ with | ((_, .journalRefuse _ _), a_) => some a_ | _ => none).get (by decide +kernel +zetaReduce); let sl : Nat := ((p.reqOf id).map Prod.fst).get (by decide +kernel +zetaReduce); let r : Req := ((p.reqOf id).map Prod.snd).get (by decide +kernel +zetaReduce); ⟨s, src, kind, id, p, sl, r, by decide +kernel +zetaReduce⟩),
   (let s : State := sJournalsAndPartners 14; let src : Nat := ((s.part.takeMsg refuseMsg).bind fun z_ => match z_ with | ((a_, .journalRefuse _ _), _) => some a_ | _ => none).get (by decide +kernel +zetaReduce); let kind : Nat := ((s.part.takeMsg refuseMsg).bind fun z_ => match z_ with | ((_, .journalRefuse a_ _), _) => some a_ | _ => none).get (by decide +kernel +zetaReduce); let id : Nat := ((s.part.takeMsg refuseMsg).bind fun z_ => match z_ with | ((_, .journalRefuse _ a_), _) => some a_ | _ => none).get (by decide +kernel +zetaReduce); let p : Machine.Part := ((s.part.takeMsg refuseMsg).bind fun z_ => match z_ with | ((_, .journalRefuse _ _), a_) => some a_ | _ => none).get (by decide +kernel +zetaReduce); let sl : Nat := ((p.reqOf id).map Prod.fst).get (by decide +kernel +zetaReduce); let r : Req := ((p.reqOf id).map Prod.snd).get (by decide +kernel +zetaReduce); ⟨s, src, kind, id, p, sl, r, by decide +kernel +zetaReduce⟩),
   (let s : State := sJournalsAndPartners 15; let src : Nat := ((s.part.takeMsg refuseMsg).bind fun z_ => match z_ with | ((a_, .journalSealed), _) => some a_ | _ => none).get (by decide +kernel +zetaReduce); let p : Machine.Part := ((s.part.takeMsg refuseMsg).bind fun z_ => match z_ with | ((_, .journalSealed), a_) => some a_ | _ => none).get (by decide +kernel +zetaReduce); ⟨s, src, p, by decide +kernel +zetaReduce⟩),
   (let s : State := sJournalsAndPartners 16; let src : Nat := ((s.part.takeMsg refuseMsg).bind fun z_ => match z_ with | ((a_, .journalSealed), _) => some a_ | _ => none).get (by decide +kernel +zetaReduce); let p : Machine.Part := ((s.part.takeMsg refuseMsg).bind fun z_ => match z_ with | ((_, .journalSealed), a_) => some a_ | _ => none).get (by decide +kernel +zetaReduce); ⟨s, src, p, by decide +kernel +zetaReduce⟩),
   (let s : State := sJournalsAndPartners 17; let src : Nat := ((s.part.takeMsg refuseMsg).bind fun z_ => match z_ with | ((a_, .partnerAnswer _), _) => some a_ | _ => none).get (by decide +kernel +zetaReduce); let ok : Bool := ((s.part.takeMsg refuseMsg).bind fun z_ => match z_ with | ((_, .partnerAnswer a_), _) => some a_ | _ => none).get (by decide +kernel +zetaReduce); let p : Machine.Part := ((s.part.takeMsg refuseMsg).bind fun z_ => match z_ with | ((_, .partnerAnswer _), a_) => some a_ | _ => none).get (by decide +kernel +zetaReduce); ⟨s, src, ok, p, by decide +kernel +zetaReduce, by decide +kernel +zetaReduce, by decide +kernel +zetaReduce, all_some (by decide +kernel +zetaReduce)⟩),
   (let s : State := sJournalsAndPartners 18; let src : Nat := ((s.part.takeMsg refuseMsg).bind fun z_ => match z_ with | ((a_, .partnerAnswer _), _) => some a_ | _ => none).get (by decide +kernel +zetaReduce); let ok : Bool := ((s.part.takeMsg refuseMsg).bind fun z_ => match z_ with | ((_, .partnerAnswer a_), _) => some a_ | _ => none).get (by decide +kernel +zetaReduce); let p : Machine.Part := ((s.part.takeMsg refuseMsg).bind fun z_ => match z_ with | ((_, .partnerAnswer _), a_) => some a_ | _ => none).get (by decide +kernel +zetaReduce); let x : JSet := (p.jrn.set).get (by decide +kernel +zetaReduce); ⟨s, src, ok, p, x, by decide +kernel +zetaReduce⟩),
   (let s : State := sJournalsAndPartners 8; let d : Nat := (s.part.jrn.partner).get (by decide +kernel +zetaReduce); ⟨s, d, by decide +kernel +zetaReduce⟩),
   (let s : State := sJournalsAndPartners 19; let i : Nat := 3; let k : Bytes := ((s.part.ses i).cur).get (by decide +kernel +zetaReduce); ⟨s, i, k, by decide +kernel +zetaReduce⟩),
   (let s : State := sJournalsAndPartners 20; let i : Nat := 3; let k : Bytes := ((s.part.ses i).cur).get (by decide +kernel +zetaReduce); ⟨s, i, k, by decide +kernel +zetaReduce⟩),
   (let s : State := sJournalsAndPartners 20; let i : Nat := 3; let k : Bytes := ((s.part.ses i).cur).get (by decide +kernel +zetaReduce); ⟨s, i, k, by decide +kernel +zetaReduce⟩),
   (let s : State := sJournalsAndPartners 20; let i : Nat := 3; let k : Bytes := ((s.part.ses i).cur).get (by decide +kernel +zetaReduce); ⟨s, i, k, by decide +kernel +zetaReduce⟩),
   (let s : State := sJournalsAndPartners 20; let i : Nat := 3; let k : Bytes := ((s.part.ses i).cur).get (by decide +kernel +zetaReduce); ⟨s, i, k, by decide +kernel +zetaReduce⟩),
   (let s : State := sJournalsAndPartners 20; let i : Nat := 3; let k : Bytes := ((s.part.ses i).cur).get (by decide +kernel +zetaReduce); let x : JSet := (s.part.jrn.set).get (by decide +kernel +zetaReduce); ⟨s, i, k, x, by decide +kernel +zetaReduce⟩),
   (let s : State := sJournalsAndPartners 21; let i : Nat := 3; let k : Bytes := ((s.part.ses i).cur).get (by decide +kernel +zetaReduce); let x : JSet := (s.part.jrn.set).get (by decide +kernel +zetaReduce); ⟨s, i, k, x, by decide +kernel +zetaReduce⟩),
   (let s : State := sJournalsAndPartners 22; let i : Nat := 3; let k : Bytes := ((s.part.ses i).cur).get (by decide +kernel +zetaReduce); ⟨s, i, k, by decide +kernel +zetaReduce⟩),
   (let s : State := sJournalsAndPartners 23; let i : Nat := 3; let k : Bytes := ((s.part.ses i).cur).get (by decide +kernel +zetaReduce); ⟨s, i, k, by decide +kernel +zetaReduce⟩),
   ⟨sJournalsAndPartners 0, by decide +kernel⟩,
   (let s : State := sJournalsAndPartners 24; let x : JSet := (s.part.jrn.set).get (by decide +kernel +zetaReduce); ⟨s, x, by decide +kernel +zetaReduce⟩),
   (let s : State := sJournalsAndPartners 20; let x : JSet := (s.part.jrn.set).get (by decide +kernel +zetaReduce); ⟨s, x, by decide +kernel +zetaReduce⟩),
   (let s : State := sJournalsAndPartners 19; let i : Nat := 3; let k : Bytes := ((s.part.ses i).cur).get (by decide +kernel +zetaReduce); ⟨s, i, k, by decide +kernel +zetaReduce⟩),
   (let s : State := sJournalsAndPartners 25; let i : Nat := 3; let k : Bytes := ((s.part.ses i).cur).get (by decide +kernel +zetaReduce); let d : Nat := (s.part.jrn.partner).get (by decide +kernel +zetaReduce); ⟨s, i, k, d, by decide +kernel +zetaReduce⟩),
   (let s : State := sJournalsAndPartners 26; let i : Nat := 3; let k : Bytes := ((s.part.ses i).cur).get (by decide +kernel +zetaReduce); let p : Machine.Part := (if s.part.faulted = true then s.part else s.part.takeArrived (par k 2 2) s.part.fab.inbox.length); ⟨s, i, k, p, by decide +kernel +zetaReduce, by decide +kernel +zetaReduce, by decide +kernel +zetaReduce, (fun _ h => nomatch (show _ ∈ ([] : List (Nat × FabMsg)) from h))⟩),
   (let s : State := sJournalsAndPartners 26; let i : Nat := 3; let k : Bytes := ((s.part.ses i).cur).get (by decide +kernel +zetaReduce); let p : Machine.Part := (if s.part.faulted = true then s.part else s.part.takeArrived (par k 2 2) s.part.fab.inbox.length); ⟨s, i, k, p, by decide +kernel +zetaReduce⟩),
   (let s : State := sJournalsAndPartners 27; let i : Nat := 3; let k : Bytes := ((s.part.ses i).cur).get (by decide +kernel +zetaReduce); let p : Machine.Part := (if s.part.faulted = true then s.part else s.part.takeArrived (par k 2 2) s.part.fab.inbox.length); let v : JSrc := (p.jsrc (par k 2 2)).get (by decide +kernel +zetaReduce); ⟨s, i, k, p, v, by decide +kernel +zetaReduce⟩),
   (let s : State := sJournalsAndPartners 28; let i : Nat := 3; let k : Bytes := ((s.part.ses i).cur).get (by decide +kernel +zetaReduce); let p : Machine.Part := (if s.part.faulted = true then s.part else s.part.takeArrived (par k 2 2) s.part.fab.inbox.length); let v : JSrc := (p.jsrc (par k 2 2)).get (by decide +kernel +zetaReduce); ⟨s, i, k, p, v, by decide +kernel +zetaReduce⟩),
   (let s : State := sJournalsAndPartners 29; let i : Nat := 3; let k : Bytes := ((s.part.ses i).cur).get (by decide +kernel +zetaReduce); ⟨s, i, k, by decide +kernel +zetaReduce, by decide +kernel +zetaReduce, all_some (by decide +kernel +zetaReduce)⟩),
   (let s : State := sJournalsAndPartners 30; let i : Nat := 3; let k : Bytes := ((s.part.ses i).cur).get (by decide +kernel +zetaReduce); let v : JSrc := (s.part.jsrc (par k 2 2)).get (by decide +kernel +zetaReduce); let q : Machine.Part := (s.part.adoptAll i k (par k 2 2) (List.range (par k 4 2)) [0, 0, 0, 0]).1; let n : List Nat := (s.part.adoptAll i k (par k 2 2) (List.range (par k 4 2)) [0, 0, 0, 0]).2; ⟨s, i, k, v, q, n, by decide +kernel +zetaReduce⟩),
   (let p : Machine.Part := jrS false 0; let part : Nat := 5; let id : Nat := 77; let v : JSrc := (p.jsrc part).get (by decide +kernel +zetaReduce); let j : JReq := (v.reqs.find? (fun r => r.id == id)).get (by decide +kernel +zetaReduce); ⟨p, part, id, 9, v, j, by decide +kernel +zetaReduce⟩),
   (let p : Machine.Part := { jrS false 0 with serv := { (jrS false 0).serv with reqs := [(4, req0)] } }; let part : Nat := 5; let id : Nat := 77; let v : JSrc := (p.jsrc part).get (by decide +kernel +zetaReduce); let j : JReq := (v.reqs.find? (fun r => r.id == id)).get (by decide +kernel +zetaReduce); ⟨p, part, id, 1, v, j, by decide +kernel +zetaReduce⟩),
   (let p : Machine.Part := jrS false 0; let part : Nat := 5; let id : Nat := 77; let v : JSrc := (p.jsrc part).get (by decide +kernel +zetaReduce); let j : JReq := (v.reqs.find? (fun r => r.id == id)).get (by decide +kernel +zetaReduce); let b : Nat × Option Nat × Option Nat := (p.adoptBind j.admission).get (by decide +kernel +zetaReduce); ⟨p, ((jrS false 0).adoptEntry 3 (pkJ 2 5 1) 5 77 1).1, 3, part, id, 1, pkJ 0 5 0, v, j, b, by decide +kernel +zetaReduce⟩),
   (let s : State := sJournalsAndPartners 31; let i : Nat := 3; let k : Bytes := ((s.part.ses i).cur).get (by decide +kernel +zetaReduce); ⟨s, i, k, by decide +kernel +zetaReduce, by decide +kernel +zetaReduce, all_some (by decide +kernel +zetaReduce)⟩),
   (let s : State := sJournalsAndPartners 32; let i : Nat := 3; let k : Bytes := ((s.part.ses i).cur).get (by decide +kernel +zetaReduce); let v : JSrc := (s.part.jsrc (par k 2 2)).get (by decide +kernel +zetaReduce); ⟨s, i, k, v, by decide +kernel +zetaReduce⟩)⟩

/-- States for `wit_EventsAreDeliveredAndClaimed`. -/
def sEventsAreDeliveredAndClaimed (n : Nat) : State :=
  ([sLine false id,
    st (ctl fun c => { c with events := [evt 300000] }),
    st (ctl fun c => { c with events := [evt 7] }),
    st (ev1 (domS 1 .sleep)),
    st { ev1 (domS 1 .sleep) with evcCopy := some (sLine false id).part.evcRetain },
    sLine true id,
    sLine false (fun c => { c with delivered := [7] }),
    sLine true (fun c => { c with fastActive := true, bank1 := true }),
    st (ctl fun c => { c with lines := [(7, { line7 false with timer := some 3000000000000 })] }),
    st (ctl fun c => { c with lines := [(7, { line7 false with timer := some 9 })] })] : List State).getD n State.reset

theorem wit_EventsAreDeliveredAndClaimed :
    (∃ (s : State), s.part.alive 0 = true ∧ s.part.ctl.events = []) ∧
    (∃ (s : State) (e : Bytes) (l : List Bytes), s.part.alive 0 = true ∧ s.part.ctl.events = e :: l ∧ lineOk (fld e 0 2) = false) ∧
    (∃ (s : State) (e : Bytes) (l : List Bytes), s.part.alive 0 = true ∧ s.part.ctl.events = e :: l ∧ lineOk (fld e 0 2) = true ∧ s.part.domUp 1 = true ∧ (s.part.line (fld e 0 2)).modUs = 0) ∧
    (∃ (s : State) (e : Bytes) (l : List Bytes), s.part.alive 0 = true ∧ s.part.ctl.events = e :: l ∧ lineOk (fld e 0 2) = true ∧ s.part.domUp 1 = false ∧ s.part.evcCopy = none) ∧
    (∃ (s : State) (e : Bytes) (l : List Bytes) (v : EvcCopy), s.part.alive 0 = true ∧ s.part.ctl.events = e :: l ∧ lineOk (fld e 0 2) = true ∧ s.part.domUp 1 = false ∧ s.part.evcCopy = some v) ∧
    (∃ (s : State) (w : Word64) (p : Machine.Part), s.part.alive 1 = true ∧ s.part.free = (w, p) ∧ p.nextLine w p.ctl.lines = none) ∧
    (∃ (s : State) (w : Word64) (p : Machine.Part) (i : Nat), s.part.alive 1 = true ∧ s.part.free = (w, p) ∧ p.nextLine w p.ctl.lines = some i) ∧
    (∃ (s : State) (w : Word64) (p : Machine.Part) (i : Nat) (c : Nat), s.part.alive 1 = true ∧ s.part.free = (w, p) ∧ p.nextLine w p.ctl.lines = some i ∧ p.chooseCore w i 24 = some c ∧ (p.line i).fast = false) ∧
    (∃ (s : State) (w : Word64) (p : Machine.Part) (i : Nat) (c : Nat), s.part.alive 1 = true ∧ s.part.free = (w, p) ∧ p.nextLine w p.ctl.lines = some i ∧ p.chooseCore w i 24 = some c ∧ (p.line i).fast = true) ∧
    (∃ (s : State) (c : Nat), s.part.alive 1 = true ∧ isCore c = true ∧ s.part.claimLine (s.part.core c).delivered = none) ∧
    (∃ (s : State) (c : Nat) (i : Nat), s.part.alive 1 = true ∧ isCore c = true ∧ s.part.claimLine (s.part.core c).delivered = some i) ∧
    (∃ (s : State) (c : Nat), s.part.alive 1 = true ∧ isCore c = true) ∧
    (∃ (s : State) (c : Nat), s.part.alive 1 = true ∧ isCore c = true ∧ (s.part.core c).fastActive = false) ∧
    (∃ (s : State) (c : Nat), s.part.alive 1 = true ∧ isCore c = true ∧ (s.part.core c).fastActive = true) ∧
    (∃ (s : State), s.part.alive 1 = true) ∧
    (∃ (s : State) (k : Nat), s.part.alive 1 = true ∧ k < 32 ∧ (s.part.line (272 + k)).modUs = 0) ∧
    (∃ (s : State) (i : Nat), s.part.alive 1 = true ∧ isLine i = true ∧ (s.part.line i).timer = none) ∧
    (∃ (s : State) (i : Nat) (t : Nat), s.part.alive 1 = true ∧ isLine i = true ∧ (s.part.line i).timer = some t ∧ s.part.now < t) ∧
    (∃ (s : State) (i : Nat) (t : Nat), s.part.alive 1 = true ∧ isLine i = true ∧ (s.part.line i).timer = some t ∧ t ≤ s.part.now) :=
  ⟨⟨sEventsAreDeliveredAndClaimed 0, by decide +kernel⟩,
   (let s : State := sEventsAreDeliveredAndClaimed 1; let e : Bytes := (s.part.ctl.events).head (by decide +kernel +zetaReduce); let l : List Bytes := (s.part.ctl.events).tail; ⟨s, e, l, by decide +kernel +zetaReduce⟩),
   (let s : State := sEventsAreDeliveredAndClaimed 2; let e : Bytes := (s.part.ctl.events).head (by decide +kernel +zetaReduce); let l : List Bytes := (s.part.ctl.events).tail; ⟨s, e, l, by decide +kernel +zetaReduce⟩),
   (let s : State := sEventsAreDeliveredAndClaimed 3; let e : Bytes := (s.part.ctl.events).head (by decide +kernel +zetaReduce); let l : List Bytes := (s.part.ctl.events).tail; ⟨s, e, l, by decide +kernel +zetaReduce⟩),
   (let s : State := sEventsAreDeliveredAndClaimed 4; let e : Bytes := (s.part.ctl.events).head (by decide +kernel +zetaReduce); let l : List Bytes := (s.part.ctl.events).tail; let v : EvcCopy := (s.part.evcCopy).get (by decide +kernel +zetaReduce); ⟨s, e, l, v, by decide +kernel +zetaReduce⟩),
   (let s : State := sEventsAreDeliveredAndClaimed 1; let w : Word64 := (s.part.free).1; let p : Machine.Part := (s.part.free).2; ⟨s, w, p, by decide +kernel +zetaReduce, rfl, by decide +kernel +zetaReduce⟩),
   (let s : State := sEventsAreDeliveredAndClaimed 0; let w : Word64 := (s.part.free).1; let p : Machine.Part := (s.part.free).2; let i : Nat := (p.nextLine w p.ctl.lines).get (by decide +kernel +zetaReduce); ⟨s, w, p, i, by decide +kernel +zetaReduce, rfl, by decide +kernel +zetaReduce⟩),
   (let s : State := sEventsAreDeliveredAndClaimed 0; let w : Word64 := (s.part.free).1; let p : Machine.Part := (s.part.free).2; let i : Nat := (p.nextLine w p.ctl.lines).get (by decide +kernel +zetaReduce); let c : Nat := (p.chooseCore w i 24).get (by decide +kernel +zetaReduce); ⟨s, w, p, i, c, by decide +kernel +zetaReduce, rfl, by decide +kernel +zetaReduce, by decide +kernel +zetaReduce, by decide +kernel +zetaReduce⟩),
   (let s : State := sEventsAreDeliveredAndClaimed 5; let w : Word64 := (s.part.free).1; let p : Machine.Part := (s.part.free).2; let i : Nat := (p.nextLine w p.ctl.lines).get (by decide +kernel +zetaReduce); let c : Nat := (p.chooseCore w i 24).get (by decide +kernel +zetaReduce); ⟨s, w, p, i, c, by decide +kernel +zetaReduce, rfl, by decide +kernel +zetaReduce, by decide +kernel +zetaReduce, by decide +kernel +zetaReduce⟩),
   ⟨sEventsAreDeliveredAndClaimed 1, 0, by decide +kernel⟩,
   (let s : State := sEventsAreDeliveredAndClaimed 6; let c : Nat := 0; let i : Nat := (s.part.claimLine (s.part.core c).delivered).get (by decide +kernel +zetaReduce); ⟨s, c, i, by decide +kernel +zetaReduce⟩),
   ⟨sEventsAreDeliveredAndClaimed 1, 0, by decide +kernel⟩,
   ⟨sEventsAreDeliveredAndClaimed 1, 0, by decide +kernel⟩,
   ⟨sEventsAreDeliveredAndClaimed 7, 0, by decide +kernel⟩,
   ⟨sEventsAreDeliveredAndClaimed 1, by decide +kernel⟩,
   ⟨sEventsAreDeliveredAndClaimed 1, 31, by decide +kernel⟩,
   ⟨sEventsAreDeliveredAndClaimed 1, 7, by decide +kernel⟩,
   (let s : State := sEventsAreDeliveredAndClaimed 8; let i : Nat := 7; let t : Nat := ((s.part.line i).timer).get (by decide +kernel +zetaReduce); ⟨s, i, t, by decide +kernel +zetaReduce⟩),
   (let s : State := sEventsAreDeliveredAndClaimed 9; let i : Nat := 7; let t : Nat := ((s.part.line i).timer).get (by decide +kernel +zetaReduce); ⟨s, i, t, by decide +kernel +zetaReduce⟩)⟩

/-- States for `wit_PolicyFirmware`. -/
def sPolicyFirmware (n : Nat) : State :=
  ([st pOn,
    st (ctl fun c => { c with cores := [(5, { CtlCore.reset with mbox := List.replicate 64 ⟨1, []⟩ })] }),
    st (ctl fun c => { c with cores := [(3, { CtlCore.reset with refused := [⟨1, [7]⟩], refusedAt := 300000000000, mbox := [⟨2, []⟩, ⟨4, []⟩] })] }),
    st (withReq req0 pOn),
    st (ctl fun c => { c with loaded := true })] : List State).getD n State.reset

theorem wit_PolicyFirmware :
    (∃ (s : State) (c : Nat) (d : Nat), s.part.alive 1 = true ∧ isCore c = true ∧ (23 < d ∨ d = c)) ∧
    (∃ (s : State) (c : Nat) (d : Nat), s.part.alive 1 = true ∧ isCore c = true ∧ d ≤ 23 ∧ d ≠ c ∧ 64 ≤ (s.part.core d).mbox.length) ∧
    (∃ (s : State) (c : Nat) (d : Nat), s.part.alive 1 = true ∧ isCore c = true ∧ d ≤ 23 ∧ d ≠ c ∧ (s.part.core d).mbox.length < 64) ∧
    (∃ (s : State) (c : Nat), s.part.alive 1 = true ∧ isCore c = true ∧ ((s.part.core c).refusedAt ≠ s.part.clk.cycles ∨ (s.part.core c).refused = [])) ∧
    (∃ (s : State) (c : Nat) (m : MboxMsg) (l : List MboxMsg), s.part.alive 1 = true ∧ isCore c = true ∧ (s.part.core c).refusedAt = s.part.clk.cycles ∧ (s.part.core c).refused = m :: l) ∧
    (∃ (s : State) (sl : Nat), s.part.alive 1 = true ∧ isSlot sl = true ∧ s.part.slotLive sl = false) ∧
    (∃ (s : State) (sl : Nat), s.part.alive 1 = true ∧ isSlot sl = true ∧ s.part.slotLive sl = true) ∧
    (∃ (s : State) (c : Nat), s.part.alive 1 = true ∧ isPolicyCore c = true ∧ (s.part.ctl.loaded = false ∨ (s.part.core c).stopped = true)) ∧
    (∃ (s : State) (c : Nat), s.part.alive 1 = true ∧ isPolicyCore c = true ∧ s.part.ctl.loaded = true ∧ (s.part.core c).stopped = false) :=
  ⟨⟨sPolicyFirmware 0, 3, 24, by decide +kernel⟩,
   ⟨sPolicyFirmware 1, 3, 5, by decide +kernel⟩,
   ⟨sPolicyFirmware 0, 3, 5, by decide +kernel⟩,
   ⟨sPolicyFirmware 0, 3, by decide +kernel⟩,
   (let s : State := sPolicyFirmware 2; let c : Nat := 3; let m : MboxMsg := ((s.part.core c).refused).head (by decide +kernel +zetaReduce); let l : List MboxMsg := ((s.part.core c).refused).tail; ⟨s, c, m, l, by decide +kernel +zetaReduce⟩),
   ⟨sPolicyFirmware 0, 4, by decide +kernel⟩,
   ⟨sPolicyFirmware 3, 4, by decide +kernel⟩,
   ⟨sPolicyFirmware 0, 16, by decide +kernel⟩,
   ⟨sPolicyFirmware 4, 16, by decide +kernel⟩⟩

/-- States for `wit_KeysAndAttestation`. -/
def sKeysAndAttestation (n : Nat) : State :=
  ([run pOn (pk 0x25 0 0 (leBytes 4 5 ++ z 12)),
    run (ctl fun c => { c with load := some ⟨4, 0, 0, 0, 8192, false⟩ }) (pkP 8192),
    run pOn (pkP 8191),
    run pOn (pkP 8192),
    run pOn (pkC 1),
    run pOn (pkC 2),
    run pOn (pkC 3),
    run pOn (pkC 4),
    run pOn pkA,
    run pOn (pkD 1),
    run pOn (pkD 0),
    run { pOn with sec := { pOn.sec with challenge := some chal } } (pkD 1),
    run pOn pkKey,
    st { pOn with sec := { pOn.sec with challenge := some ⟨z 64, none⟩ } },
    run { pOn with sec := { pOn.sec with challenge := some ⟨z 64, some 1900000000000⟩ } } (pkD 1)] : List State).getD n State.reset

theorem wit_KeysAndAttestation :
    (∃ (s : State) (i : Nat) (op : Nat) (k : Bytes), Running s i op k ∧ op = 0x25 ∧ mfind s.part.sec.keys (par k 0 4) = none) ∧
    (∃ (s : State) (i : Nat) (op : Nat) (k : Bytes), Running s i op k ∧ op = 0x0C ∧ s.part.ctl.load ≠ none) ∧
    (∃ (s : State) (i : Nat) (op : Nat) (k : Bytes), Running s i op k ∧ op = 0x0C ∧ s.part.ctl.load = none ∧ (par k 8 4 < 8192 ∨ 397312 < par k 8 4)) ∧
    (∃ (s : State) (i : Nat) (op : Nat) (k : Bytes), Running s i op k ∧ op = 0x0C ∧ s.part.ctl.load = none ∧ 8192 ≤ par k 8 4 ∧ par k 8 4 ≤ 397312) ∧
    (∃ (s : State) (i : Nat) (op : Nat) (k : Bytes), Running s i op k ∧ op = 0x0D ∧ par k 0 1 = 1) ∧
    (∃ (s : State) (i : Nat) (op : Nat) (k : Bytes), Running s i op k ∧ op = 0x0D ∧ par k 0 1 = 2) ∧
    (∃ (s : State) (i : Nat) (op : Nat) (k : Bytes), Running s i op k ∧ op = 0x0D ∧ par k 0 1 = 3) ∧
    (∃ (s : State) (i : Nat) (op : Nat) (k : Bytes), Running s i op k ∧ op = 0x0D ∧ par k 0 1 ≠ 1 ∧ par k 0 1 ≠ 2 ∧ par k 0 1 ≠ 3) ∧
    (∃ (s : State) (i : Nat) (op : Nat) (k : Bytes), Running s i op k ∧ op = 0x0B) ∧
    (∃ (s : State) (i : Nat) (op : Nat) (k : Bytes), Running s i op k ∧ op = 0xF3 ∧ par k 0 1 ≠ 0) ∧
    (∃ (s : State) (i : Nat) (op : Nat) (k : Bytes), Running s i op k ∧ op = 0xF3 ∧ par k 0 1 ≠ 1) ∧
    (∃ (s : State) (i : Nat) (op : Nat) (k : Bytes), Running s i op k ∧ op = 0xF3 ∧ par k 0 1 = 0) ∧
    (∃ (s : State) (i : Nat) (op : Nat) (k : Bytes) (q : Machine.Part), Running s i op k ∧ op = 0xF3 ∧ par k 0 1 = 1 ∧ q = { s.part with sec := { s.part.sec with challenge := none } } ∧ s.part.sec.challenge = none) ∧
    (∃ (s : State) (i : Nat) (op : Nat) (k : Bytes) (q : Machine.Part) (c : Challenge), Running s i op k ∧ op = 0xF3 ∧ par k 0 1 = 1 ∧ q = { s.part with sec := { s.part.sec with challenge := none } } ∧ s.part.sec.challenge = some c ∧ (zeros s.part.sec.cert 228 64 = true ∨ sha (slice k 32 133) ≠ slice s.part.sec.cert 228 64 ∨ c.fresh s.part.now = false ∨ Config.ecdsaVerify (slice k 32 133) (c.bytes ++ leBytes 8 s.part.sec.serial ++ slice k 20 4) (slice k 168 132) = false)) ∧
    (∃ (s : State), s.part.alive 1 = true ∧ s.part.sec.challenge = none) ∧
    (∃ (s : State) (c : Challenge), s.part.alive 1 = true ∧ s.part.sec.challenge = some c ∧ c.replied = none) ∧
    (∃ (s : State) (c : Challenge) (t : Nat), s.part.alive 1 = true ∧ s.part.sec.challenge = some c ∧ c.replied = some t ∧ t + 60000000000 ≤ s.part.now) ∧
    (∃ (s : State) (c : Challenge) (t : Nat), s.part.alive 1 = true ∧ s.part.sec.challenge = some c ∧ c.replied = some t ∧ s.part.now < t + 60000000000) :=
  ⟨(let s : State := sKeysAndAttestation 0; let i : Nat := 3; let op : Nat := 0x25; let k : Bytes := ((s.part.ses i).cur).get (by decide +kernel +zetaReduce); ⟨s, i, op, k, by decide +kernel +zetaReduce⟩),
   (let s : State := sKeysAndAttestation 1; let i : Nat := 3; let op : Nat := 0x0C; let k : Bytes := ((s.part.ses i).cur).get (by decide +kernel +zetaReduce); ⟨s, i, op, k, by decide +kernel +zetaReduce⟩),
   (let s : State := sKeysAndAttestation 2; let i : Nat := 3; let op : Nat := 0x0C; let k : Bytes := ((s.part.ses i).cur).get (by decide +kernel +zetaReduce); ⟨s, i, op, k, by decide +kernel +zetaReduce⟩),
   (let s : State := sKeysAndAttestation 3; let i : Nat := 3; let op : Nat := 0x0C; let k : Bytes := ((s.part.ses i).cur).get (by decide +kernel +zetaReduce); ⟨s, i, op, k, by decide +kernel +zetaReduce⟩),
   (let s : State := sKeysAndAttestation 4; let i : Nat := 3; let op : Nat := 0x0D; let k : Bytes := ((s.part.ses i).cur).get (by decide +kernel +zetaReduce); ⟨s, i, op, k, by decide +kernel +zetaReduce⟩),
   (let s : State := sKeysAndAttestation 5; let i : Nat := 3; let op : Nat := 0x0D; let k : Bytes := ((s.part.ses i).cur).get (by decide +kernel +zetaReduce); ⟨s, i, op, k, by decide +kernel +zetaReduce⟩),
   (let s : State := sKeysAndAttestation 6; let i : Nat := 3; let op : Nat := 0x0D; let k : Bytes := ((s.part.ses i).cur).get (by decide +kernel +zetaReduce); ⟨s, i, op, k, by decide +kernel +zetaReduce⟩),
   (let s : State := sKeysAndAttestation 7; let i : Nat := 3; let op : Nat := 0x0D; let k : Bytes := ((s.part.ses i).cur).get (by decide +kernel +zetaReduce); ⟨s, i, op, k, by decide +kernel +zetaReduce⟩),
   (let s : State := sKeysAndAttestation 8; let i : Nat := 3; let op : Nat := 0x0B; let k : Bytes := ((s.part.ses i).cur).get (by decide +kernel +zetaReduce); ⟨s, i, op, k, by decide +kernel +zetaReduce⟩),
   (let s : State := sKeysAndAttestation 9; let i : Nat := 3; let op : Nat := 0xF3; let k : Bytes := ((s.part.ses i).cur).get (by decide +kernel +zetaReduce); ⟨s, i, op, k, by decide +kernel +zetaReduce⟩),
   (let s : State := sKeysAndAttestation 10; let i : Nat := 3; let op : Nat := 0xF3; let k : Bytes := ((s.part.ses i).cur).get (by decide +kernel +zetaReduce); ⟨s, i, op, k, by decide +kernel +zetaReduce⟩),
   (let s : State := sKeysAndAttestation 10; let i : Nat := 3; let op : Nat := 0xF3; let k : Bytes := ((s.part.ses i).cur).get (by decide +kernel +zetaReduce); ⟨s, i, op, k, by decide +kernel +zetaReduce⟩),
   (let s : State := sKeysAndAttestation 9; let i : Nat := 3; let op : Nat := 0xF3; let k : Bytes := ((s.part.ses i).cur).get (by decide +kernel +zetaReduce); let q : Machine.Part := { s.part with sec := { s.part.sec with challenge := none } }; ⟨s, i, op, k, q, by decide +kernel +zetaReduce⟩),
   (let s : State := sKeysAndAttestation 11; let i : Nat := 3; let op : Nat := 0xF3; let k : Bytes := ((s.part.ses i).cur).get (by decide +kernel +zetaReduce); let q : Machine.Part := { s.part with sec := { s.part.sec with challenge := none } }; let c : Challenge := (s.part.sec.challenge).get (by decide +kernel +zetaReduce); ⟨s, i, op, k, q, c, by decide +kernel +zetaReduce⟩),
   ⟨sKeysAndAttestation 12, by decide +kernel⟩,
   (let s : State := sKeysAndAttestation 13; let c : Challenge := (s.part.sec.challenge).get (by decide +kernel +zetaReduce); ⟨s, c, by decide +kernel +zetaReduce⟩),
   (let s : State := sKeysAndAttestation 11; let c : Challenge := (s.part.sec.challenge).get (by decide +kernel +zetaReduce); let t : Nat := (c.replied).get (by decide +kernel +zetaReduce); ⟨s, c, t, by decide +kernel +zetaReduce⟩),
   (let s : State := sKeysAndAttestation 14; let c : Challenge := (s.part.sec.challenge).get (by decide +kernel +zetaReduce); let t : Nat := (c.replied).get (by decide +kernel +zetaReduce); ⟨s, c, t, by decide +kernel +zetaReduce⟩)⟩

/-- States for `wit_PinsLinkAndClocks`. -/
def sPinsLinkAndClocks (n : Nat) : State :=
  ([st pOn,
    State.reset,
    st pHeld,
    st (pOn.regSet aRstCfg 1),
    st pPerst,
    st { pOn with pins := { pOn.pins with perstN := false } },
    st { pOn with host := HostLink.reset },
    st { pOn with boot := { pOn.boot with feat1Seen := pOn.feat1, readySeen := pOn.readyClusters } },
    st { pOn with clk := { pOn.clk with lock := 1 } },
    st (noRef 1)] : List State).getD n State.reset

theorem wit_PinsLinkAndClocks :
    (∃ (s : State), s.part.pins.pgIn = true) ∧
    (∃ (s : State), s.part.pins.pgIn = false) ∧
    (∃ (s : State) (q : Machine.Part), q = { s.part with pins := { s.part.pins with resetN := false } } ∧ (s.part.pins.pgIn = false ∨ s.part.therm.quenched = true)) ∧
    (∃ (s : State) (q : Machine.Part), q = { s.part with pins := { s.part.pins with resetN := false } } ∧ s.part.pins.pgIn = true ∧ s.part.therm.quenched = false) ∧
    (∃ (s : State) (q : Machine.Part), q = { s.part with pins := { s.part.pins with resetN := true } } ∧ (s.part.pins.pgIn = false ∨ s.part.therm.quenched = true ∨ s.part.boot.held = false)) ∧
    (∃ (s : State) (q : Machine.Part), q = { s.part with pins := { s.part.pins with resetN := true } } ∧ s.part.pins.pgIn = true ∧ s.part.therm.quenched = false ∧ s.part.boot.held = true) ∧
    (∃ (s : State) (q : Machine.Part), q = { s.part with pins := { s.part.pins with perstN := false } } ∧ (s.part.pins.pgIn = false ∨ s.part.therm.quenched = true ∨ s.part.frz.active = true)) ∧
    (∃ (s : State) (q : Machine.Part), q = { s.part with pins := { s.part.pins with perstN := false } } ∧ s.part.pins.pgIn = true ∧ s.part.therm.quenched = false ∧ s.part.frz.active = false ∧ s.part.regFld aRstCfg 0 1 = 1 ∧ s.part.boot.stage ≠ 6 ∧ s.part.host.reads = []) ∧
    (∃ (s : State) (q : Machine.Part), q = { s.part with pins := { s.part.pins with perstN := false } } ∧ s.part.pins.pgIn = true ∧ s.part.therm.quenched = false ∧ s.part.frz.active = false ∧ (s.part.regFld aRstCfg 0 1 ≠ 1 ∨ s.part.boot.stage = 6)) ∧
    (∃ (s : State) (q : Machine.Part), q = { s.part with pins := { s.part.pins with perstN := true } } ∧ (s.part.pins.pgIn = false ∨ s.part.therm.quenched = true ∨ s.part.frz.active = true ∨ s.part.boot.perstHeld = false)) ∧
    (∃ (s : State) (q : Machine.Part), q = { s.part with pins := { s.part.pins with perstN := true } } ∧ s.part.pins.pgIn = true ∧ s.part.therm.quenched = false ∧ s.part.frz.active = false ∧ s.part.boot.perstHeld = true) ∧
    (∃ (p : Machine.Part), (p.boot.held = true ∨ p.boot.perstHeld = true)) ∧
    (∃ (p : Machine.Part), p.boot.held = false ∧ p.boot.perstHeld = false ∧ p.domSt 1 = .sleep ∧ p.domSt 2 = .sleep) ∧
    (∃ (s : State), s.part.alive 2 = true ∧ s.part.host.reads = []) ∧
    (∃ (s : State), s.part.alive 2 = true ∧ s.part.pins.perstN = true ∧ s.part.boot.dieUp.testBit 1 = true) ∧
    (∃ (s : State), s.part.alive 2 = true ∧ (s.part.pins.perstN = false ∨ s.part.boot.dieUp.testBit 1 = false)) ∧
    (∃ (s : State), s.part.alive 2 = true ∧ s.part.host.linkUp = false) ∧
    (∃ (s : State), s.part.alive 2 = true ∧ s.part.host.linkUp = true) ∧
    (∃ (s : State) (d : Nat), isDie d = true ∧ s.part.alive 0 = true ∧ s.part.feat1 = s.part.boot.feat1Seen ∧ s.part.readyClusters = s.part.boot.readySeen) ∧
    (∃ (s : State) (d : Nat), isDie d = true ∧ s.part.alive 0 = true ∧ s.part.clk.lock.testBit d = false) ∧
    (∃ (s : State) (d : Nat), isDie d = true ∧ s.part.alive 0 = true ∧ s.part.clk.lock.testBit d = true) ∧
    (∃ (s : State), s.part.clk.ref156 = true) ∧
    (∃ (s : State), (s.part.clk.ref156 = true ∨ s.part.pins.pgIn = false)) ∧
    (∃ (s : State) (b : Bool), s.part.clk.ref156 = false ∧ s.part.pins.pgIn = true ∧ (b = false ∨ 3 ≤ s.part.boot.stage)) ∧
    (∃ (s : State), s.part.clk.ref156 = false ∧ s.part.pins.pgIn = true ∧ s.part.boot.stage < 3) ∧
    (∃ (s : State), s.part.alive 0 = true ∧ (s.part.clk.ref156 = true ∨ (s.part.boot.stage ≠ 1 ∧ s.part.boot.stage ≠ 2))) ∧
    (∃ (s : State), s.part.alive 0 = true ∧ s.part.clk.ref156 = false ∧ (s.part.boot.stage = 1 ∨ s.part.boot.stage = 2)) :=
  ⟨⟨sPinsLinkAndClocks 0, by decide +kernel⟩,
   ⟨sPinsLinkAndClocks 1, by decide +kernel⟩,
   (let s : State := sPinsLinkAndClocks 1; let q : Machine.Part := { s.part with pins := { s.part.pins with resetN := false } }; ⟨s, q, by decide +kernel +zetaReduce⟩),
   (let s : State := sPinsLinkAndClocks 0; let q : Machine.Part := { s.part with pins := { s.part.pins with resetN := false } }; ⟨s, q, by decide +kernel +zetaReduce⟩),
   (let s : State := sPinsLinkAndClocks 0; let q : Machine.Part := { s.part with pins := { s.part.pins with resetN := true } }; ⟨s, q, by decide +kernel +zetaReduce⟩),
   (let s : State := sPinsLinkAndClocks 2; let q : Machine.Part := { s.part with pins := { s.part.pins with resetN := true } }; ⟨s, q, by decide +kernel +zetaReduce⟩),
   (let s : State := sPinsLinkAndClocks 1; let q : Machine.Part := { s.part with pins := { s.part.pins with perstN := false } }; ⟨s, q, by decide +kernel +zetaReduce⟩),
   (let s : State := sPinsLinkAndClocks 3; let q : Machine.Part := { s.part with pins := { s.part.pins with perstN := false } }; ⟨s, q, by decide +kernel +zetaReduce⟩),
   (let s : State := sPinsLinkAndClocks 0; let q : Machine.Part := { s.part with pins := { s.part.pins with perstN := false } }; ⟨s, q, by decide +kernel +zetaReduce⟩),
   (let s : State := sPinsLinkAndClocks 0; let q : Machine.Part := { s.part with pins := { s.part.pins with perstN := true } }; ⟨s, q, by decide +kernel +zetaReduce⟩),
   (let s : State := sPinsLinkAndClocks 4; let q : Machine.Part := { s.part with pins := { s.part.pins with perstN := true } }; ⟨s, q, by decide +kernel +zetaReduce⟩),
   ⟨pHeld, by decide +kernel⟩,
   ⟨domsS [(1, .sleep), (2, .sleep)], by decide +kernel⟩,
   ⟨sPinsLinkAndClocks 0, by decide +kernel⟩,
   ⟨sPinsLinkAndClocks 0, by decide +kernel⟩,
   ⟨sPinsLinkAndClocks 5, by decide +kernel⟩,
   ⟨sPinsLinkAndClocks 6, by decide +kernel⟩,
   ⟨sPinsLinkAndClocks 0, by decide +kernel⟩,
   ⟨sPinsLinkAndClocks 7, 7, by decide +kernel⟩,
   ⟨sPinsLinkAndClocks 8, 7, by decide +kernel⟩,
   ⟨sPinsLinkAndClocks 0, 7, by decide +kernel⟩,
   ⟨sPinsLinkAndClocks 0, by decide +kernel⟩,
   ⟨sPinsLinkAndClocks 0, by decide +kernel⟩,
   (let s : State := sPinsLinkAndClocks 9; let b : Bool := false ∨ 3 ≤ s.part.boot.stage; ⟨s, b, by decide +kernel +zetaReduce⟩),
   ⟨sPinsLinkAndClocks 9, by decide +kernel⟩,
   ⟨sPinsLinkAndClocks 0, by decide +kernel⟩,
   ⟨sPinsLinkAndClocks 9, by decide +kernel⟩⟩

/-- States for `wit_PartResetAndHalt`. -/
def sPartResetAndHalt (n : Nat) : State :=
  ([run pOn (pkR 0 2),
    run (boot fun b => { b with halt := some (halt5 true) }) (pkR 2 0),
    run pOn (pkR 2 0),
    st (boot fun b => { b with resetDue := some 2000000000000 }),
    st (boot fun b => { b with resetDue := some 5 }),
    st ({ boot (fun b => { b with halt := some (halt5 true) }) with pwr := pOn.pwr }.setTile 4 { Tile.reset with wq := [{ kind := .map, bank := 1, msg := none, row := 0, due := 0, clearing := false, completes := none, copy := 6, band := 0, cls := .generation, since := 0 }] }),
    st (boot fun b => { b with halt := some { halt5 true with since := 1920000000000 } })] : List State).getD n State.reset

theorem wit_PartResetAndHalt :
    (∃ (s : State) (i : Nat) (k : Bytes), Running s i 0x0A k ∧ (par k 0 1).testBit 1 = false) ∧
    (∃ (s : State) (i : Nat) (k : Bytes), Running s i 0x0A k ∧ (par k 0 1).testBit 1 = true ∧ s.part.boot.halt ≠ none) ∧
    (∃ (s : State) (i : Nat) (k : Bytes), Running s i 0x0A k ∧ (par k 0 1).testBit 1 = true ∧ s.part.boot.halt = none) ∧
    (∃ (s : State), s.part.alive 0 = true ∧ s.part.boot.resetDue = none) ∧
    (∃ (s : State) (t : Nat), s.part.alive 0 = true ∧ s.part.boot.resetDue = some t ∧ s.part.now < t) ∧
    (∃ (s : State) (t : Nat), s.part.alive 0 = true ∧ s.part.boot.resetDue = some t ∧ t ≤ s.part.now) ∧
    (∃ (s : State), s.part.alive 0 = true ∧ s.part.boot.halt = none) ∧
    (∃ (s : State) (h : Halt), s.part.alive 0 = true ∧ s.part.boot.halt = some h ∧ ((∃ t ∈ s.part.an.tiles, t.2.haltBusy = true) ∨ s.part.domSt 1 ≠ .on)) ∧
    (∃ (s : State) (h : Halt), s.part.alive 0 = true ∧ s.part.boot.halt = some h ∧ (∀ t ∈ s.part.an.tiles, t.2.haltBusy = false) ∧ s.part.domSt 1 = .on) ∧
    (∃ (s : State) (h : Halt), s.part.alive 0 = true ∧ s.part.boot.halt = some h ∧ s.part.now < h.since + 100000000) ∧
    (∃ (s : State) (h : Halt), s.part.alive 0 = true ∧ s.part.boot.halt = some h ∧ h.since + 100000000 ≤ s.part.now) ∧
    (∃ (s : State) (key : Nat), s.part.alive 2 = true ∧ key ≠ 0xC0DE) ∧
    (∃ (s : State), s.part.alive 2 = true ∧ (s.part.boot.stage = 6 ∨ s.part.boot.halt ≠ none)) ∧
    (∃ (s : State), s.part.alive 2 = true ∧ s.part.boot.stage ≠ 6 ∧ s.part.boot.halt = none) :=
  ⟨(let s : State := sPartResetAndHalt 0; let i : Nat := 3; let k : Bytes := ((s.part.ses i).cur).get (by decide +kernel +zetaReduce); ⟨s, i, k, by decide +kernel +zetaReduce⟩),
   (let s : State := sPartResetAndHalt 1; let i : Nat := 3; let k : Bytes := ((s.part.ses i).cur).get (by decide +kernel +zetaReduce); ⟨s, i, k, by decide +kernel +zetaReduce⟩),
   (let s : State := sPartResetAndHalt 2; let i : Nat := 3; let k : Bytes := ((s.part.ses i).cur).get (by decide +kernel +zetaReduce); ⟨s, i, k, by decide +kernel +zetaReduce⟩),
   ⟨sPartResetAndHalt 0, by decide +kernel⟩,
   (let s : State := sPartResetAndHalt 3; let t : Nat := (s.part.boot.resetDue).get (by decide +kernel +zetaReduce); ⟨s, t, by decide +kernel +zetaReduce⟩),
   (let s : State := sPartResetAndHalt 4; let t : Nat := (s.part.boot.resetDue).get (by decide +kernel +zetaReduce); ⟨s, t, by decide +kernel +zetaReduce⟩),
   ⟨sPartResetAndHalt 0, by decide +kernel⟩,
   (let s : State := sPartResetAndHalt 5; let h : Halt := (s.part.boot.halt).get (by decide +kernel +zetaReduce); ⟨s, h, by decide +kernel +zetaReduce, by decide +kernel +zetaReduce, by decide +kernel +zetaReduce⟩),
   (let s : State := sPartResetAndHalt 1; let h : Halt := (s.part.boot.halt).get (by decide +kernel +zetaReduce); ⟨s, h, by decide +kernel +zetaReduce⟩),
   (let s : State := sPartResetAndHalt 6; let h : Halt := (s.part.boot.halt).get (by decide +kernel +zetaReduce); ⟨s, h, by decide +kernel +zetaReduce⟩),
   (let s : State := sPartResetAndHalt 1; let h : Halt := (s.part.boot.halt).get (by decide +kernel +zetaReduce); ⟨s, h, by decide +kernel +zetaReduce⟩),
   ⟨sPartResetAndHalt 0, 0xC0DF, by decide +kernel⟩,
   ⟨sPartResetAndHalt 1, by decide +kernel⟩,
   ⟨sPartResetAndHalt 0, by decide +kernel⟩⟩

/-- States for `wit_BringUp`. -/
def sBringUp (n : Nat) : State :=
  ([st (pLow id .starting 1),
    st (boot fun b => { b with stage := 1 }),
    st { domS 1 .starting with boot := { pOn.boot with stage := 1 }, flash := [(0, 1)] },
    st { boot (fun b => { b with stage := 1 }) with flash := [(0, 1)] }] : List State).getD n State.reset

theorem wit_BringUp :
    (∃ (s : State) (d : Nat), isDie d = true ∧ s.part.alive 0 = true ∧ ((s.part.dom (dieDomain d)).st ≠ .starting ∨ (s.part.dom (dieDomain d)).held = true ∨ s.part.boot.dieUp.testBit d = true ∨ (d ≠ 1 ∧ s.part.clk.ref156 = false))) ∧
    (∃ (s : State) (d : Nat), isDie d = true ∧ s.part.alive 0 = true ∧ (s.part.dom (dieDomain d)).st = .starting ∧ (s.part.dom (dieDomain d)).held = false ∧ s.part.boot.dieUp.testBit d = false ∧ (d = 1 ∨ s.part.clk.ref156 = true)) ∧
    (∃ (s : State) (d : Nat), isDie d = true ∧ s.part.alive 0 = true ∧ ((s.part.dom (dieDomain d)).st ≠ .starting ∨ s.part.boot.dieUp.testBit d = true ∨ 3 ≤ s.part.boot.stage ∨ (s.part.clk.ref156 = false ∧ d ≠ 1) ∨ s.part.passed (s.part.dom (dieDomain d)).startAt 1000000000 = false)) ∧
    (∃ (s : State) (d : Nat), isDie d = true ∧ s.part.alive 0 = true ∧ (s.part.dom (dieDomain d)).st = .starting ∧ s.part.boot.dieUp.testBit d = false ∧ s.part.boot.stage < 3 ∧ (s.part.clk.ref156 = true ∨ d = 1) ∧ s.part.passed (s.part.dom (dieDomain d)).startAt 1000000000 = true) ∧
    (∃ (s : State) (d : Nat), isDie d = true ∧ s.part.alive 0 = true ∧ (s.part.boot.stage ≠ 1 ∨ s.part.clk.ref156 = false ∨ s.part.boot.dieUp.testBit 0 = false)) ∧
    (∃ (s : State) (d : Nat), isDie d = true ∧ s.part.alive 0 = true ∧ s.part.boot.stage = 1 ∧ s.part.clk.ref156 = true ∧ s.part.boot.dieUp.testBit 0 = true ∧ s.part.flash = []) ∧
    (∃ (s : State) (d : Nat), isDie d = true ∧ s.part.alive 0 = true ∧ s.part.boot.stage = 1 ∧ s.part.clk.ref156 = true ∧ s.part.boot.dieUp.testBit 0 = true ∧ s.part.flash ≠ [] ∧ s.part.domSt 1 ≠ .on ∧ s.part.verifyFirmware = none) ∧
    (∃ (s : State) (d : Nat), isDie d = true ∧ s.part.alive 0 = true ∧ s.part.boot.stage = 1 ∧ s.part.clk.ref156 = true ∧ s.part.boot.dieUp.testBit 0 = true ∧ s.part.flash ≠ [] ∧ s.part.domSt 1 = .on) :=
  ⟨⟨sBringUp 0, 8, by decide +kernel⟩,
   ⟨sBringUp 0, 1, by decide +kernel⟩,
   ⟨sBringUp 0, 8, by decide +kernel⟩,
   ⟨sBringUp 0, 1, by decide +kernel⟩,
   ⟨sBringUp 0, 1, by decide +kernel⟩,
   ⟨sBringUp 1, 1, by decide +kernel⟩,
   ⟨sBringUp 2, 1, by decide +kernel, by decide +kernel, by decide +kernel, by decide +kernel, by decide +kernel, by decide +kernel, by decide +kernel, (by unfold Part.verifyFirmware Part.readPuf; cases Config.bchCorrect _ _ <;> rfl)⟩,
   ⟨sBringUp 3, 1, by decide +kernel⟩⟩

/-- States for `wit_DomainsSleepWakeAndRamp`. -/
def sDomainsSleepWakeAndRamp (n : Nat) : State :=
  ([run (domS 5 .sleep) (pkS 0x80 5),
    run (domS 5 .closing) (pkS 0x80 5),
    run (domS 5 .ramping) (pkS 0x80 5),
    run (domS 5 .failed) (pkS 0x80 5),
    run (withReq req0 pOn) (pkS 0x80 1),
    run ctlOnly (pkS 0x80 1),
    run pOn (pkS 0x80 5),
    run (nv fun n => { n with st := 2 }) (pkS 0x80 19),
    run pOn (pkS 0x80 19),
    run (jrn fun j => { j with partner := some 5 }) (pkS 0x80 15),
    run pOn (pkS 0x80 15),
    run pOn (pkS 0x81 0),
    run pOn (pkS 0x81 5),
    run (domS 5 .closing) (pkS 0x81 5),
    run (domS 5 .failed) (pkS 0x81 5),
    run (domS 5 .queued) (pkS 0x81 5),
    run (domS 5 .sleep) (pkS 0x81 5),
    st (domS 5 .closing),
    st (pOn.setDom 19 { domOn with sleepReq := true }),
    st { pOn with pwr := { pOn.pwr with nextMaint := some 5 } },
    st { domS 1 .sleep with pwr := { (domS 1 .sleep).pwr with nextMaint := some 5 } },
    st ({ qd [5, 6] with pwr := { (qd [5, 6]).pwr with dom := [(2, domOn)] } }),
    st (((qd [5]).setDom 6 { Dom.reset with st := .ramping }).setDom 7 { Dom.reset with st := .ramping } |>.setDom 8 { Dom.reset with st := .ramping }),
    st { domS 2 .starting with host := { pOn.host with linkUp := true } },
    st { domS 1 .starting with clk := { pOn.clk with ref156 := false } }] : List State).getD n State.reset

theorem wit_DomainsSleepWakeAndRamp :
    (∃ (s : State) (i : Nat) (k : Bytes) (d : Nat) (q : Machine.Part), Running s i 0x80 k ∧ par k 0 1 = d ∧ q = s.part.domainSleep i k ∧ s.part.domSt d = .sleep) ∧
    (∃ (s : State) (i : Nat) (k : Bytes) (d : Nat) (q : Machine.Part), Running s i 0x80 k ∧ par k 0 1 = d ∧ q = s.part.domainSleep i k ∧ s.part.domSt d = .closing) ∧
    (∃ (s : State) (i : Nat) (k : Bytes) (d : Nat) (q : Machine.Part), Running s i 0x80 k ∧ par k 0 1 = d ∧ q = s.part.domainSleep i k ∧ (s.part.domSt d = .queued ∨ s.part.domSt d = .ramping ∨ s.part.domSt d = .starting)) ∧
    (∃ (s : State) (i : Nat) (k : Bytes) (d : Nat) (q : Machine.Part) (w : Word64) (p : Machine.Part), Running s i 0x80 k ∧ par k 0 1 = d ∧ q = s.part.domainSleep i k ∧ s.part.domSt d = .failed ∧ s.part.free = (w, p)) ∧
    (∃ (s : State) (i : Nat) (k : Bytes) (d : Nat) (q : Machine.Part), Running s i 0x80 k ∧ par k 0 1 = d ∧ q = s.part.domainSleep i k ∧ d = 1 ∧ s.part.domSt d = .on ∧ s.part.ctlBusy i = true) ∧
    (∃ (s : State) (i : Nat) (k : Bytes) (d : Nat) (q : Machine.Part), Running s i 0x80 k ∧ par k 0 1 = d ∧ q = s.part.domainSleep i k ∧ d = 1 ∧ s.part.domSt d = .on ∧ s.part.ctlBusy i = false) ∧
    (∃ (s : State) (i : Nat) (k : Bytes) (d : Nat) (q : Machine.Part), Running s i 0x80 k ∧ par k 0 1 = d ∧ q = s.part.domainSleep i k ∧ 3 ≤ d ∧ d ≤ 10 ∧ s.part.domSt d = .on ∧ (s.part.pinnedOn (d - 3)).length ≤ (s.part.reserve (d - 3) (s.part.pinnedOn (d - 3)).length).length) ∧
    (∃ (s : State) (i : Nat) (k : Bytes) (d : Nat) (q : Machine.Part), Running s i 0x80 k ∧ par k 0 1 = d ∧ q = s.part.domainSleep i k ∧ d = 19 ∧ s.part.domSt d = .on ∧ s.part.nvmeConnected = true) ∧
    (∃ (s : State) (i : Nat) (k : Bytes) (d : Nat) (q : Machine.Part), Running s i 0x80 k ∧ par k 0 1 = d ∧ q = s.part.domainSleep i k ∧ d = 19 ∧ s.part.domSt d = .on ∧ s.part.nvmeConnected = false) ∧
    (∃ (s : State) (i : Nat) (k : Bytes) (d : Nat) (q : Machine.Part), Running s i 0x80 k ∧ par k 0 1 = d ∧ q = s.part.domainSleep i k ∧ 15 ≤ d ∧ d ≤ 18 ∧ s.part.domSt d = .on ∧ s.part.lkdBusy (d - 15) = true) ∧
    (∃ (s : State) (i : Nat) (k : Bytes) (d : Nat) (q : Machine.Part), Running s i 0x80 k ∧ par k 0 1 = d ∧ q = s.part.domainSleep i k ∧ 15 ≤ d ∧ d ≤ 18 ∧ s.part.domSt d = .on ∧ s.part.lkdBusy (d - 15) = false) ∧
    (∃ (s : State) (i : Nat) (k : Bytes) (d : Nat), Running s i 0x81 k ∧ par k 0 1 = d ∧ d = 0) ∧
    (∃ (s : State) (i : Nat) (k : Bytes) (d : Nat), Running s i 0x81 k ∧ par k 0 1 = d ∧ d ≠ 0 ∧ s.part.domSt d = .on) ∧
    (∃ (s : State) (i : Nat) (k : Bytes) (d : Nat), Running s i 0x81 k ∧ par k 0 1 = d ∧ s.part.domSt d = .closing) ∧
    (∃ (s : State) (i : Nat) (k : Bytes) (d : Nat) (w : Word64) (p : Machine.Part), Running s i 0x81 k ∧ par k 0 1 = d ∧ s.part.domSt d = .failed ∧ s.part.free = (w, p)) ∧
    (∃ (s : State) (i : Nat) (k : Bytes) (d : Nat), Running s i 0x81 k ∧ par k 0 1 = d ∧ (s.part.domSt d = .queued ∨ s.part.domSt d = .ramping ∨ s.part.domSt d = .starting)) ∧
    (∃ (s : State) (i : Nat) (k : Bytes) (d : Nat), Running s i 0x81 k ∧ par k 0 1 = d ∧ s.part.domSt d = .sleep ∧ isDomain d = true) ∧
    (∃ (s : State) (d : Nat), isDomain d = true ∧ s.part.alive 0 = true ∧ ((s.part.dom d).st ≠ .closing ∨ s.part.drained d = false)) ∧
    (∃ (s : State) (d : Nat), isDomain d = true ∧ s.part.alive 0 = true ∧ (s.part.dom d).st = .closing ∧ s.part.drained d = true) ∧
    (∃ (s : State) (due : Bool), s.part.alive 1 = true ∧ due = (if s.part.pwr.maint = true then s.part.maintDone else (s.part.dom 19).sleepReq && decide (s.part.pwr.wsdIdleSince + 10000000000 ≤ s.part.now)) ∧ ((s.part.dom 19).st ≠ .on ∨ due = false ∨ s.part.wsdBusy = true ∨ s.part.nvmeConnected = true)) ∧
    (∃ (s : State) (due : Bool), s.part.alive 1 = true ∧ due = (if s.part.pwr.maint = true then s.part.maintDone else (s.part.dom 19).sleepReq && decide (s.part.pwr.wsdIdleSince + 10000000000 ≤ s.part.now)) ∧ (s.part.dom 19).st = .on ∧ due = true ∧ s.part.wsdBusy = false ∧ s.part.nvmeConnected = false) ∧
    (∃ (s : State), s.part.alive 0 = true ∧ s.part.pwr.nextMaint = none) ∧
    (∃ (s : State) (t : Nat), s.part.alive 0 = true ∧ s.part.pwr.nextMaint = some t ∧ (s.part.domSt 1 ≠ .sleep ∨ s.part.now + 60000000000 < t)) ∧
    (∃ (s : State) (t : Nat), s.part.alive 0 = true ∧ s.part.pwr.nextMaint = some t ∧ s.part.domSt 1 = .sleep ∧ t ≤ s.part.now + 60000000000) ∧
    (∃ (s : State) (key : Nat), s.part.alive 2 = true ∧ key ≠ 0xC0DE) ∧
    (∃ (s : State), s.part.alive 2 = true ∧ s.part.domSt 1 = .sleep) ∧
    (∃ (s : State) (d : Nat), isDomain d = true ∧ s.part.alive 0 = true ∧ s.part.pwr.queue = []) ∧
    (∃ (s : State) (d : Nat) (l : List Nat), isDomain d = true ∧ s.part.alive 0 = true ∧ s.part.pwr.queue = d :: l ∧ s.part.ramping.length < 3 ∧ s.part.rampDidt + domDidt d ≤ 400) ∧
    (∃ (s : State) (d : Nat) (l : List Nat), isDomain d = true ∧ s.part.alive 0 = true ∧ s.part.pwr.queue = d :: l ∧ (3 ≤ s.part.ramping.length ∨ 400 < s.part.rampDidt + domDidt d)) ∧
    (∃ (s : State) (d : Nat), isDomain d = true ∧ ((s.part.dom d).st ≠ .ramping ∨ s.part.therm.quenched = true ∨ s.part.passed (s.part.dom d).rampAt (domRampNs d) = false)) ∧
    (∃ (s : State) (d : Nat), isDomain d = true ∧ (s.part.dom d).st = .ramping ∧ s.part.therm.quenched = false ∧ s.part.passed (s.part.dom d).rampAt (domRampNs d) = true) ∧
    (∃ (s : State) (d : Nat), isDomain d = true ∧ s.part.alive 0 = true ∧ ((s.part.dom d).st ≠ .ramping ∨ s.part.passed (s.part.dom d).rampAt 1000000 = false)) ∧
    (∃ (s : State) (d : Nat), isDomain d = true ∧ s.part.alive 0 = true ∧ (s.part.dom d).st = .ramping ∧ s.part.passed (s.part.dom d).rampAt 1000000 = true) ∧
    (∃ (s : State) (d : Nat), isDomain d = true ∧ s.part.alive 0 = true ∧ (s.part.dom d).st ≠ .on) ∧
    (∃ (s : State) (d : Nat), isDomain d = true ∧ s.part.alive 0 = true ∧ (s.part.dom d).st = .on) ∧
    (∃ (s : State) (d : Nat), isDomain d = true ∧ s.part.alive 0 = true ∧ ((s.part.dom d).st ≠ .starting ∨ s.part.domainReady d = false)) ∧
    (∃ (s : State) (d : Nat), isDomain d = true ∧ s.part.alive 0 = true ∧ (s.part.dom d).st = .starting ∧ s.part.domainReady d = true ∧ d ≠ 1) ∧
    (∃ (s : State) (d : Nat), isDomain d = true ∧ s.part.alive 0 = true ∧ (s.part.dom d).st = .starting ∧ s.part.domainReady d = true ∧ d = 1 ∧ (s.part.clk.ref156 = false ∨ s.part.verifyFirmware = none)) :=
  ⟨(let s : State := sDomainsSleepWakeAndRamp 0; let i : Nat := 3; let k : Bytes := ((s.part.ses i).cur).get (by decide +kernel +zetaReduce); let d : Nat := par k 0 1; let q : Machine.Part := s.part.domainSleep i k; ⟨s, i, k, d, q, by decide +kernel +zetaReduce, by decide +kernel +zetaReduce, rfl, by decide +kernel +zetaReduce⟩),
   (let s : State := sDomainsSleepWakeAndRamp 1; let i : Nat := 3; let k : Bytes := ((s.part.ses i).cur).get (by decide +kernel +zetaReduce); let d : Nat := par k 0 1; let q : Machine.Part := s.part.domainSleep i k; ⟨s, i, k, d, q, by decide +kernel +zetaReduce, by decide +kernel +zetaReduce, rfl, by decide +kernel +zetaReduce⟩),
   (let s : State := sDomainsSleepWakeAndRamp 2; let i : Nat := 3; let k : Bytes := ((s.part.ses i).cur).get (by decide +kernel +zetaReduce); let d : Nat := par k 0 1; let q : Machine.Part := s.part.domainSleep i k; ⟨s, i, k, d, q, by decide +kernel +zetaReduce, by decide +kernel +zetaReduce, rfl, by decide +kernel +zetaReduce⟩),
   (let s : State := sDomainsSleepWakeAndRamp 3; let i : Nat := 3; let k : Bytes := ((s.part.ses i).cur).get (by decide +kernel +zetaReduce); let d : Nat := par k 0 1; let q : Machine.Part := s.part.domainSleep i k; let w : Word64 := (s.part.free).1; let p : Machine.Part := (s.part.free).2; ⟨s, i, k, d, q, w, p, by decide +kernel +zetaReduce, by decide +kernel +zetaReduce, rfl, by decide +kernel +zetaReduce, rfl⟩),
   (let s : State := sDomainsSleepWakeAndRamp 4; let i : Nat := 3; let k : Bytes := ((s.part.ses i).cur).get (by decide +kernel +zetaReduce); let d : Nat := par k 0 1; let q : Machine.Part := s.part.domainSleep i k; ⟨s, i, k, d, q, by decide +kernel +zetaReduce, by decide +kernel +zetaReduce, rfl, rfl, by decide +kernel +zetaReduce, by decide +kernel +zetaReduce⟩),
   (let s : State := sDomainsSleepWakeAndRamp 5; let i : Nat := 3; let k : Bytes := ((s.part.ses i).cur).get (by decide +kernel +zetaReduce); let d : Nat := par k 0 1; let q : Machine.Part := s.part.domainSleep i k; ⟨s, i, k, d, q, by decide +kernel +zetaReduce, by decide +kernel +zetaReduce, rfl, rfl, by decide +kernel +zetaReduce, by decide +kernel +zetaReduce⟩),
   (let s : State := sDomainsSleepWakeAndRamp 6; let i : Nat := 3; let k : Bytes := ((s.part.ses i).cur).get (by decide +kernel +zetaReduce); let d : Nat := par k 0 1; let q : Machine.Part := s.part.domainSleep i k; ⟨s, i, k, d, q, by decide +kernel +zetaReduce, by decide +kernel +zetaReduce, rfl, by decide +kernel +zetaReduce, by decide +kernel +zetaReduce, by decide +kernel +zetaReduce, Nat.zero_le _⟩),
   (let s : State := sDomainsSleepWakeAndRamp 7; let i : Nat := 3; let k : Bytes := ((s.part.ses i).cur).get (by decide +kernel +zetaReduce); let d : Nat := par k 0 1; let q : Machine.Part := s.part.domainSleep i k; ⟨s, i, k, d, q, by decide +kernel +zetaReduce, by decide +kernel +zetaReduce, rfl, rfl, by decide +kernel +zetaReduce, by decide +kernel +zetaReduce⟩),
   (let s : State := sDomainsSleepWakeAndRamp 8; let i : Nat := 3; let k : Bytes := ((s.part.ses i).cur).get (by decide +kernel +zetaReduce); let d : Nat := par k 0 1; let q : Machine.Part := s.part.domainSleep i k; ⟨s, i, k, d, q, by decide +kernel +zetaReduce, by decide +kernel +zetaReduce, rfl, rfl, by decide +kernel +zetaReduce, by decide +kernel +zetaReduce⟩),
   (let s : State := sDomainsSleepWakeAndRamp 9; let i : Nat := 3; let k : Bytes := ((s.part.ses i).cur).get (by decide +kernel +zetaReduce); let d : Nat := par k 0 1; let q : Machine.Part := s.part.domainSleep i k; ⟨s, i, k, d, q, by decide +kernel +zetaReduce, by decide +kernel +zetaReduce, rfl, by decide +kernel +zetaReduce, by decide +kernel +zetaReduce, by decide +kernel +zetaReduce, by decide +kernel +zetaReduce⟩),
   (let s : State := sDomainsSleepWakeAndRamp 10; let i : Nat := 3; let k : Bytes := ((s.part.ses i).cur).get (by decide +kernel +zetaReduce); let d : Nat := par k 0 1; let q : Machine.Part := s.part.domainSleep i k; ⟨s, i, k, d, q, by decide +kernel +zetaReduce, by decide +kernel +zetaReduce, rfl, by decide +kernel +zetaReduce, by decide +kernel +zetaReduce, by decide +kernel +zetaReduce, by decide +kernel +zetaReduce⟩),
   (let s : State := sDomainsSleepWakeAndRamp 11; let i : Nat := 3; let k : Bytes := ((s.part.ses i).cur).get (by decide +kernel +zetaReduce); let d : Nat := par k 0 1; ⟨s, i, k, d, by decide +kernel +zetaReduce, by decide +kernel +zetaReduce, rfl⟩),
   (let s : State := sDomainsSleepWakeAndRamp 12; let i : Nat := 3; let k : Bytes := ((s.part.ses i).cur).get (by decide +kernel +zetaReduce); let d : Nat := par k 0 1; ⟨s, i, k, d, by decide +kernel +zetaReduce⟩),
   (let s : State := sDomainsSleepWakeAndRamp 13; let i : Nat := 3; let k : Bytes := ((s.part.ses i).cur).get (by decide +kernel +zetaReduce); let d : Nat := par k 0 1; ⟨s, i, k, d, by decide +kernel +zetaReduce⟩),
   (let s : State := sDomainsSleepWakeAndRamp 14; let i : Nat := 3; let k : Bytes := ((s.part.ses i).cur).get (by decide +kernel +zetaReduce); let d : Nat := par k 0 1; let w : Word64 := (s.part.free).1; let p : Machine.Part := (s.part.free).2; ⟨s, i, k, d, w, p, by decide +kernel +zetaReduce, by decide +kernel +zetaReduce, by decide +kernel +zetaReduce, rfl⟩),
   (let s : State := sDomainsSleepWakeAndRamp 15; let i : Nat := 3; let k : Bytes := ((s.part.ses i).cur).get (by decide +kernel +zetaReduce); let d : Nat := par k 0 1; ⟨s, i, k, d, by decide +kernel +zetaReduce⟩),
   (let s : State := sDomainsSleepWakeAndRamp 16; let i : Nat := 3; let k : Bytes := ((s.part.ses i).cur).get (by decide +kernel +zetaReduce); let d : Nat := par k 0 1; ⟨s, i, k, d, by decide +kernel +zetaReduce⟩),
   ⟨sDomainsSleepWakeAndRamp 0, 5, by decide +kernel⟩,
   ⟨sDomainsSleepWakeAndRamp 17, 5, by decide +kernel⟩,
   (let s : State := sDomainsSleepWakeAndRamp 0; let due : Bool := (if s.part.pwr.maint = true then s.part.maintDone else (s.part.dom 19).sleepReq && decide (s.part.pwr.wsdIdleSince + 10000000000 ≤ s.part.now)); ⟨s, due, by decide +kernel +zetaReduce, rfl, by decide +kernel +zetaReduce⟩),
   (let s : State := sDomainsSleepWakeAndRamp 18; let due : Bool := (if s.part.pwr.maint = true then s.part.maintDone else (s.part.dom 19).sleepReq && decide (s.part.pwr.wsdIdleSince + 10000000000 ≤ s.part.now)); ⟨s, due, by decide +kernel +zetaReduce, rfl, by decide +kernel +zetaReduce, by decide +kernel +zetaReduce, by decide +kernel +zetaReduce, by decide +kernel +zetaReduce⟩),
   ⟨sDomainsSleepWakeAndRamp 0, by decide +kernel⟩,
   (let s : State := sDomainsSleepWakeAndRamp 19; let t : Nat := (s.part.pwr.nextMaint).get (by decide +kernel +zetaReduce); ⟨s, t, by decide +kernel +zetaReduce⟩),
   (let s : State := sDomainsSleepWakeAndRamp 20; let t : Nat := (s.part.pwr.nextMaint).get (by decide +kernel +zetaReduce); ⟨s, t, by decide +kernel +zetaReduce⟩),
   ⟨sDomainsSleepWakeAndRamp 0, 3, by decide +kernel⟩,
   ⟨sDomainsSleepWakeAndRamp 20, by decide +kernel⟩,
   ⟨sDomainsSleepWakeAndRamp 0, 5, by decide +kernel⟩,
   (let s : State := sDomainsSleepWakeAndRamp 21; let d : Nat := (s.part.pwr.queue).head (by decide +kernel +zetaReduce); let l : List Nat := (s.part.pwr.queue).tail; ⟨s, d, l, by decide +kernel +zetaReduce⟩),
   (let s : State := sDomainsSleepWakeAndRamp 22; let d : Nat := (s.part.pwr.queue).head (by decide +kernel +zetaReduce); let l : List Nat := (s.part.pwr.queue).tail; ⟨s, d, l, by decide +kernel +zetaReduce⟩),
   ⟨sDomainsSleepWakeAndRamp 0, 5, by decide +kernel⟩,
   ⟨sDomainsSleepWakeAndRamp 2, 5, by decide +kernel⟩,
   ⟨sDomainsSleepWakeAndRamp 0, 5, by decide +kernel⟩,
   ⟨sDomainsSleepWakeAndRamp 2, 5, by decide +kernel⟩,
   ⟨sDomainsSleepWakeAndRamp 0, 5, by decide +kernel⟩,
   ⟨sDomainsSleepWakeAndRamp 0, 1, by decide +kernel⟩,
   ⟨sDomainsSleepWakeAndRamp 0, 5, by decide +kernel⟩,
   ⟨sDomainsSleepWakeAndRamp 23, 2, by decide +kernel⟩,
   (let d : Nat := 1; ⟨sDomainsSleepWakeAndRamp 24, d, by decide +kernel +zetaReduce, by decide +kernel +zetaReduce, by decide +kernel +zetaReduce, by decide +kernel +zetaReduce, rfl, by decide +kernel +zetaReduce⟩)⟩

/-- States for `wit_PowerAndHeat`. -/
def sPowerAndHeat (n : Nat) : State :=
  ([st { pOn with pwr := { pOn.pwr with intervalAt := 300000000000 } },
    st pOn,
    run pOn (pk 0x82 0 0 []),
    run pOn (pk 0x83 0 0 (leBytes 2 900 ++ z 14)),
    st (domS 3 .sleep),
    st pSens,
    st { pOn with clk := { pOn.clk with cycles := 300000000003 } },
    st { pHeld with boot := { pHeld.boot with held := false }, pins := { pHeld.pins with pgIn := true, resetN := true } },
    st (pOn.regSet (aTsenseCfg 3) 1),
    run pOn pkT,
    run { pOn with log := { pOn.log with quench := [] } } (pkQ 0),
    run pQ (pkQ 5),
    run pQ (pkQ 6)] : List State).getD n State.reset

theorem wit_PowerAndHeat :
    (∃ (s : State), s.part.alive 0 = true ∧ s.part.now / 10000 ≤ s.part.pwr.intervalAt) ∧
    (∃ (s : State) (e : Nat) (m : Nat), s.part.alive 0 = true ∧ s.part.pwr.intervalAt < s.part.now / 10000 ∧ m = min e (intervalCeiling s.part.pwr.limit)) ∧
    (∃ (s : State) (i : Nat) (k : Bytes), Running s i 0x82 k) ∧
    (∃ (s : State) (i : Nat) (k : Bytes), Running s i 0x83 k) ∧
    (∃ (s : State) (d : Nat), isDie d = true ∧ (s.part.sensing d = false ∨ s.part.therm.quenched = true)) ∧
    (∃ (s : State) (d : Nat) (l : List (Option Int)) (i : Nat) (x : Int), isDie d = true ∧ s.part.sensing d = true ∧ s.part.therm.quenched = false ∧ quenchSensor (sensorCount d) l (s.part.sensor d) = some (i, x)) ∧
    (∃ (s : State) (d : Nat) (l : List (Option Int)), isDie d = true ∧ s.part.sensing d = true ∧ s.part.therm.quenched = false ∧ quenchSensor (sensorCount d) l (s.part.sensor d) = none) ∧
    (∃ (s : State), s.part.alive 0 = true ∧ 7 ≤ s.part.now % 10000000) ∧
    (∃ (s : State) (p : Machine.Part), s.part.alive 0 = true ∧ s.part.now % 10000000 < 7 ∧ p = (if 0 < s.part.therm.step then s.part.bump aThermCnt 0 32 1 else s.part) ∧ hottestSource p.throttleSources = none) ∧
    (∃ (s : State) (p : Machine.Part) (t : Int) (k : Nat) (n : Nat), s.part.alive 0 = true ∧ s.part.now % 10000000 < 7 ∧ p = (if 0 < s.part.therm.step then s.part.bump aThermCnt 0 32 1 else s.part) ∧ hottestSource p.throttleSources = some (t, k, n)) ∧
    (∃ (s : State) (i : Nat), isSensePair i = true ∧ s.part.alive 2 = true ∧ s.part.pairOff i = true) ∧
    (∃ (s : State) (i : Nat) (t : Int), isSensePair i = true ∧ s.part.alive 2 = true ∧ s.part.pairOff i = false ∧ (t < -160 ∨ 600 < t)) ∧
    (∃ (s : State) (i : Nat) (t : Int), isSensePair i = true ∧ s.part.alive 2 = true ∧ s.part.pairOff i = false ∧ -160 ≤ t ∧ t ≤ 600) ∧
    (∃ (s : State) (i : Nat) (k : Bytes), Running s i 0x84 k) ∧
    (∃ (s : State) (i : Nat) (k : Bytes) (top : Nat), Running s i 0x85 k ∧ (top = s.part.log.quench.foldl (fun m r => if qUncleared r.2 then max m (qSeq r.2) else m) 0) ∧ top = 0) ∧
    (∃ (s : State) (i : Nat) (k : Bytes) (top : Nat), Running s i 0x85 k ∧ (top = s.part.log.quench.foldl (fun m r => if qUncleared r.2 then max m (qSeq r.2) else m) 0) ∧ top ≠ 0 ∧ par k 0 4 ≠ top) ∧
    (∃ (s : State) (i : Nat) (k : Bytes) (top : Nat), Running s i 0x85 k ∧ (top = s.part.log.quench.foldl (fun m r => if qUncleared r.2 then max m (qSeq r.2) else m) 0) ∧ top ≠ 0 ∧ par k 0 4 = top) :=
  ⟨⟨sPowerAndHeat 0, by decide +kernel⟩,
   (let s : State := sPowerAndHeat 1; let e : Nat := 30000; let m : Nat := min e (intervalCeiling s.part.pwr.limit); ⟨s, e, m, by decide +kernel +zetaReduce⟩),
   (let s : State := sPowerAndHeat 2; let i : Nat := 3; let k : Bytes := ((s.part.ses i).cur).get (by decide +kernel +zetaReduce); ⟨s, i, k, by decide +kernel +zetaReduce⟩),
   (let s : State := sPowerAndHeat 3; let i : Nat := 3; let k : Bytes := ((s.part.ses i).cur).get (by decide +kernel +zetaReduce); ⟨s, i, k, by decide +kernel +zetaReduce⟩),
   ⟨sPowerAndHeat 4, 12, by decide +kernel⟩,
   (let s : State := sPowerAndHeat 5; let d : Nat := 1; let l : List (Option Int) := (List.replicate 16 (some 448) : List (Option Int)); let i : Nat := ((quenchSensor (sensorCount d) l (s.part.sensor d)).map Prod.fst).get (by decide +kernel +zetaReduce); let x : Int := ((quenchSensor (sensorCount d) l (s.part.sensor d)).map Prod.snd).get (by decide +kernel +zetaReduce); ⟨s, d, l, i, x, by decide +kernel +zetaReduce⟩),
   ⟨sPowerAndHeat 1, 12, [], by decide +kernel⟩,
   ⟨sPowerAndHeat 6, by decide +kernel⟩,
   (let s : State := sPowerAndHeat 7; let p : Machine.Part := (if 0 < s.part.therm.step then s.part.bump aThermCnt 0 32 1 else s.part); ⟨s, p, by decide +kernel +zetaReduce⟩),
   (let s : State := sPowerAndHeat 1; let p : Machine.Part := (if 0 < s.part.therm.step then s.part.bump aThermCnt 0 32 1 else s.part); let t : Int := ((hottestSource p.throttleSources).map fun z => z.1).get (by decide +kernel +zetaReduce); let k : Nat := ((hottestSource p.throttleSources).map fun z => z.2.1).get (by decide +kernel +zetaReduce); let n : Nat := ((hottestSource p.throttleSources).map fun z => z.2.2).get (by decide +kernel +zetaReduce); ⟨s, p, t, k, n, by decide +kernel +zetaReduce⟩),
   ⟨sPowerAndHeat 1, 3, by decide +kernel⟩,
   ⟨sPowerAndHeat 8, 3, -161, by decide +kernel⟩,
   ⟨sPowerAndHeat 8, 3, (0 : Int), by decide +kernel⟩,
   (let s : State := sPowerAndHeat 9; let i : Nat := 3; let k : Bytes := ((s.part.ses i).cur).get (by decide +kernel +zetaReduce); ⟨s, i, k, by decide +kernel +zetaReduce⟩),
   (let s : State := sPowerAndHeat 10; let i : Nat := 3; let k : Bytes := ((s.part.ses i).cur).get (by decide +kernel +zetaReduce); let top : Nat := s.part.log.quench.foldl (fun m r => if qUncleared r.2 then max m (qSeq r.2) else m) 0; ⟨s, i, k, top, by decide +kernel +zetaReduce⟩),
   (let s : State := sPowerAndHeat 11; let i : Nat := 3; let k : Bytes := ((s.part.ses i).cur).get (by decide +kernel +zetaReduce); let top : Nat := s.part.log.quench.foldl (fun m r => if qUncleared r.2 then max m (qSeq r.2) else m) 0; ⟨s, i, k, top, by decide +kernel +zetaReduce⟩),
   (let s : State := sPowerAndHeat 12; let i : Nat := 3; let k : Bytes := ((s.part.ses i).cur).get (by decide +kernel +zetaReduce); let top : Nat := s.part.log.quench.foldl (fun m r => if qUncleared r.2 then max m (qSeq r.2) else m) 0; ⟨s, i, k, top, by decide +kernel +zetaReduce⟩)⟩

/-- States for `wit_FreezesAndTraces`. -/
def sFreezesAndTraces (n : Nat) : State :=
  ([st (frz id),
    run pOn (pkF 0xF0 []),
    st (frz fun f => { f with t := 1919999999999, active := true }),
    run trc (pkF 0xF1 (leBytes 1 1 ++ [1, 0, 0] ++ leBytes 4 7 ++ z 8)),
    run trc (pkF 0xF2 (leBytes 4 3 ++ leBytes 2 1 ++ z 10)),
    run trc (pkF 0xF2 (leBytes 4 1 ++ leBytes 2 5 ++ z 10))] : List State).getD n State.reset

theorem wit_FreezesAndTraces :
    (∃ (s : State), (s.part.frz.active = true ∨ s.part.therm.quenched = true ∨ s.part.pins.pgIn = false ∨ s.part.boot.held = true ∨ s.part.boot.perstHeld = true)) ∧
    (∃ (s : State), s.part.frz.active = false ∧ s.part.pins.pgIn = true ∧ s.part.therm.quenched = false ∧ s.part.boot.held = false ∧ s.part.boot.perstHeld = false) ∧
    (∃ (s : State) (i : Nat) (k : Bytes), Running s i 0xF0 k) ∧
    (∃ (s : State), (s.part.frz.active = false ∨ s.part.frz.frozenLow = true)) ∧
    (∃ (s : State), s.part.frz.active = true ∧ s.part.frz.frozenLow = false ∧ s.part.now < s.part.frz.t + 1000) ∧
    (∃ (s : State), s.part.frz.active = true ∧ s.part.frz.frozenLow = false ∧ s.part.frz.t + 1000 ≤ s.part.now) ∧
    (∃ (s : State) (i : Nat) (k : Bytes), Running s i 0xF1 k) ∧
    (∃ (s : State) (i : Nat) (k : Bytes), Running s i 0xF2 k ∧ s.part.trace.entries.length < par k 0 4) ∧
    (∃ (s : State) (i : Nat) (k : Bytes), Running s i 0xF2 k ∧ par k 0 4 ≤ s.part.trace.entries.length) :=
  ⟨⟨sFreezesAndTraces 0, by decide +kernel⟩,
   ⟨sFreezesAndTraces 1, by decide +kernel⟩,
   (let s : State := sFreezesAndTraces 1; let i : Nat := 3; let k : Bytes := ((s.part.ses i).cur).get (by decide +kernel +zetaReduce); ⟨s, i, k, by decide +kernel +zetaReduce⟩),
   ⟨sFreezesAndTraces 1, by decide +kernel⟩,
   ⟨sFreezesAndTraces 2, by decide +kernel⟩,
   ⟨sFreezesAndTraces 0, by decide +kernel⟩,
   (let s : State := sFreezesAndTraces 3; let i : Nat := 3; let k : Bytes := ((s.part.ses i).cur).get (by decide +kernel +zetaReduce); ⟨s, i, k, by decide +kernel +zetaReduce⟩),
   (let s : State := sFreezesAndTraces 4; let i : Nat := 3; let k : Bytes := ((s.part.ses i).cur).get (by decide +kernel +zetaReduce); ⟨s, i, k, by decide +kernel +zetaReduce⟩),
   (let s : State := sFreezesAndTraces 5; let i : Nat := 3; let k : Bytes := ((s.part.ses i).cur).get (by decide +kernel +zetaReduce); ⟨s, i, k, by decide +kernel +zetaReduce⟩)⟩

/-- States for `wit_TapScans`. -/
def sTapScans (n : Nat) : State :=
  ([st Part.reset,
    st pOn,
    st (pFrz id),
    st (pFrz fun x => { x with arrayOp := some { arr with at_ := pOn.now } }),
    st (pFrz fun x => { x with arrayOp := some arr })] : List State).getD n State.reset

theorem wit_TapScans :
    (∃ (s : State) (c : Instr) (code : Nat) (n : Nat) (din : Nat) (l : List (Int × Bool)), s.part.pins.pgIn = false ∧ c ∈ [Instr.extest n din, .samplePreload n din, .idcode n din, .fzStatus n din, .dieSel n din, .scanRead n din, .arrayRead n din l, .arrayReadComplete, .bypass code n din, .tapReset]) ∧
    (∃ (s : State) (len : Nat) (cap : Nat), s.part.pins.pgIn = true ∧ len = Config.boundaryLen s.part.log.stepping ∧ cap = Config.boundaryCapture s.part.freeTick) ∧
    (∃ (s : State) (n : Nat), s.part.pins.pgIn = true ∧ n = 1) ∧
    (∃ (s : State), s.part.pins.pgIn = true ∧ s.part.frozen = false) ∧
    (∃ (s : State) (key : Nat) (len : Nat), s.part.pins.pgIn = true ∧ s.part.frozen = true ∧ key = s.part.frz.selDie * 256 + s.part.frz.selChain ∧ len = Config.chainLen s.part.log.stepping s.part.frz.selDie s.part.frz.selChain) ∧
    (∃ (s : State) (n : Nat) (din : Nat) (cap : Nat) (word : Nat), s.part.pins.pgIn = true ∧ s.part.frozen = true ∧ cap = (if s.part.frz.source = true then arrayBits s.part.frz.capturedWord s.part.frz.captured else 0) ∧ word = shiftIn 4712 cap n din % 2 ^ 32) ∧
    (∃ (s : State), s.part.pins.pgIn = true ∧ s.part.frozen = true ∧ s.part.frz.arrayOp = none) ∧
    (∃ (s : State) (a : ArrayOp), s.part.pins.pgIn = true ∧ s.part.frozen = true ∧ s.part.frz.arrayOp = some a ∧ s.part.now < a.at_ + 1000) ∧
    (∃ (s : State) (a : ArrayOp), s.part.pins.pgIn = true ∧ s.part.frozen = true ∧ s.part.frz.arrayOp = some a ∧ a.at_ + 1000 ≤ s.part.now) :=
  ⟨⟨sTapScans 0, .extest 64 77, 0xFF, 64, 77, [], by decide +kernel⟩,
   (let s : State := sTapScans 1; let len : Nat := Config.boundaryLen s.part.log.stepping; let cap : Nat := Config.boundaryCapture s.part.freeTick; ⟨s, len, cap, by decide +kernel +zetaReduce, rfl, rfl⟩),
   (let n : Nat := 1; ⟨sTapScans 1, n, by decide +kernel +zetaReduce, rfl⟩),
   ⟨sTapScans 1, by decide +kernel⟩,
   (let s : State := sTapScans 2; let key : Nat := s.part.frz.selDie * 256 + s.part.frz.selChain; let len : Nat := Config.chainLen s.part.log.stepping s.part.frz.selDie s.part.frz.selChain; ⟨s, key, len, by decide +kernel +zetaReduce, by decide +kernel +zetaReduce, rfl, rfl⟩),
   (let s : State := sTapScans 2; let n : Nat := 64; let din : Nat := 77; let cap : Nat := (if s.part.frz.source = true then arrayBits s.part.frz.capturedWord s.part.frz.captured else 0); let word : Nat := shiftIn 4712 cap n din % 2 ^ 32; ⟨s, n, din, cap, word, by decide +kernel +zetaReduce, by decide +kernel +zetaReduce, rfl, rfl⟩),
   ⟨sTapScans 2, by decide +kernel⟩,
   (let s : State := sTapScans 3; let a : ArrayOp := (s.part.frz.arrayOp).get (by decide +kernel +zetaReduce); ⟨s, a, by decide +kernel +zetaReduce⟩),
   (let s : State := sTapScans 4; let a : ArrayOp := (s.part.frz.arrayOp).get (by decide +kernel +zetaReduce); ⟨s, a, by decide +kernel +zetaReduce⟩)⟩

/-- States for `wit_RegistersAreWritten`. -/
def sRegistersAreWritten (n : Nat) : State :=
  ([st pOn,
    st (boot fun b => { b with stage := 1 })] : List State).getD n State.reset

theorem wit_RegistersAreWritten :
    (∃ (s : State) (a : Nat), s.part.alive 2 = true ∧ findReg a = none ∧ a < bar4Base) ∧
    (∃ (s : State) (a : Nat) (n : Nat) (x : Nat), s.part.alive 2 = true ∧ findReg a = none ∧ bar4Base ≤ a ∧ a = bar4Base + 16 * x + 8 ∧ x < 65 ∧ n = 4) ∧
    (∃ (s : State) (a : Nat) (n : Nat) (r : RegDesc) (l : List Nat), s.part.alive 2 = true ∧ findReg a = some (r, l) ∧ (8 * n ≠ r.width ∨ s.part.alive (dieDomain (a / windowBytes)) = false ∨ s.part.hostReaches (a / windowBytes) = false ∨ s.part.hostOwned r.name (a / windowBytes - 12) (nth 0 l 0) = true)) ∧
    (∃ (s : State) (a : Nat) (r : RegDesc) (l : List Nat), s.part.alive 2 = true ∧ findReg a = some (r, l) ∧ s.part.boot.stage < 2 ∧ a / windowBytes ≠ 1) ∧
    (∃ (s : State) (a : Nat) (n : Nat) (r : RegDesc) (l : List Nat), s.part.alive 2 = true ∧ findReg a = some (r, l) ∧ 8 * n = r.width ∧ s.part.alive (dieDomain (a / windowBytes)) = true ∧ s.part.hostReaches (a / windowBytes) = true ∧ s.part.hostOwned r.name (a / windowBytes - 12) (nth 0 l 0) = false) ∧
    (∃ (s : State), s.part.alive 2 = true ∧ s.part.alive 1 = true ∧ 2 ≤ s.part.boot.stage ∧ s.part.domSt 1 = .on) ∧
    (∃ (s : State) (c : Nat) (a : Nat), isCore c = true ∧ s.part.alive 1 = true ∧ findReg a = none ∧ c < 16) ∧
    (∃ (s : State) (c : Nat) (a : Nat), isCore c = true ∧ s.part.alive 1 = true ∧ findReg a = none ∧ 16 ≤ c) ∧
    (∃ (s : State) (c : Nat) (a : Nat) (r : RegDesc) (l : List Nat), isCore c = true ∧ s.part.alive 1 = true ∧ findReg a = some (r, l) ∧ 16 ≤ c ∧ policyWrites c r.name (nth 0 l 0) = false) ∧
    (∃ (s : State) (c : Nat) (a : Nat) (n : Nat) (r : RegDesc) (l : List Nat), isCore c = true ∧ s.part.alive 1 = true ∧ findReg a = some (r, l) ∧ (c < 16 ∨ policyWrites c r.name (nth 0 l 0) = true) ∧ (8 * n ≠ r.width ∨ s.part.alive (dieDomain (a / windowBytes)) = false)) ∧
    (∃ (s : State) (c : Nat) (a : Nat) (n : Nat) (r : RegDesc) (l : List Nat), isCore c = true ∧ s.part.alive 1 = true ∧ findReg a = some (r, l) ∧ (c < 16 ∨ policyWrites c r.name (nth 0 l 0) = true) ∧ 8 * n = r.width ∧ s.part.alive (dieDomain (a / windowBytes)) = true) ∧
    (∃ (f : RegField), f.lo + f.width ≤ 64 ∧ f.acc = .rw) ∧
    (∃ (v : Word64) (f : RegField), f.lo + f.width ≤ 64 ∧ f.acc = .wc ∧ getBits v f.lo f.width ≠ 0) ∧
    (∃ (v : Word64) (f : RegField), f.lo + f.width ≤ 64 ∧ f.acc = .wc ∧ getBits v f.lo f.width = 0) ∧
    (∃ (f : RegField), f.lo + f.width ≤ 64 ∧ f.acc = .wo) ∧
    (∃ (f : RegField) (lo : Nat) (w : Nat), f.lo + f.width ≤ 64 ∧ lo + w ≤ 64 ∧ (lo + w ≤ f.lo ∨ f.lo + f.width ≤ lo)) :=
  ⟨⟨sRegistersAreWritten 0, 3, by decide +kernel⟩,
   (let n : Nat := 4; ⟨sRegistersAreWritten 0, bar4Base + 8, n, 0, by decide +kernel +zetaReduce⟩),
   (let a : Nat := aRstCfg; let r : RegDesc := ((findReg a).map Prod.fst).get (by decide +kernel +zetaReduce); let l : List Nat := ((findReg a).map Prod.snd).get (by decide +kernel +zetaReduce); ⟨sRegistersAreWritten 0, a, 4, r, l, by decide +kernel +zetaReduce⟩),
   (let a : Nat := aRstCfg; let r : RegDesc := ((findReg a).map Prod.fst).get (by decide +kernel +zetaReduce); let l : List Nat := ((findReg a).map Prod.snd).get (by decide +kernel +zetaReduce); ⟨sRegistersAreWritten 1, a, r, l, by decide +kernel +zetaReduce⟩),
   (let a : Nat := aRstCfg; let r : RegDesc := ((findReg a).map Prod.fst).get (by decide +kernel +zetaReduce); let l : List Nat := ((findReg a).map Prod.snd).get (by decide +kernel +zetaReduce); ⟨sRegistersAreWritten 0, a, 8, r, l, by decide +kernel +zetaReduce⟩),
   ⟨sRegistersAreWritten 0, by decide +kernel⟩,
   ⟨sRegistersAreWritten 0, 3, bar4Base + 8, by decide +kernel⟩,
   ⟨sRegistersAreWritten 0, 16, bar4Base + 8, by decide +kernel⟩,
   (let a : Nat := aRstCfg; let r : RegDesc := ((findReg a).map Prod.fst).get (by decide +kernel +zetaReduce); let l : List Nat := ((findReg a).map Prod.snd).get (by decide +kernel +zetaReduce); ⟨sRegistersAreWritten 0, 16, a, r, l, by decide +kernel +zetaReduce⟩),
   (let a : Nat := aRstCfg; let r : RegDesc := ((findReg a).map Prod.fst).get (by decide +kernel +zetaReduce); let l : List Nat := ((findReg a).map Prod.snd).get (by decide +kernel +zetaReduce); ⟨sRegistersAreWritten 0, 3, a, 4, r, l, by decide +kernel +zetaReduce⟩),
   (let a : Nat := aRstCfg; let r : RegDesc := ((findReg a).map Prod.fst).get (by decide +kernel +zetaReduce); let l : List Nat := ((findReg a).map Prod.snd).get (by decide +kernel +zetaReduce); ⟨sRegistersAreWritten 0, 3, a, 8, r, l, by decide +kernel +zetaReduce⟩),
   ⟨fld_ .rw, by decide +kernel⟩,
   ⟨0xFF0, fld_ .wc, by decide +kernel⟩,
   ⟨7, fld_ .wc, by decide +kernel⟩,
   ⟨fld_ .wo, by decide +kernel⟩,
   ⟨fld_ .rw, 12, 8, by decide +kernel⟩⟩

/-! ### Witnesses of the general statements -/

theorem wit_StepRunsTheFrontCommand :
    (∃ (c : Instr) (l : List Instr) (s : State), s.pending = c :: l) ∧ ∃ s : State, s.pending = [] :=
  ⟨⟨.powerOn, [.nop 3], { State.reset with pending := [.powerOn, .nop 3] }, rfl⟩, State.reset, rfl⟩

theorem wit_ResetState : isDomain 1 = true ∧ isDomain 19 = true ∧ isSession 63 = true := by decide

theorem wit_CommandsCompleteExactlyWhenWellFormed : (Instr.nop 63).wf = true ∧ (Instr.nop 64).wf = false := by decide

/-- A command that changes the part, and that leaves both memories alone. -/
theorem wit_CommandsKeepQueueAndMemories :
    ∃ t, exec .powerOn State.reset = .next t ∧ t.part.pins.pgIn = true ∧ Instr.powerOn.writesStacks = false ∧ Instr.powerOn.writesPages = false :=
  ⟨_, rfl, by decide +kernel, rfl, rfl⟩

theorem wit_CommandsChangeOnlyTheirPieces :
    ∃ t, exec .powerOn State.reset = .next t ∧ t ≠ State.reset ∧ Piece.kv ∉ Instr.powerOn.changes :=
  ⟨_, rfl, by decide +kernel, by decide⟩

theorem wit_StepsKeepTheMemoriesCanonical :
    ∃ s t : State, s.canonical = true ∧ step s = .next t ∧ s ≠ t :=
  ⟨{ State.reset with pending := [.powerOn] }, _, by decide +kernel, rfl, by decide +kernel⟩

/-- Each of the five ways to stand still, and a command that then does nothing. -/
theorem wit_AStoppedPartDoesNothing :
    (st Part.reset).part.pins.pgIn = false ∧
    (st { pOn with boot := { pOn.boot with held := true } }).part.boot.held = true ∧
    (st { pOn with boot := { pOn.boot with perstHeld := true } }).part.boot.perstHeld = true ∧
    (st { pOn with therm := { pOn.therm with quenched := true } }).part.therm.quenched = true ∧
    (st { pOn with frz := { pOn.frz with active := true } }).part.frz.active = true ∧
    (Instr.nop 3).wf = true ∧ (Instr.nop 3).actsWhenStopped = false := by decide +kernel

/-- A NOP in execution, with and without QUIET, and another session. -/
theorem wit_CommandsEndWithOneReply :
    (∃ (p : Machine.Part) (i status : Nat) (body k : Bytes), (p.ses i).cur = some k ∧ (p.ses i).st ≠ .closed ∧
      quieted (pkOp k) (pkFlags k) status body = false ∧ status ≠ stOk ∧ status ≠ stAlreadyDone) ∧
    (∃ (p : Machine.Part) (i status : Nat) (body k : Bytes), (p.ses i).cur = some k ∧ (p.ses i).st ≠ .closed ∧
      quieted (pkOp k) (pkFlags k) status body = true ∧ (status = stOk ∨ status = stAlreadyDone)) ∧
    ∃ i j : Nat, j ≠ i :=
  ⟨⟨(run pOn (pk 1 0 0 [])).part, 3, stBadParam, [], pk 1 0 0 [], by decide +kernel⟩,
   ⟨(run pOn (pk 1 2 0 [])).part, 3, stOk, [], pk 1 2 0 [], by decide +kernel⟩, 0, 1, by decide⟩

/-- The field at the top of a register, a field below it, and another register; a write of the counter in the same cycle. -/
theorem wit_CountersSaturate :
    (∃ lo w l v a b : Nat, lo + w ≤ 64 ∧ l + v ≤ 64 ∧ (l + v ≤ lo ∨ lo + w ≤ l) ∧ b ≠ a) ∧
    ∃ (lo w : Nat) (v : Word64) (f : RegField), lo + w ≤ 64 ∧ f.lo = lo ∧ f.width = w ∧ f.acc = .wc ∧ getBits v lo w ≠ 0 :=
  ⟨⟨48, 16, 32, 16, 0, 1, by decide⟩, 48, 16, 0x0001000000000000, ⟨48, 16, .wc, 0⟩, by decide +kernel⟩

/-- The largest PART_ID and coordinates, and a PORT_CFG that passes. -/
theorem wit_PartIdsAreCoordinates :
    65535 < 65536 ∧ (63 < 64 ∧ 31 < 32 ∧ 31 < 32) ∧
    ∃ k : Bytes, portCfgFail k = none ∧ par k 0 2 = 1024 :=
  ⟨by decide, by decide, pk 0 0 0 (leBytes 2 1024 ++ [2, 1, 1] ++ z 3 ++ List.replicate 16 6 ++ z 40), by decide +kernel⟩

/-- CERT_READ with KIND `n`. -/
def certPk (n : Nat) : Bytes := pk 0x0D 0 0 (leBytes 1 n ++ z 15)

theorem wit_CertificatesAreRead :
    (∀ n, n = 1 ∨ n = 2 ∨ n = 3 ∨ n = 4 → Running (run pOn (certPk n)) 3 0x0D (certPk n) ∧ par (certPk n) 0 1 = n) ∧
    (∀ n, n = 0 ∨ n = 1 ∨ n = 4 ∨ n = 5 ∨ n = 255 → pkOp (certPk n) = 0x0D ∧ pkFlags (certPk n) = 0 ∧ pkEpoch (certPk n) = 0 ∧
      pkLen (certPk n) = 32 ∧ par (certPk n) 0 1 = n ∧ parZ (certPk n) 1 15 = true) ∧
    parZ (pk 0x0D 0 0 (z 15 ++ [1])) 1 15 = false := by
  refine ⟨?_, ?_, by decide +kernel⟩
  · rintro n (h | h | h | h) <;> subst h <;> decide +kernel
  · rintro n (h | h | h | h | h) <;> subst h <;> decide +kernel

theorem wit_BandsFollowTheReading :
    [179, 180, 279, 280, 359, 360].map bandOf = [0, 1, 1, 2, 2, 3] ∧ isHot 400 = false ∧ isHot 401 = true := by decide

theorem wit_BeforeFirmware : ∃ (s : State) (a : Nat), s.part.boot.stage < 2 ∧ a < bar4Base ∧ a / windowBytes ≠ 1 :=
  ⟨State.reset, 0, by decide +kernel⟩

/-- The last column, and a row of weights. -/
theorem wit_WeightsSitInTheirBits :
    (∃ (row : Bytes) (j : Nat), row.length = 128 ∧ j < 512 ∧ j = 511) ∧
    (∃ a b : Bytes, a.length = 128 ∧ b.length = 128 ∧ ∀ j, j < 512 → rowCode a j = rowCode b j) ∧
    (∃ c f : Nat, c < 4 ∧ f < 3 ∧ badCode f c = true) ∧ ∃ c f : Nat, c < 4 ∧ f < 3 ∧ badCode f c = false :=
  ⟨⟨z 128, 511, by decide +kernel⟩, ⟨z 128, z 128, by decide +kernel, by decide +kernel, fun _ _ => rfl⟩, ⟨2, 0, by decide⟩, 3, 2, by decide⟩

theorem wit_FloatingElementsDecode :
    (∃ v : Nat, v < 256 ∧ v ≠ 0x7F ∧ v ≠ 0xFF ∧ v / 4 % 32 ≠ 31) ∧ (∃ v : Nat, v < 256 ∧ v / 4 % 32 = 31 ∧ v % 4 = 0) ∧
    ∃ v : Nat, v < 256 ∧ v / 4 % 32 = 31 ∧ v % 4 ≠ 0 :=
  ⟨⟨0x7B, by decide⟩, ⟨0xFC, by decide⟩, 0xFF, by decide⟩

/-! ### Witnesses whose case rests on a function that the model leaves open

Which of the cases holds depends on what that function gives; each is met by its own state. -/

/-- The part with the model keys `l` installed. -/
def keyed (l : List (Nat × BitVec 256)) : Machine.Part := { pOn with sec := { pOn.sec with keys := l } }

theorem wit_KeysAndAttestation_install :
    Running (run pOn pkKey) 3 0x24 pkKey ∧ (run pOn pkKey).part.unwrapKey pkKey = none ∨
    ∃ x, (Running (run (keyed [(5, x)]) pkKey) 3 0x24 pkKey ∧ (run (keyed [(5, x)]) pkKey).part.unwrapKey pkKey = some x ∧
        mfind (run (keyed [(5, x)]) pkKey).part.sec.keys (par pkKey 0 4) = some x) ∧
      (Running (run (keyed [(5, x + 1)]) pkKey) 3 0x24 pkKey ∧ (run (keyed [(5, x + 1)]) pkKey).part.unwrapKey pkKey = some x ∧
        mfind (run (keyed [(5, x + 1)]) pkKey).part.sec.keys (par pkKey 0 4) = some (x + 1) ∧ x + 1 ≠ x) ∧
      (Running (run (keyed []) pkKey) 3 0x24 pkKey ∧ (run (keyed []) pkKey).part.unwrapKey pkKey = some x ∧
        mfind (run (keyed []) pkKey).part.sec.keys (par pkKey 0 4) = none ∧ (run (keyed []) pkKey).part.sec.keys.length < 4096) := by
  have hl (l : List (Nat × BitVec 256)) : (run (keyed l) pkKey).part.unwrapKey pkKey = pOn.unwrapKey pkKey := rfl
  have hr (l : List (Nat × BitVec 256)) : Running (run (keyed l) pkKey) 3 0x24 pkKey := ⟨rfl, rfl, rfl, rfl⟩
  have hp : par pkKey 0 4 = 5 := by decide +kernel
  cases h : pOn.unwrapKey pkKey with
  | none => exact Or.inl ⟨hr _, h⟩
  | some x =>
    refine Or.inr ⟨x, ⟨hr _, (hl _).trans h, ?_⟩, ⟨hr _, (hl _).trans h, ?_, by bv_omega⟩, hr _, (hl _).trans h, ?_, ?_⟩
    · rw [hp]; rfl
    · rw [hp]; rfl
    · rw [hp]; rfl
    · exact Nat.zero_lt_succ _

/-- The table of model keys is full. -/
theorem wit_KeysAndAttestation_full :
    ∃ l : List (Nat × BitVec 256), mfind l (par pkKey 0 4) = none ∧ 4096 ≤ l.length :=
  ⟨List.replicate 4096 (6, 1), by decide +kernel⟩

/-- A debug authorisation of phase 1 whose debug key digest is `d`. -/
def dbg (d : Bytes) : State :=
  run { pOn with sec := { pOn.sec with challenge := some ⟨z 64, some 1919999999999⟩, cert := z 228 ++ d ++ z 732 } } (pkD 1)

/-- Everything but the signature, which is the model's free function of the message. -/
theorem wit_KeysAndAttestation_debug : ∃ (s : State) (k : Bytes) (c : Challenge),
    Running s 3 0xF3 k ∧ par k 0 1 = 1 ∧ s.part.sec.challenge = some c ∧ sha (slice k 32 133) = slice s.part.sec.cert 228 64 ∧
    c.fresh s.part.now = true :=
  ⟨dbg (sha (slice (pkD 1) 32 133)), pkD 1, ⟨z 64, some 1919999999999⟩, ⟨rfl, rfl, rfl, rfl⟩, by decide +kernel, rfl,
    by set_option maxRecDepth 20000 in rfl, by decide +kernel⟩

/-- A header of 4,096 bytes that fits version 1 of model 5, and 4,096 bytes after it. -/
def ingot : Bytes :=
  ingotMagic ++ [1, 0, 1, 0] ++ leBytes 4 5 ++ [1, 0, 0, 0, 0, 0, 1, 0] ++ leBytes 4 4096 ++ z 92 ++ [1, 0, 0, 0] ++ leBytes 4 1 ++ z 128 ++
    [3, 4, 0, 0, 0, 0, 1, 0] ++ z 4 ++ leBytes 4 4096 ++ z 3824 ++ z 4096

/-- An ingot that fits ends in its plaintext, or in one of the causes UNWRAP, TAG and DIGEST. -/
theorem wit_ShardsAreStagedAndScrubbed_plain :
    (∃ b, ingotCheck { ver0 with st := .loading } 0 (some 9) ingot = .inl b) ∨
    ∃ c, ingotCheck { ver0 with st := .loading } 0 (some 9) ingot = .inr c ∧ c ≠ causeHeader ∧ c ≠ causeKey := by
  have h1 : (!headerFits { ver0 with st := .loading } 0 (ingot.take 4096) (ingot.drop 4096).length || !sectionsFit (ingot.take 4096)) = false := by
    decide +kernel
  simp only [ingotCheck, h1, Bool.false_eq_true, if_false]
  split
  · exact Or.inr ⟨_, rfl, by decide⟩
  · split
    · exact Or.inr ⟨_, rfl, by decide⟩
    · split
      · exact Or.inl ⟨_, rfl⟩
      · exact Or.inr ⟨_, rfl, by decide⟩

/-- A written host tier copy that has come back. -/
def tierBack : State := st (mdl (tiered fun x => { x with held := false, got := z 64, tier := some (tc true) }))

/-- A tier copy that came back opens to bytes with the shard's digest, or does not. -/
theorem wit_IngotsAndTierCopiesTravel_readback : ∃ (x : Shard) (t : TierCopy) (o : Option Bytes),
    tierBack.part.shard 0 0 = some x ∧ x.tier = some t ∧ t.written = true ∧ x.held = false ∧ t.peer = false ∧ x.got ≠ [] ∧
    o = Config.gcmOpen tierBack.part.tierKey (x.got.take 12) [] (bytesAt x.got 12 (x.got.length - 16 - 12)) (x.got.drop (x.got.length - 16)) ∧
    ((∃ b, o = some b ∧ sha b = bytesAt x.header 128 64) ∨ (o = none ∨ ∃ b, o = some b ∧ sha b ≠ bytesAt x.header 128 64)) ∧
    (tierBack.part.takeSpace (stripeAddr 4) 4).isSome = true := by
  refine ⟨_, _, _, rfl, rfl, rfl, rfl, rfl, by decide, rfl, ?_, by decide +kernel⟩
  cases Config.gcmOpen _ _ _ _ _ with
  | none => exact Or.inr (Or.inl rfl)
  | some b => exact (Classical.em (sha b = _)).imp (fun h => ⟨b, rfl, h⟩) fun h => Or.inr ⟨b, rfl, h⟩

/-- Bring-up waits for domain 1: the image verifies, or it does not. -/
theorem wit_BringUp_image : ∃ s : State, s.part.alive 0 = true ∧ s.part.boot.stage = 1 ∧ s.part.clk.ref156 = true ∧
    s.part.boot.dieUp.testBit 0 = true ∧ s.part.flash ≠ [] ∧ s.part.domSt 1 ≠ .on ∧
    ((s.part.verifyFirmware).isSome = true ∨ s.part.verifyFirmware = none) := by
  refine ⟨st { domS 1 .closing with boot := { pOn.boot with stage := 1 }, flash := [(0, 1)] }, by decide +kernel, by decide +kernel, by decide +kernel,
    by decide +kernel, by decide, by decide +kernel, ?_⟩
  cases Part.verifyFirmware _ with
  | none => exact Or.inr rfl
  | some q => exact Or.inl rfl

/-- Domain 1 starts in bring-up or wakes in service: the image verifies, or it does not; the saved state is restored, or there is none. -/
theorem wit_DomainsSleepWakeAndRamp_image : ∃ s : State, s.part.alive 0 = true ∧ (s.part.dom 1).st = .starting ∧ s.part.domainReady 1 = true ∧
    s.part.clk.ref156 = true ∧ (s.part.verifyFirmware = none ∨ ∃ q p, s.part.verifyFirmware = some q ∧
      p = { q with pins := { q.pins with xspi := q.pins.xspi && decide (q.boot.stage < 2) } } ∧
      ((q.boot.stage < 2 ∨ q.boot.stage = 7) ∨ 2 ≤ q.boot.stage ∧ q.boot.stage ≠ 7 ∧ (p.restoreImage = none ∨ (p.restoreImage).isSome = true))) := by
  refine ⟨st { domS 1 .starting with flash := [(0, 1)] }, by decide +kernel, by decide +kernel, by decide +kernel, by decide +kernel, ?_⟩
  cases Part.verifyFirmware _ with
  | none => exact Or.inl rfl
  | some q =>
    refine Or.inr ⟨q, _, rfl, rfl, ?_⟩
    by_cases h : q.boot.stage < 2 ∨ q.boot.stage = 7
    · exact Or.inl h
    · refine Or.inr ⟨by omega, by omega, ?_⟩
      cases Part.restoreImage _ with
      | none => exact Or.inl rfl
      | some _ => exact Or.inr rfl

theorem mfind_all {α : Type} (v : α) (l : List Nat) (k : Nat) (h : k ∈ l) : mfind (l.map fun i => (i, v)) k = some v := by
  induction l with
  | nil => cases h
  | cons a l ih =>
    unfold mfind
    by_cases e : a = k
    · simp [List.map, e]
    · simp [List.map, e, ih (by simpa [Ne.symm e] using h)]

/-- Every sequence slot, taken. -/
def fullSlots : List (Nat × KvSlot) := (List.range 16384).map fun i => (i, { KvSlot.reset with assigned := true })

/-- Every sequence slot is taken, and the partner's journal holds a request. -/
def allTaken : Machine.Part :=
  { jrS false 0 with kv := { Kv.reset with slots := fullSlots } }

theorem wit_JournalsAndPartners_slots : ∃ (p : Machine.Part) (v : JSrc) (j : JReq), p.jsrc 5 = some v ∧
    v.reqs.find? (fun r => r.id == 77) = some j ∧ j.lost = false ∧ 1 ≤ j.tokens.length ∧ (p.reqOf 77).isSome = false ∧ p.freeSlot [] = none := by
  refine ⟨allTaken, _, _, rfl, rfl, by decide +kernel, by decide +kernel, by decide +kernel, ?_⟩
  unfold Part.freeSlot
  rw [List.find?_eq_none]
  intro x hx
  have : (allTaken.kvSlot x).assigned = true := by
    unfold Part.kvSlot mget allTaken
    simp only
    unfold fullSlots
    rw [mfind_all _ _ _ hx]
    rfl
  simp [this]

theorem reserve_none (p : Machine.Part) (a n : Nat) (h : ∀ c, c < 8 → c ≠ a → p.domSt (3 + c) ≠ .on) : p.reserve a n = [] := by
  have e : (List.range 16384).filter (p.reservable a) = [] := by
    rw [List.filter_eq_nil_iff]
    intro k hk
    have hk := List.mem_range.1 hk
    by_cases q : k / 2048 = a
    · simp [Part.reservable, q]
    · simp [Part.reservable, h (k / 2048) (by omega) q]
  simp [Part.reserve, e]

/-- Domain 3 is ON with a pinned bank, and no other ACD is in service. -/
def lonely : Machine.Part :=
  { pin3 with pwr := { pin3.pwr with dom := allOn.map fun x => (x.1, { domOn with st := if 4 ≤ x.1 ∧ x.1 ≤ 10 then .sleep else .on }) } }

theorem wit_DomainsSleepWakeAndRamp_reserve : ∃ (s : State) (k : Bytes), Running s 3 0x80 k ∧ par k 0 1 = 3 ∧ s.part.domSt 3 = .on ∧
    (s.part.reserve 0 (s.part.pinnedOn 0).length).length < (s.part.pinnedOn 0).length := by
  refine ⟨run lonely (pkS 0x80 3), pkS 0x80 3, by decide +kernel, by decide +kernel, by decide +kernel, ?_⟩
  rw [reserve_none]
  · decide +kernel
  · intro c h n; revert n; revert c; decide +kernel

end Sys2Proof.Tests
end

/-! SUPPORT. The state right after reset. -/
namespace Sys2Proof.Machine

/-- No register word is stored at reset, so each reads as its reset value (R10). -/
theorem regGet_reset (a : Nat) : Part.reset.regGet a = regReset a := mget_nil _ _

/-- Every domain but the AON island is in SLEEP (R399). -/
theorem domSt_reset {d : Nat} (h : isDomain d = true) : Part.reset.domSt d = .sleep := by
  have hd : d ≠ 0 := by
    simp only [isDomain, decide_eq_true_eq] at h
    omega
  simp only [Part.domSt, hd, if_false]
  rfl

theorem ses_reset (i : Nat) : Part.reset.ses i = Session.reset := mget_nil _ _

/-- Without power no unit can act (R397). -/
theorem alive_of_unpowered {p : Part} (h : p.pins.pgIn = false) (d : Nat) : p.alive d = false := by
  simp [Part.alive, h]

end Sys2Proof.Machine

namespace Sys2Proof

open Machine

/-- Settles O2: at reset every table is empty, so each entry reads as its reset record. -/
theorem resetState : Obligations.ResetState := by
  unfold Obligations.ResetState
  refine ⟨rfl, rfl, rfl, rfl, rfl, regGet_reset, fun _ => domSt_reset, fun i _ => ?_, alive_of_unpowered rfl⟩
  exact congrArg Session.st (ses_reset i)

end Sys2Proof

/-! SUPPORT. One field of a register write by its access code (R7 to R9). -/
namespace Sys2Proof.Machine

/-- Replacing a field by bits of its own width leaves those bits in it. -/
theorem getBits_setBits_getBits (x v : Word64) (lo w : Nat) (h : lo + w ≤ 64) :
    getBits (setBits x lo w (getBits v lo w)) lo w = getBits v lo w := by
  rw [getBits_setBits _ _ _ _ h, getBits, Nat.mod_mod]

theorem writeField_rw (hits old v : Word64) (f : RegField) (h : f.lo + f.width ≤ 64) (ha : f.acc = .rw) :
    getBits (writeField hits old v f) f.lo f.width = getBits v f.lo f.width := by
  simp only [writeField, ha]
  exact getBits_setBits_getBits old v f.lo f.width h

/-- A WC field that a write clears keeps what it counted in the cycle (R8, log entry 140). -/
theorem writeField_wc_clear (hits old v : Word64) (f : RegField) (h : f.lo + f.width ≤ 64) (ha : f.acc = .wc)
    (hv : getBits v f.lo f.width ≠ 0) :
    getBits (writeField hits old v f) f.lo f.width = getBits hits f.lo f.width := by
  simp only [writeField, ha, hv, if_false]
  exact getBits_setBits_getBits old hits f.lo f.width h

theorem writeField_wc_keep (hits old v : Word64) (f : RegField) (ha : f.acc = .wc) (hv : getBits v f.lo f.width = 0) :
    writeField hits old v f = old := by
  simp only [writeField, ha, hv, if_true]

theorem writeField_wo (hits old v : Word64) (f : RegField) (ha : f.acc = .wo) : writeField hits old v f = old := by
  simp only [writeField, ha]

/-- A write of one field leaves the bits outside it (R9). -/
theorem writeField_other (hits old v : Word64) (f : RegField) (lo w : Nat) (h : f.lo + f.width ≤ 64)
    (d : lo + w ≤ f.lo ∨ f.lo + f.width ≤ lo) : getBits (writeField hits old v f) lo w = getBits old lo w := by
  cases ha : f.acc with
  | rw =>
    simp only [writeField, ha]
    exact getBits_setBits_ne _ _ _ _ _ _ h d
  | wc =>
    by_cases hv : getBits v f.lo f.width = 0
    · rw [writeField_wc_keep _ _ _ f ha hv]
    · simp only [writeField, ha, hv, if_false]
      exact getBits_setBits_ne _ _ _ _ _ _ h d
  | wo => rw [writeField_wo _ _ _ f ha]

end Sys2Proof.Machine

/-! SUPPORT. Counters of register words (R8). -/
namespace Sys2Proof.Machine

theorem satAdd_lt (w a n : Nat) : satAdd w a n < 2 ^ w := by
  have := Nat.two_pow_pos w
  simp only [satAdd]
  omega

/-- What a register has counted in the cycle, after counting in it once more. -/
theorem regHits_bump (p : Part) (a lo w n : Nat) :
    (p.bump a lo w n).regHits a = setBits (p.regHits a) lo w (satAdd w (getBits (p.regHits a) lo w) n) := by
  simp [Part.bump, Part.regHits, RegFile.note, Part.regSet]

end Sys2Proof.Machine

namespace Sys2Proof

open Machine

/-- Settles O9: the field and the count of the cycle are both the saturating sum, and the write takes the second. -/
theorem countersSaturate : Obligations.CountersSaturate := by
  unfold Obligations.CountersSaturate
  intro p a lo w n h
  refine ⟨?field, fun l v _ d => regFld_bump_field p a lo w n l v h d, fun b hb => regGet_bump_ne p a b lo w n hb, ?write⟩
  case field => rw [regFld_bump p a lo w n h, satAdd, Nat.min_comm]
  case write =>
    rintro v f rfl rfl ha hv
    rw [writeField_wc_clear _ _ _ f h ha hv, regHits_bump, getBits_setBits _ _ _ _ h, Nat.mod_eq_of_lt (satAdd_lt _ _ _),
      satAdd, Nat.min_comm]

end Sys2Proof

/-! SUPPORT. REGISTER_WRITE: which writes are discarded, which reach BAR4, and which reach a register. -/
namespace Sys2Proof.Machine

/-! ### BAR4: the MSI-X table (R235, log entry 178) -/

/-- A write of BAR4 changes the host's side of the part alone. -/
theorem bar4Write_host (p : Part) (off n : Nat) (v : Word64) : ∃ x : HostLink, p.bar4Write off n v = { p with host := x } := by
  unfold Part.bar4Write
  simp only []
  split
  case isTrue => exact ⟨p.host, rfl⟩
  case isFalse => split <;> exact ⟨_, rfl⟩

/-- Signals that go out leave the table as it is. -/
theorem msixEntry_msixFlush (p : Part) (x : Nat) : p.msixFlush.msixEntry x = p.msixEntry x := rfl

theorem bar4Write_data (p : Part) (x : Nat) (v : Word64) (hx : x < 65) (ha : p.alive 2 = true) :
    (p.bar4Write (16 * x + 8) 4 v).msixEntry x = { p.msixEntry x with data := v.toNat % 2 ^ 32 } := by
  have hn : (16 * x + 8) / 16 = x := by omega
  have ho : (16 * x + 8) % 16 = 8 := by omega
  have hl : ¬ (65 ≤ x ∨ (!p.alive 2) = true) := by simp [ha, hx]
  simp only [Part.bar4Write, hn, ho, hl, if_false, msixEntry_msixFlush]
  simp only [Part.msixEntry, mget_mset_same]

/-! ### REGISTER_WRITE by its accessor and its address -/

theorem registerWrite_host_outside {p : Part} {a n : Nat} {v : Word64} (h : findReg a = none) :
    p.registerWrite .host a n v = if bar4Base ≤ a then p.bar4Write (a - bar4Base) n v else p := by
  simp only [Part.registerWrite, h]

/-- A policy core's write outside every register is a store access fault, cause 7 (R351, log entry 81). -/
theorem registerWrite_core_outside {p : Part} {c a n : Nat} {v : Word64} (h : findReg a = none) :
    p.registerWrite (.core c) a n v = if 16 ≤ c then p.policyFault c 7 else p := by
  simp only [Part.registerWrite, h, Part.storeFault]

/-- What makes the part discard a host write to a register: another size, a die that does not run, a window that the host does not reach,
or what CTL firmware owns (R83, R384). -/
def Part.discardsHost (p : Part) (r : RegDesc) (l : List Nat) (a n : Nat) : Prop :=
  8 * n ≠ r.width ∨ p.alive (dieDomain (a / windowBytes)) = false ∨ p.hostReaches (a / windowBytes) = false ∨
    p.hostOwned r.name (a / windowBytes - 12) (nth 0 l 0) = true

theorem registerWrite_host_discarded {p : Part} {r : RegDesc} {l : List Nat} {a n : Nat} {v : Word64} (h : findReg a = some (r, l))
    (d : p.discardsHost r l a n) : p.registerWrite .host a n v = p := by
  simp only [Part.registerWrite, h, Bool.not_eq_true', ite_eq_left_iff]
  exact fun n => absurd d n

theorem registerWrite_host_written {p : Part} {r : RegDesc} {l : List Nat} {a n : Nat} {v : Word64} (h : findReg a = some (r, l))
    (d : ¬ p.discardsHost r l a n) : p.registerWrite .host a n v = p.writeReg .host r l (a / windowBytes) a v := by
  simp only [Part.registerWrite, h, Bool.not_eq_true', ite_eq_right_iff]
  exact fun y => absurd y d

/-- Before stage FIRMWARE the host reaches the window of IOD alone (R384). -/
theorem hostReaches_before_firmware {p : Part} {die : Nat} (hs : p.boot.stage < 2) (hd : die ≠ 1) : p.hostReaches die = false := by
  have : ¬ 2 ≤ p.boot.stage := by omega
  simp [Part.hostReaches, hd, this]

theorem registerWrite_core_refused {p : Part} {r : RegDesc} {l : List Nat} {c a n : Nat} {v : Word64} (h : findReg a = some (r, l))
    (hc : 16 ≤ c) (hw : policyWrites c r.name (nth 0 l 0) = false) : p.registerWrite (.core c) a n v = p.policyFault c 7 := by
  simp [Part.registerWrite, h, hc, hw, Part.storeFault]

/-- A core that may write a register writes it, unless the size is another or the die does not run. -/
theorem registerWrite_core_allowed {p : Part} {r : RegDesc} {l : List Nat} {c a n : Nat} {v : Word64} (h : findReg a = some (r, l))
    (hc : c < 16 ∨ policyWrites c r.name (nth 0 l 0) = true) : p.registerWrite (.core c) a n v =
      if 8 * n ≠ r.width ∨ p.alive (dieDomain (a / windowBytes)) = false then p else p.writeReg (.core c) r l (a / windowBytes) a v := by
  have hp : ¬ (16 ≤ c ∧ policyWrites c r.name (nth 0 l 0) = false) := by
    rintro ⟨h16, hn⟩
    rcases hc with hlt | hw
    · omega
    · simp [hw] at hn
  simp only [Part.registerWrite, h, Bool.not_eq_true', hp, if_false]

/-! ### CTL.RST_CFG: its home is the stored word -/

/-- The register table's row of CTL.RST_CFG. -/
def rstCfgDesc : RegDesc := ⟨.rstCfg, .ctl, 0x1a00000, [], 64, [⟨0, 1, .rw, 0x0⟩]⟩

theorem findReg_rstCfg : findReg aRstCfg = some (rstCfgDesc, []) := by decide +kernel

/-- The window of CTL is die 0's, in domain 1. -/
theorem window_rstCfg : aRstCfg / windowBytes = 0 := by decide

theorem writeReg_rstCfg (p : Part) (v : Word64) : p.writeReg .host rstCfgDesc [] 0 aRstCfg v =
    p.regSet aRstCfg (setBits (p.regGet aRstCfg) 0 1 (getBits v 0 1)) := rfl

theorem registerWrite_rstCfg {p : Part} {v : Word64} (h1 : p.alive 1 = true) (hs : 2 ≤ p.boot.stage) (hd : p.domSt 1 = .on) :
    p.registerWrite .host aRstCfg 8 v = p.regSet aRstCfg (setBits (p.regGet aRstCfg) 0 1 (getBits v 0 1)) := by
  have hr : p.hostReaches 0 = true := by simp [Part.hostReaches, hs, hd]
  have hw : ¬ p.discardsHost rstCfgDesc [] aRstCfg 8 := by
    simp [Part.discardsHost, window_rstCfg, rstCfgDesc, dieDomain, h1, hr, Part.hostOwned]
  rw [registerWrite_host_written findReg_rstCfg hw, window_rstCfg, writeReg_rstCfg]

/-! ### The command -/

theorem exec_registerWrite_host {s : State} (h : s.part.alive 2 = true) (a n : Nat) (v : Word64) :
    exec (.registerWrite .host a n v) s = .next (withPart s (s.part.registerWrite .host a n v)) :=
  live_alive (f := fun p => p.registerWrite .host a n v) h

theorem exec_registerWrite_core {s : State} {c : Nat} (hc : isCore c = true) (h : s.part.alive 1 = true) (a n : Nat) (v : Word64) :
    exec (.registerWrite (.core c) a n v) s = .next (withPart s (s.part.registerWrite (.core c) a n v)) := by
  calc exec (.registerWrite (.core c) a n v) s
      = s.live 1 (isCore c) fun p => p.registerWrite (.core c) a n v := rfl
    _ = .next (withPart s (s.part.registerWrite (.core c) a n v)) := by rw [hc, live_alive h]; rfl

end Sys2Proof.Machine

namespace Sys2Proof

open Machine

/-- Settles O60: by the accessor and by whether the address names a register, then the fields of a write by their access code. -/
theorem registersAreWritten : Obligations.RegistersAreWritten := by
  unfold Obligations.RegistersAreWritten
  refine ⟨fun s a n v h2 => ⟨?outside, ?bar4, ?register, ?rstCfg⟩, fun s c a n v hc h1 => ⟨fun hf => ⟨?discarded, ?fault⟩, ?core⟩,
    fun hits old v f h => ⟨writeField_rw hits old v f h, writeField_wc_clear hits old v f h, writeField_wc_keep hits old v f,
      writeField_wo hits old v f, fun lo w _ d => writeField_other hits old v f lo w h d⟩⟩
  case outside =>
    intro hf ha
    rw [exec_registerWrite_host h2, registerWrite_host_outside hf, if_neg (Nat.not_le.mpr ha)]
    rfl
  case bar4 =>
    intro hf ha
    obtain ⟨x, hx⟩ := bar4Write_host s.part (a - bar4Base) n v
    refine ⟨?_, by rw [hx], by rw [hx], ?_⟩
    · rw [exec_registerWrite_host h2, registerWrite_host_outside hf, if_pos ha]
    · rintro entry rfl hlt rfl
      rw [Nat.add_assoc, Nat.add_sub_cancel_left, bar4Write_data s.part entry v hlt h2]
  case register =>
    intro r l hf
    rw [exec_registerWrite_host h2]
    refine ⟨fun d => ?_, fun hs hw => ?_, fun hn ha hr ho => ?_⟩
    · rw [registerWrite_host_discarded hf d]
      rfl
    · rw [registerWrite_host_discarded hf (.inr (.inr (.inl (hostReaches_before_firmware hs hw))))]
      rfl
    · rw [registerWrite_host_written hf (by simp [Part.discardsHost, hn, ha, hr, ho])]
  case rstCfg =>
    intro h1 hs hd
    rw [exec_registerWrite_host h2, registerWrite_rstCfg h1 hs hd]
  case discarded =>
    intro hlt
    rw [exec_registerWrite_core hc h1, registerWrite_core_outside hf, if_neg (Nat.not_le.mpr hlt)]
    rfl
  case fault =>
    intro hle
    rw [exec_registerWrite_core hc h1, registerWrite_core_outside hf, if_pos hle]
  case core =>
    intro r l hf
    rw [exec_registerWrite_core hc h1]
    refine ⟨fun h16 hw => by rw [registerWrite_core_refused hf h16 hw], fun hw => ⟨fun d => ?_, fun hn ha => ?_⟩⟩
    · rw [registerWrite_core_allowed hf hw, if_pos d]
      rfl
    · rw [registerWrite_core_allowed hf hw, if_neg (by simp [hn, ha])]

end Sys2Proof

/-! SUPPORT. What a command answers: its form of effect decides, by the check of the objects that it names. -/
namespace Sys2Proof.Machine

/-- A command answers a next state when its check holds, and the fault noSuchObject when it does not (log entry 3). -/
def AnswersBy (ok : Bool) (o : Out) : Prop := (ok = true → ∃ t, o = .next t) ∧ (ok = false → o = .fault .noSuchObject)

theorem answersBy_next (t : State) : AnswersBy true (.next t) := ⟨fun _ => ⟨t, rfl⟩, fun h => Bool.noConfusion h⟩

theorem answersBy_fault : AnswersBy false (.fault .noSuchObject) := ⟨fun h => Bool.noConfusion h, fun _ => rfl⟩

/-- A command that answers by one check answers by any check that agrees with it. -/
theorem AnswersBy.congr {ok ok' : Bool} {o : Out} (h : AnswersBy ok o) (e : ok = ok') : AnswersBy ok' o := e ▸ h

theorem live_answersBy (s : State) (d : Nat) (ok : Bool) (f : Part → Part) : AnswersBy ok (s.live d ok f) := by
  cases ok with
  | true => exact answersBy_next _
  | false => exact answersBy_fault

theorem liveMem_answersBy (s : State) (d : Nat) (ok : Bool) (f : State → State) : AnswersBy ok (s.liveMem d ok f) := by
  cases ok with
  | true => exact answersBy_next _
  | false => exact answersBy_fault

theorem acdMem_answersBy (s : State) (t : Nat) (ok : Bool) (f : Memory → Part → Part) : AnswersBy ok (s.acdMem t ok f) :=
  live_answersBy s (3 + t / 1024) ok (f s.mem)

theorem onLink_answersBy (s : State) (l : Nat) (ok : Bool) (f : Part → Part) : AnswersBy (isLink l && ok) (s.onLink l ok f) :=
  live_answersBy s (linkDomain l) (isLink l && ok) f

/-- A host command names its session alone. -/
theorem cmd_answersBy (s : State) (i op : Nat) (f : Bytes → Part → Part) : AnswersBy (isSession i) (s.cmd i op f) :=
  live_answersBy s 1 (isSession i) fun p => p.onCmd i op f

/-- A command of one of the pins, the reference clock or the TAP names no object. -/
theorem on_answersBy (s : State) (f : Part → Part) : AnswersBy true (s.on f) := answersBy_next _

/-- A command on a module names a port of a die: the port is in the die's table (R18). -/
theorem live_port_answersBy (s : State) (d q : Nat) (f : Part → Part) :
    AnswersBy (isPort d q) (s.live (dieDomain d) (portOk d q) f) :=
  (live_answersBy s (dieDomain d) (portOk d q) f).congr (isPort_eq d q)

theorem slotOk_eq (cxd sl : Nat) : slotOk cxd sl = (isCxd cxd && isSlot sl) := Bool.decide_and _ _

/-- VECTOR_STAGE of a job that the part does not hold changes nothing. -/
theorem execVectorStage_answersBy (job : Nat) (fns : List VecFn) (dest : Dest) (s : State) :
    AnswersBy true (execVectorStage job fns dest s) := by
  unfold execVectorStage
  split
  · exact answersBy_next _
  · exact live_answersBy _ _ _ _

theorem execRegisterWrite_answersBy (by_ : Accessor) (a size : Nat) (v : Word64) (s : State) :
    AnswersBy by_.wf (execRegisterWrite by_ a size v s) := by
  cases by_ with
  | host => exact live_answersBy s 2 true fun p => p.registerWrite .host a size v
  | core c => exact live_answersBy s 1 (isCore c) fun p => p.registerWrite (.core c) a size v

theorem execRampEnd_answersBy (d : Nat) (s : State) : AnswersBy (isDomain d) (execRampEnd d s) := by
  unfold execRampEnd
  split
  case isTrue h => exact (on_answersBy _ _).congr h.symm
  case isFalse h => exact answersBy_fault.congr (eq_false_of_ne_true h).symm

theorem execSensorSample_answersBy (die : Nat) (raws : List (Option Int)) (s : State) :
    AnswersBy (isDie die) (execSensorSample die raws s) := by
  unfold execSensorSample
  split
  case isTrue h => exact (on_answersBy _ _).congr (decide_eq_true h).symm
  case isFalse h => exact answersBy_fault.congr (decide_eq_false h).symm

theorem execPacketRoute_answersBy (port : Option Nat) (k : FabPkt) (s : State) :
    AnswersBy (port.all isFabPort) (execPacketRoute port k s) := by
  cases port with
  | none => exact live_answersBy _ _ _ _
  | some q => exact live_answersBy _ _ _ _

/-- Every command answers by the objects that it names: its row is one of the forms above, with a check that agrees with `Instr.wf`. -/
theorem exec_answersBy (c : Instr) (s : State) : AnswersBy c.wf (exec c s) := by
  cases c with dsimp only [exec]
  | powerOn | powerDown | resetNLow | resetNHigh | perstNLow | refclkLoss | freezeNLow | stopAckTimeout | extest | samplePreload
  | idcode | fzStatus | dieSel | scanRead | arrayRead | bypass | perstNHigh | refclk156Present | stopAck | arrayReadComplete
  | tapReset =>
    exact on_answersBy _ _
  | dieMessageAck | dieDeliveryTimeout | mvm | mvmGrant | mvmStart | mvmResult | ladderExecComplete | tileResultArrive
  | setDrainEnd | writeShallow | refresh | writeDeep | erase | release | releaseTakeEffect | epochWaitEnd | lifeTick | bankExpire
  | deepAgeTick | ageAlert | deepAgeMilestone | dieResetExit | blankCheckComplete | dieResetTimeout | calCmd | convCalCmd
  | calComplete | calAbort | capClear | convCfg | captureEmpty | convQueue | loadProbeFit | annealDue | annealTask
  | columnCheckComplete | stageShard | nvmePduReceive | hostReadComplete | hostReadError | fetchTimeout | scrubDue | scrubShard
  | pipelineWaitTimeout | broadcastShard | tierCopyComplete | deepOrphanTimeout | pageOpApply | patrolRead | stackRefresh
  | stackTempReadout | stackBandFall | admitAskTimeout | stepIssue | commit | balanceWindow | cancelMark | timeLimitExpire
  | submissionWrite | packetTake | commandStart | replyWrite | creditReply | msixHoldoffExpire | dieCommandTimeout
  | packetHoldRetry | noRoute | e2eAck | e2eResend | unreachable | gapSkip | sliceDescriptor | sliceActive | rackOffsetExchange
  | barrierArrive | barrierGo | roundStart | arriveTimeout | ingressClaim | ingressLost | nvmeConnectTimeout | journalRecord
  | journalAck | journalRefusal | mboxSend | mboxPop | polRingPop | polRank | eventMessage | evcDeliver | evcClaim | evcComplete
  | fastSret | modTimerExpire | evcGate | evcSoftSet | policyFault | pcieLinkDown | busMasterEnable | pllLockLoss
  | resetDelayExpire | haltComplete | haltTimeout | rstCtlReset | rstCtlHalt | stageFirmware | calRoundStart | calRoundComplete
  | pwrWake | rampStart | rampTimeout | domainOn | domainSleepComplete | regulatorFault | maintenanceWake | wsdIdleSleep
  | powerInterval | throttleUpdate | remoteSenseMeasure | debugChallengeExpire | fallbackComplete | pcieLinkUp
  | refclkWaitTimeout | partnerSetTimeout | nvmeKeepAlive | ethLinkUp | ethFrameReceive | ingressData =>
    exact live_answersBy _ _ _ _
  | tileWriteStart | hotDeferEnd | shallowRowArrive | shallowWriteComplete | deepClearPassEnd | deepRowVerify | eraseDone
  | mapUpdateComplete =>
    exact acdMem_answersBy _ _ _ _
  | laneFail | laneRetrain | laneGood =>
    exact onLink_answersBy _ _ _ _
  | linkSignal | linkTrained | linkTrainingTimeout | linkRetry | linkSilent | linkResizeDone | linkResizeTimeout | flitReceive =>
    exact (onLink_answersBy _ _ _ _).congr (Bool.and_true _)
  | dieReplyArrive | shardStageStart | shardChecksDone | scrubComplete | pipelineChunk | tierReadbackComplete | pageCopyComplete
  | attentionStart | attentionComplete | pageRebuildComplete | lendRequest =>
    exact liveMem_answersBy _ _ _ _
  | load | unload | setCurrent | modelQuery | tierAdd | tierRemove | admitRequest | cancel | requestQuery | grammarLoad
  | grammarUnload | kvFork | kvTruncate | kvRelease | kvQuery | nop | sessionOpen | sessionClose | sessionResync | credit
  | partInfo | seedSet | noticeMask | portCfg | fabricQuery | sliceJoin | sliceLeave | ethCfg | nvmeConnect | nvmeDisconnect
  | journalSet | journalClear | journalSeal | journalAdopt | journalRelease | policyLoad | partReset | partResetHalt
  | domainSleep | domainWake | powerQuery | powerLimit | thermalQuery | quenchClear | attest | certRead | keyInstall | keyRemove
  | debugAuthPhase0 | debugAuthPhase1 | freeze | traceCfg | traceRead | diagMvm =>
    exact cmd_answersBy _ _ _ _
  | moduleTrained | moduleTrainingFail | moduleDown | dieMessageArrive | ucieLaneRepair | adapterCrcRetry =>
    exact live_port_answersBy _ _ _ _
  | pageAlloc | pageFork | pageTruncate | slotAssign | slotRelease | attention =>
    exact (live_answersBy _ _ _ _).congr (slotOk_eq _ _)
  | kvAppend =>
    exact (liveMem_answersBy _ _ _ _).congr (slotOk_eq _ _)
  | vectorStage job fns dest => exact execVectorStage_answersBy job fns dest s
  | registerWrite by_ a size v => exact execRegisterWrite_answersBy by_ a size v s
  | rampEnd d => exact execRampEnd_answersBy d s
  | sensorSample die raws => exact execSensorSample_answersBy die raws s
  | packetRoute port k => exact execPacketRoute_answersBy port k s

end Sys2Proof.Machine

namespace Sys2Proof

/-- Settles O3: a command answers a next state or the fault by the objects that it names (`Machine.exec_answersBy`). -/
theorem commandsCompleteExactlyWhenWellFormed : Obligations.CommandsCompleteExactlyWhenWellFormed := by
  unfold Obligations.CommandsCompleteExactlyWhenWellFormed
  exact Machine.exec_answersBy

end Sys2Proof

/-! SUPPORT. Modules between two dies (R15, R16, R19, R23): reading a port after a write to both ends, and what each module event does. -/
namespace Sys2Proof.Machine

/-- A command on a port that the part has takes effect when the port's die can act. -/
theorem live_port {s : State} {d q : Nat} {f : Part → Part} (hq : isPort d q = true) (ha : s.part.alive (dieDomain d) = true) :
    s.live (dieDomain d) (portOk d q) f = .next (withPart s (f s.part)) := by
  rw [portOk_of_isPort hq]
  exact live_alive ha

@[simp] theorem port_readiness (p : Part) (d q : Nat) : p.readiness.port d q = p.port d q := by simp [Part.port]

/-! ### Both ends of a module -/

theorem port_setPort_near (p : Part) {d q e r : Nat} (v w : Port) (hk : portKey e r ≠ portKey d q) :
    ((p.setPort d q v).setPort e r w).port d q = v := by
  rw [port_setPort_ne _ _ _ _ _ _ hk.symm, port_setPort]

theorem port_setPort_other (p : Part) {d q e r a b : Nat} (v w : Port) (hd : portKey a b ≠ portKey d q) (he : portKey a b ≠ portKey e r) :
    ((p.setPort d q v).setPort e r w).port a b = p.port a b := by
  rw [port_setPort_ne _ _ _ _ _ _ he, port_setPort_ne _ _ _ _ _ _ hd]

/-- A change of both ends of a module reads each end before it changes it. -/
theorem bothEnds_eq (p : Part) {d q e r : Nat} (f : Port → Port) (hq : isPort d q = true) (hf : farEnd d q = some (e, r)) :
    p.bothEnds d q f = (p.setPort d q (f (p.port d q))).setPort e r (f (p.port e r)) := by
  obtain ⟨hk, _⟩ := farEnd_facts hq hf
  simp only [Part.bothEnds, hf, port_setPort_ne _ _ _ _ _ _ hk]

/-! ### MODULE_TRAINED (R16, R19, R23) -/

/-- An end of a module that has trained: its rate, its peer and the credits that the sideband exchanged. -/
def Port.trained (x : Port) (e i : Nat) (cr : List Nat) : Port :=
  { x with st := if x.slow then 3 else 2, peerDie := e, peerMod := i, credits := cr, owed := [], full := cr }

theorem moduleTrained_idle {p : Part} {d q : Nat} (cr : List Nat) (h : (p.port d q).st ≠ 1) : p.moduleTrained d q cr = p := by
  simp only [Part.moduleTrained, h, ne_eq, not_false_eq_true, if_true]

/-- A module in training becomes active, both ends under one module index. -/
theorem moduleTrained_training {p : Part} {d q e r : Nat} (cr : List Nat) (hq : isPort d q = true) (hf : farEnd d q = some (e, r))
    (h : (p.port d q).st = 1) : ∃ i, p.moduleTrained d q cr =
      (p.setPort d q ((p.port d q).trained e i cr)).setPort e r ((p.port e r).trained d i cr) := by
  obtain ⟨hk, i, hd, he⟩ := farEnd_facts hq hf
  refine ⟨i, ?_⟩
  simp only [Part.moduleTrained, h, ne_eq, not_true_eq_false, if_false, hf, hd, he, port_setPort_ne _ _ _ _ _ _ hk]
  rfl

/-! ### MODULE_TRAINING_FAIL and MODULE_DOWN (R16) -/

theorem moduleTrainFail_idle {p : Part} {d q : Nat} (h : (p.port d q).st ≠ 1) : p.moduleTrainFail d q = p := by
  simp only [Part.moduleTrainFail, h, ne_eq, not_false_eq_true, if_true]

theorem moduleTrainFail_fast {p : Part} {d q : Nat} (h : (p.port d q).st = 1) (hs : (p.port d q).slow = false) :
    p.moduleTrainFail d q = p.bothEnds d q fun x => { x with slow := true } := by
  simp [Part.moduleTrainFail, h, hs]

theorem moduleTrainFail_slow {p : Part} {d q : Nat} (h : (p.port d q).st = 1) (hs : (p.port d q).slow = true) :
    p.moduleTrainFail d q = p.moduleDown d q := by
  simp [Part.moduleTrainFail, h, hs]

theorem moduleFail_down {p : Part} {d q : Nat} (h : (p.port d q).st = 0) : p.moduleFail d q = p := by
  simp only [Part.moduleFail, h, if_true]

theorem moduleFail_up {p : Part} {d q : Nat} (h : (p.port d q).st ≠ 0) : p.moduleFail d q = p.moduleDown d q := by
  simp only [Part.moduleFail, h, if_false]

/-- A module that goes down reads DOWN at both ends, with PEER_DIE and REPAIRED 0 (log entry 145), and every other module keeps its state. -/
theorem moduleDown_reads (p : Part) {d q e r : Nat} (hq : isPort d q = true) (hf : farEnd d q = some (e, r)) :
    ((p.moduleDown d q).port d q).st = 0 ∧ ((p.moduleDown d q).port e r).st = 0 ∧
    ((p.moduleDown d q).port d q).peerDie = 0 ∧ ((p.moduleDown d q).port d q).repaired = 0 ∧
    ∀ a b, portKey a b ≠ portKey d q → portKey a b ≠ portKey e r → ((p.moduleDown d q).port a b).st = (p.port a b).st := by
  obtain ⟨hk, _⟩ := farEnd_facts hq hf
  have near : ((p.moduleDown d q).port d q).status = Port.reset.status := by
    rw [moduleDown_status p hf, bothEnds_eq p _ hq hf, port_setPort_near _ _ _ hk]
  have far : ((p.moduleDown d q).port e r).status = Port.reset.status := by
    rw [moduleDown_status p hf, bothEnds_eq p _ hq hf, port_setPort]
  refine ⟨congrArg (·.1) near, congrArg (·.1) far, congrArg (·.2.2.1) near, congrArg (·.2.1) near, fun a b hd he => ?_⟩
  have other : ((p.moduleDown d q).port a b).status = (p.port a b).status := by
    rw [moduleDown_status p hf, bothEnds_eq p _ hq hf, port_setPort_other _ _ _ hd he]
  exact congrArg (·.1) other

/-! ### UCIE_LANE_REPAIR and ADAPTER_CRC_RETRY (R15, R19) -/

theorem laneRepair_possible {p : Part} {d q : Nat} (h : (p.port d q).st ≠ 0) (hr : (p.port d q).repaired < 8) :
    p.laneRepair d q = p.bothEnds d q fun x => { x with repaired := x.repaired + 1 } := by
  simp only [Part.laneRepair, h, Nat.not_le.mpr hr, or_self, if_false]

theorem laneRepair_impossible {p : Part} {d q : Nat} (h : (p.port d q).st = 0 ∨ 8 ≤ (p.port d q).repaired) : p.laneRepair d q = p := by
  simp only [Part.laneRepair, h, if_true]

theorem crcRetry_inactive {p : Part} {d q : Nat} (h : p.active d q = false) : p.crcRetry d q = p := by
  simp [Part.crcRetry, h]

/-- One event counted in a 16-bit counter field (R8). -/
theorem regFld_bump_one (p : Part) (a lo : Nat) (h : lo + 16 ≤ 64) :
    (p.bump a lo 16 1).regFld a lo 16 = min 65535 (p.regFld a lo 16 + 1) :=
  (regFld_bump p a lo 16 1 h).trans (Nat.min_comm _ _)

/-- CRC_ERR and RETRY of the port are two fields of one register: each count leaves the other (R19). -/
theorem crcRetry_active {p : Part} {d q : Nat} (h : p.active d q = true) :
    (p.crcRetry d q).regFld (aD2dPortStatus d q) 16 16 = min 65535 (p.regFld (aD2dPortStatus d q) 16 16 + 1) ∧
    (p.crcRetry d q).regFld (aD2dPortStatus d q) 32 16 = min 65535 (p.regFld (aD2dPortStatus d q) 32 16 + 1) ∧
    (p.crcRetry d q).d2d = p.d2d := by
  have e : p.crcRetry d q = (p.bump (aD2dPortStatus d q) 16 16 1).bump (aD2dPortStatus d q) 32 16 1 := by simp [Part.crcRetry, h]
  rw [e]
  refine ⟨?crcErr, ?retry, by simp⟩
  case crcErr =>
    rw [regFld_bump_field _ _ 32 16 1 16 16 (by omega) (.inl (by omega)), regFld_bump_one _ _ _ (by omega)]
  case retry =>
    rw [regFld_bump_one _ _ _ (by omega), regFld_bump_field _ _ 16 16 1 32 16 (by omega) (.inr (by omega))]

/-! ### The commands, at a port of a die that can act -/

section
variable {s : State} {d q : Nat} (hq : isPort d q = true) (ha : s.part.alive (dieDomain d) = true)
include hq ha

theorem exec_moduleTrained (cr : List Nat) :
    exec (.moduleTrained d q cr) s = .next (withPart s (s.part.moduleTrained d q cr).readiness) :=
  live_port (f := fun p => (p.moduleTrained d q cr).readiness) hq ha

theorem exec_moduleTrainingFail :
    exec (.moduleTrainingFail d q) s = .next (withPart s (s.part.moduleTrainFail d q).readiness) :=
  live_port (f := fun p => (p.moduleTrainFail d q).readiness) hq ha

theorem exec_moduleDown : exec (.moduleDown d q) s = .next (withPart s (s.part.moduleFail d q).readiness) :=
  live_port (f := fun p => (p.moduleFail d q).readiness) hq ha

theorem exec_ucieLaneRepair : exec (.ucieLaneRepair d q) s = .next (withPart s (s.part.laneRepair d q)) :=
  live_port (f := fun p => p.laneRepair d q) hq ha

theorem exec_adapterCrcRetry : exec (.adapterCrcRetry d q) s = .next (withPart s (s.part.crcRetry d q)) :=
  live_port (f := fun p => p.crcRetry d q) hq ha

end

end Sys2Proof.Machine

namespace Sys2Proof

open Machine

/-- Settles O17: each event by the state of the module it names; a module that goes down by the status of its two ends
(`Machine.moduleDown_reads`). -/
theorem modulesTrainFallAndRetry : Obligations.ModulesTrainFallAndRetry := by
  unfold Obligations.ModulesTrainFallAndRetry
  intro s d q e r cr hq ha hf
  obtain ⟨hk, _⟩ := farEnd_facts hq hf
  rw [exec_moduleTrained hq ha, exec_moduleTrainingFail hq ha, exec_moduleDown hq ha, exec_ucieLaneRepair hq ha,
    exec_adapterCrcRetry hq ha]
  refine ⟨?trained, ?notTraining, ?slower, ⟨?failed, ?fallen⟩, ?alreadyDown, ?repaired, ?notRepaired, ?retried, ?notRetried⟩
  case trained =>
    intro h
    obtain ⟨i, hi⟩ := moduleTrained_training cr hq hf h
    have near := port_setPort_near s.part ((s.part.port d q).trained e i cr) ((s.part.port e r).trained d i cr) hk
    refine ⟨_, rfl, ?_⟩
    simp only [withPart, hi, port_readiness, near, port_setPort]
    refine ⟨rfl, rfl, rfl, rfl, rfl, rfl, rfl, ?_, fun a b hd he => port_setPort_other _ _ _ hd he⟩
    simp [Part.setPort]
  case notTraining =>
    intro h
    rw [moduleTrained_idle cr h, moduleTrainFail_idle h]
    exact ⟨rfl, rfl⟩
  case slower =>
    intro h hs
    rw [moduleTrainFail_fast h hs]
  case failed =>
    rintro ⟨h, hs⟩
    refine ⟨_, rfl, ?_⟩
    simpa only [withPart, moduleTrainFail_slow h hs, port_readiness] using moduleDown_reads s.part hq hf
  case fallen =>
    intro h
    refine ⟨_, rfl, ?_⟩
    simpa only [withPart, moduleFail_up h, port_readiness] using moduleDown_reads s.part hq hf
  case alreadyDown =>
    intro h
    rw [moduleFail_down h]
  case repaired =>
    intro h hr
    rw [laneRepair_possible h hr]
  case notRepaired =>
    intro h
    rw [laneRepair_impossible h]
    rfl
  case retried =>
    intro h
    exact ⟨_, rfl, crcRetry_active h⟩
  case notRetried =>
    intro h
    rw [crcRetry_inactive h]
    rfl

end Sys2Proof

/-! SUPPORT. Die messages (R17, R20 to R23, R506): what arrives at a die by its envelope, its destination, its place in the order and its
unit. -/
namespace Sys2Proof.Machine

/-! ### The envelope (R21) -/

theorem envelopeFail_class {m : DieMsg} (h : m.cls = 7) : envelopeFail m = some (some stBadClass) := by
  simp only [envelopeFail, h, if_true]

theorem envelopeFail_length {m : DieMsg} (h : m.cls = 0) (hl : m.len % 16 ≠ 0 ∨ 4096 < m.len) :
    envelopeFail m = some (some stLenRange) := by
  simp [envelopeFail, h, hl]

theorem envelopeFail_destination {m : DieMsg} (h : m.cls = 0) (hl : m.len % 16 = 0) (hn : m.len ≤ 4096) (hd : 19 < m.dst) :
    envelopeFail m = some (some stBadParam) := by
  simp [envelopeFail, h, hl, Nat.not_lt.mpr hn, hd]

/-- R21 returns a malformed message of class 0 or 7 alone. -/
theorem envelopeFail_silent {m : DieMsg} (h0 : m.cls ≠ 0) (h7 : m.cls ≠ 7) (hw : m.len % 16 ≠ 0 ∨ 4096 < m.len ∨ 19 < m.dst) :
    envelopeFail m = some none := by
  by_cases hl : m.len % 16 ≠ 0 ∨ 4096 < m.len
  · simp [envelopeFail, h0, h7, hl]
  · have hd : 19 < m.dst := by omega
    simp [envelopeFail, h0, h7, hl, hd]

theorem envelopeFail_none {m : DieMsg} (h7 : m.cls ≠ 7) (hl : m.len % 16 = 0) (hn : m.len ≤ 4096) (hd : m.dst < 20) :
    envelopeFail m = none := by
  have h19 : ¬ 19 < m.dst := by omega
  simp [envelopeFail, h7, hl, Nat.not_lt.mpr hn, h19]

/-- A message that the receiving die discards fails its envelope checks. -/
theorem envelopeFail_some {m : DieMsg} (h : m.len % 16 ≠ 0 ∨ 4096 < m.len ∨ m.cls = 7 ∨ 19 < m.dst) : ∃ st, envelopeFail m = some st := by
  by_cases h7 : m.cls = 7
  · exact ⟨_, envelopeFail_class h7⟩
  by_cases h0 : m.cls = 0
  · by_cases hl : m.len % 16 ≠ 0 ∨ 4096 < m.len
    · exact ⟨_, envelopeFail_length h0 hl⟩
    · exact ⟨_, envelopeFail_destination h0 (by omega) (by omega) (by omega)⟩
  · exact ⟨_, envelopeFail_silent h0 h7 (by omega)⟩

/-- What a die discards reaches no unit, no queue of CTL and no sequence counter (R21). -/
theorem discard_frame (p : Part) (d q : Nat) (m : DieMsg) (st : Option Nat) :
    (p.discard d q m st).d2d.inbox = p.d2d.inbox ∧ (p.discard d q m st).d2d.rxSeq = p.d2d.rxSeq ∧
    (p.discard d q m st).d2d.early = p.d2d.early ∧ (p.discard d q m st).d2d.ctlReplies = p.d2d.ctlReplies ∧
    (p.discard d q m st).ctl = p.ctl := by
  cases st with
  | none => simp [Part.discard]
  | some x => simp [Part.discard]

@[simp] theorem inbox_readiness (p : Part) (d u : Nat) : p.readiness.inbox d u = p.inbox d u := by simp [Part.inbox]

/-! ### Arrival at a die (R17, R500) -/

theorem messageArrive_inactive {p : Part} {d q : Nat} (m : DieMsg) (h : p.active d q = false) : p.messageArrive d q m = p := by
  simp [Part.messageArrive, h]

theorem messageArrive_malformed {p : Part} {d q : Nat} {m : DieMsg} {st : Option Nat} (h : p.active d q = true)
    (hm : envelopeFail m = some st) : p.messageArrive d q m = p.discard d q m st := by
  simp [Part.messageArrive, h, hm]

theorem messageArrive_here {p : Part} {d q : Nat} {m : DieMsg} (h : p.active d q = true) (hm : envelopeFail m = none) (hd : m.dst = d) :
    p.messageArrive d q m = p.msgDeliver d q m := by
  simp [Part.messageArrive, h, hm, hd]

theorem messageArrive_elsewhere {p : Part} {d q : Nat} {m : DieMsg} (h : p.active d q = true) (hm : envelopeFail m = none)
    (hd : m.dst ≠ d) : p.messageArrive d q m = p.passOn d q m := by
  simp [Part.messageArrive, h, hm, hd]

theorem passOn_path {p : Part} {d q r : Nat} {m : DieMsg} (h : (p.applyCr d q m).nextPort d m.src m.dst = some r) :
    p.passOn d q m = (p.applyCr d q m).post
      { m := m, holder := d, port := r, since := (p.applyCr d q m).now, inPort := q, sent := false } := by
  simp only [Part.passOn, h]

theorem passOn_noPath {p : Part} {d q : Nat} {m : DieMsg} (h : (p.applyCr d q m).nextPort d m.src m.dst = none) :
    p.passOn d q m = ((p.applyCr d q m).freeRx d q m).dieFailed m.dst := by
  simp only [Part.passOn, h]

/-! ### The unit's checks (R282, R283, R506) -/

/-- A command that becomes outstanding changes CTL's list of them alone. -/
theorem noteCommand_eq (p : Part) (m : DieMsg) : ∃ l, p.noteCommand m = { p with d2d := { p.d2d with outstanding := l } } := by
  unfold Part.noteCommand
  dsimp only
  split
  case isTrue => exact ⟨_, rfl⟩
  case isFalse => exact ⟨p.d2d.outstanding, rfl⟩

/-- Whether a slot unit is assigned is part of `kv`. -/
theorem slotGone_congr {p r : Part} (hk : r.kv = p.kv) (m : DieMsg) : r.slotGone m = p.slotGone m := by
  simp only [Part.slotGone, Part.kvSlot, hk]

/-- The role epochs are parts of `an` and `kv`. -/
theorem unitEpoch_congr {p r : Part} (ha : r.an = p.an) (hk : r.kv = p.kv) (d u : Nat) : r.unitEpoch d u = p.unitEpoch d u := by
  simp only [Part.unitEpoch, Part.bank, Part.slotEpoch, ha, hk]

theorem noteCommand_slotGone (p : Part) (m n : DieMsg) : (p.noteCommand m).slotGone n = p.slotGone n := by
  obtain ⟨l, hl⟩ := noteCommand_eq p m
  exact slotGone_congr (by rw [hl]) n

theorem unitTake_noUnit {p : Part} {q : Nat} {m : DieMsg} (hu : unitThere m.dst m.unit = false) :
    p.unitTake q m = p.giveBack m.dst m 0 stBadUnit := by
  simp [Part.unitTake, hu]

theorem unitTake_stale {p : Part} {q : Nat} {m : DieMsg} (hu : unitThere m.dst m.unit = true)
    (hs : p.slotGone m = true ∨ m.epoch ≠ p.unitEpoch m.dst m.unit) : p.unitTake q m = (p.noteCommand m).backStale m := by
  simp [Part.unitTake, hu, noteCommand_slotGone, hs]

section
variable {p : Part} {q : Nat} {m : DieMsg} (hu : unitThere m.dst m.unit = true) (hs : p.slotGone m = false)
  (he : m.epoch = p.unitEpoch m.dst m.unit) (hc : m.cls = 0)
include hu hs he hc

theorem unitTake_badOpcode (ho : unitTakes m.dst m.unit (msgOpcode m) = false) :
    p.unitTake q m = (p.noteCommand m).giveBack m.dst m (p.unitEpoch m.dst m.unit) stBadOpcode := by
  simp [Part.unitTake, hu, noteCommand_slotGone, hs, ← he, hc, ho]

theorem unitTake_badFields {st : Nat} (ho : unitTakes m.dst m.unit (msgOpcode m) = true) (hf : commandFail m = some st) :
    p.unitTake q m = (p.noteCommand m).giveBack m.dst m (p.unitEpoch m.dst m.unit) st := by
  simp [Part.unitTake, hu, noteCommand_slotGone, hs, ← he, hc, ho, hf]

theorem unitTake_accepted (ho : unitTakes m.dst m.unit (msgOpcode m) = true) (hf : commandFail m = none) :
    (p.unitTake q m).inbox m.dst m.unit =
      inboxInsert { m := m, cycle := p.clk.cycles, port := q } (p.inbox m.dst m.unit) := by
  obtain ⟨l, hl⟩ := noteCommand_eq p m
  have e : p.unitTake q m = (p.noteCommand m).setInbox m.dst m.unit
      (inboxInsert { m := m, cycle := (p.noteCommand m).clk.cycles, port := q } ((p.noteCommand m).inbox m.dst m.unit)) := by
    simp [Part.unitTake, hu, noteCommand_slotGone, hs, ← he, hc, ho, hf]
  rw [e, hl]
  simp [Part.inbox, Part.setInbox]

end

theorem backStale_rxSeq (p : Part) (m : DieMsg) : (p.backStale m).d2d.rxSeq = p.d2d.rxSeq := by
  unfold Part.backStale
  dsimp only
  split
  case isTrue => simp [Part.countStale]
  case isFalse => split <;> simp

/-- Whatever a unit answers, the order of arrival stays. -/
theorem unitTake_rxSeq (p : Part) (q : Nat) (m : DieMsg) : (p.unitTake q m).d2d.rxSeq = p.d2d.rxSeq := by
  obtain ⟨l, hl⟩ := noteCommand_eq p m
  have hn : (p.noteCommand m).d2d.rxSeq = p.d2d.rxSeq := by rw [hl]
  unfold Part.unitTake
  dsimp only
  split
  · simp
  · split
    · rw [backStale_rxSeq, hn]
    · split
      · simp [hn]
      · split
        · simp [hn]
        · split <;> exact hn

/-! ### Acceptance at the destination (R17, R20, R22) -/

/-- The order of a message's source, destination and class advances past it (R22). -/
def Part.advanceRx (p : Part) (m : DieMsg) : Part :=
  { p with d2d := { p.d2d with rxSeq := mset 0 p.d2d.rxSeq (seqKey m.src m.dst m.cls) ((m.seq + 1) % 2 ^ 32) } }

/-- The same, and CTL traces what it receives (R475). -/
def Part.received (p : Part) (d q : Nat) (m : DieMsg) : Part :=
  if d = 0 then (p.advanceRx m).traceAdd 0 1 q (envelope m) else p.advanceRx m

@[simp] theorem received_frame (p : Part) (d q : Nat) (m : DieMsg) :
    (p.received d q m).d2d = (p.advanceRx m).d2d ∧ (p.received d q m).ctl = p.ctl ∧ (p.received d q m).clk = p.clk ∧
    (p.received d q m).an = p.an ∧ (p.received d q m).kv = p.kv := by
  unfold Part.received
  split
  case isTrue =>
    simp only [traceAdd_frame]
    exact ⟨trivial, rfl, rfl, rfl, rfl⟩
  case isFalse => exact ⟨rfl, rfl, rfl, rfl, rfl⟩

/-- A reply reaches CTL's queue of replies. -/
def Part.queueReply (p : Part) (m : DieMsg) : Part := { p with d2d := { p.d2d with ctlReplies := p.d2d.ctlReplies ++ [m] } }

/-- An event message reaches the event controller; a line from 256 on but 266 is traced. -/
def Part.queueEvent (p : Part) (m : DieMsg) : Part :=
  let p := if fld m.payload 0 2 < 256 ∨ fld m.payload 0 2 = 266 then p else p.traceAdd 1 0 0 (m.payload.take 16)
  { p with ctl := { p.ctl with events := p.ctl.events ++ [padTo 16 (m.payload.take 16)] } }

theorem queueEvent_frame (p : Part) (m : DieMsg) :
    (p.queueEvent m).d2d = p.d2d ∧ (p.queueEvent m).ctl.events = p.ctl.events ++ [padTo 16 (m.payload.take 16)] := by
  unfold Part.queueEvent
  dsimp only
  split <;> simp

/-- A credit-only message does nothing at its destination (R506). -/
theorem acceptMsg_creditOnly (p : Part) (d q : Nat) {m : DieMsg} (hl : m.len = 0) : p.acceptMsg d q m = p.advanceRx m := by
  simp only [Part.acceptMsg, hl, if_true]
  rfl

/-- Where any other message goes, by its class. -/
theorem acceptMsg_eq (p : Part) (d q : Nat) {m : DieMsg} (hl : m.len ≠ 0) : p.acceptMsg d q m =
    if m.cls = 1 then (if d = 0 then (p.received d q m).queueReply m else p.received d q m)
    else if m.cls = 5 then (if d = 0 ∧ m.unit = 0x100 then (p.received d q m).queueEvent m else p.received d q m)
    else if m.cls = 6 then p.received d q m
    else (p.received d q m).unitTake q m := by
  unfold Part.acceptMsg
  rw [if_neg hl]
  rfl

theorem acceptMsg_reply (p : Part) (q : Nat) {m : DieMsg} (hl : m.len ≠ 0) (hc : m.cls = 1) :
    (p.acceptMsg 0 q m).d2d.ctlReplies = p.d2d.ctlReplies ++ [m] := by
  rw [acceptMsg_eq p 0 q hl, if_pos hc, if_pos rfl, Part.queueReply, (received_frame p 0 q m).1]
  rfl

theorem acceptMsg_event (p : Part) (q : Nat) {m : DieMsg} (hl : m.len ≠ 0) (hc : m.cls = 5) (hu : m.unit = 0x100) :
    (p.acceptMsg 0 q m).ctl.events = p.ctl.events ++ [padTo 16 (m.payload.take 16)] := by
  have h1 : m.cls ≠ 1 := by omega
  rw [acceptMsg_eq p 0 q hl, if_neg h1, if_pos hc, if_pos ⟨rfl, hu⟩, (queueEvent_frame _ m).2, (received_frame p 0 q m).2.1]

theorem acceptMsg_command (p : Part) (d q : Nat) {m : DieMsg} (hl : m.len ≠ 0) (hc : m.cls = 0) :
    p.acceptMsg d q m = (p.received d q m).unitTake q m := by
  simp [acceptMsg_eq p d q hl, hc]

theorem received_rxSeq (p : Part) (d q : Nat) (m : DieMsg) :
    mget 0 (p.received d q m).d2d.rxSeq (seqKey m.src m.dst m.cls) = (m.seq + 1) % 2 ^ 32 := by
  rw [(received_frame p d q m).1]
  exact mget_mset_same _ _ _ _

/-- Whatever the class of a message that is accepted, its order advances past it (R22). -/
theorem acceptMsg_rxSeq (p : Part) (d q : Nat) (m : DieMsg) :
    mget 0 (p.acceptMsg d q m).d2d.rxSeq (seqKey m.src m.dst m.cls) = (m.seq + 1) % 2 ^ 32 := by
  by_cases hl : m.len = 0
  · rw [acceptMsg_creditOnly p d q hl]
    exact mget_mset_same _ _ _ _
  · rw [acceptMsg_eq p d q hl]
    split
    · split <;> exact received_rxSeq p d q m
    · split
      · split
        · rw [(queueEvent_frame _ m).1, received_rxSeq]
        · exact received_rxSeq p d q m
      · split
        · exact received_rxSeq p d q m
        · rw [unitTake_rxSeq, received_rxSeq]

/-- A command whose unit takes it has its place in the order of that unit's inbox (R284). -/
theorem acceptMsg_inbox {p : Part} {d q : Nat} {m : DieMsg} (hl : m.len ≠ 0) (hc : m.cls = 0) (hu : unitThere m.dst m.unit = true)
    (hs : p.slotGone m = false) (he : m.epoch = p.unitEpoch m.dst m.unit) (ho : unitTakes m.dst m.unit (msgOpcode m) = true)
    (hf : commandFail m = none) : (p.acceptMsg d q m).inbox m.dst m.unit =
      inboxInsert { m := m, cycle := p.clk.cycles, port := q } (p.inbox m.dst m.unit) := by
  obtain ⟨hd, _, hclk, han, hkv⟩ := received_frame p d q m
  rw [acceptMsg_command p d q hl hc, unitTake_accepted hu ((slotGone_congr hkv m).trans hs)
    (he.trans (unitEpoch_congr han hkv _ _).symm) hc ho hf, hclk]
  simp only [Part.inbox, hd]
  rfl

/-! ### Delivery in order (R17, R22) -/

theorem msgDeliver_again {p : Part} {d q : Nat} {m : DieMsg}
    (h : (p.acceptedOnce m || (p.early d).any fun a => a.m.src == m.src && a.m.cls == m.cls && a.m.seq == m.seq) = true) :
    p.msgDeliver d q m = p.freeRx d q m := by
  simp only [Part.msgDeliver, h, if_true]

section
variable {p : Part} {d q : Nat} {m : DieMsg} (hy : p.d2d.early = []) (hr : m.crCount = 0) (ha : p.acceptedOnce m = false)
include hy hr ha

/-- While no message waits at the die, one not accepted before leaves its receive buffer and is accepted when it is the next of its order. -/
theorem msgDeliver_next (hn : mget 0 p.d2d.rxSeq (seqKey m.src m.dst m.cls) = m.seq) :
    p.msgDeliver d q m = (p.freeRx d q m).acceptMsg d q m := by
  simp [Part.msgDeliver, Part.applyCr, Part.isNext, Part.early, Part.takeEarly, hy, hr, ha, hn]

/-- One that is not the next of its order waits for those before it. -/
theorem msgDeliver_early (hn : mget 0 p.d2d.rxSeq (seqKey m.src m.dst m.cls) ≠ m.seq) :
    p.msgDeliver d q m = { p.freeRx d q m with d2d := { (p.freeRx d q m).d2d with
      early := mset [] [] d [{ m := m, cycle := p.clk.cycles, port := q }] } } := by
  simp [Part.msgDeliver, Part.applyCr, Part.isNext, Part.early, hy, hr, ha, hn]

end

theorem exec_dieMessageArrive {s : State} {d q : Nat} (m : DieMsg) (hq : isPort d q = true) (ha : s.part.alive (dieDomain d) = true) :
    exec (.dieMessageArrive d q m) s = .next (withPart s (s.part.messageArrive d q m).readiness) :=
  live_port (f := fun p => (p.messageArrive d q m).readiness) hq ha

end Sys2Proof.Machine

namespace Sys2Proof

open Machine

/-- Settles O18: each message by its envelope, its destination and its place in the order; what is accepted by its class, and a command
by the checks of its unit. -/
theorem dieMessagesAreCheckedAndOrdered : Obligations.DieMessagesAreCheckedAndOrdered := by
  unfold Obligations.DieMessagesAreCheckedAndOrdered
  intro s d q m hq ha
  rw [exec_dieMessageArrive m hq ha]
  refine ⟨?inactive,
    fun hact => ⟨?malformed, fun hl hn h7 hd => ⟨fun hne => ⟨?path, ?noPath⟩, ?again, fun hme hy hr hacc => ⟨?early, ?next⟩⟩⟩,
    fun p hme => ⟨?noUnit, ?stale, fun hu hs he hc => ⟨?badOpcode, ?badFields⟩⟩⟩
  case inactive =>
    intro h
    rw [messageArrive_inactive m h]
  case malformed =>
    intro hbad p
    obtain ⟨st, hst⟩ := envelopeFail_some hbad
    have hm := messageArrive_malformed hact hst
    obtain ⟨hin, hrx, hea, hct, hctl⟩ := discard_frame s.part d q m st
    refine ⟨_, rfl, ?_⟩
    simp only [withPart, readiness_frame, hm]
    refine ⟨hin, hrx, hea, hct, hctl, fun h7 => ?_, fun h0 hl => ?_, fun h0 hl hn => ?_, fun h0 h7 => ?_⟩
    · cases hst.symm.trans (envelopeFail_class h7)
      rfl
    · cases hst.symm.trans (envelopeFail_length h0 hl)
      rfl
    · cases hst.symm.trans (envelopeFail_destination h0 hl hn (by omega))
      rfl
    · cases hst.symm.trans (envelopeFail_silent h0 h7 (by omega))
      rfl
  case path =>
    intro r hp
    rw [messageArrive_elsewhere hact (envelopeFail_none h7 hl hn hd) hne, passOn_path hp]
  case noPath =>
    intro hp
    rw [messageArrive_elsewhere hact (envelopeFail_none h7 hl hn hd) hne, passOn_noPath hp]
  case again =>
    intro hme h
    rw [messageArrive_here hact (envelopeFail_none h7 hl hn hd) hme, msgDeliver_again h]
  case early =>
    intro hseq
    rw [messageArrive_here hact (envelopeFail_none h7 hl hn hd) hme, msgDeliver_early hy hr hacc hseq]
    refine ⟨_, rfl, ?_⟩
    simp [withPart, Part.early]
  case next =>
    intro hseq
    rw [messageArrive_here hact (envelopeFail_none h7 hl hn hd) hme, msgDeliver_next hy hr hacc hseq]
    refine ⟨_, rfl, ?_⟩
    simp only [withPart, readiness_frame]
    refine ⟨acceptMsg_rxSeq _ d q m, fun h0 => ?_, fun hd0 hp h1 => ?_, fun hd0 hp h5 hu => ?_, fun hp h0 hu hs he ho hf => ?_⟩
    · rw [acceptMsg_creditOnly _ d q h0]
      simp [Part.advanceRx]
    · subst hd0
      rw [acceptMsg_reply _ q (by omega) h1]
      simp
    · subst hd0
      rw [acceptMsg_event _ q (by omega) h5 hu]
      simp
    · subst hme
      have hk : (s.part.freeRx m.dst q m).kv = s.part.kv := by simp
      rw [inbox_readiness, acceptMsg_inbox (by omega) h0 hu ((slotGone_congr hk m).trans hs)
        (he.trans (unitEpoch_congr (by simp) hk _ _).symm) ho hf]
      simp [Part.inbox]
  case noUnit =>
    intro hu
    subst hme
    exact unitTake_noUnit hu
  case stale =>
    intro hu hs
    subst hme
    exact unitTake_stale hu hs
  case badOpcode =>
    intro ho
    subst hme
    exact unitTake_badOpcode hu hs he hc ho
  case badFields =>
    intro st ho hf
    subst hme
    exact unitTake_badFields hu hs he hc ho hf

end Sys2Proof

/-! SUPPORT. How die messages that are held and die commands of CTL end (R17, R286, R288 to R290). -/
namespace Sys2Proof.Machine

/-! ### Messages held (R17, R286) -/

theorem exec_dieMessageAck {s : State} {h : Nat} (src dst cls seq : Nat) (hh : h < 20) (ha : s.part.alive (dieDomain h) = true) :
    exec (.dieMessageAck h src dst cls seq) s = .next (withPart s (s.part.msgAck h src dst cls seq)) := by
  calc exec (.dieMessageAck h src dst cls seq) s
      = s.live (dieDomain h) (decide (h < 20)) fun p => p.msgAck h src dst cls seq := rfl
    _ = .next (withPart s (s.part.msgAck h src dst cls seq)) := by
      rw [decide_eq_true hh, live_alive ha]
      rfl

theorem exec_dieDeliveryTimeout {s : State} {src dst : Nat} (cls seq : Nat) (hs : src < 20) (hd : dst < 20)
    (ha : s.part.alive (dieDomain src) = true) :
    exec (.dieDeliveryTimeout src dst cls seq) s = .next (withPart s (s.part.deliveryTimeout src dst cls seq).readiness) := by
  calc exec (.dieDeliveryTimeout src dst cls seq) s
      = s.live (dieDomain src) (decide (src < 20) && decide (dst < 20)) fun p => (p.deliveryTimeout src dst cls seq).readiness := rfl
    _ = .next (withPart s (s.part.deliveryTimeout src dst cls seq).readiness) := by
      rw [decide_eq_true hs, decide_eq_true hd, Bool.and_self, live_alive ha]
      rfl

section
variable {p : Part} {src dst cls seq : Nat} {x : HeldMsg} {rest : List HeldMsg}
  (hx : takeFirst (fun y : HeldMsg => y.m.src == src && y.m.dst == dst && y.m.cls == cls && y.m.seq == seq) p.d2d.held = some (x, rest))
include hx

theorem deliveryTimeout_late (ht : x.since + 100000000 < p.now) :
    p.deliveryTimeout src dst cls seq = { p with d2d := { p.d2d with held := rest } }.dieFailed dst := by
  simp only [Part.deliveryTimeout, hx, ht, if_true]

theorem deliveryTimeout_early (ht : p.now ≤ x.since + 100000000) : p.deliveryTimeout src dst cls seq = p := by
  simp only [Part.deliveryTimeout, hx, Nat.not_lt.mpr ht, if_false]

end

/-! ### What goes on once a reply has come (R158, R231, R403) -/

theorem aCmdCnt_ne_aSessCnt (j : Nat) : aCmdCnt ≠ aSessCnt j := by
  simp only [aCmdCnt, aSessCnt]
  omega

theorem aCmdCnt_ne_aTraceCnt : aCmdCnt ≠ aTraceCnt := by decide

theorem aCmdCnt_ne_aSrvCnt : aCmdCnt ≠ aSrvCnt := by decide

/-- What follows a reply leaves CTL's replies and the counters of CMD_CNT as they were, and may send commands more. -/
def Part.Followed (p r : Part) : Prop :=
  r.d2d.ctlReplies = p.d2d.ctlReplies ∧ (∃ more, r.d2d.outstanding = p.d2d.outstanding ++ more) ∧ r.regGet aCmdCnt = p.regGet aCmdCnt

namespace Part.Followed

theorem refl (p : Part) : p.Followed p := ⟨rfl, ⟨[], by simp⟩, rfl⟩

theorem trans {p q r : Part} (a : p.Followed q) (b : q.Followed r) : p.Followed r := by
  obtain ⟨a1, ⟨l, a2⟩, a3⟩ := a
  obtain ⟨b1, ⟨n, b2⟩, b3⟩ := b
  exact ⟨b1.trans a1, ⟨l ++ n, by rw [b2, a2, List.append_assoc]⟩, b3.trans a3⟩

end Part.Followed

theorem bankMessage_followed (p : Part) (op k : Nat) (b : Bytes) : p.Followed (p.bankMessage op k b) := by
  obtain ⟨hrep, ⟨c, hout⟩, hreg⟩ := bankMessage_frame p op k b
  exact ⟨hrep, ⟨[c], hout⟩, hreg aCmdCnt aCmdCnt_ne_aTraceCnt aCmdCnt_ne_aSessCnt⟩

/-- What CTL notes of its models leaves replies, commands and counters. -/
theorem models_followed (p : Part) (x : Models) : p.Followed { p with models := x } := .refl p

theorem moveWrite_followed (p : Part) (x : Nat × Nat) : p.Followed (p.moveWrite x) := by
  unfold Part.moveWrite
  dsimp only
  split
  · exact .refl p
  · exact bankMessage_followed p _ _ _

theorem moveStart_followed (p : Part) (x : Nat × Nat) : p.Followed (p.moveStart x) := by
  unfold Part.moveStart
  dsimp only
  split
  · exact (models_followed p _).trans (bankMessage_followed _ _ _ _)
  · exact (models_followed p _).trans (moveWrite_followed _ x)

theorem moveFailed_followed (p : Part) (k : Nat) : p.Followed (p.moveFailed k) := by
  unfold Part.moveFailed
  split
  · exact .refl p
  · dsimp only
    split
    · exact models_followed p _
    · exact (models_followed p _).trans (moveStart_followed _ _)

theorem moveErased_followed (p : Part) (k : Nat) : p.Followed (p.moveErased k) := by
  unfold Part.moveErased
  split
  · exact .refl p
  · exact moveWrite_followed p _

theorem moveDone_followed (p : Part) (k : Nat) : p.Followed (p.moveDone k) := by
  unfold Part.moveDone
  split
  · exact .refl p
  · dsimp only
    split
    · exact (models_followed p _).trans (bankMessage_followed _ _ _ _)
    · exact models_followed p _

theorem rewriteErased_followed (p : Part) (k : Nat) : p.Followed (p.rewriteErased k) := by
  unfold Part.rewriteErased
  split
  · exact .refl p
  · dsimp only
    split
    · exact models_followed p _
    · exact (models_followed p _).trans (bankMessage_followed _ _ _ _)

theorem rewriteWritten_followed (p : Part) (k : Nat) : p.Followed (p.rewriteWritten k) := by
  unfold Part.rewriteWritten
  split
  · exact .refl p
  · dsimp only
    split
    · exact models_followed p _
    · split
      · exact models_followed p _
      · split
        · exact bankMessage_followed p _ _ _
        · split
          · exact (models_followed p _).trans (bankMessage_followed _ _ _ _)
          · exact models_followed p _

theorem regGet_setSes (p : Part) (i : Nat) (v : Session) (a : Nat) : (p.setSes i v).regGet a = p.regGet a := by simp [Part.regGet]

/-- A reply ALREADY_DONE counts in no field of CMD_CNT. -/
theorem finish_alreadyDone_reg (p : Part) (i : Nat) : (p.finish i stAlreadyDone []).regGet aCmdCnt = p.regGet aCmdCnt := by
  unfold Part.finish
  dsimp only
  split
  · rfl
  · simp only [or_true, if_true]
    split
    · rw [regGet_setSes]
    · rw [produce_reg _ _ _ _ aCmdCnt_ne_aSessCnt, regGet_setSes]

theorem alreadyDone_followed (p : Part) (i : Nat) : p.Followed (p.alreadyDone i) := by
  refine ⟨by simp [Part.alreadyDone], ⟨[], by simp [Part.alreadyDone]⟩, ?_⟩
  rw [Part.alreadyDone, finish_alreadyDone_reg, regGet_bump_ne _ _ _ _ _ _ aCmdCnt_ne_aSrvCnt]

theorem markStale_followed (p : Part) (sl : Nat) : p.Followed (p.markStale sl) := by
  unfold Part.markStale
  split
  case h_1 => exact .refl p
  case h_2 r _ =>
    suffices h : ∀ (l : List (Nat × Nat)) (x : Part), x.Followed (l.foldl (fun y c => y.alreadyDone c.1) x) from
      Part.Followed.trans (.refl p) (h _ _)
    intro l
    induction l with
    | nil => exact .refl
    | cons c l ih => exact fun x => (alreadyDone_followed x c.1).trans (ih _)

/-! ### DIE_REPLY_ARRIVE (R289, R290) -/

theorem takeFirst_eq_none {α : Type} {q : α → Bool} : ∀ {l : List α}, (∀ x ∈ l, q x = false) → takeFirst q l = none
  | [], _ => rfl
  | x :: l, h => by
    obtain ⟨hx, hl⟩ := List.forall_mem_cons.mp h
    simp [takeFirst, hx, takeFirst_eq_none hl]

/-- CTL takes its oldest reply, and counts a STALE_ROLE return in STALE_RX (R290). -/
def Part.takeReply (p : Part) (m : DieMsg) (rest : List DieMsg) : Part :=
  let p := { p with d2d := { p.d2d with ctlReplies := rest } }
  if fld m.payload 12 2 = stStaleRole then p.bump aCmdCnt 32 16 1 else p

theorem takeReply_frame (p : Part) (m : DieMsg) (rest : List DieMsg) :
    (p.takeReply m rest).d2d = { p.d2d with ctlReplies := rest } ∧ (p.takeReply m rest).clk = p.clk := by
  unfold Part.takeReply
  dsimp only
  split <;> simp

theorem satAdd_regFld_zero (p : Part) (a lo w : Nat) : satAdd w (p.regFld a lo w) 0 = p.regFld a lo w := by
  have : p.regFld a lo w < 2 ^ w := Nat.mod_lt _ (Nat.two_pow_pos w)
  simp only [satAdd]
  omega

theorem takeReply_stale (p : Part) (m : DieMsg) (rest : List DieMsg) : (p.takeReply m rest).regFld aCmdCnt 32 16 =
    satAdd 16 (p.regFld aCmdCnt 32 16) (if fld m.payload 12 2 = stStaleRole then 1 else 0) := by
  unfold Part.takeReply
  dsimp only
  split
  case isTrue => exact regFld_bump _ _ _ _ _ (by omega)
  case isFalse => exact (satAdd_regFld_zero p _ _ _).symm

/-- The late replies are another field of CMD_CNT. -/
theorem takeReply_late (p : Part) (m : DieMsg) (rest : List DieMsg) :
    (p.takeReply m rest).regFld aCmdCnt 16 16 = p.regFld aCmdCnt 16 16 := by
  unfold Part.takeReply
  dsimp only
  split
  case isTrue => exact regFld_bump_field _ _ 32 16 1 16 16 (by omega) (.inl (by omega))
  case isFalse => rfl

section
variable {p : Part} {m : DieMsg} {rest : List DieMsg} (hm : p.d2d.ctlReplies = m :: rest)
include hm

/-- A reply that matches no command is discarded; it counts in LATE_REPLY unless it has no OPCODE. -/
theorem replyArrive_unmatched
    (hc : takeFirst (fun c : CtlCmd => c.tag == fld m.payload 4 4 && c.seq == fld m.payload 8 4) p.d2d.outstanding = none) :
    p.replyArrive = if fld m.payload 0 1 = 0 then p.takeReply m rest else (p.takeReply m rest).bump aCmdCnt 16 16 1 := by
  have ho : (p.takeReply m rest).d2d.outstanding = p.d2d.outstanding := by rw [(takeReply_frame p m rest).1]
  rw [← ho] at hc
  simp only [Part.takeReply] at hc
  simp only [Part.replyArrive, hm, hc]
  rfl

/-- A reply that matches a command stops its timer, and those that waited behind it start. -/
theorem replyArrive_matched {c : CtlCmd} {l : List CtlCmd}
    (hc : takeFirst (fun c : CtlCmd => c.tag == fld m.payload 4 4 && c.seq == fld m.payload 8 4) p.d2d.outstanding = some (c, l)) :
    p.replyArrive = { p.takeReply m rest with d2d := { (p.takeReply m rest).d2d with outstanding := restartTimers p.now c l } } := by
  obtain ⟨hd, hk⟩ := takeReply_frame p m rest
  have ho : (p.takeReply m rest).d2d.outstanding = p.d2d.outstanding := by rw [hd]
  have hn : (p.takeReply m rest).now = p.now := by simp only [Part.now, hk]
  rw [← ho] at hc
  rw [← hn]
  simp only [Part.takeReply] at hc
  simp only [Part.replyArrive, hm, hc]
  rfl

/-- Whether it matches or not, the oldest reply is taken and a STALE_ROLE return counted. -/
theorem replyArrive_taken : p.replyArrive.d2d.ctlReplies = rest ∧ p.replyArrive.regFld aCmdCnt 32 16 =
    satAdd 16 (p.regFld aCmdCnt 32 16) (if fld m.payload 12 2 = stStaleRole then 1 else 0) := by
  obtain ⟨hd, _⟩ := takeReply_frame p m rest
  rw [← takeReply_stale p m rest]
  cases hc : takeFirst (fun c : CtlCmd => c.tag == fld m.payload 4 4 && c.seq == fld m.payload 8 4) p.d2d.outstanding with
  | none =>
    rw [replyArrive_unmatched hm hc]
    split
    · exact ⟨by rw [hd], rfl⟩
    · exact ⟨by simp [hd], regFld_bump_field _ _ 16 16 1 32 16 (by omega) (.inr (by omega))⟩
  | some x =>
    rw [replyArrive_matched hm hc]
    exact ⟨by rw [hd], rfl⟩

theorem replyArrive_unmatched_counts
    (hc : takeFirst (fun c : CtlCmd => c.tag == fld m.payload 4 4 && c.seq == fld m.payload 8 4) p.d2d.outstanding = none) :
    p.replyArrive.d2d.outstanding = p.d2d.outstanding ∧ p.replyArrive.regFld aCmdCnt 16 16 =
      satAdd 16 (p.regFld aCmdCnt 16 16) (if fld m.payload 0 1 = 0 then 0 else 1) := by
  obtain ⟨hd, _⟩ := takeReply_frame p m rest
  rw [replyArrive_unmatched hm hc, ← takeReply_late p m rest]
  split
  · exact ⟨by rw [hd], (satAdd_regFld_zero _ _ _ _).symm⟩
  · exact ⟨by simp [hd], regFld_bump _ _ _ _ _ (by omega)⟩

theorem replyArrive_matched_counts {c : CtlCmd} {l : List CtlCmd}
    (hc : takeFirst (fun c : CtlCmd => c.tag == fld m.payload 4 4 && c.seq == fld m.payload 8 4) p.d2d.outstanding = some (c, l)) :
    p.replyArrive.d2d.outstanding = restartTimers p.now c l ∧ p.replyArrive.regFld aCmdCnt 16 16 = p.regFld aCmdCnt 16 16 := by
  rw [replyArrive_matched hm hc]
  exact ⟨rfl, takeReply_late p m rest⟩

end

theorem replyArrive_empty {s : State} (h : s.part.d2d.ctlReplies = []) : s.replyArrive = s := by
  simp only [State.replyArrive, h]

/-- Nothing waits for a reply that matches no command. -/
theorem replyArrive_late {s : State} {m : DieMsg} {rest : List DieMsg} (hm : s.part.d2d.ctlReplies = m :: rest)
    (hc : s.part.d2d.outstanding.find? (fun c => c.tag == fld m.payload 4 4 && c.seq == fld m.payload 8 4) = none) :
    s.replyArrive = withPart s s.part.replyArrive := by
  simp only [State.replyArrive, hm, hc]
  rfl

/-- The oldest reply is taken, and what waited for it goes on. -/
theorem replyArrive_followed {s : State} {m : DieMsg} {rest : List DieMsg} (hm : s.part.d2d.ctlReplies = m :: rest) :
    ∃ r, s.replyArrive = withPart s r ∧ s.part.replyArrive.Followed r := by
  unfold State.replyArrive
  simp only [hm]
  split
  case h_1 => exact ⟨_, rfl, .refl _⟩
  case h_2 c _ =>
    split
    · exact ⟨_, rfl, (rewriteErased_followed _ _).trans (moveErased_followed _ _)⟩
    · split
      · exact ⟨_, rfl, (rewriteWritten_followed _ _).trans (moveDone_followed _ _)⟩
      · split
        · exact ⟨_, rfl, moveFailed_followed _ _⟩
        · split
          · exact ⟨_, rfl, rewriteWritten_followed _ _⟩
          · split
            · exact ⟨_, rfl, markStale_followed _ _⟩
            · exact ⟨_, rfl, .refl _⟩

theorem exec_dieReplyArrive {s : State} (ha : s.part.alive 1 = true) : exec .dieReplyArrive s = .next s.replyArrive :=
  liveMem_alive (f := State.replyArrive) ha

/-! ### DIE_COMMAND_TIMEOUT (R288, R290) -/

/-- A command whose timer has passed its limit is removed and counted in TIMEOUTS, and its die is treated as failed (R289, R290). -/
def Part.expire (p : Part) (c : CtlCmd) (rest : List CtlCmd) : Part :=
  ({ p with d2d := { p.d2d with outstanding := restartTimers p.now c rest } }.bump aCmdCnt 0 16 1).dieFailed c.die

theorem expire_frame (p : Part) (c : CtlCmd) (rest : List CtlCmd) :
    (p.expire c rest).d2d.outstanding = restartTimers p.now c rest ∧ (p.expire c rest).failedDie = some (p.failedDie.getD c.die) ∧
    (p.expire c rest).regFld aCmdCnt 0 16 = satAdd 16 (p.regFld aCmdCnt 0 16) 1 := by
  refine ⟨by simp [Part.expire], by simp [Part.expire, dieFailed_failed], ?_⟩
  have h : (p.expire c rest).regFld aCmdCnt 0 16 =
      ({ p with d2d := { p.d2d with outstanding := restartTimers p.now c rest } }.bump aCmdCnt 0 16 1).regFld aCmdCnt 0 16 :=
    congrArg (getBits · 0 16) (dieFailed_reg _ _ _ aCmdCnt_ne_aSessCnt)
  rw [h, regFld_bump _ _ _ _ _ (by omega)]
  rfl

/-- A die that fails leaves each session's state and the commands that run there. -/
theorem dieFailed_ses_keeps (p : Part) (d i : Nat) :
    ((p.dieFailed d).ses i).running = (p.ses i).running ∧ ((p.dieFailed d).ses i).st = (p.ses i).st :=
  ⟨(congrArg Session.running (dieFailed_ses p d i) :), (congrArg Session.st (dieFailed_ses p d i) :)⟩

theorem ses_bump (p : Part) (a lo w n i : Nat) : (p.bump a lo w n).ses i = p.ses i := by simp [Part.ses]

theorem expire_ses (p : Part) (c : CtlCmd) (rest : List CtlCmd) (i : Nat) :
    ((p.expire c rest).ses i).running = (p.ses i).running ∧ ((p.expire c rest).ses i).st = (p.ses i).st := by
  unfold Part.expire
  rw [(dieFailed_ses_keeps _ _ i).1, (dieFailed_ses_keeps _ _ i).2, ses_bump]
  exact ⟨rfl, rfl⟩

/-- The reply TIMEOUT of a host command that runs. -/
def timeoutReply (a : ACmd) : Reply :=
  { op := a.op, kind := 0, tag := a.tag, seq := a.seq, status := stTimeout, body := [], owner := 0, id := 0 }

/-- The host command that waited for a die command completes with TIMEOUT (R290). -/
def Part.hostTimeout (p : Part) (c : CtlCmd) : Part :=
  if c.sess < 64 then
    match takeFirst (fun a : ACmd => a.tag == c.tag) (p.ses c.sess).running with
    | none => p
    | some (a, l) => (p.modSes c.sess fun s => { s with running := l }).produce c.sess (timeoutReply a)
  else p

theorem hostTimeout_frame (p : Part) (c : CtlCmd) :
    (p.hostTimeout c).d2d = p.d2d ∧ (p.hostTimeout c).failedDie = p.failedDie ∧ (p.hostTimeout c).regGet aCmdCnt = p.regGet aCmdCnt := by
  unfold Part.hostTimeout
  split
  · split
    · exact ⟨rfl, rfl, rfl⟩
    · refine ⟨by simp, by simp, ?_⟩
      rw [produce_reg _ _ _ _ aCmdCnt_ne_aSessCnt, Part.modSes, regGet_setSes]
  · exact ⟨rfl, rfl, rfl⟩

/-- A reply that is no notice waits at every session that is not CLOSED (R247, R251). -/
theorem produce_answer {p : Part} {i : Nat} {r : Reply} (hc : (p.ses i).st ≠ .closed) (hk : r.kind < 2) :
    ((p.produce i r).ses i).waiting = (p.ses i).waiting ++ [r] := by
  have h2 : ¬ (2 ≤ r.kind ∧ r.kind ≤ 5 ∧ 256 ≤ noticesWaiting (p.ses i).waiting) := by omega
  unfold Part.produce
  split
  · contradiction
  · rw [if_neg h2, ses_modSes]

theorem hostTimeout_ses {p : Part} {c : CtlCmd} {a : ACmd} {l : List ACmd} (hs : c.sess < 64)
    (hr : takeFirst (fun a : ACmd => a.tag == c.tag) (p.ses c.sess).running = some (a, l)) :
    ((p.hostTimeout c).ses c.sess).running = l ∧ ((p.ses c.sess).st ≠ .closed → ∃ r ∈ ((p.hostTimeout c).ses c.sess).waiting,
      r.op = a.op ∧ r.kind = 0 ∧ r.tag = a.tag ∧ r.seq = a.seq ∧ r.status = stTimeout ∧ r.body = []) := by
  have e : p.hostTimeout c = (p.modSes c.sess fun s => { s with running := l }).produce c.sess (timeoutReply a) := by
    simp only [Part.hostTimeout, hs, hr, if_true]
  rw [e]
  constructor
  · obtain ⟨_, _, hrun, _, _⟩ :=
      (produce_ses (p.modSes c.sess fun s => { s with running := l }) c.sess c.sess (timeoutReply a)).keeps
    rw [hrun, ses_modSes]
  · intro hc
    rw [produce_answer (by rwa [ses_modSes]) Nat.zero_lt_two]
    exact ⟨_, List.mem_append_right _ (List.mem_singleton_self _), rfl, rfl, rfl, rfl, rfl, rfl⟩

section
variable {p : Part} {tag seq : Nat} {c : CtlCmd} {rest : List CtlCmd}
  (hc : takeFirst (fun c : CtlCmd => c.tag == tag && c.seq == seq) p.d2d.outstanding = some (c, rest))
include hc

theorem cmdTimeout_expired (hr : timerRuns c p.d2d.outstanding = true) (ht : c.start + p.cmdLimit c.opcode < p.now) :
    p.cmdTimeout tag seq = (p.expire c rest).hostTimeout c := by
  simp only [Part.cmdTimeout, hc, hr, ht, decide_true, Bool.and_self, if_true]
  rfl

theorem cmdTimeout_waits (h : timerRuns c p.d2d.outstanding = false ∨ p.now ≤ c.start + p.cmdLimit c.opcode) :
    p.cmdTimeout tag seq = p := by
  have : (timerRuns c p.d2d.outstanding && decide (c.start + p.cmdLimit c.opcode < p.now)) = false := by
    rcases h with h | h
    · rw [h, Bool.false_and]
    · rw [decide_eq_false (Nat.not_lt.mpr h), Bool.and_false]
  simp only [Part.cmdTimeout, hc, this, Bool.false_eq_true, if_false]

end

theorem exec_dieCommandTimeout {s : State} (tag seq : Nat) (ha : s.part.alive 1 = true) :
    exec (.dieCommandTimeout tag seq) s = .next (withPart s (s.part.cmdTimeout tag seq).readiness) :=
  live_alive (f := fun p => (p.cmdTimeout tag seq).readiness) ha

end Sys2Proof.Machine

namespace Sys2Proof

open Machine

/-- Settles O19: a held message by its age, a reply by whether it matches a command, and a command by its timer. -/
theorem dieMessagesAndCommandsEnd : Obligations.DieMessagesAndCommandsEnd := by
  unfold Obligations.DieMessagesAndCommandsEnd
  refine ⟨fun s h src dst cls seq hh ha => exec_dieMessageAck src dst cls seq hh ha, fun s src dst cls seq x rest hs hd ha hx => ⟨?late, ?held⟩,
    fun s ha => ⟨?noReply, ?reply⟩, fun s tag seq c rest ha hc => ⟨?expired, ?waits⟩⟩
  case late =>
    intro ht
    rw [exec_dieDeliveryTimeout cls seq hs hd ha, deliveryTimeout_late hx ht]
    refine ⟨_, rfl, rfl, ?_, ?_⟩
    · simp [withPart]
    · simp only [withPart, readiness_frame, dieFailed_failed]
  case held =>
    intro ht
    rw [exec_dieDeliveryTimeout cls seq hs hd ha, deliveryTimeout_early hx ht]
  case noReply =>
    intro h
    rw [exec_dieReplyArrive ha, replyArrive_empty h]
  case reply =>
    intro m rest hm
    rw [exec_dieReplyArrive ha]
    obtain ⟨r, hr, hrep, ⟨more, hout⟩, hreg⟩ := replyArrive_followed hm
    obtain ⟨htaken, hstale⟩ := replyArrive_taken hm
    have hfld (lo w : Nat) : r.regFld aCmdCnt lo w = s.part.replyArrive.regFld aCmdCnt lo w := by simp only [Part.regFld, hreg]
    refine ⟨_, rfl, by rw [hr]; exact hrep.trans htaken, by rw [hr]; exact (hfld 32 16).trans hstale, fun hno => ?_, fun c l hc => ?_⟩
    · have hq : ∀ c ∈ s.part.d2d.outstanding, (c.tag == fld m.payload 4 4 && c.seq == fld m.payload 8 4) = false := by
        simpa using hno
      rw [replyArrive_late hm (List.find?_eq_none.mpr (by simpa using hno))]
      exact replyArrive_unmatched_counts hm (takeFirst_eq_none hq)
    · obtain ⟨hrest, hlate⟩ := replyArrive_matched_counts hm hc
      rw [hr]
      exact ⟨(hfld 16 16).trans hlate, more, hout.trans (by rw [hrest])⟩
  case expired =>
    intro hr ht
    rw [exec_dieCommandTimeout tag seq ha, cmdTimeout_expired hc hr ht]
    obtain ⟨hout, hdie, hcnt⟩ := expire_frame s.part c rest
    obtain ⟨hd2d, hfail, hreg⟩ := hostTimeout_frame (s.part.expire c rest) c
    obtain ⟨hrun, hst⟩ := expire_ses s.part c rest c.sess
    refine ⟨_, rfl, ?_, ?_, ?_, fun a l hs hl => ?_⟩
    · simp only [withPart, readiness_frame, hd2d, hout]
    · simp only [withPart, readiness_frame, hfail, hdie]
    · rw [← hcnt]
      simp only [withPart, Part.regFld, readiness_reg _ _ aCmdCnt_ne_aSessCnt, hreg]
    · rw [← hrun] at hl
      obtain ⟨hl', hw⟩ := hostTimeout_ses hs hl
      have hg := readiness_ses ((s.part.expire c rest).hostTimeout c) c.sess
      obtain ⟨_, _, hkeep, _, _⟩ := hg.keeps
      obtain ⟨_, more, hmore⟩ := hg
      refine ⟨hkeep.trans hl', fun hopen => ?_⟩
      obtain ⟨r, hr, hfields⟩ := hw (by rwa [hst])
      exact ⟨r, by simp only [withPart, hmore]; exact List.mem_append_left _ hr, hfields⟩
  case waits =>
    intro h
    rw [exec_dieCommandTimeout tag seq ha, cmdTimeout_waits hc h]

end Sys2Proof

/-! SUPPORT. Calibration commands and the capture memory of a tile (R79 to R88, R279). -/
namespace Sys2Proof.Machine

/-! ### Commands on a tile -/

theorem live_tile {s : State} {t : Nat} {f : Part → Part} (ht : isTile t = true) (ha : s.part.alive (3 + t / 1024) = true) :
    s.live (3 + t / 1024) (tileOk t) f = .next (withPart s (f s.part)) := by
  rw [show tileOk t = true from ht]
  exact live_alive ha

theorem tileWritable_of {p : Part} {b : Accessor} {t : Nat} (h : b ≠ .host ∨ p.tileService t = false) : p.tileWritable b t = true := by
  rcases h with h | h <;> simp [Part.tileWritable, h]

theorem tileWritable_host {p : Part} {t : Nat} (h : p.tileService t = true) : p.tileWritable .host t = false := by
  simp [Part.tileWritable, h]

section
variable {s : State} {t : Nat} {b : Accessor} {f : Part → Part} (ht : isTile t = true) (ha : s.part.alive (3 + t / 1024) = true)
include ht ha

/-- A write of a tile's converter register that R83 lets through acts on the part. -/
theorem live_tileWrite (hw : s.part.tileWritable b t = true) :
    (s.live (3 + t / 1024) (tileOk t) fun p => if p.tileWritable b t then f p else p) = .next (withPart s (f s.part)) := by
  rw [live_tile ht ha, if_pos hw]

/-- One that R83 discards changes nothing. -/
theorem live_tileDiscard (hw : s.part.tileWritable b t = false) :
    (s.live (3 + t / 1024) (tileOk t) fun p => if p.tileWritable b t then f p else p) = .next s := by
  rw [live_tile ht ha, if_neg (by simp [hw])]
  rfl

end

/-! ### The start of a calibration command (R79, R80) -/

/-- The run that a calibration command begins at an instant, at the next array phase boundary. -/
def CalRun.BeginsAt (x : CalRun) (now : Nat) (msg : Option DieMsg) : Prop := x.msg = msg ∧ x.start = nextPhase now

theorem calStart_run (p : Part) (t w : Nat) (msg : Option DieMsg) : ∃ x, ((p.calStart t w msg).tile t).cal = some x ∧
    x.BeginsAt p.now msg ∧ x.word = w ∧ x.band = p.tileBand t ∧ x.phases = calRepeat w :=
  ⟨_, by rw [Part.calStart, tile_setTile], ⟨rfl, rfl⟩, rfl, rfl, rfl⟩

theorem calStart_other (p : Part) {t j : Nat} (w : Nat) (msg : Option DieMsg) (h : j ≠ t) : (p.calStart t w msg).tile j = p.tile j :=
  tile_setTile_ne p t j _ h

/-! ### CAL_CMD (R279) -/

theorem inbox_popInbox (p : Part) (die unit : Nat) : (p.popInbox die unit).inbox die unit = (p.inbox die unit).drop 1 :=
  mget_mset_same _ _ _ _

theorem calCmd_noMessage {p : Part} {die unit : Nat} (h : p.headCmd die unit 0xB0 = none) : p.calCmd die unit = p := by
  simp only [Part.calCmd, h]

section
variable {p : Part} {die unit t : Nat} {m : DieMsg} (ht : t = (die - 12) * 1024 + (unit - 0x800)) (hm : p.headCmd die unit 0xB0 = some m)
include ht hm

theorem calCmd_refused {st : Nat} (hf : calFail (par m.payload 0 8) (p.tile t).calBusy = some st) :
    p.calCmd die unit = (p.popInbox die unit).answer die m 0 st [] := by
  simp only [Part.calCmd, hm, tile_popInbox, ← ht, hf]

variable (hf : calFail (par m.payload 0 8) (p.tile t).calBusy = none)
include hf

theorem calCmd_noPhases (hr : calRepeat (par m.payload 0 8) = 0) :
    p.calCmd die unit = (p.popInbox die unit).answer die m 0 stOk [] := by
  simp only [Part.calCmd, hm, tile_popInbox, ← ht, hf, hr, if_true]

theorem calCmd_starts (hr : calRepeat (par m.payload 0 8) ≠ 0) :
    p.calCmd die unit = (p.popInbox die unit).calStart t (par m.payload 0 8) (some m) := by
  simp only [Part.calCmd, hm, tile_popInbox, ← ht, hf, hr, if_false]

end

theorem exec_calCmd {s : State} {die unit : Nat} (hu : isTileUnit die unit = true) (ha : s.part.alive (dieDomain die) = true) :
    exec (.calCmd die unit) s = .next (withPart s (s.part.calCmd die unit)) := by
  calc exec (.calCmd die unit) s
      = s.live (dieDomain die) (isTileUnit die unit) fun p => p.calCmd die unit := rfl
    _ = .next (withPart s (s.part.calCmd die unit)) := by rw [hu, live_alive ha]; rfl

/-! ### CONV_CAL_CMD (R80) -/

/-- CMD_ERR is one bit wide, so counting in it sets it. -/
theorem cmdErr_set (p : Part) (t : Nat) : (p.cmdErr t).regFld (convStatusAddr t) 1 1 = 1 := by
  rw [Part.cmdErr, regFld_bump p _ 1 1 1 (by decide), satAdd]
  omega

@[simp] theorem cmdErr_an (p : Part) (t : Nat) : (p.cmdErr t).an = p.an := by simp [Part.cmdErr]

section
variable {p : Part} {t w : Nat}

theorem convCalCmd_refused {st : Nat} (hf : calFail w (p.tile t).calBusy = some st) : p.convCalCmd t w = p.cmdErr t := by
  simp only [Part.convCalCmd, hf]

theorem convCalCmd_noPhases (hf : calFail w (p.tile t).calBusy = none) (hr : calRepeat w = 0) : p.convCalCmd t w = p := by
  simp only [Part.convCalCmd, hf, hr, if_true]

theorem convCalCmd_starts (hf : calFail w (p.tile t).calBusy = none) (hr : calRepeat w ≠ 0) :
    p.convCalCmd t w = p.calStart t w none := by
  simp only [Part.convCalCmd, hf, hr, if_false]

end

/-! ### CAL_ABORT (R82) -/

/-- What an abort leaves of a command: the phases begun, and their drops. -/
def CalRun.abortedAt (c : CalRun) (now : Nat) : CalRun :=
  let n := min c.phases (if now < c.start then 0 else (now - c.start) / 8 + 1)
  { c with phases := n, drops := c.drops.filter fun j => decide (j < n) }

theorem calAbort_idle {p : Part} {t : Nat} (h : (p.tile t).cal = none) : p.calAbort t = p := by
  simp only [Part.calAbort, h]

theorem calAbort_running {p : Part} {t : Nat} {c : CalRun} (h : (p.tile t).cal = some c) :
    p.calAbort t = p.setTile t { p.tile t with cal := some (c.abortedAt p.now) } := by
  simp only [Part.calAbort, h, CalRun.abortedAt]

theorem abortedAt_phases_waiting {c : CalRun} {now : Nat} (h : now < c.start) : (c.abortedAt now).phases = 0 := by
  simp [CalRun.abortedAt, h]

theorem abortedAt_phases_begun {c : CalRun} {now : Nat} (h : c.start ≤ now) :
    (c.abortedAt now).phases = min c.phases ((now - c.start) / 8 + 1) := by
  simp only [CalRun.abortedAt, if_neg (Nat.not_lt.mpr h)]

/-! ### CAP_CLEAR, CONV_CFG and CAPTURE_EMPTY (R87) -/

theorem capClear_cap (p : Part) (t : Nat) :
    ((p.capClear t).tile t).cap = { (p.tile t).cap with emptyAt := some (nextPhase p.now) } := by
  rw [Part.capClear, tile_setTile]

/-- CONV_CFG holds the fields that were written; a change of CAP_MODE clears the capture memory besides. -/
theorem convCfg_eq (p : Part) (t w : Nat) : p.convCfg t w =
    if p.regFld (convCfgAddr t) 0 2 = w % 4 then p.regSet (convCfgAddr t) (BitVec.ofNat 64 (w % 2 ^ 15))
    else (p.regSet (convCfgAddr t) (BitVec.ofNat 64 (w % 2 ^ 15))).capClear t := by
  simp only [Part.convCfg]

@[simp] theorem capClear_regGet (p : Part) (t a : Nat) : (p.capClear t).regGet a = p.regGet a := by
  simp [Part.capClear, Part.regGet]

theorem convCfg_word (p : Part) (t w : Nat) : (p.convCfg t w).regGet (convCfgAddr t) = BitVec.ofNat 64 (w % 2 ^ 15) := by
  rw [convCfg_eq]
  split
  case isTrue => exact regGet_regSet _ _ _
  case isFalse => rw [capClear_regGet, regGet_regSet]

theorem convCfg_sameMode {p : Part} {t w : Nat} (h : p.regFld (convCfgAddr t) 0 2 = w % 4) : (p.convCfg t w).tile t = p.tile t := by
  simp only [convCfg_eq, h, if_true, Part.tile, regSet_frame]

theorem convCfg_newMode {p : Part} {t w : Nat} (h : p.regFld (convCfgAddr t) 0 2 ≠ w % 4) :
    ((p.convCfg t w).tile t).cap.emptyAt = some (nextPhase p.now) := by
  simp only [convCfg_eq, h, if_false, capClear_cap, Part.now, regSet_frame]

theorem captureEmpty_idle {p : Part} {t : Nat} (h : (p.tile t).cap.emptyAt = none) : p.captureEmpty t = p := by
  simp only [Part.captureEmpty, h]

theorem captureEmpty_early {p : Part} {t a : Nat} (h : (p.tile t).cap.emptyAt = some a) (ha : p.now < a) : p.captureEmpty t = p := by
  simp only [Part.captureEmpty, h, if_neg (Nat.not_le.mpr ha)]

theorem captureEmpty_due {p : Part} {t a : Nat} (h : (p.tile t).cap.emptyAt = some a) (ha : a ≤ p.now) :
    ((p.captureEmpty t).tile t).cap = { Cap.reset with mode := capMode (p.regFld (convCfgAddr t) 0 2), since := a } := by
  simp only [Part.captureEmpty, h, ha, if_true, tile_setTile]

/-! ### CONV_QUEUE (R88) -/

/-- The entries that a write of RD_PTR passes. -/
def Cap.passedBy (c : Cap) (rd : Nat) : Nat := (rd % 512 + 512 - c.rd) % 512

theorem convQueue_frees {p : Part} {t rd : Nat} (h : (p.tile t).cap.passedBy rd ≤ (p.tile t).cap.count) :
    ((p.convQueue t rd).tile t).cap =
      { (p.tile t).cap with rd := rd % 512, count := (p.tile t).cap.count - (p.tile t).cap.passedBy rd } := by
  unfold Cap.passedBy at h ⊢
  simp only [Part.convQueue, if_neg (Nat.not_lt.mpr h), tile_setTile]

theorem convQueue_discarded {p : Part} {t rd : Nat} (h : (p.tile t).cap.count < (p.tile t).cap.passedBy rd) :
    p.convQueue t rd = p.cmdErr t := by
  unfold Cap.passedBy at h
  simp only [Part.convQueue, if_pos h]

/-! ### CAL_COMPLETE (R80, R116) -/

/-- What capturing codes leaves alone: free values, part time, the ACDs, and the calibration command of the tile. -/
def Part.CapturesInto (p q : Part) (t : Nat) : Prop :=
  q.freeTick = p.freeTick ∧ q.clk = p.clk ∧ q.an.acds = p.an.acds ∧ (q.tile t).cal = (p.tile t).cal

theorem capture_capturesInto (p : Part) (t : Nat) (c : Conversion) : p.CapturesInto (p.capture t c) t := by
  have counted (lo : Nat) : p.CapturesInto (p.bump (convStatusAddr t) lo 16 1) t := by simp [Part.CapturesInto]
  have stored (k : Cap) : p.CapturesInto (p.setTile t { p.tile t with cap := k }) t :=
    ⟨rfl, rfl, rfl, by rw [tile_setTile]⟩
  unfold Part.capture
  dsimp only
  split
  · exact ⟨rfl, rfl, rfl, rfl⟩
  · split
    · split
      · exact counted 48
      · exact stored _
    · split
      · exact counted 32
      · exact stored _

theorem captureAll_capturesInto (t : Nat) : ∀ (cs : List Conversion) (p : Part), p.CapturesInto (p.captureAll t cs) t
  | [], _ => ⟨rfl, rfl, rfl, rfl⟩
  | c :: cs, p => by
    obtain ⟨hf, hc, ha, ht⟩ := capture_capturesInto p t c
    obtain ⟨hf', hc', ha', ht'⟩ := captureAll_capturesInto t cs (p.capture t c)
    exact ⟨hf'.trans hf, hc'.trans hc, ha'.trans ha, ht'.trans ht⟩

theorem countDrops_frame (p : Part) (t : Nat) :
    (p.countDrops t).freeTick = p.freeTick ∧ (p.countDrops t).clk = p.clk ∧ (p.countDrops t).an.acds = p.an.acds := by
  unfold Part.countDrops
  split
  · exact ⟨rfl, rfl, rfl⟩
  · simp only [regSet_frame, setTile_frame]
    exact ⟨trivial, trivial, rfl⟩

/-- The part as a tile's command `c` ends: its drops are counted, its codes take their free values and CAL_BUSY is clear. -/
def Part.calEnded (p : Part) (t : Nat) (c : CalRun) : Part :=
  let q := { p.countDrops t with freeTick := (p.countDrops t).freeTick + 260 * c.phases }
  q.setTile t { q.tile t with cal := none }

theorem calEnded_frame (p : Part) (t : Nat) (c : CalRun) :
    (p.calEnded t c).freeTick = p.freeTick + 260 * c.phases ∧ (p.calEnded t c).clk = p.clk ∧
    (p.calEnded t c).an.acds = p.an.acds ∧ ((p.calEnded t c).tile t).cal = none := by
  obtain ⟨hf, hc, ha⟩ := countDrops_frame p t
  exact ⟨congrArg (· + 260 * c.phases) hf, hc, ha, by rw [Part.calEnded, tile_setTile]⟩

/-- The same once its codes are captured. -/
def Part.calCaptured (p : Part) (t : Nat) (c : CalRun) (devs : List (List Int)) : Part :=
  (p.calEnded t c).captureAll t (calConversions c p.freeTick devs)

theorem calCaptured_frame (p : Part) (t : Nat) (c : CalRun) (devs : List (List Int)) :
    (p.calCaptured t c devs).freeTick = p.freeTick + 260 * c.phases ∧ (p.calCaptured t c devs).now = p.now ∧
    (p.calCaptured t c devs).checkOn t = p.checkOn t ∧ ((p.calCaptured t c devs).tile t).cal = none := by
  obtain ⟨hf, hc, ha, ht⟩ := calEnded_frame p t c
  obtain ⟨hf', hc', ha', ht'⟩ := captureAll_capturesInto t (calConversions c p.freeTick devs) (p.calEnded t c)
  refine ⟨hf'.trans hf, congrArg (fun k : Clk => k.cycles * 32 / 5) (hc'.trans hc), ?_, ht'.trans ht⟩
  simp only [Part.checkOn, Part.acd, show (p.calCaptured t c devs).an.acds = p.an.acds from ha'.trans ha]

section
variable {p : Part} {t : Nat} {devs : List (List Int)}

theorem calComplete_idle (h : (p.tile t).cal = none) : p.calComplete t devs = p := by
  simp only [Part.calComplete, h]

variable {c : CalRun} (h : (p.tile t).cal = some c)
include h

theorem calComplete_early (hn : p.now < c.start + 8 * c.phases) : p.calComplete t devs = p := by
  simp only [Part.calComplete, h, hn, if_true]

variable (hn : c.start + 8 * c.phases ≤ p.now)
include hn

theorem calComplete_message {m : DieMsg} (hm : c.msg = some m) :
    p.calComplete t devs = (p.calCaptured t c devs).answer (tileDie t) m 0 stOk [] := by
  simp only [Part.calComplete, h, if_neg (Nat.not_lt.mpr hn), hm]
  rfl

theorem calComplete_register (hm : c.msg = none) (hk : p.checkOn t = none) : p.calComplete t devs = p.calCaptured t c devs := by
  obtain ⟨_, _, hcheck, _⟩ := calCaptured_frame p t c devs
  have hk' := hcheck.trans hk
  unfold Part.calCaptured Part.calEnded at hk'
  simp only [Part.calComplete, h, if_neg (Nat.not_lt.mpr hn), hm, hk']
  rfl

theorem calComplete_check {r : AnnealRun} (hm : c.msg = none) (hk : p.checkOn t = some r) :
    p.calComplete t devs = (p.calCaptured t c devs).checkStep t r (calConversions c p.freeTick devs) := by
  obtain ⟨_, _, hcheck, _⟩ := calCaptured_frame p t c devs
  have hk' := hcheck.trans hk
  unfold Part.calCaptured Part.calEnded at hk'
  simp only [Part.calComplete, h, if_neg (Nat.not_lt.mpr hn), hm, hk']
  rfl

end

/-- No free value is drawn from `p` to `q`, and a calibration command that runs on the tile in `q` began at `p`, without a message. -/
def Part.MayStart (p q : Part) (t : Nat) : Prop :=
  q.freeTick = p.freeTick ∧ ∀ x, (q.tile t).cal = some x → x.BeginsAt p.now none

theorem mayStart_of_idle {p q : Part} {t : Nat} (hf : q.freeTick = p.freeTick) (ht : (q.tile t).cal = none) : p.MayStart q t :=
  ⟨hf, fun x hx => by simp [ht] at hx⟩

/-- The anneal unit starts its next command on the tile of its bank. -/
theorem checkCommand_mayStart {p q : Part} {k t : Nat} (i : Nat) (hf : q.freeTick = p.freeTick) (hc : q.clk = p.clk) (hk : k / 2 = t) :
    p.MayStart (q.checkCommand k i) t := by
  subst hk
  obtain ⟨y, hy, ⟨hmsg, hstart⟩, _⟩ := calStart_run q (k / 2) (checkWord (k % 2) i) none
  refine ⟨hf, fun x hx => ?_⟩
  obtain rfl : y = x := Option.some.inj (hy.symm.trans hx)
  exact ⟨hmsg, hstart.trans (by rw [Part.now, hc]; rfl)⟩

theorem checkOn_bank {p : Part} {t : Nat} {r : AnnealRun} (h : p.checkOn t = some r) : r.bank / 2 = t := by
  unfold Part.checkOn at h
  split at h
  · contradiction
  · split at h
    case isTrue hr =>
      obtain rfl := Option.some.inj h
      simp only [Bool.and_eq_true, beq_iff_eq] at hr
      exact hr.1.2
    case isFalse => contradiction

/-- After a command of a column check its tile runs the next command of the check, the same one again, or none (R119). -/
theorem checkStep_mayStart {p : Part} {t : Nat} {r : AnnealRun} (cs : List Conversion) (ht : (p.tile t).cal = none)
    (hr : r.bank / 2 = t) : p.MayStart (p.checkStep t r cs) t := by
  simp only [Part.checkStep]
  split
  · split
    · exact checkCommand_mayStart _ (by simp) (by simp) hr
    · exact mayStart_of_idle (by simp) (by rw [tile_answer, tile_setBank, tile_bump, tile_setAcd, ht])
  · split
    · exact checkCommand_mayStart _ (by simp) (by simp) hr
    · exact mayStart_of_idle (by simp) (by rw [tile_setAcd, ht])

/-- A command that has run its phases: the free values that its codes took, and the tile's command after it. -/
theorem calComplete_due {p : Part} {t : Nat} {c : CalRun} (devs : List (List Int)) (h : (p.tile t).cal = some c)
    (hn : c.start + 8 * c.phases ≤ p.now) :
    (p.calComplete t devs).freeTick = p.freeTick + 260 * c.phases ∧
    ((c.msg ≠ none ∨ p.checkOn t = none) → ((p.calComplete t devs).tile t).cal = none) ∧
    ∀ x, ((p.calComplete t devs).tile t).cal = some x → x.BeginsAt p.now none := by
  obtain ⟨hfree, hnow, _, hcal⟩ := calCaptured_frame p t c devs
  cases hm : c.msg with
  | some m => simp [calComplete_message h hn hm, hfree, hcal]
  | none =>
    cases hk : p.checkOn t with
    | none => simp [calComplete_register h hn hm hk, hfree, hcal]
    | some r =>
      rw [calComplete_check h hn hm hk, ← hnow, ← hfree]
      obtain ⟨hf, hx⟩ := checkStep_mayStart (calConversions c p.freeTick devs) hcal (checkOn_bank hk)
      exact ⟨hf, by simp, hx⟩

/-! ### The register commands of a tile -/

section
variable {s : State} {t : Nat} {b : Accessor} (ht : isTile t = true) (ha : s.part.alive (3 + t / 1024) = true)
include ht ha

theorem exec_captureEmpty : exec (.captureEmpty t) s = .next (withPart s (s.part.captureEmpty t)) :=
  live_tile (f := fun p => p.captureEmpty t) ht ha

theorem exec_calComplete (devs : List (List Int)) : exec (.calComplete t devs) s = .next (withPart s (s.part.calComplete t devs)) :=
  live_tile (f := fun p => p.calComplete t devs) ht ha

/-- The host's writes to the converters of a tile in service are discarded (R83). -/
theorem exec_hostWrite_inService (w : Nat) (hs : s.part.tileService t = true) :
    exec (.convCalCmd .host t w) s = .next s ∧ exec (.calAbort .host t) s = .next s ∧ exec (.capClear .host t) s = .next s ∧
    exec (.convCfg .host t w) s = .next s ∧ exec (.convQueue .host t w) s = .next s :=
  have hw := tileWritable_host hs
  ⟨live_tileDiscard (f := fun p => p.convCalCmd t w) ht ha hw, live_tileDiscard (f := fun p => p.calAbort t) ht ha hw,
    live_tileDiscard (f := fun p => p.capClear t) ht ha hw, live_tileDiscard (f := fun p => p.convCfg t w) ht ha hw,
    live_tileDiscard (f := fun p => p.convQueue t w) ht ha hw⟩

variable (hw : s.part.tileWritable b t = true)
include hw

theorem exec_convCalCmd (w : Nat) : exec (.convCalCmd b t w) s = .next (withPart s (s.part.convCalCmd t w)) :=
  live_tileWrite (f := fun p => p.convCalCmd t w) ht ha hw

theorem exec_calAbort : exec (.calAbort b t) s = .next (withPart s (s.part.calAbort t)) :=
  live_tileWrite (f := fun p => p.calAbort t) ht ha hw

theorem exec_capClear : exec (.capClear b t) s = .next (withPart s (s.part.capClear t)) :=
  live_tileWrite (f := fun p => p.capClear t) ht ha hw

theorem exec_convCfg (w : Nat) : exec (.convCfg b t w) s = .next (withPart s (s.part.convCfg t w)) :=
  live_tileWrite (f := fun p => p.convCfg t w) ht ha hw

theorem exec_convQueue (w : Nat) : exec (.convQueue b t w) s = .next (withPart s (s.part.convQueue t w)) :=
  live_tileWrite (f := fun p => p.convQueue t w) ht ha hw

end

end Sys2Proof.Machine

namespace Sys2Proof

open Machine

/-- Settles O28: a calibration command by its checks and its phases, and each register of a tile by whether its write is discarded. -/
theorem calibrationCommandsRun : Obligations.CalibrationCommandsRun := by
  unfold Obligations.CalibrationCommandsRun
  refine ⟨fun s die unit t hu ha ht => ⟨?noMessage, fun m w hm hw => ⟨?refused, ?noPhases, ?starts⟩⟩,
    fun s t b w ht ha => ⟨?discarded, fun hb => ?written, ?notClearing, fun a he => ⟨?early, ?due⟩,
      fun devs => ⟨?notRunning, fun c hc => ⟨?runs, ?ended⟩⟩⟩⟩
  case noMessage =>
    intro h
    rw [exec_calCmd hu ha, calCmd_noMessage h]
    rfl
  case refused =>
    subst hw
    intro st hf
    rw [exec_calCmd hu ha, calCmd_refused ht hm hf]
  case noPhases =>
    subst hw
    intro hf hr
    rw [exec_calCmd hu ha, calCmd_noPhases ht hm hf hr]
  case starts =>
    subst hw
    intro hf hr
    rw [exec_calCmd hu ha, calCmd_starts ht hm hf (Nat.ne_of_gt hr)]
    obtain ⟨x, hx, ⟨hmsg, hstart⟩, hword, hband, hphases⟩ := calStart_run (s.part.popInbox die unit) t (par m.payload 0 8) (some m)
    exact ⟨_, x, rfl, hx, hword, hmsg, hstart, hband, hphases, inbox_popInbox s.part die unit, fun j hj => calStart_other _ _ _ hj⟩
  case discarded =>
    rintro rfl hs
    exact exec_hostWrite_inService ht ha w hs
  case written =>
    have hw := tileWritable_of hb
    rw [exec_convCalCmd ht ha hw, exec_calAbort ht ha hw, exec_capClear ht ha hw, exec_convCfg ht ha hw, exec_convQueue ht ha hw]
    refine ⟨fun st hf => ?cmdErr, fun hf hr => ?noneAsked, fun hf hr => ?begun, fun hc => ?notAborted, fun c hc => ?aborted,
      ⟨_, rfl, ?cleared⟩, ⟨_, rfl, convCfg_word s.part t w, convCfg_sameMode, convCfg_newMode⟩, fun hq => ?freed, fun hq => ?tooFar⟩
    case cmdErr =>
      rw [convCalCmd_refused hf]
      exact ⟨_, rfl, cmdErr_set s.part t, cmdErr_an s.part t⟩
    case noneAsked =>
      rw [convCalCmd_noPhases hf hr]
      rfl
    case begun =>
      rw [convCalCmd_starts hf (Nat.ne_of_gt hr)]
      obtain ⟨x, hx, ⟨hmsg, hstart⟩, hword, _, hphases⟩ := calStart_run s.part t w none
      exact ⟨_, x, rfl, hx, hword, hmsg, hstart, hphases⟩
    case notAborted =>
      rw [calAbort_idle hc]
      rfl
    case aborted =>
      rw [calAbort_running hc]
      exact ⟨_, c.abortedAt s.part.now, rfl, by simp [withPart], abortedAt_phases_waiting, abortedAt_phases_begun, rfl, rfl, rfl, rfl, rfl⟩
    case cleared =>
      simp only [withPart, capClear_cap]
      exact ⟨rfl, trivial, trivial⟩
    case freed =>
      refine ⟨_, rfl, ?_⟩
      simp only [withPart, convQueue_frees (p := s.part) hq]
      exact ⟨trivial, rfl, trivial⟩
    case tooFar =>
      rw [convQueue_discarded hq]
      exact ⟨_, rfl, tile_bump _ _ _ _ _ t, cmdErr_set s.part t⟩
  case notClearing =>
    intro h
    rw [exec_captureEmpty ht ha, captureEmpty_idle h]
    rfl
  case early =>
    intro hn
    rw [exec_captureEmpty ht ha, captureEmpty_early he hn]
    rfl
  case due =>
    intro hn
    refine ⟨_, exec_captureEmpty ht ha, ?_⟩
    simp only [withPart, captureEmpty_due he hn]
    exact ⟨rfl, rfl, rfl, trivial, rfl, trivial⟩
  case notRunning =>
    intro h
    rw [exec_calComplete ht ha, calComplete_idle h]
    rfl
  case runs =>
    intro hn
    rw [exec_calComplete ht ha, calComplete_early hc hn]
    rfl
  case ended =>
    exact fun hn => ⟨_, exec_calComplete ht ha devs, calComplete_due devs hc hn⟩

end Sys2Proof

/-! SUPPORT. Dies that leave reset and the stages of bring-up (R381, R382, R387, R390, R400, R442). -/
namespace Sys2Proof.Machine

/-! ### The stages of bring-up -/

/-- READINESS replies leave what bring-up reads of its own state. -/
theorem readiness_bringUp (p : Part) : p.readiness.boot.stage = p.boot.stage ∧ p.readiness.boot.faultCode = p.boot.faultCode ∧
    p.readiness.boot.dieUp = p.boot.dieUp ∧ p.readiness.boot.quenchHold = p.boot.quenchHold := by
  rw [readiness_boot]
  exact ⟨rfl, rfl, rfl, rfl⟩

/-- Before stage SERVICE a condition that fails a die stops bring-up with its code (R390). -/
theorem bringupFault_stops {p : Part} (c d : Nat) (h : p.boot.stage < 3) :
    (p.bringupFault c d).boot = { p.boot with stage := 7, faultCode := c } := by
  have h67 : ¬ (p.boot.stage = 7 ∨ p.boot.stage = 6) := by omega
  simp only [Part.bringupFault, h67, if_false, h, if_true]

theorem bringupFault_dieUp (p : Part) (c d : Nat) : (p.bringupFault c d).boot.dieUp = p.boot.dieUp := by
  unfold Part.bringupFault
  split
  · rfl
  · split
    · rfl
    · rw [(dieFailed_frame p d).2.2.2.1]

/-! ### A die leaves reset (R382) -/

theorem testBit_setBit (m d : Nat) : (setBit m d).testBit d = true := by
  unfold setBit
  split
  case isTrue h => exact h
  case isFalse h => rw [Nat.add_comm, Nat.testBit_two_pow_add_eq, Bool.eq_false_iff.mpr h, Bool.not_false]

/-- The same stages of bring-up and the same clocks. -/
def Part.SameBringUp (p q : Part) : Prop := q.boot = p.boot ∧ q.clk = p.clk

theorem Part.SameBringUp.trans {p q r : Part} (a : p.SameBringUp q) (b : q.SameBringUp r) : p.SameBringUp r :=
  ⟨b.1.trans a.1, b.2.trans a.2⟩

theorem Part.SameBringUp.now {p q : Part} (h : p.SameBringUp q) : q.now = p.now := by rw [Part.now, h.2, Part.now]

theorem foldl_sameBringUp {α : Type} (f : Part → α → Part) (h : ∀ (q : Part) x, q.SameBringUp (f q x)) (l : List α) (p : Part) :
    p.SameBringUp (l.foldl f p) :=
  List.foldlRecOn (motive := p.SameBringUp) l f ⟨rfl, rfl⟩ fun q hq x _ => hq.trans (h q x)

theorem loadTrims_sameBringUp (p : Part) (d : Nat) : p.SameBringUp (p.loadTrims d) := by
  refine foldl_sameBringUp _ (fun q x => ?_) _ p
  exact ⟨rfl, rfl⟩

theorem bothEnds_sameBringUp (p : Part) (d q : Nat) (f : Port → Port) : p.SameBringUp (p.bothEnds d q f) := by
  unfold Part.bothEnds
  split
  · exact ⟨rfl, rfl⟩
  · exact ⟨by simp, by simp⟩

theorem trainModules_sameBringUp (p : Part) (d : Nat) : p.SameBringUp (p.trainModules d) := by
  refine foldl_sameBringUp _ (fun q n => ?_) _ p
  dsimp only
  split
  · exact ⟨rfl, rfl⟩
  · split
    · exact bothEnds_sameBringUp q d n _
    · exact ⟨rfl, rfl⟩

/-- A die out of reset and in lock, with its sensors' trims loaded and its modules in training, before what its kind of die does. -/
def Part.dieReleased (p : Part) (d : Nat) : Part :=
  (({ p with boot := { p.boot with dieUp := setBit p.boot.dieUp d }, clk := { p.clk with lock := setBit p.clk.lock d } } : Part).loadTrims
    d).trainModules d

theorem dieReleased_frame (p : Part) (d : Nat) : (p.dieReleased d).boot = { p.boot with dieUp := setBit p.boot.dieUp d } ∧
    (p.dieReleased d).clk = { p.clk with lock := setBit p.clk.lock d } :=
  (loadTrims_sameBringUp _ d).trans (trainModules_sameBringUp _ d)

theorem dieReleased_now (p : Part) (d : Nat) : (p.dieReleased d).now = p.now := by
  rw [Part.now, (dieReleased_frame p d).2, Part.now]

theorem dieReleased_stage (p : Part) (d : Nat) : (p.dieReleased d).boot.stage = p.boot.stage := by rw [(dieReleased_frame p d).1]

/-! ### The stacks of a context die and the maps of an analogue die -/

/-- The stacks `b` to `b + k - 1` are initialised (R190). -/
def Part.initStacks (p : Part) (b k : Nat) : Part :=
  (List.range k).foldl (fun q n => q.setStack (b + n) { Stack.reset with ready := true, refreshAt := q.now, patrolAt := q.now }) p

theorem initStacks_sameBringUp (p : Part) (b k : Nat) : p.SameBringUp (p.initStacks b k) := by
  refine foldl_sameBringUp _ (fun q n => ?_) _ p
  exact ⟨rfl, rfl⟩

theorem stack_setStack (p : Part) (k : Nat) (v : Stack) : (p.setStack k v).stack k = v := mget_mset_same _ _ _ _

theorem stack_setStack_ne (p : Part) {j k : Nat} (v : Stack) (h : j ≠ k) : (p.setStack k v).stack j = p.stack j :=
  mget_mset_ne _ _ _ _ _ h

theorem initStacks_succ (p : Part) (b k : Nat) : p.initStacks b (k + 1) = (p.initStacks b k).setStack (b + k)
    { Stack.reset with ready := true, refreshAt := (p.initStacks b k).now, patrolAt := (p.initStacks b k).now } := by
  simp only [Part.initStacks, List.range_succ, List.foldl_append, List.foldl_cons, List.foldl_nil]

theorem stack_initStacks (p : Part) (b : Nat) : ∀ k n, n < k →
    ((p.initStacks b k).stack (b + n)).ready = true ∧ ((p.initStacks b k).stack (b + n)).refreshAt = p.now
  | k + 1, n, h => by
    rw [initStacks_succ]
    by_cases hn : n = k
    · rw [hn, stack_setStack]
      exact ⟨rfl, (initStacks_sameBringUp p b k).now⟩
    · rw [stack_setStack_ne _ _ (by omega)]
      exact stack_initStacks p b k n (by omega)

theorem checkMapLoaded_sameBringUp (p : Part) (t : Nat) : p.SameBringUp (p.checkMapLoaded t) := by
  unfold Part.checkMapLoaded
  split
  · exact ⟨by simp, by simp⟩
  · exact ⟨rfl, rfl⟩

theorem seedFor_sameBringUp (p : Part) (a : Nat) : p.SameBringUp (p.seedFor a).2.2 := by
  unfold Part.seedFor
  split
  · exact ⟨rfl, rfl⟩
  · split <;> exact ⟨rfl, rfl⟩

/-- An ACD that loads its maps writes its record last, and starts its count of slots there (R86). -/
theorem loadMaps_setAcd (p : Part) (a : Nat) :
    ∃ q v, p.loadMaps a = q.setAcd a v ∧ p.SameBringUp q ∧ v.resetAt = q.now := by
  refine ⟨_, _, rfl, ?_, rfl⟩
  refine .trans ?_ (seedFor_sameBringUp _ a)
  refine .trans ?_ (foldl_sameBringUp _ (fun q x => checkMapLoaded_sameBringUp q _) _ _)
  exact foldl_sameBringUp _ (fun q x => ⟨by simp, by simp⟩) _ p

theorem loadMaps_sameBringUp (p : Part) (a : Nat) : p.SameBringUp (p.loadMaps a) := by
  obtain ⟨q, v, hq, hs, _⟩ := loadMaps_setAcd p a
  rw [hq]
  exact hs.trans ⟨by simp, by simp⟩

theorem loadMaps_resetAt (p : Part) (a : Nat) : ((p.loadMaps a).acd a).resetAt = p.now := by
  obtain ⟨q, v, hq, hs, hv⟩ := loadMaps_setAcd p a
  rw [hq, acd_setAcd, hv, hs.now]

/-! ### DIE_RESET_EXIT (R382) -/

/-- A die of a STARTING domain that is not held may leave reset; only IOD does without REFCLK_156. -/
def Part.mayExit (p : Part) (d : Nat) : Prop :=
  (p.dom (dieDomain d)).st = .starting ∧ (p.dom (dieDomain d)).held = false ∧ p.boot.dieUp.testBit d = false ∧
    (d = 1 ∨ p.clk.ref156 = true)

theorem dieExit_stays {p : Part} {d : Nat} (b : Bool) (h : (p.dom (dieDomain d)).st ≠ .starting ∨ (p.dom (dieDomain d)).held = true ∨
    p.boot.dieUp.testBit d = true ∨ (d ≠ 1 ∧ p.clk.ref156 = false)) : p.dieExit d b = p := by
  unfold Part.dieExit
  exact if_pos (by simpa using h)

section
variable {p : Part} {d : Nat} (h : p.mayExit d)
include h

/-- A die that leaves reset is released, and then does what its kind of die does. -/
theorem dieExit_eq (b : Bool) : p.dieExit d b =
    if d = 1 then { p.dieReleased d with
      pins := { (p.dieReleased d).pins with xspi := (p.dieReleased d).pins.xspi || (p.dieReleased d).boot.stage == 0 },
      boot := { (p.dieReleased d).boot with
        stage := if (p.dieReleased d).boot.stage = 0 then 1 else (p.dieReleased d).boot.stage,
        orderly := (p.dieReleased d).latestOrderly } }
    else if 12 ≤ d then (p.dieReleased d).loadMaps (d - 12)
    else if 8 ≤ d then if b then (p.dieReleased d).bringupFault 4 d else (p.dieReleased d).initStacks (8 * (d - 8)) 8
    else p.dieReleased d := by
  obtain ⟨hst, hheld, hup, href⟩ := h
  unfold Part.dieExit Part.dieReleased Part.initStacks
  refine if_neg ?_
  rintro (h | h | h | ⟨h1, h2⟩)
  · exact h hst
  · simp [hheld] at h
  · simp [hup] at h
  · rcases href with href | href
    · exact h1 href
    · simp [href] at h2

/-- Whatever the die, it is out of reset and in lock. -/
theorem dieExit_up (b : Bool) : (p.dieExit d b).boot.dieUp.testBit d = true ∧ (p.dieExit d b).clk.lock.testBit d = true := by
  obtain ⟨hb, hc⟩ := dieReleased_frame p d
  have released {q : Part} (hu : q.boot.dieUp = (p.dieReleased d).boot.dieUp) (hl : q.clk = (p.dieReleased d).clk) :
      q.boot.dieUp.testBit d = true ∧ q.clk.lock.testBit d = true := by
    rw [hu, hl, hb, hc]
    exact ⟨testBit_setBit _ d, testBit_setBit _ d⟩
  rw [dieExit_eq h]
  split
  · exact released rfl rfl
  · split
    · obtain ⟨hu, hl⟩ := loadMaps_sameBringUp (p.dieReleased d) (d - 12)
      exact released (by rw [hu]) hl
    · split
      · split
        · exact released (bringupFault_dieUp _ 4 d) (by simp)
        · obtain ⟨hu, hl⟩ := initStacks_sameBringUp (p.dieReleased d) (8 * (d - 8)) 8
          exact released (by rw [hu]) hl
      · exact released rfl rfl

/-- IOD brings stage LINK (R381). -/
theorem dieExit_iod (b : Bool) (hd : d = 1) (hs : p.boot.stage = 0) : (p.dieExit d b).boot.stage = 1 := by
  rw [dieExit_eq h, if_pos hd]
  dsimp only
  rw [if_pos ((dieReleased_stage p d).trans hs)]

theorem dieExit_stacksReady (h8 : 8 ≤ d) (h12 : d < 12) {n : Nat} (hn : n < 8) :
    ((p.dieExit d false).stack (8 * (d - 8) + n)).ready = true ∧ ((p.dieExit d false).stack (8 * (d - 8) + n)).refreshAt = p.now := by
  have h1 : d ≠ 1 := by omega
  rw [dieExit_eq h, if_neg h1, if_neg (Nat.not_le.mpr h12), if_pos h8, if_neg Bool.false_ne_true, ← dieReleased_now p d]
  exact stack_initStacks _ _ 8 n hn

theorem dieExit_stackFails (h8 : 8 ≤ d) (h12 : d < 12) (hs : p.boot.stage < 3) :
    (p.dieExit d true).boot.stage = 7 ∧ (p.dieExit d true).boot.faultCode = 4 := by
  have h1 : d ≠ 1 := by omega
  rw [dieExit_eq h, if_neg h1, if_neg (Nat.not_le.mpr h12), if_pos h8, if_pos rfl,
    bringupFault_stops 4 d (by rwa [dieReleased_stage p d])]
  exact ⟨rfl, rfl⟩

theorem dieExit_acd (b : Bool) (h12 : 12 ≤ d) : ((p.dieExit d b).acd (d - 12)).resetAt = p.now := by
  have h1 : d ≠ 1 := by omega
  rw [dieExit_eq h, if_neg h1, if_pos h12, loadMaps_resetAt, dieReleased_now p d]

end

theorem exec_dieResetExit {s : State} {d : Nat} (b : Bool) (hd : isDie d = true) (ha : s.part.alive 0 = true) :
    exec (.dieResetExit d b) s = .next (withPart s (s.part.dieExit d b).readiness) := by
  calc exec (.dieResetExit d b) s
      = s.live 0 (isDie d) fun p => (p.dieExit d b).readiness := rfl
    _ = .next (withPart s (s.part.dieExit d b).readiness) := by rw [hd, live_alive ha]; rfl

/-! ### DIE_RESET_TIMEOUT (R390, R400) -/

theorem dieTimeout_holds {p : Part} {d : Nat} (h : (p.dom (dieDomain d)).st ≠ .starting ∨ p.boot.dieUp.testBit d = true ∨
    3 ≤ p.boot.stage ∨ (p.clk.ref156 = false ∧ d ≠ 1) ∨ p.passed (p.dom (dieDomain d)).startAt 1000000000 = false) :
    p.dieTimeout d = p := by
  unfold Part.dieTimeout
  refine if_neg ?_
  rintro ⟨hst, hup, hs, href, hp⟩
  rcases h with h | h | h | ⟨h1, h2⟩ | h
  · exact h hst
  · simp [h] at hup
  · omega
  · simp [h1, h2] at href
  · simp [h] at hp

theorem dieTimeout_stops {p : Part} {d : Nat} (hst : (p.dom (dieDomain d)).st = .starting) (hup : p.boot.dieUp.testBit d = false)
    (hs : p.boot.stage < 3) (href : p.clk.ref156 = true ∨ d = 1) (hp : p.passed (p.dom (dieDomain d)).startAt 1000000000 = true) :
    p.dieTimeout d = p.bringupFault 6 d := by
  unfold Part.dieTimeout
  exact if_pos ⟨hst, by simp [hup], hs, href, hp⟩

theorem exec_dieResetTimeout {s : State} {d : Nat} (hd : isDie d = true) (ha : s.part.alive 0 = true) :
    exec (.dieResetTimeout d) s = .next (withPart s (s.part.dieTimeout d).readiness) := by
  calc exec (.dieResetTimeout d) s
      = s.live 0 (isDie d) fun p => (p.dieTimeout d).readiness := rfl
    _ = .next (withPart s (s.part.dieTimeout d).readiness) := by rw [hd, live_alive ha]; rfl

/-! ### STAGE_FIRMWARE (R381, R442) -/

theorem length_leBytes (v : Nat) : ∀ n, (leBytes n v).length = n := by
  intro n
  induction n generalizing v with
  | zero => rfl
  | succ n ih => rw [leBytes, List.length_cons, ih]

theorem entropy_length : ∀ (n : Nat) (p : Part), (p.entropy n).1.length = 8 * n
  | 0, _ => rfl
  | n + 1, p => by
    rw [Part.entropy, List.length_append, entropy_length n, wordBytes, length_leBytes]
    omega

/-- Drawing from the entropy source takes free values alone. -/
theorem entropy_eq : ∀ (n : Nat) (p : Part), ∃ k, (p.entropy n).2 = { p with freeTick := k }
  | 0, p => ⟨p.freeTick, rfl⟩
  | n + 1, p => entropy_eq n p.free.2

theorem requestWake_frame (p : Part) (d : Nat) : (p.requestWake d).boot = p.boot ∧ (p.requestWake d).sec = p.sec := by
  unfold Part.requestWake
  split
  · exact ⟨rfl, rfl⟩
  · exact ⟨rfl, rfl⟩

theorem wakeAll_frame (p : Part) : p.wakeAll.boot = p.boot ∧ p.wakeAll.sec = p.sec :=
  List.foldlRecOn (motive := fun q : Part => q.boot = p.boot ∧ q.sec = p.sec) bringupOrder _ ⟨rfl, rfl⟩ fun q hq d _ =>
    ⟨(requestWake_frame q d).1.trans hq.1, (requestWake_frame q d).2.trans hq.2⟩

/-- A verification that fails leaves the stage (R438, R448). -/
theorem failedFirmware_boot (p : Part) : p.failedFirmware.boot = p.boot := by
  have puf : p.readPuf.boot = p.boot := by
    unfold Part.readPuf
    split <;> rfl
  unfold Part.failedFirmware
  split
  · exact puf
  · rename_i q hq
    have boots : q.boot = p.readPuf.boot := by
      unfold Part.bootFirmware at hq
      split at hq
      · contradiction
      · rw [← Option.some.inj hq]
    have cert : q.takeCert.boot = q.boot := by
      unfold Part.takeCert
      dsimp only
      split <;> rfl
    exact cert.trans (boots.trans puf)

/-- Firmware runs: its boot record is written, BOOT_NONCE is drawn, and an uncleared quench record holds bring-up. -/
def Part.firmwareRuns (p : Part) : Part :=
  let q := (p.writeBootRecord.entropy 8).2
  { q with
    pins := { q.pins with xspi := false }, sec := { q.sec with bootNonce := (p.writeBootRecord.entropy 8).1 },
    boot := { q.boot with stage := 2, quenchHold := decide (0 < q.uncleared) } }

theorem firmwareRuns_frame (p : Part) : p.firmwareRuns.boot.stage = 2 ∧ p.firmwareRuns.boot.quenchHold = decide (0 < p.uncleared) ∧
    p.firmwareRuns.sec.bootNonce.length = 64 ∧ p.firmwareRuns.sec.bootCount = p.bootCounter + 1 ∧ p.firmwareRuns.pwr = p.pwr := by
  obtain ⟨k, hk⟩ := entropy_eq 8 p.writeBootRecord
  simp only [Part.firmwareRuns, hk, entropy_length]
  exact ⟨trivial, rfl, trivial, rfl, rfl⟩

section
variable {p : Part}

theorem stageFirmware_waits (h : p.boot.stage ≠ 1 ∨ p.clk.ref156 = false ∨ p.boot.dieUp.testBit 0 = false) : p.stageFirmware = p := by
  unfold Part.stageFirmware
  exact if_pos (by simpa using h)

variable (hs : p.boot.stage = 1) (href : p.clk.ref156 = true) (hup : p.boot.dieUp.testBit 0 = true)
include hs href hup

/-- The condition of stage FIRMWARE holds. -/
theorem stageFirmware_guard : ¬ (p.boot.stage ≠ 1 ∨ (!p.clk.ref156) = true ∨ (!p.boot.dieUp.testBit 0) = true) := by
  simp [hs, href, hup]

theorem stageFirmware_noFlash (hf : p.flash = []) : p.stageFirmware = p.bringupFault 1 0 := by
  unfold Part.stageFirmware
  rw [if_neg (stageFirmware_guard hs href hup), if_pos (by rw [hf]; rfl)]

variable (hf : p.flash ≠ [])
include hf

theorem stageFirmware_verified (hd : p.domSt 1 ≠ .on) (hv : p.verifyFirmware.isSome = true) : p.stageFirmware = p := by
  obtain ⟨q, hq⟩ := Option.isSome_iff_exists.mp hv
  unfold Part.stageFirmware
  rw [if_neg (stageFirmware_guard hs href hup), if_neg (by simpa using hf), if_neg hd, hq]

theorem stageFirmware_fails (hd : p.domSt 1 ≠ .on) (hv : p.verifyFirmware = none) :
    p.stageFirmware = p.failedFirmware.bringupFault 2 0 := by
  unfold Part.stageFirmware
  rw [if_neg (stageFirmware_guard hs href hup), if_neg (by simpa using hf), if_neg hd, hv]

theorem stageFirmware_runs (hd : p.domSt 1 = .on) : p.stageFirmware =
    if p.firmwareRuns.readiness.boot.quenchHold then p.firmwareRuns.readiness else p.firmwareRuns.readiness.wakeAll := by
  unfold Part.stageFirmware
  rw [if_neg (stageFirmware_guard hs href hup), if_neg (by simpa using hf), if_pos hd]
  rfl

/-- Firmware that runs brings stage FIRMWARE, and an uncleared quench record holds bring-up there (R381, R432, R442). -/
theorem stageFirmware_reaches (hd : p.domSt 1 = .on) : p.stageFirmware.boot.stage = 2 ∧ p.stageFirmware.sec.bootNonce.length = 64 ∧
    p.stageFirmware.sec.bootCount = p.bootCounter + 1 ∧
    (0 < p.uncleared → p.stageFirmware.boot.quenchHold = true ∧ p.stageFirmware.pwr = p.pwr) := by
  obtain ⟨hstage, hhold, hnonce, hcount, hpwr⟩ := firmwareRuns_frame p
  obtain ⟨rstage, _, _, rhold⟩ := readiness_bringUp p.firmwareRuns
  have rsec : p.firmwareRuns.readiness.sec = p.firmwareRuns.sec := by simp
  have rpwr : p.firmwareRuns.readiness.pwr = p.firmwareRuns.pwr := by simp
  rw [stageFirmware_runs hs href hup hf hd, rhold, hhold]
  by_cases hq : 0 < p.uncleared
  · rw [if_pos (decide_eq_true hq), rstage, rsec, rhold, rpwr]
    exact ⟨hstage, hnonce, hcount, fun _ => ⟨hhold.trans (decide_eq_true hq), hpwr⟩⟩
  · obtain ⟨wboot, wsec⟩ := wakeAll_frame p.firmwareRuns.readiness
    rw [if_neg (by simp [hq]), wboot, wsec, rstage, rsec]
    exact ⟨hstage, hnonce, hcount, fun h => absurd h hq⟩

end

theorem exec_stageFirmware {s : State} (ha : s.part.alive 0 = true) :
    exec .stageFirmware s = .next (withPart s s.part.stageFirmware) := live_alive (f := Part.stageFirmware) ha

end Sys2Proof.Machine

namespace Sys2Proof

open Machine

/-- Settles O55: a die by whether it may leave reset and by its kind, its time-out, and firmware by flash, CTL_MAIN and verification. -/
theorem bringUp : Obligations.BringUp := by
  unfold Obligations.BringUp
  intro s d hd ha
  refine ⟨fun b h => ?stays, fun b hst hheld hup href => ?leaves, fun h => ?holds, fun hst hup hs href hp => ?timeout, fun h => ?waits,
    fun hs href hup => ⟨fun hf => ?noFlash, fun hf hon => ⟨fun hv => ?verified, fun hv => ?refused⟩, fun hf hon => ?runs⟩⟩
  case stays => rw [exec_dieResetExit b hd ha, dieExit_stays b h]
  case leaves =>
    have h : s.part.mayExit d := ⟨hst, hheld, hup, href⟩
    obtain ⟨rstage, rfault, rup, _⟩ := readiness_bringUp (s.part.dieExit d b)
    obtain ⟨eup, elock⟩ := dieExit_up h b
    refine ⟨_, exec_dieResetExit b hd ha, ?_⟩
    simp only [withPart, rstage, rfault, rup, readiness_frame, Part.stack, Part.acd]
    refine ⟨eup, elock, dieExit_iod h b, ?_, ?_, dieExit_acd h b⟩
    · rintro h8 h12 rfl n hn
      exact dieExit_stacksReady h h8 h12 hn
    · rintro h8 h12 rfl hs
      exact dieExit_stackFails h h8 h12 hs
  case holds => rw [exec_dieResetTimeout hd ha, dieTimeout_holds h]
  case timeout =>
    obtain ⟨rstage, rfault, _, _⟩ := readiness_bringUp (s.part.bringupFault 6 d)
    rw [exec_dieResetTimeout hd ha, dieTimeout_stops hst hup hs href hp]
    refine ⟨_, rfl, ?_⟩
    simp only [withPart, rstage, rfault, bringupFault_stops 6 d hs]
    exact ⟨trivial, trivial⟩
  case waits =>
    rw [exec_stageFirmware ha, stageFirmware_waits h]
    rfl
  case noFlash =>
    refine ⟨_, exec_stageFirmware ha, ?_⟩
    have h3 : s.part.boot.stage < 3 := by omega
    simp only [withPart, stageFirmware_noFlash hs href hup hf, bringupFault_stops 1 0 h3]
    exact ⟨trivial, trivial⟩
  case verified =>
    rw [exec_stageFirmware ha, stageFirmware_verified hs href hup hf hon hv]
    rfl
  case refused =>
    refine ⟨_, exec_stageFirmware ha, ?_⟩
    have h3 : s.part.failedFirmware.boot.stage < 3 := by rw [failedFirmware_boot]; omega
    simp only [withPart, stageFirmware_fails hs href hup hf hon hv, bringupFault_stops 2 0 h3]
    exact ⟨trivial, trivial⟩
  case runs => exact ⟨_, exec_stageFirmware ha, stageFirmware_reaches hs href hup hf hon⟩

end Sys2Proof

/-! SUPPORT. The result of an MVM that drove no row (R35, R40, R92). -/
namespace Sys2Proof.Machine

/-- The codes of a finished MVM that drove no row are never taken: the result follows from its kind alone. -/
theorem mvmResult_undriven {p : Part} {t : Nat} {r : MvmRun} {rest : List MvmRun} (xs : List (List Int)) (hr : (p.tile t).runs = r :: rest)
    (hn : r.start + 8 * r.phases + 24 ≤ p.now) (hd : r.driven = 0) :
    p.mvmResult t xs = (mvmLeaves p t rest).undrivenResult t r.m := by
  simp only [Part.mvmResult, hr, if_neg (Nat.not_lt.mpr hn), hd, if_true, mvmLeaves]

/-- A whole layer MVM that drove no row has an analogue part of zero in every column. -/
theorem undrivenResult_layer (p : Part) (t : Nat) {m : Mvm} (hk : m.kind = .layer) (hh : m.half = 0) :
    p.undrivenResult t m = p.finishResult t m (List.replicate 512 0) := by
  simp only [Part.undrivenResult, hk, Part.layerResult, hh, if_true]

theorem exec_mvmResult {s : State} {t : Nat} (xs : List (List Int)) (ht : isTile t = true) (ha : s.part.alive (3 + t / 1024) = true) :
    exec (.mvmResult t xs) s = .next (withPart s (s.part.mvmResult t xs)) :=
  live_tile (f := fun p => p.mvmResult t xs) ht ha

end Sys2Proof.Machine

namespace Sys2Proof

open Machine

/-- Settles O15: without a driven row the result is formed before any code is taken. -/
theorem undrivenMvmsAreZero : Obligations.UndrivenMvmsAreZero := by
  unfold Obligations.UndrivenMvmsAreZero
  intro s t r rest xs ht ha hr hn hd hk hh
  rw [exec_mvmResult xs ht ha, mvmResult_undriven xs hr hn hd, undrivenResult_layer _ t hk hh]
  rfl

end Sys2Proof

/-! SUPPORT. Anneal work of a bank: what falls due, the refresh that CTL sends, and the task that the anneal unit takes (R116 to R118,
R120). -/
namespace Sys2Proof.Machine

theorem live_bank {s : State} {k : Nat} {f : Part → Part} (hk : isBank k = true) (ha : s.part.alive (3 + k / 2048) = true) :
    s.live (3 + k / 2048) (bankOk k) f = .next (withPart s (f s.part)) := by
  rw [show bankOk k = true from hk]
  exact live_alive ha

/-! ### CTL's messages to a bank -/

theorem bankMessage_an (p : Part) (op k : Nat) (b : Bytes) : (p.bankMessage op k b).an = p.an := by
  simp [Part.bankMessage, Part.issue]

@[simp] theorem bank_bankMessage (p : Part) (op k : Nat) (b : Bytes) (j : Nat) : (p.bankMessage op k b).bank j = p.bank j := by
  simp only [Part.bank, bankMessage_an]

/-- The operation sent is among CTL's outstanding commands, by its opcode. -/
theorem bankMessage_outstanding (p : Part) (op k : Nat) (b : Bytes) : ∃ c ∈ (p.bankMessage op k b).d2d.outstanding, c.opcode = op := by
  simp [Part.bankMessage, Part.issue]

/-! ### What falls due (R117, R118) -/

/-- The bank with what has fallen due marked. -/
def Part.dueMarked (p : Part) (k : Nat) : Bank :=
  { p.bank k with
    checkDue := (p.bank k).checkDue || p.checkDueNow k, probeDue := (p.bank k).probeDue || p.probeDueNow k,
    refreshDue := (p.bank k).refreshDue || (p.bank k).refreshDueNow }

/-- What CTL keeps of a DEEP bank that it takes over (R169): its state, its epoch and its cells, and when checks and refreshes fall due. -/
def Bank.TakenOver (b c : Bank) : Prop :=
  c.st = b.st ∧ c.epoch = b.epoch ∧ c.cells = b.cells ∧ c.checkDue = b.checkDue ∧ c.lastCheck = b.lastCheck ∧ c.dueCheck = b.dueCheck ∧
    c.refreshDueNow = b.refreshDueNow

/-- Only the bank itself may have changed, as by a takeover. -/
theorem adoptBank_takenOver (p : Part) (mem : Memory) (v : Version) (k : Nat) :
    (p.adoptBank mem v k).clusters = p.clusters ∧ (p.adoptBank mem v k).clk = p.clk ∧
    (p.bank k).TakenOver ((p.adoptBank mem v k).bank k) ∧ ∀ j, j ≠ k → (p.adoptBank mem v k).bank j = p.bank j := by
  unfold Part.adoptBank
  dsimp only
  split
  · refine ⟨rfl, rfl, ?_, fun j hj => bank_setBank_ne p k j _ hj⟩
    rw [bank_setBank]
    exact ⟨rfl, rfl, rfl, rfl, rfl, rfl, rfl⟩
  · exact ⟨rfl, rfl, ⟨rfl, rfl, rfl, rfl, rfl, rfl, rfl⟩, fun _ _ => rfl⟩

/-- The schedule of checks follows the bank's record, its cluster's temperature and part time alone. -/
theorem checkDueNow_congr {p q : Part} {k : Nat} (hc : q.clusters = p.clusters) (hn : q.clk = p.clk)
    (hl : (q.bank k).lastCheck = (p.bank k).lastCheck) (hd : (q.bank k).dueCheck = (p.bank k).dueCheck) :
    q.checkDueNow k = p.checkDueNow k := by
  have htemp : q.bankTemp k = p.bankTemp k := by simp only [Part.bankTemp, Part.cluster, hc]
  have hnow : q.now = p.now := by simp only [Part.now, hn]
  rw [Part.checkDueNow, Part.checkDueNow, hl, hd, htemp, hnow]

/-! ### ANNEAL_DUE (R117, R118, R120) -/

theorem sendRefresh_noOwner {p : Part} {k : Nat} (h : p.ownerVer (p.bank k) = none) : p.sendRefresh k = p := by
  simp only [Part.sendRefresh, h]

/-- A REFRESH is sent, and is then no longer due, or nothing happens. -/
theorem sendRefresh_cases (p : Part) (k : Nat) :
    p.sendRefresh k = p ∨ ∃ b, p.sendRefresh k = (p.setBank k { p.bank k with refreshDue := false }).bankMessage 0xA1 k b := by
  unfold Part.sendRefresh
  dsimp only
  split
  · exact .inl rfl
  · split
    · exact .inr ⟨_, rfl⟩
    · exact .inl rfl

/-- What CTL's refresh leaves of the banks; it stays due, or the command is outstanding. -/
theorem sendRefresh_bank (p : Part) (k : Nat) : ∃ due, (p.sendRefresh k).bank k = { p.bank k with refreshDue := due } ∧
    (∀ j, j ≠ k → (p.sendRefresh k).bank j = p.bank j) ∧
    (due = (p.bank k).refreshDue ∨ ∃ c ∈ (p.sendRefresh k).d2d.outstanding, c.opcode = 0xA1) := by
  rcases sendRefresh_cases p k with h | ⟨b, h⟩
  · rw [h]
    exact ⟨(p.bank k).refreshDue, rfl, fun _ _ => rfl, .inl rfl⟩
  · rw [h]
    exact ⟨false, by simp, fun j hj => by rw [bank_bankMessage, bank_setBank_ne p k j _ hj], .inr (bankMessage_outstanding _ 0xA1 k b)⟩

section
variable {p : Part} {k : Nat} (mem : Memory)

theorem annealDue_outOfService (h : (p.cluster (tileCluster (k / 2))).service = false) : p.annealDue mem k = p := by
  simp [Part.annealDue, h]

variable (h : (p.cluster (tileCluster (k / 2))).service = true)
include h

theorem annealDue_noOwner (ho : p.ownerVer (p.bank k) = none) : p.annealDue mem k = p.setBank k (p.dueMarked k) := by
  have hq : (p.setBank k (p.dueMarked k)).ownerVer ((p.setBank k (p.dueMarked k)).bank k) = none := by
    rw [bank_setBank, ← ho]
    rfl
  calc p.annealDue mem k
      = (p.setBank k (p.dueMarked k)).sendRefresh k := by simp only [Part.annealDue, h, if_true, ho, Part.dueMarked]
    _ = p.setBank k (p.dueMarked k) := sendRefresh_noOwner hq

theorem annealDue_owned {v : Version} (ho : p.ownerVer (p.bank k) = some v) : p.annealDue mem k =
    ((p.adoptBank mem v k).setBank k ((p.adoptBank mem v k).dueMarked k)).sendRefresh k := by
  simp only [Part.annealDue, h, if_true, ho, Part.dueMarked]

/-- A bank of a version keeps its weights and its epoch; its check is marked, and its refresh is due until it is sent. -/
theorem annealDue_owned_bank {v : Version} (ho : p.ownerVer (p.bank k) = some v) :
    ((p.annealDue mem k).bank k).st = (p.bank k).st ∧ ((p.annealDue mem k).bank k).epoch = (p.bank k).epoch ∧
    ((p.annealDue mem k).bank k).cells = (p.bank k).cells ∧
    ((p.annealDue mem k).bank k).checkDue = ((p.bank k).checkDue || p.checkDueNow k) ∧
    (∀ j, j ≠ k → (p.annealDue mem k).bank j = p.bank j) ∧
    (((p.annealDue mem k).bank k).refreshDue = true ∨ (p.bank k).refreshDueNow = false ∨
      ∃ c ∈ (p.annealDue mem k).d2d.outstanding, c.opcode = 0xA1) := by
  obtain ⟨hc, hn, ⟨hst, hepoch, hcells, hcheck, hlast, hdue, hrefresh⟩, hother⟩ := adoptBank_takenOver p mem v k
  obtain ⟨due, hbank, hbanks, hsent⟩ := sendRefresh_bank ((p.adoptBank mem v k).setBank k ((p.adoptBank mem v k).dueMarked k)) k
  rw [annealDue_owned mem h ho, hbank]
  rw [bank_setBank] at hsent ⊢
  refine ⟨hst, hepoch, hcells, ?_, fun j hj => ?_, ?_⟩
  · rw [← hcheck, ← checkDueNow_congr hc hn hlast hdue]
    rfl
  · rw [hbanks j hj, bank_setBank_ne _ k j _ hj, hother j hj]
  · rcases hsent with rfl | hsent
    · cases hr : (p.bank k).refreshDueNow with
      | false => exact .inr (.inl rfl)
      | true => exact .inl (by simp [Part.dueMarked, hrefresh, hr])
    · exact .inr (.inr hsent)

end

theorem exec_annealDue {s : State} {k : Nat} (hk : isBank k = true) (ha : s.part.alive (3 + k / 2048) = true) :
    exec (.annealDue k) s = .next (withPart s (s.part.annealDue s.mem k)) :=
  live_bank (f := fun p => p.annealDue s.mem k) hk ha

/-! ### ANNEAL_TASK (R116, R117, R120) -/

/-- What makes the anneal unit leave a task at its head. -/
def Part.taskWaits (p : Part) (k : Nat) (probe : Bool) : Bool :=
  (p.acd (k / 2048)).anneal.isSome || (!probe && (p.tile (k / 2)).cal.isSome) || !p.tileIdle (k / 2) ||
    (probe && (p.rowsWait k || p.rowsLost k))

/-- The run of a task that the anneal unit has just taken. -/
def taskRun (k : Nat) (m : DieMsg) (probe : Bool) : AnnealRun := { probe := probe, bank := k, msg := m, tries := 0, words := [] }

/-- The anneal unit of a bank's ACD is at work on a message's task for the bank. -/
def Part.annealTakes (p : Part) (k : Nat) (m : DieMsg) (probe : Bool) : Part :=
  (p.popInbox (12 + k / 2048) 0xC10).setAcd (k / 2048) { p.acd (k / 2048) with anneal := some (taskRun k m probe) }

/-- The bank once its column check has been taken. -/
def Part.checkTaken (p : Part) (k : Nat) : Bank :=
  { p.bank k with checkDue := false, lastCheck := p.now, dueCheck := p.now + checkInterval (p.bankTemp k) }

/-- A column check begins: its first command starts on the tile. -/
def Part.startCheck (p : Part) (k : Nat) (m : DieMsg) : Part :=
  ((p.annealTakes k m false).setBank k (p.checkTaken k)).checkCommand k 0

/-- The bank once its deep probe has been taken. -/
def Part.probeTaken (p : Part) (k : Nat) : Bank :=
  { p.bank k with probeDue := false, dueProbe := p.now + probeInterval (p.bankTemp k) }

/-- A deep probe begins: its MVMs wait at the tile, with probe sums from the rows of the bank's ingot. -/
def Part.startProbe (p : Part) (mem : Memory) (k : Nat) (m : DieMsg) : Part :=
  (((p.annealTakes k m true).setBank k (p.probeTaken k)).touchRows k).issueProbes k (p.gated (tileCluster (k / 2)))
    (p.ingotSums mem (p.bank k))

section
variable {p : Part} {k : Nat} (mem : Memory)

theorem annealTask_noMessage (probe : Bool) (h : p.headCmd (12 + k / 2048) 0xC10 0xB8 = none) :
    p.annealTask mem (12 + k / 2048) k probe = p := by
  simp only [Part.annealTask, h]

variable {m : DieMsg} (hm : p.headCmd (12 + k / 2048) 0xC10 0xB8 = some m)
include hm

/-- The anneal unit leaves the message, answers it, or begins the probe or the check that it asks for. -/
theorem annealTask_eq (probe : Bool) : p.annealTask mem (12 + k / 2048) k probe =
    if p.taskWaits k probe then p
    else if probe && (p.bank k).st != .deep then (p.popInbox (12 + k / 2048) 0xC10).answer (12 + k / 2048) m 0 stBankState []
    else if probe then p.startProbe mem k m else p.startCheck k m := by
  simp only [Part.annealTask, hm, Nat.add_sub_cancel_left]
  cases probe with
  | false => rfl
  | true => rfl

theorem annealTask_waits {probe : Bool} (hw : p.taskWaits k probe = true) : p.annealTask mem (12 + k / 2048) k probe = p := by
  rw [annealTask_eq mem hm, if_pos hw]

theorem annealTask_check (hw : p.taskWaits k false = false) : p.annealTask mem (12 + k / 2048) k false = p.startCheck k m := by
  simp [annealTask_eq mem hm, hw]

variable (hw : p.taskWaits k true = false)
include hw

theorem annealTask_notDeep (hd : (p.bank k).st ≠ .deep) : p.annealTask mem (12 + k / 2048) k true =
    (p.popInbox (12 + k / 2048) 0xC10).answer (12 + k / 2048) m 0 stBankState [] := by
  simp [annealTask_eq mem hm, hw, hd]

theorem annealTask_probe (hd : (p.bank k).st = .deep) : p.annealTask mem (12 + k / 2048) k true = p.startProbe mem k m := by
  simp [annealTask_eq mem hm, hw, hd]

end

theorem taskWaits_busy {p : Part} {k : Nat} (probe : Bool) (h : (p.acd (k / 2048)).anneal ≠ none ∨ p.tileIdle (k / 2) = false) :
    p.taskWaits k probe = true := by
  rcases h with h | h
  · simp [Part.taskWaits, Option.isSome_iff_ne_none.mpr h]
  · simp [Part.taskWaits, h]

theorem taskWaits_command {p : Part} {k : Nat} (h : (p.tile (k / 2)).cal ≠ none) : p.taskWaits k false = true := by
  simp [Part.taskWaits, Option.isSome_iff_ne_none.mpr h]

theorem taskWaits_rows {p : Part} {k : Nat} (h : p.rowsWait k = true ∨ p.rowsLost k = true) : p.taskWaits k true = true := by
  rcases h with h | h <;> simp [Part.taskWaits, h]

theorem taskWaits_check_free {p : Part} {k : Nat} (hfree : (p.acd (k / 2048)).anneal = none) (hidle : p.tileIdle (k / 2) = true)
    (hcal : (p.tile (k / 2)).cal = none) : p.taskWaits k false = false := by
  simp [Part.taskWaits, hfree, hidle, hcal]

theorem taskWaits_probe_free {p : Part} {k : Nat} (hfree : (p.acd (k / 2048)).anneal = none) (hidle : p.tileIdle (k / 2) = true)
    (hwait : p.rowsWait k = false) (hlost : p.rowsLost k = false) : p.taskWaits k true = false := by
  simp [Part.taskWaits, hfree, hidle, hwait, hlost]

/-- The first command of a column check injects +300 for 64 phases (R116). -/
theorem checkWord_first {b : Nat} : calDac (checkWord b 0) = 300 ∧ calRepeat (checkWord b 0) = 64 := by
  have hw : checkWord b 0 = checkWord 0 0 := rfl
  rw [hw]
  decide

theorem annealTakes_anneal (p : Part) (k : Nat) (m : DieMsg) (probe : Bool) :
    ((p.annealTakes k m probe).acd (k / 2048)).anneal = some (taskRun k m probe) := by
  rw [Part.annealTakes, acd_setAcd]

theorem startCheck_starts (p : Part) (k : Nat) (m : DieMsg) :
    ((p.startCheck k m).acd (k / 2048)).anneal = some (taskRun k m false) ∧
    (∃ y, ((p.startCheck k m).tile (k / 2)).cal = some y ∧ y.phases = 64 ∧ calDac y.word = 300 ∧ y.start = nextPhase p.now) ∧
    (p.startCheck k m).bank k = p.checkTaken k ∧ ∀ j, j ≠ k → (p.startCheck k m).bank j = p.bank j := by
  refine ⟨annealTakes_anneal p k m false, ?command, bank_setBank _ k _, fun j hj => bank_setBank_ne _ k j _ hj⟩
  case command =>
    obtain ⟨hdac, hphases⟩ := checkWord_first (b := k % 2)
    obtain ⟨y, hy, ⟨_, hstart⟩, hword, _, hrepeat⟩ :=
      calStart_run ((p.annealTakes k m false).setBank k (p.checkTaken k)) (k / 2) (checkWord (k % 2) 0) none
    exact ⟨y, hy, hrepeat.trans hphases, by rw [hword, hdac], hstart⟩

/-- The eight probe MVMs join the tile's queue, and the bank is being probed. -/
theorem issueProbes_queues (p : Part) (k : Nat) (wake : Bool) (sums : List (Nat × Int)) :
    (∃ l, ((p.issueProbes k wake sums).tile (k / 2)).queue = (p.tile (k / 2)).queue ++ l ∧
      l.map Mvm.kind = (List.range 8).map MvmKind.probe) ∧
    (p.issueProbes k wake sums).bank k = { p.bank k with sums := sums, meas := [], probing := true, probeD := (p.bank k).d } ∧
    (∀ j, j ≠ k → (p.issueProbes k wake sums).bank j = p.bank j) ∧ ∀ a, (p.issueProbes k wake sums).acd a = p.acd a := by
  refine ⟨⟨_, congrArg Tile.queue (tile_setTile _ (k / 2) _), ?kinds⟩, bank_setBank p k _, fun j hj => bank_setBank_ne p k j _ hj,
    fun _ => rfl⟩
  case kinds =>
    rw [List.map_map]
    rfl

@[simp] theorem tile_touchRows (p : Part) (k t : Nat) : (p.touchRows k).tile t = p.tile t := rfl

@[simp] theorem bank_touchRows (p : Part) (k j : Nat) : (p.touchRows k).bank j = p.bank j := rfl

@[simp] theorem acd_touchRows (p : Part) (k a : Nat) : (p.touchRows k).acd a = p.acd a := rfl

theorem startProbe_starts (p : Part) (mem : Memory) (k : Nat) (m : DieMsg) :
    ((p.startProbe mem k m).acd (k / 2048)).anneal = some (taskRun k m true) ∧
    (∃ l, ((p.startProbe mem k m).tile (k / 2)).queue = (p.tile (k / 2)).queue ++ l ∧ l.map Mvm.kind = (List.range 8).map MvmKind.probe) ∧
    ((p.startProbe mem k m).bank k).probing = true ∧ ((p.startProbe mem k m).bank k).probeDue = false ∧
    ∀ j, j ≠ k → (p.startProbe mem k m).bank j = p.bank j := by
  obtain ⟨hqueue, hbank, hbanks, hacds⟩ := issueProbes_queues (((p.annealTakes k m true).setBank k (p.probeTaken k)).touchRows k) k
    (p.gated (tileCluster (k / 2))) (p.ingotSums mem (p.bank k))
  simp only [tile_touchRows, bank_touchRows, acd_touchRows, bank_setBank] at hqueue hbank hbanks hacds
  refine ⟨?unit, hqueue, congrArg Bank.probing hbank, congrArg Bank.probeDue hbank, fun j hj => ?other⟩
  case unit => exact (congrArg Acd.anneal (hacds _)).trans (annealTakes_anneal p k m true)
  case other =>
    calc (p.startProbe mem k m).bank j
        = ((p.annealTakes k m true).setBank k (p.probeTaken k)).bank j := hbanks j hj
      _ = p.bank j := bank_setBank_ne _ k j _ hj

theorem exec_annealTask {s : State} {k : Nat} (probe : Bool) (hk : isBank k = true) (ha : s.part.alive (3 + k / 2048) = true) :
    exec (.annealTask k probe) s = .next (withPart s (s.part.annealTask s.mem (12 + k / 2048) k probe)) :=
  live_bank (f := fun p => p.annealTask s.mem (12 + k / 2048) k probe) hk ha

end Sys2Proof.Machine

/-! SUPPORT. Column checks and calibration rounds (R84, R116, R389, R391): what repairs of a tile leave alone, and what each command does. -/
namespace Sys2Proof.Machine

/-! ### Clusters and READINESS replies -/

@[simp] theorem cluster_setCluster (p : Part) (c : Nat) (v : Cluster) : (p.setCluster c v).cluster c = v := mget_mset_same _ _ _ _

theorem cluster_setCluster_ne (p : Part) {c e : Nat} (v : Cluster) (h : e ≠ c) : (p.setCluster c v).cluster e = p.cluster e :=
  mget_mset_ne _ _ _ _ _ h

@[simp] theorem cluster_bump (p : Part) (b lo w n c : Nat) : (p.bump b lo w n).cluster c = p.cluster c := by simp [Part.cluster]

@[simp] theorem cluster_readiness (p : Part) (c : Nat) : p.readiness.cluster c = p.cluster c := by simp [Part.cluster]

@[simp] theorem acd_readiness (p : Part) (a : Nat) : p.readiness.acd a = p.acd a := by simp [Part.acd]

@[simp] theorem tile_readiness (p : Part) (t : Nat) : p.readiness.tile t = p.tile t := by simp [Part.tile]

@[simp] theorem bank_readiness (p : Part) (k : Nat) : p.readiness.bank k = p.bank k := by simp [Part.bank]

/-! ### ACDs and clusters left as they are -/

/-- The same ACDs and clusters. -/
def Part.SameUnits (p q : Part) : Prop := q.an.acds = p.an.acds ∧ q.clusters = p.clusters

namespace Part.SameUnits

theorem refl (p : Part) : p.SameUnits p := ⟨rfl, rfl⟩

theorem trans {p q r : Part} (a : p.SameUnits q) (b : q.SameUnits r) : p.SameUnits r := by
  obtain ⟨aacds, aclusters⟩ := a
  obtain ⟨bacds, bclusters⟩ := b
  exact ⟨bacds.trans aacds, bclusters.trans aclusters⟩

theorem foldl {α : Type} {f : Part → α → Part} (h : ∀ (q : Part) x, q.SameUnits (f q x)) (l : List α) (p : Part) :
    p.SameUnits (l.foldl f p) :=
  List.foldlRecOn (motive := p.SameUnits) l f (refl p) fun q hq x _ => hq.trans (h q x)

theorem acd {p q : Part} (h : p.SameUnits q) (a : Nat) : q.acd a = p.acd a := by rw [Part.acd, h.1, Part.acd]

theorem cluster {p q : Part} (h : p.SameUnits q) (c : Nat) : q.cluster c = p.cluster c := by rw [Part.cluster, h.2, Part.cluster]

end Part.SameUnits

/-! ### Repairs of a tile (R84, R99, R503, R504) -/

/-- A tile out of service with a converter fault. -/
def Tile.Faulted (x : Tile) : Prop := x.ready = false ∧ x.convFault = true

/-- What a repair of tile `t` leaves alone: ACDs, clusters, the banks of other tiles, and a converter fault of the tile. -/
def Part.RepairsTile (p : Part) (t : Nat) (q : Part) : Prop :=
  p.SameUnits q ∧ (∀ k, k / 2 ≠ t → q.bank k = p.bank k) ∧ ((p.tile t).Faulted → (q.tile t).Faulted)

namespace Part.RepairsTile

theorem refl (p : Part) (t : Nat) : p.RepairsTile t p := ⟨.refl p, fun _ _ => rfl, id⟩

theorem trans {p q r : Part} {t : Nat} (a : p.RepairsTile t q) (b : q.RepairsTile t r) : p.RepairsTile t r := by
  obtain ⟨aunits, abanks, afault⟩ := a
  obtain ⟨bunits, bbanks, bfault⟩ := b
  exact ⟨aunits.trans bunits, fun k hk => (bbanks k hk).trans (abanks k hk), bfault ∘ afault⟩

theorem sameUnits {p q : Part} {t : Nat} (h : p.RepairsTile t q) : p.SameUnits q := h.1

theorem foldl {α : Type} {f : Part → α → Part} {t : Nat} (h : ∀ (q : Part) x, q.RepairsTile t (f q x)) (l : List α) (p : Part) :
    p.RepairsTile t (l.foldl f p) :=
  List.foldlRecOn (motive := p.RepairsTile t) l f (refl p t) fun q hq x _ => hq.trans (h q x)

end Part.RepairsTile

theorem setBank_repairsTile (p : Part) (k : Nat) (b : Bank) : p.RepairsTile (k / 2) (p.setBank k b) :=
  ⟨⟨rfl, rfl⟩, fun j hj => bank_setBank_ne p k j b fun e => hj (by rw [e]), id⟩

theorem setTile_sameUnits (p : Part) (t : Nat) (v : Tile) : p.SameUnits (p.setTile t v) := ⟨rfl, rfl⟩

theorem setTile_repairsTile (p : Part) (t : Nat) {v : Tile} (h : (p.tile t).Faulted → v.Faulted) : p.RepairsTile t (p.setTile t v) :=
  ⟨setTile_sameUnits p t v, fun _ _ => rfl, by rwa [tile_setTile]⟩

theorem setSlice_repairsTile (p : Part) (t c : Nat) (v : Slice) : p.RepairsTile t (p.setSlice c v) :=
  ⟨⟨rfl, rfl⟩, fun _ _ => rfl, id⟩

theorem shadowColumn_repairsTile (p : Part) (k j : Nat) : p.RepairsTile (k / 2) (p.shadowColumn k j) := by
  unfold Part.shadowColumn
  dsimp only
  split
  case isTrue => exact .refl p _
  case isFalse =>
    have shadowed := (setBank_repairsTile p k { p.bank k with oor := (p.bank k).oor ++ [j] }).trans
      (setSlice_repairsTile _ _ (tileCluster (k / 2)) { p.slice (tileCluster (k / 2)) with
        shadow := (p.slice (tileCluster (k / 2))).shadow ++ [(k, j)] })
    split
    case isTrue => exact shadowed
    case isFalse => exact shadowed.trans (setTile_repairsTile _ _ fun h => ⟨rfl, h.2⟩)

theorem recordRepair_repairsTile (p : Part) (k j : Nat) : p.RepairsTile (k / 2) (p.recordRepair k j) := by
  have recorded := setBank_repairsTile p k ((p.bank k).repairCol j)
  unfold Part.recordRepair
  dsimp only
  split
  case isTrue => exact recorded
  case isFalse => exact recorded.trans (setTile_repairsTile _ _ id)

theorem outOfRange_repairsTile (p : Part) (k j : Nat) : p.RepairsTile (k / 2) (p.outOfRange k j) :=
  ((recordRepair_repairsTile p k j).trans (setBank_repairsTile _ k _)).trans (shadowColumn_repairsTile _ k j)

theorem pathRepair_repairsTile (p : Part) (k j : Nat) : p.RepairsTile (k / 2) (p.pathRepair k j) := by
  unfold Part.pathRepair
  dsimp only
  split
  case isTrue => exact recordRepair_repairsTile p k j
  case isFalse => exact (recordRepair_repairsTile p k j).trans (shadowColumn_repairsTile _ k j)

theorem repairTile_repairsTile (p : Part) (t : Nat) (cols : List Nat) : p.RepairsTile t (p.repairTile t cols) := by
  refine .foldl (fun q j => ?_) cols p
  have first := pathRepair_repairsTile q (2 * t) j
  have second := pathRepair_repairsTile (q.pathRepair (2 * t) j) (2 * t + 1) j
  rw [show 2 * t / 2 = t by omega] at first
  rw [show (2 * t + 1) / 2 = t by omega] at second
  exact first.trans second

theorem tileFault_repairsTile (p : Part) (t : Nat) : p.RepairsTile t (p.tileFault t) := setTile_repairsTile p t fun _ => ⟨rfl, rfl⟩

theorem tileFault_faulted (p : Part) (t : Nat) : ((p.tileFault t).tile t).Faulted := by
  rw [Part.tileFault, tile_setTile]
  exact ⟨rfl, rfl⟩

theorem updateColumn_repairsTile (p : Part) (k : Nat) (x : ColMeas) : p.RepairsTile (k / 2) (p.updateColumn k x) := by
  unfold Part.updateColumn
  dsimp only
  split
  case isTrue => exact .refl p _
  case isFalse =>
    split
    case h_1 => exact setBank_repairsTile p k _
    case h_2 =>
      split
      case isTrue => exact setBank_repairsTile p k _
      case isFalse =>
        split
        case isTrue => exact setBank_repairsTile p k _
        case isFalse => exact (setBank_repairsTile p k _).trans (outOfRange_repairsTile _ k x.col)

theorem relatch_repairsTile (p : Part) (k : Nat) : p.RepairsTile (k / 2) (p.relatch k) := by
  unfold Part.relatch
  dsimp only
  split
  case isTrue => exact setTile_repairsTile p _ id
  case isFalse => exact .refl p _

/-! ### COLUMN_CHECK_COMPLETE (R84, R116) -/

/-- The anneal unit is free, the paths are repaired, and a converter fault takes the tile out of service. -/
def Part.checkJudged (p : Part) (a : Nat) (r : AnnealRun) : Part :=
  let q := (p.setAcd a { p.acd a with anneal := none }).repairTile (r.bank / 2) (faultyColumns r.words)
  if converterFault r.words then q.tileFault (r.bank / 2) else q

theorem checkJudged_repairsTile (p : Part) (a : Nat) (r : AnnealRun) :
    (p.setAcd a { p.acd a with anneal := none }).RepairsTile (r.bank / 2) (p.checkJudged a r) ∧
    (converterFault r.words = true → ((p.checkJudged a r).tile (r.bank / 2)).Faulted) := by
  have repaired := repairTile_repairsTile (p.setAcd a { p.acd a with anneal := none }) (r.bank / 2) (faultyColumns r.words)
  unfold Part.checkJudged
  dsimp only
  split
  case isTrue => exact ⟨repaired.trans (tileFault_repairsTile _ _), fun _ => tileFault_faulted _ _⟩
  case isFalse hf => exact ⟨repaired, fun h => absurd h hf⟩

section
variable {p : Part} {a : Nat} (l : List ColMeas)

theorem columnCheck_idle (h : (p.acd a).anneal = none) : p.columnCheck a l = p := by
  simp only [Part.columnCheck, h]

variable {r : AnnealRun} (h : (p.acd a).anneal = some r)
include h

theorem columnCheck_early (hw : r.probe = true ∨ r.words.length < 5) : p.columnCheck a l = p := by
  have hg : (r.probe || decide (r.words.length < 5)) = true := by simpa using hw
  simp only [Part.columnCheck, h, hg, if_true]

/-- A check that is done is judged, the columns measured are updated, and the message is answered. -/
theorem columnCheck_done (hp : r.probe = false) (hw : 5 ≤ r.words.length) : ∃ cols : List ColMeas, p.columnCheck a l =
    ((cols.foldl (fun q x => q.updateColumn r.bank x) (p.checkJudged a r)).relatch r.bank).readiness.answer (12 + a) r.msg 0 stOk [] := by
  have hg : ¬ (r.probe || decide (r.words.length < 5)) = true := by simp [hp, hw]
  simp only [Part.columnCheck, h, hg]
  exact ⟨_, rfl⟩

end

/-- A check that is done frees the anneal unit and changes no bank of another tile; a converter fault takes the tile out of service. -/
theorem columnCheck_ends {p : Part} {a : Nat} {r : AnnealRun} (l : List ColMeas) (h : (p.acd a).anneal = some r) (hp : r.probe = false)
    (hw : 5 ≤ r.words.length) : ((p.columnCheck a l).acd a).anneal = none ∧
    (converterFault r.words = true → ((p.columnCheck a l).tile (r.bank / 2)).Faulted) ∧
    ∀ k, k / 2 ≠ r.bank / 2 → (p.columnCheck a l).bank k = p.bank k := by
  obtain ⟨cols, hcols⟩ := columnCheck_done l h hp hw
  obtain ⟨judged, judgedFault⟩ := checkJudged_repairsTile p a r
  have updated := (Part.RepairsTile.foldl (fun q x => updateColumn_repairsTile q r.bank x) cols (p.checkJudged a r)).trans
    (relatch_repairsTile _ r.bank)
  obtain ⟨hunits, hbanks, _⟩ := judged.trans updated
  obtain ⟨_, _, hfault⟩ := updated
  simp only [hcols, acd_answer, tile_answer, bank_answer, acd_readiness, tile_readiness, bank_readiness]
  refine ⟨?free, fun hf => hfault (judgedFault hf), hbanks⟩
  case free => rw [hunits.acd, acd_setAcd]

theorem live_acd {s : State} {a : Nat} {f : Part → Part} (ha : isAcd a = true) (h : s.part.alive (3 + a) = true) :
    s.live (3 + a) (acdOk a) f = .next (withPart s (f s.part)) := by
  rw [show acdOk a = true from ha]
  exact live_alive h

theorem exec_columnCheckComplete {s : State} {a : Nat} (l : List ColMeas) (ha : isAcd a = true) (h : s.part.alive (3 + a) = true) :
    exec (.columnCheckComplete a l) s = .next (withPart s (s.part.columnCheck a l)) :=
  live_acd (f := fun p => p.columnCheck a l) ha h

/-! ### CAL_ROUND_START (R389) -/

/-- A round may be asked for: the maps are in, no round runs, one is left, and firmware runs. -/
def Part.roundDue (p : Part) (a : Nat) : Prop :=
  (p.acd a).mapAt ≠ none ∧ (p.acd a).calActive = false ∧ (p.acd a).calRound < 8 ∧ 2 ≤ p.boot.stage

theorem calRoundStart_notDue {p : Part} {a : Nat}
    (h : (p.acd a).mapAt = none ∨ (p.acd a).calActive = true ∨ 8 ≤ (p.acd a).calRound ∨ p.boot.stage < 2) : p.calRoundStart a = p := by
  have hg : ((p.acd a).mapAt.isNone || (p.acd a).calActive || decide (8 ≤ (p.acd a).calRound) || decide (p.boot.stage < 2)) = true := by
    simpa [or_assoc] using h
  simp only [Part.calRoundStart, hg, if_true]

/-- The ACD's record once its round has been asked for: it waits while a cluster of its pair is hot, and otherwise runs. -/
def Acd.roundAsked (x : Acd) (hot : Bool) (since : Nat) : Acd :=
  if hot then { x with calWaiting := true, hotSince := since } else { x with calWaiting := false, calActive := true }

/-- A round that is due waits or starts; HOT_WAIT counts the seconds of waiting. -/
theorem calRoundStart_due {p : Part} {a : Nat} (h : p.roundDue a) : ∃ seconds since, p.calRoundStart a =
    (p.bump (aCalStatus (12 + a)) 32 16 seconds).setAcd a ((p.acd a).roundAsked (p.hotPair a (p.acd a).calRound) since) := by
  obtain ⟨hmap, hactive, hround, hstage⟩ := h
  have hg : ¬ ((p.acd a).mapAt.isNone || (p.acd a).calActive || decide (8 ≤ (p.acd a).calRound) || decide (p.boot.stage < 2)) = true := by
    simp [hmap, hactive, hround, Nat.lt_iff_add_one_le, hstage]
  have hhot (n : Nat) : (p.bump (aCalStatus (12 + a)) 32 16 n).hotPair a (p.acd a).calRound = p.hotPair a (p.acd a).calRound := by
    rw [Part.hotPair, Part.hotPair, cluster_bump, cluster_bump]
  simp only [Part.calRoundStart, hg, hhot]
  cases p.hotPair a (p.acd a).calRound with
  | true => exact ⟨_, _, rfl⟩
  | false => exact ⟨_, 0, rfl⟩

theorem calRoundStart_acd {p : Part} {a : Nat} (h : p.roundDue a) :
    (p.hotPair a (p.acd a).calRound = false → ((p.calRoundStart a).acd a).calActive = true ∧ ((p.calRoundStart a).acd a).calWaiting = false) ∧
    (p.hotPair a (p.acd a).calRound = true → ((p.calRoundStart a).acd a).calActive = false ∧ ((p.calRoundStart a).acd a).calWaiting = true) ∧
    ((p.calRoundStart a).acd a).calRound = (p.acd a).calRound ∧ ∀ b, b ≠ a → (p.calRoundStart a).acd b = p.acd b := by
  obtain ⟨seconds, since, hs⟩ := calRoundStart_due h
  obtain ⟨_, hactive, _, _⟩ := h
  have hown : (p.calRoundStart a).acd a = (p.acd a).roundAsked (p.hotPair a (p.acd a).calRound) since := by rw [hs, acd_setAcd]
  have hother (b : Nat) (hb : b ≠ a) : (p.calRoundStart a).acd b = p.acd b := by rw [hs, acd_setAcd_ne _ _ _ _ hb, acd_bump]
  rw [hown]
  cases p.hotPair a (p.acd a).calRound with
  | true => exact ⟨nofun, fun _ => ⟨hactive, rfl⟩, rfl, hother⟩
  | false => exact ⟨fun _ => ⟨rfl, rfl⟩, nofun, rfl, hother⟩

theorem exec_calRoundStart {s : State} {a : Nat} (ha : isAcd a = true) (h : s.part.alive (3 + a) = true) :
    exec (.calRoundStart a) s = .next (withPart s (s.part.calRoundStart a)) :=
  live_acd (f := fun p => p.calRoundStart a) ha h

/-! ### CAL_ROUND_COMPLETE (R389, R391) -/

theorem calTile_sameUnits (p : Part) (x : TileCal) : p.SameUnits (p.calTile x) := by
  unfold Part.calTile
  extract_lets t _ trimmed bring first both repaired _
  have measured : p.SameUnits both := ⟨rfl, rfl⟩
  have hrepaired : p.SameUnits repaired := measured.trans (repairTile_repairsTile both t (calColumns x)).sameUnits
  clear_value repaired
  split
  case isTrue => exact hrepaired.trans (tileFault_repairsTile repaired t).sameUnits
  case isFalse => exact hrepaired.trans (setTile_sameUnits repaired t _)

theorem ringAdd_sameUnits (p : Part) (code slot req arg : Nat) : p.SameUnits (p.ringAdd code slot req arg) := by
  unfold Part.ringAdd
  split
  case isTrue => exact ⟨by simp, by simp⟩
  case isFalse => exact ⟨by simp, by simp⟩

theorem annealStart_sameUnits (p : Part) (k : Nat) : p.SameUnits (p.annealStart k) := ⟨rfl, rfl⟩

/-- A cluster that joins service changes its own record, and no ACD's. -/
theorem clusterJoin_sameUnits (p : Part) (c : Nat) :
    (p.setCluster c { p.cluster c with service := true, calDone := true }).SameUnits (p.clusterJoin c) := by
  unfold Part.clusterJoin
  extract_lets _ joined started
  have hstarted : joined.SameUnits started := .foldl (fun q (x : Nat × Bank) => annealStart_sameUnits q x.1) _ joined
  exact hstarted.trans (ringAdd_sameUnits started _ _ _ _)

theorem clusterJoin_acd (p : Part) (c a : Nat) : (p.clusterJoin c).acd a = p.acd a := (clusterJoin_sameUnits p c).acd a

theorem clusterJoin_cluster (p : Part) (c : Nat) :
    (p.clusterJoin c).cluster c = { p.cluster c with service := true, calDone := true } := by
  rw [(clusterJoin_sameUnits p c).cluster, cluster_setCluster]

theorem clusterJoin_cluster_ne (p : Part) {c e : Nat} (h : e ≠ c) : (p.clusterJoin c).cluster e = p.cluster e := by
  rw [(clusterJoin_sameUnits p c).cluster, cluster_setCluster_ne p _ h]

/-- The end of a round for the part: stage FULL and READINESS. -/
theorem roundEnd_frame (p : Part) : p.stageFull.readiness.an = p.an ∧ p.stageFull.readiness.clusters = p.clusters := by
  have hfull : p.stageFull.an = p.an ∧ p.stageFull.clusters = p.clusters := by
    unfold Part.stageFull
    split <;> exact ⟨rfl, rfl⟩
  simpa using hfull

/-- The ACD's record once a round is over. -/
def Acd.roundOver (x : Acd) (fail : Bool) : Acd :=
  { x with
    calActive := false, calRound := x.calRound + 1,
    failedPairs := if fail && !x.failedPairs.testBit x.calRound then x.failedPairs + 2 ^ x.calRound else x.failedPairs }

section
variable {p : Part} {a : Nat} (l : List TileCal)

theorem calRoundComplete_idle (fail : Bool) (h : (p.acd a).calActive = false) : p.calRoundComplete a fail l = p := by
  simp [Part.calRoundComplete, h]

variable (h : (p.acd a).calActive = true) {c : Nat} (hc : c = 16 * a + 2 * (p.acd a).calRound)
include h hc

/-- A round that ends well: its tiles take their results and both clusters join service. -/
theorem calRoundComplete_good : ∃ q, (p.setAcd a ((p.acd a).roundOver false)).SameUnits q ∧
    p.calRoundComplete a false l = ((q.clusterJoin c).clusterJoin (c + 1)).stageFull.readiness := by
  subst hc
  refine ⟨(l.filter fun y => tileCluster y.tile / 2 == (16 * a + 2 * (p.acd a).calRound) / 2).foldl Part.calTile
    (p.setAcd a ((p.acd a).roundOver false)), .foldl calTile_sameUnits _ _, ?_⟩
  simp [Part.calRoundComplete, h, Acd.roundOver]

/-- A round that fails: both clusters fail. -/
theorem calRoundComplete_failed : p.calRoundComplete a true l =
    (((p.setAcd a ((p.acd a).roundOver true)).clusterFail c).clusterFail (c + 1)).stageFull.readiness := by
  subst hc
  simp [Part.calRoundComplete, h, Acd.roundOver]

theorem calRoundComplete_joins : ((p.calRoundComplete a false l).acd a).calRound = (p.acd a).calRound + 1 ∧
    ((p.calRoundComplete a false l).acd a).calActive = false ∧
    ((p.calRoundComplete a false l).cluster c).service = true ∧ ((p.calRoundComplete a false l).cluster (c + 1)).service = true ∧
    ((p.calRoundComplete a false l).cluster c).calDone = true ∧ ((p.calRoundComplete a false l).cluster (c + 1)).calDone = true := by
  obtain ⟨q, hq, hr⟩ := calRoundComplete_good l h hc
  obtain ⟨han, hclusters⟩ := roundEnd_frame ((q.clusterJoin c).clusterJoin (c + 1))
  have hacd : (p.calRoundComplete a false l).acd a = (p.acd a).roundOver false := by
    rw [Part.acd, hr, han, ← Part.acd, clusterJoin_acd, clusterJoin_acd, hq.acd, acd_setAcd]
  have hfirst : (p.calRoundComplete a false l).cluster c = { q.cluster c with service := true, calDone := true } := by
    rw [Part.cluster, hr, hclusters, ← Part.cluster, clusterJoin_cluster_ne _ (by omega), clusterJoin_cluster]
  have hsecond : (p.calRoundComplete a false l).cluster (c + 1) = { q.cluster (c + 1) with service := true, calDone := true } := by
    rw [Part.cluster, hr, hclusters, ← Part.cluster, clusterJoin_cluster, clusterJoin_cluster_ne _ (by omega)]
  rw [hacd, hfirst, hsecond]
  exact ⟨rfl, rfl, rfl, rfl, rfl, rfl⟩

theorem calRoundComplete_fails : ((p.calRoundComplete a true l).acd a).calRound = (p.acd a).calRound + 1 ∧
    ((p.calRoundComplete a true l).acd a).calActive = false ∧
    (p.calRoundComplete a true l).cluster c = { p.cluster c with calDone := true, calFailed := true } ∧
    (p.calRoundComplete a true l).cluster (c + 1) = { p.cluster (c + 1) with calDone := true, calFailed := true } ∧
    (p.calRoundComplete a true l).an.banks = p.an.banks := by
  have hr := calRoundComplete_failed l h hc
  obtain ⟨han, hclusters⟩ := roundEnd_frame (((p.setAcd a ((p.acd a).roundOver true)).clusterFail c).clusterFail (c + 1))
  have hacd : (p.calRoundComplete a true l).acd a = (p.acd a).roundOver true := by
    rw [Part.acd, hr, han]
    exact acd_setAcd p a _
  have hfirst : (p.calRoundComplete a true l).cluster c = { p.cluster c with calDone := true, calFailed := true } := by
    rw [Part.cluster, hr, hclusters, ← Part.cluster, Part.clusterFail, cluster_setCluster_ne _ _ (by omega)]
    exact cluster_setCluster _ c _
  have hsecond : (p.calRoundComplete a true l).cluster (c + 1) = { p.cluster (c + 1) with calDone := true, calFailed := true } := by
    rw [Part.cluster, hr, hclusters, ← Part.cluster, Part.clusterFail, cluster_setCluster, Part.clusterFail,
      cluster_setCluster_ne _ _ (by omega)]
    rfl
  rw [hacd, hfirst, hsecond, hr, han]
  exact ⟨rfl, rfl, rfl, rfl, rfl⟩

end

theorem exec_calRoundComplete {s : State} {a : Nat} (fail : Bool) (l : List TileCal) (ha : isAcd a = true) (h : s.part.alive (3 + a) = true) :
    exec (.calRoundComplete a fail l) s = .next (withPart s (s.part.calRoundComplete a fail l)) :=
  live_acd (f := fun p => p.calRoundComplete a fail l) ha h

end Sys2Proof.Machine

/-! SUPPORT. SEED_SET (R109, R277): a command that ends, and the seed held for the next step. -/
namespace Sys2Proof.Machine

/-- A command that ends leaves its session without a command in execution. -/
theorem finish_cur (p : Part) (i st : Nat) (b : Bytes) : ((p.finish i st b).ses i).cur = none := by
  unfold Part.finish
  dsimp only
  split
  case h_1 h => exact h
  case h_2 =>
    split
    case isTrue => rw [ses_setSes]
    case isFalse =>
      obtain ⟨_, _, _, hcur, _⟩ := (produce_ses _ i i _).keeps
      rw [hcur, ses_setSes]

/-- A seed put in the first `n` ACDs is held there, and in no other. -/
theorem acd_setSeeds (p : Part) (v : Word64) (n a : Nat) :
    ((List.range n).foldl (fun q a => q.setAcd a { q.acd a with nextSeed := v }) p).acd a =
      if a < n then { p.acd a with nextSeed := v } else p.acd a := by
  induction n with
  | zero => rfl
  | succ n ih =>
    rw [List.range_succ, List.foldl_append]
    by_cases h : a = n
    · subst h
      rw [if_pos (Nat.lt_succ_self a)]
      simp only [List.foldl_cons, List.foldl_nil, acd_setAcd, ih, if_neg (Nat.lt_irrefl a)]
    · have hlt : a < n + 1 ↔ a < n := by omega
      simp only [List.foldl_cons, List.foldl_nil, acd_setAcd_ne _ _ _ _ h, ih, hlt]

theorem setSeed_acd (p : Part) (v : Word64) {a : Nat} (h : a < 8) : (p.setSeed v).acd a = { p.acd a with nextSeed := v } := by
  rw [Part.setSeed, acd_setSeeds, if_pos h]

theorem setSeed_freeTick (p : Part) (v : Word64) : (p.setSeed v).freeTick = p.freeTick :=
  List.foldlRecOn (motive := fun q : Part => q.freeTick = p.freeTick) (List.range 8) _ rfl fun _ hq _ _ => hq

/-- The command ends with the seed `v` held for the next step in all eight ACDs, and the seed in force as it was. -/
theorem setSeed_finish (p : Part) (v : Word64) (i st : Nat) (b : Bytes) : (((p.setSeed v).finish i st b).ses i).cur = none ∧
    ((p.setSeed v).finish i st b).freeTick = p.freeTick ∧
    ∀ a, a < 8 → (((p.setSeed v).finish i st b).acd a).nextSeed = v ∧ (((p.setSeed v).finish i st b).acd a).seed = (p.acd a).seed := by
  refine ⟨finish_cur _ i st b, by rw [(finish_frame _ i st b).1, setSeed_freeTick], fun a ha => ?_⟩
  rw [acd_finish, setSeed_acd p v ha]
  exact ⟨rfl, rfl⟩

theorem seedSet_given {p : Part} {i : Nat} {k : Bytes} (h : (par k 8 1).testBit 0 = false) :
    p.seedSet i k = (p.setSeed (BitVec.ofNat 64 (par k 0 8))).finish i stOk [] := by
  simp [Part.seedSet, h]

/-- With ENTROPY the seed is the next free value. -/
theorem seedSet_drawn {p : Part} {i : Nat} {k : Bytes} (h : (par k 8 1).testBit 0 = true) :
    p.seedSet i k = (p.free.2.setSeed (Config.freeValue p.freeTick)).finish i stOk [] := by
  simp only [Part.seedSet, h, if_true]
  rfl

theorem exec_seedSet {s : State} {i : Nat} {k : Bytes} (h : Running s i 0x07 k) :
    exec (.seedSet i) s = .next (withPart s (s.part.seedSet i k)) := by
  obtain ⟨hi, ha, hc, ho⟩ := h
  exact cmd_running (of_decide_eq_true hi) ha hc ho

end Sys2Proof.Machine

namespace Sys2Proof

open Machine

/-- Settles O29: what falls due by the bank's owner, a task by what the anneal unit waits for, a check and a round by their end, and the
seed by ENTROPY. -/
theorem annealAndCalibrationRounds : Obligations.AnnealAndCalibrationRounds := by
  unfold Obligations.AnnealAndCalibrationRounds
  refine ⟨fun s k hk ha => ⟨?outOfService, ?noOwner, ?owned, ?noMessage, fun m a hm hacd => ⟨?busy, ?command, ?rows, ?check,
      fun hfree hidle hwait hlost => ⟨?notDeep, ?probe⟩⟩⟩,
    fun s a l ha h => ⟨?noCheck, fun r hr => ⟨?running, ?ended⟩⟩,
    fun s a ha h => ⟨?notDue, ?due, ?noRound, fun l c hactive hc => ⟨?joins, ?fails⟩⟩,
    fun s i k hrun => ?seed⟩
  case outOfService =>
    intro hs
    rw [exec_annealDue hk ha, annealDue_outOfService s.mem hs]
    rfl
  case noOwner =>
    intro hs ho
    refine ⟨_, exec_annealDue hk ha, ?_⟩
    simp only [withPart, annealDue_noOwner s.mem hs ho]
    exact ⟨bank_setBank s.part k _, fun j hj => bank_setBank_ne s.part k j _ hj⟩
  case owned => exact fun v hs ho => ⟨_, exec_annealDue hk ha, annealDue_owned_bank s.mem hs ho⟩
  case noMessage =>
    intro probe hm
    rw [exec_annealTask probe hk ha, annealTask_noMessage s.mem probe hm]
    rfl
  case busy =>
    subst hacd
    intro probe hb
    rw [exec_annealTask probe hk ha, annealTask_waits s.mem hm (taskWaits_busy probe hb)]
    rfl
  case command =>
    intro hc
    rw [exec_annealTask false hk ha, annealTask_waits s.mem hm (taskWaits_command hc)]
    rfl
  case rows =>
    intro hr
    rw [exec_annealTask true hk ha, annealTask_waits s.mem hm (taskWaits_rows hr)]
    rfl
  case check =>
    subst hacd
    intro hfree hidle hcal
    have hw := taskWaits_check_free hfree hidle hcal
    obtain ⟨hunit, ⟨y, hy, hphases, hdac, hstart⟩, hbank, hbanks⟩ := startCheck_starts s.part k m
    refine ⟨_, taskRun k m false, y, exec_annealTask false hk ha, ?_⟩
    simp only [withPart, annealTask_check s.mem hm hw]
    exact ⟨hunit, rfl, rfl, rfl, rfl, hy, hphases, hdac, hstart, congrArg Bank.checkDue hbank, congrArg Bank.lastCheck hbank, hbanks⟩
  case notDeep =>
    subst hacd
    intro hd
    have hw := taskWaits_probe_free hfree hidle hwait hlost
    rw [exec_annealTask true hk ha, annealTask_notDeep s.mem hm hw hd]
  case probe =>
    subst hacd
    intro hd
    have hw := taskWaits_probe_free hfree hidle hwait hlost
    obtain ⟨hunit, ⟨l, hqueue, hkinds⟩, hprobing, hdue, hbanks⟩ := startProbe_starts s.part s.mem k m
    refine ⟨_, taskRun k m true, l, exec_annealTask true hk ha, ?_⟩
    simp only [withPart, annealTask_probe s.mem hm hw hd]
    exact ⟨hunit, rfl, rfl, rfl, hqueue, hkinds, hprobing, hdue, hbanks⟩
  case noCheck =>
    intro hr
    rw [exec_columnCheckComplete l ha h, columnCheck_idle l hr]
    rfl
  case running =>
    intro hw
    rw [exec_columnCheckComplete l ha h, columnCheck_early l hr hw]
    rfl
  case ended => exact fun hp hw => ⟨_, exec_columnCheckComplete l ha h, columnCheck_ends l hr hp hw⟩
  case notDue =>
    intro hn
    rw [exec_calRoundStart ha h, calRoundStart_notDue hn]
    rfl
  case due =>
    exact fun hmap hactive hround hstage => ⟨_, exec_calRoundStart ha h, calRoundStart_acd ⟨hmap, hactive, hround, hstage⟩⟩
  case noRound =>
    intro fail l hactive
    rw [exec_calRoundComplete fail l ha h, calRoundComplete_idle l fail hactive]
    rfl
  case joins => exact ⟨_, exec_calRoundComplete false l ha h, calRoundComplete_joins l hactive hc⟩
  case fails => exact ⟨_, exec_calRoundComplete true l ha h, calRoundComplete_fails l hactive hc⟩
  case seed =>
    refine ⟨_, exec_seedSet hrun, ?_⟩
    cases he : (par k 8 1).testBit 0 with
    | false =>
      obtain ⟨hcur, htick, hseeds⟩ := setSeed_finish s.part (BitVec.ofNat 64 (par k 0 8)) i stOk []
      simp only [withPart, seedSet_given he]
      exact ⟨hcur, fun _ => ⟨htick, hseeds⟩, nofun⟩
    | true =>
      obtain ⟨hcur, htick, hseeds⟩ := setSeed_finish s.part.free.2 (Config.freeValue s.part.freeTick) i stOk []
      simp only [withPart, seedSet_drawn he]
      exact ⟨hcur, nofun, fun _ => ⟨htick, hseeds⟩⟩

end Sys2Proof

/-! SUPPORT. Weight codes in a row of a bank (R121 to R123). -/
namespace Sys2Proof.Machine

theorem nth_eq_getElem {α : Type} (d : α) : ∀ (l : List α) (n : Nat) (h : n < l.length), nth d l n = l[n]
  | _ :: _, 0, _ => rfl
  | _ :: l, n + 1, h => nth_eq_getElem d l n (Nat.lt_of_succ_lt_succ h)

theorem rowCode_lt (row : Bytes) (j : Nat) : rowCode row j < 4 := Nat.mod_lt _ (by decide)

/-- The two bits of a column's code are those of its byte from bit 2 (j mod 4) on (R122). -/
theorem testBit_rowCode (row : Bytes) (j : Nat) {i : Nat} (h : i < 2) :
    (rowCode row j).testBit i = (nth 0 row (j / 4)).toNat.testBit (2 * (j % 4) + i) := by
  have hcode : rowCode row j = (nth 0 row (j / 4)).toNat / 2 ^ (2 * (j % 4)) % 2 ^ 2 :=
    congrArg (fun n => (nth 0 row (j / 4)).toNat / n % 4) (Nat.pow_mul 2 2 (j % 4)).symm
  rw [hcode, Nat.testBit_mod_two_pow, Nat.testBit_div_two_pow, decide_eq_true h, Bool.true_and, Nat.add_comm]

/-- Bit i of byte n is a bit of the code of column 4 n + i / 2. -/
theorem testBit_byte (row : Bytes) (n : Nat) {i : Nat} (h : i < 8) :
    (nth 0 row n).toNat.testBit i = (rowCode row (4 * n + i / 2)).testBit (i % 2) := by
  rw [testBit_rowCode row _ (Nat.mod_lt i (by decide)), show (4 * n + i / 2) / 4 = n by omega,
    show 2 * ((4 * n + i / 2) % 4) + i % 2 = i by omega]

/-- Rows with the same codes are the same bytes. -/
theorem row_eq_of_rowCode_eq {a b : Bytes} (ha : a.length = 128) (hb : b.length = 128)
    (h : ∀ j, j < 512 → rowCode a j = rowCode b j) : a = b := by
  refine List.ext_getElem (ha.trans hb.symm) fun n hna hnb => ?_
  rw [← nth_eq_getElem 0 a n hna, ← nth_eq_getElem 0 b n hnb]
  refine BitVec.eq_of_getLsbD_eq fun i hi => ?_
  rw [← BitVec.testBit_toNat, ← BitVec.testBit_toNat, testBit_byte a n hi, testBit_byte b n hi, h _ (by omega)]

/-- The codes that no weight of a format has (R121): 10 in T, 00 and 10 in B1, none in I2. -/
theorem badCode_iff (c : Nat) :
    (badCode 0 c = true ↔ c = 2) ∧ (badCode 1 c = true ↔ c = 0 ∨ c = 2) ∧ badCode 2 c = false := by
  refine ⟨?_, ?_, ?_⟩
  · simp [badCode]
  · simp [badCode, or_comm]
  · simp [badCode]

/-- An invalid code is programmed as 0 (R123). -/
theorem cellValue_of_bad {f c : Nat} (h : badCode f c = true) : cellValue f c = 0 := by
  simp only [badCode, Bool.or_eq_true, Bool.and_eq_true, beq_iff_eq, bne_iff_ne] at h
  rcases h with ⟨rfl, hf⟩ | ⟨rfl, _⟩
  · simp [cellValue, hf]
  · simp [cellValue]

/-- A valid code is the two's complement value of its two bits (R121). -/
theorem cellValue_of_valid {f c : Nat} (hc : c < 4) (h : badCode f c = false) :
    cellValue f c = if c < 2 then (c : Int) else (c : Int) - 4 := by
  match c, hc with
  | 0, _ => rfl
  | 1, _ => rfl
  | 2, _ =>
    have hf : f = 2 := by simpa [badCode] using h
    subst hf
    rfl
  | 3, _ => rfl

end Sys2Proof.Machine

namespace Sys2Proof

open Machine

/-- Settles O11: a code is a two-bit window of its byte, so the windows give every bit of the row back. -/
theorem weightsSitInTheirBits : Obligations.WeightsSitInTheirBits := by
  unfold Obligations.WeightsSitInTheirBits
  refine ⟨fun row j _ _ => ⟨testBit_rowCode row j (by decide), testBit_rowCode row j (by decide), rowCode_lt row j⟩,
    fun a b => row_eq_of_rowCode_eq, fun c hc => ?codes⟩
  case codes =>
    obtain ⟨ht, hb, hi⟩ := badCode_iff c
    exact ⟨ht, hb, hi, fun f _ => ⟨cellValue_of_bad, cellValue_of_valid hc⟩⟩

end Sys2Proof

/-! SUPPORT. Values of floating-point patterns: what a format's decoder gives for a sign, an exponent and a mantissa (R130, R131). -/
namespace Sys2Proof.Machine

/-- The magnitude of a pattern with exponent `e` and mantissa `m` of `t` bits, in units of the least subnormal. -/
def fltUnits (t e m : Nat) : Nat := if e = 0 then m else (2 ^ t + m) * 2 ^ (e - 1)

theorem natCast_two_pow (n : Nat) : ((2 ^ n : Nat) : Int) = 2 ^ n := by
  induction n with
  | zero => rfl
  | succ n ih => exact (Int.natCast_mul (2 ^ n) 2).trans (congrArg (· * 2) ih)

theorem fltUnits_cast (t e m : Nat) :
    (fltUnits t e m : Int) = if e = 0 then (m : Int) else ((2 ^ t + m : Nat) : Int) * 2 ^ (e - 1) := by
  unfold fltUnits
  split
  case isTrue => rfl
  case isFalse => rw [Int.natCast_mul, natCast_two_pow (e - 1)]

theorem fltUnits_eq_zero {t e m : Nat} (h : fltUnits t e m = 0) : e = 0 ∧ m = 0 := by
  unfold fltUnits at h
  split at h
  case isTrue he => exact ⟨he, h⟩
  case isFalse =>
    have hpos : 0 < (2 ^ t + m) * 2 ^ (e - 1) :=
      Nat.mul_pos (Nat.lt_of_lt_of_le (Nat.two_pow_pos t) (Nat.le_add_right _ m)) (Nat.two_pow_pos _)
    omega

/-- `q` is `u` units of 2^-k with the sign given, which a zero has too. -/
def Q.Units (q : Q) (k u : Nat) (neg : Bool) : Prop :=
  0 < q.d ∧ q.n * ((2 ^ k : Nat) : Int) = (if neg then -1 else 1) * (q.d : Int) * (u : Int) ∧ q.nz = neg

/-- A number scaled by 2^(j - k) is 2^j times as many units of 2^-k: the quotient has a denominator when j is below k. -/
theorem scale_units (x j k : Nat) : ((Q.ofInt x).scale (-(k : Int) + j)).Units k (x * 2 ^ j) false := by
  unfold Q.scale
  split
  case isTrue h =>
    obtain ⟨i, rfl⟩ : ∃ i, j = k + i := ⟨j - k, by omega⟩
    have hi : (-(k : Int) + ((k + i : Nat) : Int)).toNat = i := by omega
    have hnat : x * 2 ^ i * 2 ^ k = 1 * (x * 2 ^ (k + i)) := by
      rw [Nat.one_mul, Nat.pow_add, Nat.mul_assoc, Nat.mul_comm (2 ^ i)]
    rw [hi]
    exact ⟨Nat.one_pos, congrArg Int.ofNat hnat, rfl⟩
  case isFalse h =>
    obtain ⟨i, rfl⟩ : ∃ i, k = j + i := ⟨k - j, by omega⟩
    have hi : (-(-((j + i : Nat) : Int) + (j : Int))).toNat = i := by omega
    have hnat : x * 2 ^ (j + i) = 1 * (1 * 2 ^ i) * (x * 2 ^ j) := by
      rw [Nat.one_mul, Nat.one_mul, Nat.pow_add, Nat.mul_comm (2 ^ j), Nat.mul_left_comm]
    rw [hi]
    exact ⟨Nat.lt_of_lt_of_eq (Nat.two_pow_pos i) (Nat.one_mul _).symm, congrArg Int.ofNat hnat, rfl⟩

theorem Q.Units.neg {q : Q} {k u : Nat} (h : q.Units k u false) : q.neg.Units k u true := by
  obtain ⟨hd, hn, hz⟩ := h
  refine ⟨hd, ?_, congrArg (!·) hz⟩
  calc -q.n * ((2 ^ k : Nat) : Int) = -(1 * (q.d : Int) * (u : Int)) := (Int.neg_mul _ _).trans (congrArg (-·) hn)
    _ = -1 * (q.d : Int) * (u : Int) := by rw [Int.neg_mul, Int.neg_mul]

/-- What a format's decoder gives for a pattern with `w` exponent bits and `t` bits of mantissa. -/
theorem decode_units {f : Fmt} {t k : Nat} (hp : f.p = t + 1) (hk : f.emin = -(k : Int)) (w v : Nat) :
    (f.decode w v).Units k (fltUnits t (v / 2 ^ t % 2 ^ w) (v % 2 ^ t)) (v.testBit (w + t)) := by
  simp only [Fmt.decode, hp, Nat.add_sub_cancel, ← Nat.add_assoc, hk, Nat.testBit_eq_decide_div_mod_eq]
  generalize v / 2 ^ t % 2 ^ w = e
  generalize v % 2 ^ t = m
  have hmag : (if e = 0 then (Q.ofInt (m : Int)).scale (-(k : Int))
      else (Q.ofInt ((m : Int) + 2 ^ t)).scale (-(k : Int) + (e : Int) - 1)).Units k (fltUnits t e m) false := by
    unfold fltUnits
    split
    case isTrue =>
      have hunits := scale_units m 0 k
      rwa [Int.natCast_zero, Int.add_zero, Nat.pow_zero, Nat.mul_one] at hunits
    case isFalse he =>
      have hexp : -(k : Int) + (e : Int) - 1 = -(k : Int) + ((e - 1 : Nat) : Int) := by omega
      have hsum : (m : Int) + 2 ^ t = ((2 ^ t + m : Nat) : Int) := by
        rw [Int.natCast_add, natCast_two_pow, Int.add_comm]
      rw [hexp, hsum]
      exact scale_units (2 ^ t + m) (e - 1) k
  by_cases hs : v / 2 ^ (w + t) % 2 = 1
  · rw [if_pos hs, decide_eq_true hs]
    exact hmag.neg
  · rw [if_neg hs, decide_eq_false hs]
    exact hmag

theorem Q.Units.natAbs_mul {q : Q} {k u : Nat} {neg : Bool} (h : q.Units k u neg) : q.n.natAbs * 2 ^ k = q.d * u := by
  obtain ⟨_, hu, _⟩ := h
  have habs := congrArg Int.natAbs hu
  have hs : (if neg then -1 else 1 : Int).natAbs = 1 := by cases neg <;> rfl
  rwa [Int.natAbs_mul, Int.natAbs_mul, Int.natAbs_mul, Int.natAbs_natCast, Int.natAbs_natCast, Int.natAbs_natCast, hs,
    Nat.one_mul] at habs

theorem Q.Units.units_eq_zero {q : Q} {k u : Nat} {neg : Bool} (h : q.Units k u neg) (hn : q.n = 0) : u = 0 := by
  have hu := h.natAbs_mul
  obtain ⟨hd, _, _⟩ := h
  rw [hn, Int.natAbs_zero, Nat.zero_mul] at hu
  exact (Nat.mul_eq_zero.mp hu.symm).resolve_left (Nat.ne_of_gt hd)

/-- A magnitude of at most `top`, when it has at most `top` times 2^k units. -/
theorem Q.Units.natAbs_le {q : Q} {k u : Nat} {neg : Bool} (h : q.Units k u neg) {top : Nat} (ht : u ≤ top * 2 ^ k) :
    q.n.natAbs ≤ top * q.d := by
  have hle : q.n.natAbs * 2 ^ k ≤ top * q.d * 2 ^ k :=
    calc q.n.natAbs * 2 ^ k = q.d * u := h.natAbs_mul
      _ ≤ q.d * (top * 2 ^ k) := Nat.mul_le_mul_left _ ht
      _ = top * q.d * 2 ^ k := by rw [Nat.mul_left_comm, Nat.mul_assoc]
  exact Nat.le_of_mul_le_mul_right hle (Nat.two_pow_pos k)

theorem Q.Units.eq_top {q : Q} {k top : Nat} (h : q.Units k (top * 2 ^ k) false) : q.n = top * (q.d : Int) := by
  obtain ⟨_, hu, _⟩ := h
  have hk : ((2 ^ k : Nat) : Int) ≠ 0 := Int.ofNat_ne_zero.mpr (Nat.ne_of_gt (Nat.two_pow_pos k))
  refine Int.eq_of_mul_eq_mul_right hk ?_
  calc q.n * ((2 ^ k : Nat) : Int) = 1 * (q.d : Int) * ((top * 2 ^ k : Nat) : Int) := hu
    _ = top * (q.d : Int) * ((2 ^ k : Nat) : Int) := by
      rw [Int.one_mul, Int.natCast_mul, Int.mul_left_comm, Int.mul_assoc]

/-! ### The two FP8 formats -/

/-- E4M3 in units of 2^-9 (R130). -/
theorem e4m3_units (v : Nat) : (e4m3.decode 4 v).Units 9 (fltUnits 3 (v / 8 % 16) (v % 8)) (v.testBit 7) :=
  decode_units rfl rfl 4 v

/-- E5M2 in units of 2^-16 (R131). -/
theorem e5m2_units (v : Nat) : (e5m2.decode 5 v).Units 16 (fltUnits 2 (v / 4 % 32) (v % 4)) (v.testBit 7) :=
  decode_units rfl rfl 5 v

/-- No finite exponent and mantissa pass the largest ones. -/
theorem fltUnits_le {t e m E : Nat} (he : e ≤ E) (hm : m < 2 ^ t) : fltUnits t e m ≤ (2 ^ (t + 1) - 1) * 2 ^ (E - 1) := by
  unfold fltUnits
  have hE : 0 < 2 ^ (E - 1) := Nat.two_pow_pos _
  have ht : 2 ^ (t + 1) = 2 * 2 ^ t := by rw [Nat.pow_succ, Nat.mul_comm]
  split
  case isTrue => exact Nat.le_trans (by omega : m ≤ 2 ^ (t + 1) - 1) (Nat.le_mul_of_pos_right _ hE)
  case isFalse => exact Nat.mul_le_mul (by omega) (Nat.pow_le_pow_right (by decide) (by omega))

/-- 448 is the largest magnitude of E4M3: the top mantissa of the top exponent is NaN. -/
theorem fltUnits_e4m3_le {v : Nat} (h : v % 128 ≠ 127) : fltUnits 3 (v / 8 % 16) (v % 8) ≤ 448 * 2 ^ 9 := by
  by_cases he : v / 8 % 16 = 15
  · have hm : v % 8 ≤ 6 := by omega
    rw [fltUnits, he, if_neg (by decide)]
    omega
  · exact Nat.le_trans (fltUnits_le (E := 14) (by omega) (Nat.mod_lt _ (by decide))) (by decide)

theorem fltUnits_e5m2_le {v : Nat} (h : v / 4 % 32 ≠ 31) : fltUnits 2 (v / 4 % 32) (v % 4) ≤ 57344 * 2 ^ 16 :=
  fltUnits_le (E := 30) (by omega) (Nat.mod_lt _ (by decide))

theorem kvValue_e4m3 (v : Nat) : kvValue 0 v = if v % 128 = 127 then .nan else .fin (e4m3.decode 4 v) := rfl

theorem kvValue_e5m2 (v : Nat) : kvValue 1 v =
    if v / 4 % 32 = 31 then (if v % 4 = 0 then .inf (v.testBit 7) else .nan) else .fin (e5m2.decode 5 v) := by
  rw [Nat.testBit_eq_decide_div_mod_eq]
  rfl

end Sys2Proof.Machine

namespace Sys2Proof

open Machine

/-- Settles O12: the decoder gives the units of the least subnormal that the exponent and the mantissa say, and the pattern's sign. -/
theorem floatingElementsDecode : Obligations.FloatingElementsDecode := by
  unfold Obligations.FloatingElementsDecode
  intro v hv
  have signOfZero (h : v % 128 = 0) : v.testBit 7 = true ↔ v = 0x80 := by
    rw [Nat.testBit_eq_decide_div_mod_eq, decide_eq_true_eq]
    omega
  refine ⟨?nan4, fun h7 hF => ?fin4, fun he => ?special5, fun he => ?fin5⟩
  case nan4 =>
    rw [kvValue_e4m3]
    split
    case isTrue => exact ⟨fun _ => by omega, fun _ => rfl⟩
    case isFalse => exact ⟨nofun, by omega⟩
  case special5 =>
    rw [kvValue_e5m2, if_pos he]
    exact ⟨fun hm => if_pos hm, fun hm => if_neg hm⟩
  case fin4 =>
    have hfin : v % 128 ≠ 127 := by omega
    have hu := e4m3_units v
    have ⟨hd, hn, hz⟩ := hu
    refine ⟨_, (kvValue_e4m3 v).trans (if_neg hfin), hd, ?value, hu.natAbs_le (fltUnits_e4m3_le hfin), ?top, fun h0 => ?zero⟩
    case value =>
      rw [fltUnits_cast] at hn
      exact hn
    case top =>
      rintro rfl
      exact Q.Units.eq_top (k := 9) (top := 448) (e4m3_units 0x7E)
    case zero =>
      obtain ⟨he, hm⟩ := fltUnits_eq_zero (hu.units_eq_zero h0)
      rw [hz]
      exact signOfZero (by omega)
  case fin5 =>
    have hu := e5m2_units v
    have ⟨hd, hn, hz⟩ := hu
    refine ⟨_, (kvValue_e5m2 v).trans (if_neg he), hd, ?value, hu.natAbs_le (fltUnits_e5m2_le he), ?top, fun h0 => ?zero⟩
    case value =>
      rw [fltUnits_cast] at hn
      exact hn
    case top =>
      rintro rfl
      exact Q.Units.eq_top (k := 16) (top := 57344) (e5m2_units 0x7B)
    case zero =>
      obtain ⟨he, hm⟩ := fltUnits_eq_zero (hu.units_eq_zero h0)
      rw [hz]
      exact signOfZero (by omega)

end Sys2Proof

/-! SUPPORT. The grant rule and the balance windows (R136, R201, R214, R357). -/
namespace Sys2Proof.Machine

/-! ### The order of work (R201, R357) -/

/-- `x` is not after `y` by rank and then by deadline. -/
def Part.NotAfter (p : Part) (x y : MvmReq × Nat) : Prop :=
  (p.workKey (p.reqSlot x.1)).1 < (p.workKey (p.reqSlot y.1)).1 ∨
    (p.workKey (p.reqSlot x.1)).1 = (p.workKey (p.reqSlot y.1)).1 ∧ (p.workKey (p.reqSlot x.1)).2 ≤ (p.workKey (p.reqSlot y.1)).2

theorem before_eq_false_iff (p : Part) (a b : MvmReq × Nat) : p.before a b = false ↔ p.NotAfter b a := by
  simp only [Part.before, Part.NotAfter, Bool.or_eq_false_iff, Bool.and_eq_false_iff, decide_eq_false_iff_not, beq_eq_false_iff_ne]
  omega

theorem Part.NotAfter.refl (p : Part) (x : MvmReq × Nat) : p.NotAfter x x := .inr ⟨rfl, Nat.le_refl _⟩

theorem Part.NotAfter.trans {p : Part} {x y z : MvmReq × Nat} (a : p.NotAfter x y) (b : p.NotAfter y z) : p.NotAfter x z := by
  unfold Part.NotAfter at *
  omega

theorem Part.NotAfter.total (p : Part) (x y : MvmReq × Nat) : p.NotAfter x y ∨ p.NotAfter y x := by
  unfold Part.NotAfter
  omega

theorem notAfter_of_before {p : Part} {a b : MvmReq × Nat} (h : p.before a b = true) : p.NotAfter a b :=
  (Part.NotAfter.total p a b).resolve_right fun hba => by rw [(before_eq_false_iff p a b).mpr hba] at h; cases h

theorem firstWork_eq_none {p : Part} : ∀ {l : List (MvmReq × Nat)}, p.firstWork l = none → l = []
  | [], _ => rfl
  | _ :: _, h => by
    simp only [Part.firstWork] at h
    split at h
    · cases h
    · split at h <;> cases h

/-- The first work of a list is in it, and nothing of the list comes before it. -/
theorem firstWork_least {p : Part} {l : List (MvmReq × Nat)} {x : MvmReq × Nat} (h : p.firstWork l = some x) :
    x ∈ l ∧ ∀ y ∈ l, p.before y x = false := by
  simp only [before_eq_false_iff]
  induction l generalizing x with
  | nil => cases h
  | cons a l ih =>
    simp only [Part.firstWork] at h
    cases hl : p.firstWork l with
    | none =>
      simp only [hl, Option.some.injEq] at h
      rw [firstWork_eq_none hl, ← h]
      exact ⟨List.mem_cons_self, fun y hy => List.mem_singleton.mp hy ▸ .refl p a⟩
    | some b =>
      obtain ⟨hmem, hleast⟩ := ih hl
      simp only [hl] at h
      cases hb : p.before b a with
      | true =>
        obtain rfl : b = x := by simpa only [hb, if_true, Option.some.injEq] using h
        exact ⟨List.mem_cons_of_mem a hmem, List.forall_mem_cons.mpr ⟨notAfter_of_before hb, hleast⟩⟩
      | false =>
        obtain rfl : a = x := by simpa only [hb, if_false, Bool.false_eq_true, Option.some.injEq] using h
        have hab : p.NotAfter a b := (before_eq_false_iff p b a).mp hb
        exact ⟨List.mem_cons_self, List.forall_mem_cons.mpr ⟨.refl p a, fun y hy => hab.trans (hleast y hy)⟩⟩

/-- The grant rule chooses the first work of one of the classes. -/
theorem choose_firstWork {p : Part} {c : Nat} {x : MvmReq × Nat} (h : p.choose c = some x) :
    ∃ k, p.firstWork (p.waiting c k) = some x := by
  simp only [Part.choose] at h
  split at h
  · exact ⟨_, h⟩
  · split at h
    · exact ⟨_, h⟩
    · split at h
      · cases h
      · exact ⟨_, h⟩

theorem cls_of_mem_waiting {p : Part} {c : Nat} {k : WorkClass} {x : MvmReq × Nat} (h : x ∈ p.waiting c k) : x.1.cls = k := by
  simp only [Part.waiting, List.mem_filter, Bool.and_eq_true, beq_iff_eq] at h
  obtain ⟨_, ⟨⟨hcls, _⟩, _⟩, _⟩ := h
  exact hcls

theorem choose_least {p : Part} {c : Nat} {x : MvmReq × Nat} (h : p.choose c = some x) :
    x ∈ p.waiting c x.1.cls ∧ ∀ y ∈ p.waiting c x.1.cls, p.before y x = false := by
  obtain ⟨k, hk⟩ := choose_firstWork h
  obtain rfl := cls_of_mem_waiting (firstWork_least hk).1
  exact firstWork_least hk

/-! ### MVM_GRANT (R136, R201, R214) -/

/-- Binding sets to a job changes a slice's sets alone. -/
theorem bind_frame {job : Nat} : ∀ {gs : List Nat} {s t : Slice} {col : Nat}, s.bind job col gs = some t → t = { s with sets := t.sets }
  | [], _, _, _, h => by
    cases h
    rfl
  | g :: gs, s, t, col, h => by
    simp only [Slice.bind] at h
    split at h
    · exact bind_frame h
    · split at h
      · cases h
      · exact (bind_frame h :)

/-- A request as its tile gets it: with the bank's present epoch when it waited for its weights. -/
def Part.asGranted (p : Part) (r : MvmReq) : MvmReq :=
  if r.await then { r with epoch := (p.bank (2 * r.tile + r.bank)).epoch, await := false } else r

/-- The slice that grants a request: it leaves the lists of work that waits. -/
def Slice.granting (s : Slice) (r g : MvmReq) : Slice :=
  { s with want := s.want.filter fun x => x.1 != r, held := s.held.filter fun x => x != r, granted := s.granted ++ [g], lastCls := r.cls }

/-- The part with sets bound at home slice `h` and the request granted by slice `c`. -/
def Part.granting (p : Part) (c h : Nat) (hs : Slice) (r : MvmReq) : Part :=
  (p.setSlice h hs).setSlice c (((p.setSlice h hs).slice c).granting r (p.asGranted r))

/-- The cluster's record once work asked for at `w` is granted: generation work adds the time that it waited in this window. -/
def Part.waitedFor (p : Part) (c w : Nat) : Cluster :=
  { p.cluster c with genWait := (p.cluster c).genWait + (p.now - max w (p.cluster c).window) }

@[simp] theorem slice_setCluster (p : Part) (c e : Nat) (v : Cluster) : (p.setCluster c v).slice e = p.slice e := rfl

theorem grant_idle {p : Part} {c : Nat} (h : p.choose c = none) : p.grant c = p := by
  simp only [Part.grant, h]

section
variable {p : Part} {c : Nat} {r : MvmReq} {w : Nat} (hc : p.choose c = some (r, w))
include hc

theorem grant_noJob (hj : p.job r.job = none) : p.grant c = p := by
  simp only [Part.grant, hc, hj]

variable {j : JobRun} {h g : Nat} (hj : p.job r.job = some j) (hh : nth (0, 0) j.job.homes r.block = (h, g))
include hj hh

theorem grant_unbound (hb : (p.slice h).bind r.job (512 * r.block) (blockGroups g) = none) : p.grant c =
    if r ∈ (p.slice c).held then p
    else (p.setSlice c { p.slice c with held := (p.slice c).held ++ [r] }).bump (aNumSliceCnt (12 + c / 16) (c % 16)) 16 16 1 := by
  simp only [Part.grant, hc, hj, hh, hb, List.contains_iff_mem]

variable {hs : Slice} (hb : (p.slice h).bind r.job (512 * r.block) (blockGroups g) = some hs)
include hb

theorem grant_prompt (hk : r.cls = .prompt) : p.grant c = p.granting c h hs r := by
  simp only [Part.grant, hc, hj, hh, hb, hk]
  rw [← hk]
  rfl

theorem grant_generation (hk : r.cls = .generation) : p.grant c = (p.granting c h hs r).setCluster c (p.waitedFor c w) := by
  simp only [Part.grant, hc, hj, hh, hb, hk]
  rw [← hk]
  rfl

/-- The slices are left the same way for both classes. -/
theorem grant_slice (e : Nat) : (p.grant c).slice e = (p.granting c h hs r).slice e := by
  cases hk : r.cls with
  | prompt => rw [grant_prompt hc hj hh hb hk]
  | generation => rw [grant_generation hc hj hh hb hk, slice_setCluster]

end

/-- Binding sets at slice `h` leaves everything but the sets of `h`. -/
theorem slice_setSlice_bound {p : Part} {h : Nat} {hs : Slice} (hf : hs = { p.slice h with sets := hs.sets }) (e : Nat) :
    (p.setSlice h hs).slice e = { p.slice e with sets := if e = h then hs.sets else (p.slice e).sets } := by
  by_cases he : e = h
  · subst he
    rw [slice_setSlice, if_pos rfl]
    exact hf
  · rw [slice_setSlice_ne p h e hs he, if_neg he]

/-- What a grant does to the slices, whether or not the home slice is the one that grants. -/
theorem granting_slices {p : Part} {c h : Nat} {hs : Slice} (r : MvmReq) (hf : hs = { p.slice h with sets := hs.sets }) :
    ((p.granting c h hs r).slice c).granted = (p.slice c).granted ++ [p.asGranted r] ∧
    ((p.granting c h hs r).slice c).want = (p.slice c).want.filter (fun x => x.1 != r) ∧
    ((p.granting c h hs r).slice c).held = (p.slice c).held.filter (fun x => x != r) ∧
    ((p.granting c h hs r).slice c).lastCls = r.cls ∧ ((p.granting c h hs r).slice h).sets = hs.sets ∧
    ∀ e, e ≠ c → e ≠ h → (p.granting c h hs r).slice e = p.slice e := by
  simp only [Part.granting, slice_setSlice, slice_setSlice_bound hf c, Slice.granting]
  refine ⟨trivial, trivial, trivial, trivial, ?sets, fun e hec heh => ?other⟩
  case sets =>
    by_cases hch : h = c
    · subst hch
      rw [slice_setSlice, if_pos rfl]
    · rw [slice_setSlice_ne _ _ _ _ hch, slice_setSlice]
  case other => rw [slice_setSlice_ne _ _ _ _ hec, slice_setSlice_ne _ _ _ _ heh]

theorem live_slice {s : State} {c : Nat} {f : Part → Part} (hc : isCluster c = true) (ha : s.part.alive (3 + c / 16) = true) :
    s.live (3 + c / 16) (sliceOk c) f = .next (withPart s (f s.part)) := by
  rw [show sliceOk c = true from hc]
  exact live_alive ha

theorem exec_mvmGrant {s : State} {c : Nat} (hc : isCluster c = true) (ha : s.part.alive (3 + c / 16) = true) :
    exec (.mvmGrant c) s = .next (withPart s (s.part.grant c)) :=
  live_slice (f := fun p => p.grant c) hc ha

/-! ### BALANCE_WINDOW (R214) -/

theorem mfind_mem {α : Type} : ∀ {m : List (Nat × α)} {k : Nat} {v : α}, mfind m k = some v → (k, v) ∈ m
  | (k', v') :: m, k, v, h => by
    simp only [mfind] at h
    split at h
    case isTrue hk =>
      obtain rfl : v' = v := Option.some.inj h
      subst hk
      exact List.mem_cons_self
    case isFalse => exact List.mem_cons_of_mem _ (mfind_mem h)

/-- No tile of cluster `c` writes. -/
def Part.NoWrites (p : Part) (c : Nat) : Prop := ∀ t, tileCluster t = c → (p.tile t).wr = none

/-- An unlisted tile does not write, so the listed ones decide. -/
theorem noWrites_of_listed {p : Part} {c : Nat} (h : ∀ x ∈ p.an.tiles, tileCluster x.1 = c → x.2.wr = none) : p.NoWrites c := by
  intro t ht
  unfold Part.tile mget
  cases hf : mfind p.an.tiles t with
  | none => rfl
  | some v => exact h (t, v) (mfind_mem hf) ht

/-- Counting tile-time changes tiles and clusters, and no cluster of which no tile writes. -/
def Part.Charged (p q : Part) : Prop :=
  q.ctl = p.ctl ∧ q.an.slices = p.an.slices ∧ ∀ c, p.NoWrites c → q.NoWrites c ∧ q.cluster c = p.cluster c

namespace Part.Charged

theorem refl (p : Part) : p.Charged p := ⟨rfl, rfl, fun _ h => ⟨h, rfl⟩⟩

theorem trans {p q r : Part} (a : p.Charged q) (b : q.Charged r) : p.Charged r := by
  obtain ⟨actl, aslices, acluster⟩ := a
  obtain ⟨bctl, bslices, bcluster⟩ := b
  refine ⟨bctl.trans actl, bslices.trans aslices, fun c h => ?_⟩
  obtain ⟨hq, hpq⟩ := acluster c h
  obtain ⟨hr, hqr⟩ := bcluster c hq
  exact ⟨hr, hqr.trans hpq⟩

end Part.Charged

theorem useTime_cases (p : Part) (c : Nat) (k : WorkClass) (ns : Nat) : ∃ v, p.useTime c k ns = p.setCluster c v := by
  cases k with
  | prompt => exact ⟨_, rfl⟩
  | generation => exact ⟨_, rfl⟩

theorem chargeWrite_charged (p : Part) (t : Nat) : p.Charged (p.chargeWrite t) := by
  unfold Part.chargeWrite
  cases hw : (p.tile t).wr with
  | none => exact .refl p
  | some w =>
    dsimp only
    split
    case isFalse => exact .refl p
    case isTrue =>
      obtain ⟨v, hv⟩ := useTime_cases (p.setTile t { p.tile t with wr := some { w with since := p.now } }) (tileCluster t) w.cls
        (p.now - w.since)
      rw [hv]
      refine ⟨rfl, rfl, fun c h => ?_⟩
      have hc : c ≠ tileCluster t := by
        rintro rfl
        rw [h t rfl] at hw
        cases hw
      refine ⟨fun u hu => ?_, cluster_setCluster_ne _ v hc⟩
      have hut : u ≠ t := fun e => hc (e ▸ hu.symm)
      exact (congrArg Tile.wr (tile_setTile_ne p t u _ hut)).trans (h u hu)

/-- The part with the writes that run counted up to now. -/
def Part.writesCharged (p : Part) : Part := p.an.tiles.foldl (fun q t => q.chargeWrite t.1) p

theorem writesCharged_charged (p : Part) : p.Charged p.writesCharged :=
  List.foldlRecOn (motive := p.Charged) p.an.tiles _ (.refl p) fun _ hq x _ => hq.trans (chargeWrite_charged _ x.1)

/-- The record of cluster `c` in a window that begins at `w`. -/
def Part.nextWindow (p : Part) (w c : Nat) : Cluster :=
  { p.cluster c with
    share := promptShare (p.cluster c).genBusy ((p.cluster c).genWait +
      sumNat (((p.slice c).want.filter fun r => r.1.cls == .generation).map fun r => w - max r.2 (p.cluster c).window)),
    genBusy := 0, genWait := 0, promptUsed := 0, window := w }

/-- The window that begins at `w` begins in the first `n` clusters. -/
def Part.startWindows (p : Part) (w n : Nat) : Part := (List.range n).foldl (fun q c => q.setCluster c (q.nextWindow w c)) p

theorem startWindows_succ (p : Part) (w n : Nat) :
    p.startWindows w (n + 1) = (p.startWindows w n).setCluster n ((p.startWindows w n).nextWindow w n) := by
  simp only [Part.startWindows, List.range_succ, List.foldl_append, List.foldl_cons, List.foldl_nil]

theorem startWindows_frame (p : Part) (w n : Nat) : (p.startWindows w n).an = p.an ∧ (p.startWindows w n).ctl = p.ctl := by
  induction n with
  | zero => exact ⟨rfl, rfl⟩
  | succ n ih =>
    rw [startWindows_succ]
    exact ih

theorem cluster_startWindows (p : Part) (w n c : Nat) :
    (p.startWindows w n).cluster c = if c < n then p.nextWindow w c else p.cluster c := by
  induction n with
  | zero => rfl
  | succ n ih =>
    rw [startWindows_succ]
    by_cases h : c = n
    · subst h
      rw [if_neg (Nat.lt_irrefl c)] at ih
      have hslice : (p.startWindows w c).slice c = p.slice c := by rw [Part.slice, (startWindows_frame p w c).1, Part.slice]
      rw [cluster_setCluster, if_pos (Nat.lt_succ_self c), Part.nextWindow, ih, hslice, Part.nextWindow]
    · have hlt : c < n + 1 ↔ c < n := by omega
      simp only [cluster_setCluster_ne _ _ h, ih, hlt]

/-- Part time at which the present window of 10 ms begins. -/
def Part.windowStart (p : Part) : Nat := p.now / 10000000 * 10000000

theorem balanceWindow_begun {p : Part} (hw : p.windowStart ≤ (p.cluster 0).window) (h0 : 0 < p.windowStart) : p.balanceWindow = p := by
  simp only [Part.balanceWindow]
  exact if_pos ⟨hw, h0⟩

theorem balanceWindow_begins {p : Part} (h : ¬ (p.windowStart ≤ (p.cluster 0).window ∧ 0 < p.windowStart)) :
    p.balanceWindow = (p.writesCharged.startWindows p.windowStart 128).event 267 [] := by
  simp only [Part.balanceWindow]
  exact if_neg h

/-- The share of the window before, while no tile of the cluster writes. -/
theorem nextWindow_noWrites {p : Part} {c : Nat} (w : Nat) (h : p.NoWrites c) : p.writesCharged.nextWindow w c = p.nextWindow w c := by
  obtain ⟨_, hslices, hcluster⟩ := writesCharged_charged p
  have hslice : p.writesCharged.slice c = p.slice c := by rw [Part.slice, hslices, Part.slice]
  rw [Part.nextWindow, (hcluster c h).2, hslice, Part.nextWindow]

@[simp] theorem cluster_event (p : Part) (l : Nat) (d : Bytes) (c : Nat) : (p.event l d).cluster c = p.cluster c := rfl

theorem event_balanceWindow (p : Part) : ∃ e, (p.event 267 []).ctl.events = p.ctl.events ++ [e] ∧ fld e 0 2 = 267 := ⟨_, rfl, rfl⟩

/-- A window that begins raises line 267 and gives each cluster its new record. -/
theorem balanceWindow_starts {p : Part} (h : ¬ (p.windowStart ≤ (p.cluster 0).window ∧ 0 < p.windowStart)) :
    (∃ e, p.balanceWindow.ctl.events = p.ctl.events ++ [e] ∧ fld e 0 2 = 267) ∧
    ∀ c, c < 128 → p.balanceWindow.cluster c = p.writesCharged.nextWindow p.windowStart c := by
  obtain ⟨hctl, _, _⟩ := writesCharged_charged p
  rw [balanceWindow_begins h]
  refine ⟨?event, fun c hc => by rw [cluster_event, cluster_startWindows, if_pos hc]⟩
  case event =>
    obtain ⟨e, hevents, hline⟩ := event_balanceWindow (p.writesCharged.startWindows p.windowStart 128)
    obtain ⟨_, hframe⟩ := startWindows_frame p.writesCharged p.windowStart 128
    exact ⟨e, by rw [hevents, hframe, hctl], hline⟩

theorem exec_balanceWindow {s : State} (ha : s.part.alive 1 = true) :
    exec .balanceWindow s = .next (withPart s s.part.balanceWindow) :=
  live_alive ha

end Sys2Proof.Machine

namespace Sys2Proof

open Machine

/-- Settles O25: a grant by what the rule chooses and whether its sets can be bound; a window by whether it has begun. -/
theorem grantsAndWindows : Obligations.GrantsAndWindows := by
  unfold Obligations.GrantsAndWindows
  intro s
  refine ⟨fun c hc ha => ?grant, fun ha => ⟨fun hw h0 => ?begun, fun hw => ?begins⟩⟩
  case grant =>
    rw [exec_mvmGrant hc ha]
    refine ⟨fun h => ?idle, fun r w hr => ?chosen⟩
    case idle =>
      rw [grant_idle h]
      rfl
    obtain ⟨hmem, hleast⟩ := choose_least hr
    refine ⟨hmem, hleast, fun hj => ?noJob, fun j h g hj hh => ⟨fun hs hb => ?bound, fun hb => ?unbound⟩⟩
    case noJob =>
      rw [grant_noJob hr hj]
      rfl
    case bound =>
      refine ⟨_, rfl, ?_⟩
      obtain ⟨hgranted, hwant, hheld, hcls, hsets, hother⟩ := granting_slices (c := c) r (bind_frame hb)
      simp only [withPart, grant_slice hr hj hh hb]
      refine ⟨hgranted, hwant, hheld, hcls, hsets, hother, fun hk => ?generation, fun hk => ?prompt⟩
      case generation => rw [grant_generation hr hj hh hb hk, cluster_setCluster, Part.waitedFor]
      case prompt =>
        rw [grant_prompt hr hj hh hb hk]
        rfl
    case unbound =>
      rw [grant_unbound hr hj hh hb]
      refine ⟨fun hin => ?held, fun hout => by rw [if_neg hout]⟩
      case held =>
        rw [if_pos hin]
        rfl
  case begun =>
    rw [exec_balanceWindow ha, balanceWindow_begun hw (Nat.mul_pos h0 (by decide))]
    rfl
  case begins =>
    have hstart : ¬ (s.part.windowStart ≤ (s.part.cluster 0).window ∧ 0 < s.part.windowStart) := by
      unfold Part.windowStart
      omega
    obtain ⟨⟨e, hevents, hline⟩, hcluster⟩ := balanceWindow_starts hstart
    refine ⟨_, e, exec_balanceWindow ha, hevents, hline, fun c hc => ?_⟩
    simp only [withPart, hcluster c hc]
    refine ⟨rfl, rfl, rfl, rfl, Nat.le_max_left _ _, fun hno => ?_⟩
    rw [nextWindow_noWrites _ (noWrites_of_listed hno)]
    rfl

end Sys2Proof

/-! SUPPORT. Sequence slots: reading a slot's record after each update of the part, and the commands of a context die. -/
namespace Sys2Proof.Machine

/-! ### Reading a slot -/

/-- The slots are read from `kv` alone. -/
theorem kvSlot_congr {p q : Part} (h : q.kv = p.kv) (x : Nat) : q.kvSlot x = p.kvSlot x := by rw [Part.kvSlot, h, Part.kvSlot]

theorem slotEpoch_congr {p q : Part} (h : q.kv = p.kv) (cxd x : Nat) : q.slotEpoch cxd x = p.slotEpoch cxd x := by
  rw [Part.slotEpoch, h, Part.slotEpoch]

/-- The inboxes are read from `d2d` alone. -/
theorem inbox_congr {p q : Part} (h : q.d2d = p.d2d) (d u : Nat) : q.inbox d u = p.inbox d u := by rw [Part.inbox, h, Part.inbox]

@[simp] theorem kvSlot_setKvSlot (p : Part) (x : Nat) (v : KvSlot) : (p.setKvSlot x v).kvSlot x = v := mget_mset_same _ _ _ _

theorem kvSlot_setKvSlot_ne (p : Part) {x y : Nat} (v : KvSlot) (h : y ≠ x) : (p.setKvSlot x v).kvSlot y = p.kvSlot y :=
  mget_mset_ne _ _ _ _ _ h

@[simp] theorem slotEpoch_setKvSlot (p : Part) (x : Nat) (v : KvSlot) (cxd y : Nat) :
    (p.setKvSlot x v).slotEpoch cxd y = p.slotEpoch cxd y := by simp only [Part.slotEpoch, Part.setKvSlot]

@[simp] theorem kv_popInbox (p : Part) (d u : Nat) : (p.popInbox d u).kv = p.kv := rfl

@[simp] theorem kvSlot_bump (p : Part) (a lo w n x : Nat) : (p.bump a lo w n).kvSlot x = p.kvSlot x :=
  kvSlot_congr (by simp) x

@[simp] theorem kvSlot_popInbox (p : Part) (d u x : Nat) : (p.popInbox d u).kvSlot x = p.kvSlot x :=
  kvSlot_congr (kv_popInbox p d u) x

@[simp] theorem slotEpoch_popInbox (p : Part) (d u cxd x : Nat) : (p.popInbox d u).slotEpoch cxd x = p.slotEpoch cxd x :=
  slotEpoch_congr (kv_popInbox p d u) cxd x

@[simp] theorem inbox_setKvSlot (p : Part) (x : Nat) (v : KvSlot) (d u : Nat) : (p.setKvSlot x v).inbox d u = p.inbox d u :=
  inbox_congr rfl d u

@[simp] theorem inbox_bump (p : Part) (a lo w n d u : Nat) : (p.bump a lo w n).inbox d u = p.inbox d u :=
  inbox_congr (by simp) d u

/-- A message returned under a stale epoch changes no slot (R175, R283). -/
@[simp] theorem kv_slotStale (p : Part) (cxd x : Nat) (m : DieMsg) : (p.slotStale cxd x m).kv = p.kv := by simp [Part.slotStale]

/-! ### The commands -/

theorem slotOk_of {cxd sl : Nat} (hc : isCxd cxd = true) (hs : isSlot sl = true) : slotOk cxd sl = true := by
  rw [slotOk_eq, hc, hs, Bool.and_self]

/-- A command on a slot of a context die takes effect when the die can act. -/
theorem live_slot {s : State} {cxd sl : Nat} {f : Part → Part} (hc : isCxd cxd = true) (hs : isSlot sl = true)
    (ha : s.part.alive (11 + cxd) = true) : s.live (11 + cxd) (slotOk cxd sl) f = .next (withPart s (f s.part)) := by
  rw [slotOk_of hc hs]
  exact live_alive ha

/-- What changes nothing of the part changes nothing. -/
@[simp] theorem withPart_part (s : State) : withPart s s.part = s := rfl

end Sys2Proof.Machine

/-! SUPPORT. The byte memories: a step changes them by writes of bytes alone, and writes keep the canonical form. -/
namespace Sys2Proof.Machine

/-! ### Writes in order -/

theorem memWrites_append (m : Memory) (l k : List (Nat × Bytes)) : memWrites m (l ++ k) = memWrites (memWrites m l) k := by
  induction l generalizing m with
  | nil => rfl
  | cons w l ih => exact ih _

theorem memWrites_wf {m : Memory} (h : m.wf = true) (l : List (Nat × Bytes)) : (memWrites m l).wf = true := by
  induction l generalizing m with
  | nil => exact h
  | cons w l ih => exact ih (memWriteN_wf w.2 m w.1 h)

/-! ### States that differ by writes -/

/-- The second memory is the first after some writes of bytes. -/
def Memory.Written (m n : Memory) : Prop := ∃ l, n = memWrites m l

theorem Memory.Written.refl (m : Memory) : m.Written m := ⟨[], rfl⟩

theorem Memory.Written.trans {m n o : Memory} (a : m.Written n) (b : n.Written o) : m.Written o := by
  obtain ⟨l, rfl⟩ := a
  obtain ⟨k, rfl⟩ := b
  exact ⟨l ++ k, (memWrites_append m l k).symm⟩

theorem Memory.Written.wf {m n : Memory} (h : m.Written n) (hm : m.wf = true) : n.wf = true := by
  obtain ⟨l, rfl⟩ := h
  exact memWrites_wf hm l

/-- One write of bytes. -/
theorem written_memWriteN (m : Memory) (a : Nat) (b : Bytes) : m.Written (memWriteN m a b) := ⟨[(a, b)], rfl⟩

/-- Between two states, both byte memories have changed by writes of bytes alone. -/
structure State.Writes (s t : State) : Prop where
  mem : s.mem.Written t.mem
  kvmem : s.kvmem.Written t.kvmem

theorem State.Writes.trans {s t u : State} (a : s.Writes t) (b : t.Writes u) : s.Writes u :=
  ⟨a.mem.trans b.mem, a.kvmem.trans b.kvmem⟩

theorem State.Writes.canonical {s t : State} (h : s.Writes t) (hs : s.canonical = true) : t.canonical = true := by
  simp only [State.canonical, Bool.and_eq_true] at hs ⊢
  exact ⟨h.mem.wf hs.1, h.kvmem.wf hs.2⟩

/-- A change of the part, or of the queue, writes nothing. -/
theorem State.Writes.same {s t : State} (hm : t.mem = s.mem) (hk : t.kvmem = s.kvmem) : s.Writes t :=
  ⟨hm ▸ .refl _, hk ▸ .refl _⟩

/-- What is written after a change of the part. -/
theorem State.Writes.ofPart {s t : State} {p : Part} (h : State.Writes { s with part := p } t) : s.Writes t := ⟨h.mem, h.kvmem⟩

theorem State.Writes.refl (s : State) : s.Writes s := .same rfl rfl

/-! ### The operations that see the memories -/

theorem needWsd_writes {s : State} {work : Bool} {f : State → State} (h : ∀ u : State, u.Writes (f u)) : s.Writes (s.needWsd work f) := by
  unfold State.needWsd
  split
  · exact h s
  · split
    · exact .same rfl rfl
    · exact .refl s

theorem lendRequest_writes (s : State) : s.Writes s.lendRequest := by
  unfold State.lendRequest
  split
  · exact .same rfl rfl
  · exact .same rfl rfl
  · split
    · exact .same rfl rfl
    · exact ⟨written_memWriteN _ _ _, .refl _⟩
  · split
    · exact .same rfl rfl
    · exact .same rfl rfl
  · exact .refl s

theorem replyArrive_writes (s : State) : s.Writes s.replyArrive := by
  unfold State.replyArrive
  dsimp only
  repeat' split
  all_goals exact .same rfl rfl

theorem pipelineChunk_writes (s : State) (base : Nat) : s.Writes (s.pipelineChunk base) := by
  unfold State.pipelineChunk
  dsimp only
  repeat' split
  all_goals exact .same rfl rfl

theorem scrubComplete_writes (s : State) (e sh : Nat) (bad : Bool) (holders : List Nat) : s.Writes (s.scrubComplete e sh bad holders) := by
  unfold State.scrubComplete
  dsimp only
  repeat' split
  all_goals exact .same rfl rfl

/-- A demotion reads the copy; the stacks keep it until the copy is written. -/
theorem demote_writes {s t : State} {e sh : Nat} {lender : Option (Nat × Nat)} {b : Bool} (h : s.demote e sh lender = (t, b)) :
    s.Writes t := by
  suffices hd : s.Writes (s.demote e sh lender).1 by rwa [h] at hd
  unfold State.demote
  dsimp only
  repeat' split
  all_goals exact .same rfl rfl

theorem stageStart_writes (s : State) (base : Nat) (lender : Option (Nat × Nat)) : s.Writes (s.stageStart base lender) := by
  unfold State.stageStart
  split
  · exact .refl s
  split
  · exact .same rfl rfl
  split
  · exact .same rfl rfl
  split
  · exact .refl s
  dsimp only
  split
  · exact .same rfl rfl
  split
  next h => exact demote_writes h
  next h => exact (demote_writes h).trans (.same rfl rfl)

/-- A shard that passes its checks is written to the stacks. -/
theorem checksDone_writes (s : State) (e sh : Nat) (g : Option Graph) (holders : List Nat) : s.Writes (s.checksDone e sh g holders) := by
  unfold State.checksDone
  dsimp only
  split
  · split
    · exact .refl s
    · split
      · exact .same rfl rfl
      · exact ⟨written_memWriteN _ _ _, .refl _⟩
  · exact .refl s

/-- A copy that passes its checks on the way back is written to the stacks. -/
theorem readBack_writes (s : State) (e sh base : Nat) (holders : List Nat) : s.Writes (s.readBack e sh base holders) := by
  unfold State.readBack
  split
  · exact .refl s
  split
  · exact .refl s
  split
  · exact .refl s
  extract_lets waits data p asked addr r host n ok lacks t
  split
  · repeat' split
    all_goals exact .same rfl rfl
  split
  · exact .same rfl rfl
  split
  case h_2 => exact ⟨written_memWriteN _ _ _, .refl _⟩
  split
  · exact .same rfl rfl
  split
  · exact .same rfl rfl
  have ht : s.Writes t := .same rfl rfl
  split
  next h => exact ht.trans (demote_writes h)
  next h => exact (ht.trans (demote_writes h)).trans (.same rfl rfl)

/-! ### The operations on KV pages -/

theorem acceptAppend_writes (s : State) (cxd sl : Nat) (m : DieMsg) : s.Writes (s.acceptAppend cxd sl m) := by
  unfold State.acceptAppend
  dsimp only
  split
  · exact .refl s
  · split
    · exact .refl s
    · exact ⟨.refl _, _, rfl⟩

theorem kvAppend_writes (s : State) (cxd sl : Nat) : s.Writes (s.kvAppend cxd sl) := by
  unfold State.kvAppend
  dsimp only
  split
  · exact .refl s
  split
  · exact .refl s
  split
  · exact .same rfl rfl
  split
  · exact .same rfl rfl
  split
  · exact .same rfl rfl
  split
  · exact .same rfl rfl
  generalize (if (s.part.kvSlot sl).tagList.contains _ = true then s.part.popInbox (8 + cxd) sl else _) = q
  split
  · exact .same rfl rfl
  · exact (acceptAppend_writes _ _ _ _).ofPart

theorem chunkDone_writes (s : State) (sl : Nat) : s.Writes (s.chunkDone sl) := by
  unfold State.chunkDone
  split
  · exact .same rfl rfl
  · exact .refl s

theorem nextTag_writes (s : State) (cxd sl : Nat) : s.Writes (s.nextTag cxd sl) := by
  unfold State.nextTag
  dsimp only
  split
  · split
    · exact (acceptAppend_writes _ _ _ _).ofPart
    · exact .refl s
  · exact .refl s

theorem heldRun_writes (cxd sl n : Nat) (s : State) : s.Writes (s.heldRun cxd sl n) := by
  induction n generalizing s with
  | zero => exact .refl s
  | succ n ih =>
    unfold State.heldRun
    dsimp only
    split
    · exact .refl s
    split
    · exact ((acceptAppend_writes _ _ _ _).trans (ih _)).ofPart
    · exact .refl s

theorem attentionStart_writes (s : State) (id : Nat) : s.Writes (s.attentionStart id) := by
  unfold State.attentionStart
  dsimp only
  split
  · exact .refl s
  split
  · exact .refl s
  · exact ((nextTag_writes _ _ _).trans (heldRun_writes _ _ _ _)).ofPart

theorem attentionComplete_writes (s : State) (id : Nat) : s.Writes (s.attentionComplete id) := by
  unfold State.attentionComplete
  dsimp only
  repeat' split
  all_goals exact .same rfl rfl

theorem copyComplete_writes (s : State) (sl : Nat) : s.Writes (s.copyComplete sl) := by
  unfold State.copyComplete
  dsimp only
  split
  · exact .refl s
  split
  · exact .refl s
  split
  · exact ⟨.refl _, written_memWriteN _ _ _⟩
  · exact ⟨.refl _, written_memWriteN _ _ _⟩
  · exact .same rfl rfl

theorem rebuilt_writes (s : State) (sl i : Nat) (data : Bytes) : s.Writes (s.rebuilt sl i data) := by
  unfold State.rebuilt
  dsimp only
  split
  · split
    · exact .refl s
    · exact ⟨.refl _, written_memWriteN _ _ _⟩
  · exact .refl s

/-! ### The commands -/

/-- What a command answers in state `s`, if it is a next state, is `s` with bytes written. -/
def State.AnswersWritten (s : State) (o : Out) : Prop := ∀ t, o = .next t → s.Writes t

theorem answersWritten_next {s t : State} (h : s.Writes t) : s.AnswersWritten (.next t) := by
  rintro _ ⟨⟩
  exact h

theorem answersWritten_fault (s : State) (f : Fault) : s.AnswersWritten (.fault f) := fun _ h => nomatch h

theorem live_answersWritten (s : State) (d : Nat) (ok : Bool) (f : Part → Part) : s.AnswersWritten (s.live d ok f) := by
  intro t h
  obtain ⟨-, ⟨-, rfl⟩ | ⟨-, rfl⟩⟩ := live_cases h
  · exact .same rfl rfl
  · exact .refl _

theorem liveMem_answersWritten {s : State} {d : Nat} {ok : Bool} {f : State → State} (hf : s.Writes (f s)) :
    s.AnswersWritten (s.liveMem d ok f) := by
  intro t h
  obtain ⟨-, ⟨-, rfl⟩ | ⟨-, rfl⟩⟩ := liveMem_cases h
  · exact hf
  · exact .refl _

theorem acdMem_answersWritten (s : State) (t : Nat) (ok : Bool) (f : Memory → Part → Part) : s.AnswersWritten (s.acdMem t ok f) :=
  live_answersWritten s (3 + t / 1024) ok (f s.mem)

theorem onLink_answersWritten (s : State) (l : Nat) (ok : Bool) (f : Part → Part) : s.AnswersWritten (s.onLink l ok f) :=
  live_answersWritten s (linkDomain l) (isLink l && ok) f

theorem cmd_answersWritten (s : State) (i op : Nat) (f : Bytes → Part → Part) : s.AnswersWritten (s.cmd i op f) :=
  live_answersWritten s 1 (isSession i) fun p => p.onCmd i op f

theorem on_answersWritten (s : State) (f : Part → Part) : s.AnswersWritten (s.on f) := answersWritten_next (.same rfl rfl)

theorem execVectorStage_answersWritten (job : Nat) (fns : List VecFn) (dest : Dest) (s : State) :
    s.AnswersWritten (execVectorStage job fns dest s) := by
  unfold execVectorStage
  split
  · exact answersWritten_next (.refl s)
  · exact live_answersWritten _ _ _ _

theorem execRegisterWrite_answersWritten (by_ : Accessor) (a size : Nat) (v : Word64) (s : State) :
    s.AnswersWritten (execRegisterWrite by_ a size v s) := by
  cases by_ with
  | host => exact live_answersWritten s 2 true fun p => p.registerWrite .host a size v
  | core c => exact live_answersWritten s 1 (isCore c) fun p => p.registerWrite (.core c) a size v

theorem execRampEnd_answersWritten (d : Nat) (s : State) : s.AnswersWritten (execRampEnd d s) := by
  unfold execRampEnd
  split
  · exact on_answersWritten _ _
  · exact answersWritten_fault _ _

theorem execSensorSample_answersWritten (die : Nat) (raws : List (Option Int)) (s : State) :
    s.AnswersWritten (execSensorSample die raws s) := by
  unfold execSensorSample
  split
  · exact on_answersWritten _ _
  · exact answersWritten_fault _ _

/-- Every command changes the byte memories by writes of bytes alone: only the twelve rows of the form `liveMem` see them. -/
theorem exec_answersWritten (c : Instr) (s : State) : s.AnswersWritten (exec c s) := by
  cases c with dsimp only [exec]
  | powerOn | powerDown | resetNLow | resetNHigh | perstNLow | refclkLoss | freezeNLow | stopAckTimeout | extest | samplePreload
  | idcode | fzStatus | dieSel | scanRead | arrayRead | bypass | perstNHigh | refclk156Present | stopAck | arrayReadComplete
  | tapReset =>
    exact on_answersWritten _ _
  | dieReplyArrive => exact liveMem_answersWritten (replyArrive_writes _)
  | shardStageStart => exact liveMem_answersWritten (needWsd_writes fun _ => stageStart_writes _ _ _)
  | shardChecksDone => exact liveMem_answersWritten (checksDone_writes _ _ _ _ _)
  | scrubComplete => exact liveMem_answersWritten (scrubComplete_writes _ _ _ _ _)
  | pipelineChunk => exact liveMem_answersWritten (needWsd_writes fun _ => pipelineChunk_writes _ _)
  | tierReadbackComplete => exact liveMem_answersWritten (needWsd_writes fun _ => readBack_writes _ _ _ _ _)
  | pageCopyComplete => exact liveMem_answersWritten (copyComplete_writes _ _)
  | kvAppend => exact liveMem_answersWritten ((kvAppend_writes _ _ _).trans (chunkDone_writes _ _))
  | attentionStart => exact liveMem_answersWritten ((attentionStart_writes _ _).trans (chunkDone_writes _ _))
  | attentionComplete => exact liveMem_answersWritten (attentionComplete_writes _ _)
  | pageRebuildComplete => exact liveMem_answersWritten (rebuilt_writes _ _ _ _)
  | lendRequest => exact liveMem_answersWritten (lendRequest_writes _)
  | vectorStage job fns dest => exact execVectorStage_answersWritten job fns dest s
  | registerWrite by_ a size v => exact execRegisterWrite_answersWritten by_ a size v s
  | rampEnd d => exact execRampEnd_answersWritten d s
  | sensorSample die raws => exact execSensorSample_answersWritten die raws s
  | tileWriteStart | hotDeferEnd | shallowRowArrive | shallowWriteComplete | deepClearPassEnd | deepRowVerify | eraseDone
  | mapUpdateComplete =>
    exact acdMem_answersWritten _ _ _ _
  | laneFail | laneRetrain | laneGood | linkSignal | linkTrained | linkTrainingTimeout | linkRetry | linkSilent | linkResizeDone
  | linkResizeTimeout | flitReceive =>
    exact onLink_answersWritten _ _ _ _
  | load | unload | setCurrent | modelQuery | tierAdd | tierRemove | admitRequest | cancel | requestQuery | grammarLoad
  | grammarUnload | kvFork | kvTruncate | kvRelease | kvQuery | nop | sessionOpen | sessionClose | sessionResync | credit
  | partInfo | seedSet | noticeMask | portCfg | fabricQuery | sliceJoin | sliceLeave | ethCfg | nvmeConnect | nvmeDisconnect
  | journalSet | journalClear | journalSeal | journalAdopt | journalRelease | policyLoad | partReset | partResetHalt
  | domainSleep | domainWake | powerQuery | powerLimit | thermalQuery | quenchClear | attest | certRead | keyInstall | keyRemove
  | debugAuthPhase0 | debugAuthPhase1 | freeze | traceCfg | traceRead | diagMvm =>
    exact cmd_answersWritten _ _ _ _
  | _ => exact live_answersWritten _ _ _ _

/-- A step changes the byte memories by writes of bytes alone: the cycle of an empty queue, and every command. -/
theorem step_writes {s t : State} (h : step s = .next t) : s.Writes t := by
  unfold step at h
  split at h
  case h_1 =>
    obtain ⟨⟩ := h
    exact .same rfl rfl
  case h_2 c rest _ =>
    exact .trans (t := { s with pending := rest }) (.same rfl rfl) (exec_answersWritten c _ t h)

end Sys2Proof.Machine

namespace Sys2Proof

/-- Settles O6: a step writes bytes (`Machine.step_writes`), and a write of a byte keeps the canonical form. -/
theorem stepsKeepTheMemoriesCanonical : Obligations.StepsKeepTheMemoriesCanonical := by
  unfold Obligations.StepsKeepTheMemoriesCanonical
  exact fun s t hs h => (Machine.step_writes h).canonical hs

end Sys2Proof

/-! SUPPORT. KV_APPEND (R185, R186, R206): what the slot unit does with the message at its head, case by case, and the chunk's commit point. -/
namespace Sys2Proof.Machine

/-- Writes leave every byte outside them alone. -/
theorem memRead_memWrites_out {l : List (Nat × Bytes)} {b : Nat} (h : ∀ w ∈ l, b < w.1 ∨ w.1 + w.2.length ≤ b) (m : Memory) :
    memRead (memWrites m l) b = memRead m b := by
  induction l generalizing m with
  | nil => rfl
  | cons w l ih =>
    obtain ⟨hw, hl⟩ := List.forall_mem_cons.mp h
    exact (ih hl _).trans (memRead_writeN_out w.2 m w.1 b hw)

/-! ### The commit point of a chunk (R206) -/

@[simp] theorem chunkDone_mem (s : State) (sl : Nat) : (s.chunkDone sl).mem = s.mem := by
  unfold State.chunkDone
  split <;> rfl

@[simp] theorem chunkDone_kvmem (s : State) (sl : Nat) : (s.chunkDone sl).kvmem = s.kvmem := by
  unfold State.chunkDone
  split <;> rfl

/-- A slot whose step is no chunk that samples nothing has no commit point at an append. -/
theorem chunkDone_noChunk {s : State} {sl : Nat} (h : (s.part.kvSlot sl).chunk = false) : s.chunkDone sl = s := by
  rw [State.chunkDone, h]
  rfl

/-! ### An append that is accepted (R186) -/

/-- A slot with an append counted against its tag and layer, and `heads` more heads of its step written. -/
def KvSlot.counted (v : KvSlot) (m : DieMsg) (heads : Nat) : KvSlot :=
  { v with tags := countTag v.tags (fld m.payload 10 2) (fld m.payload 4 2), got := v.got + heads }

theorem acceptAppend_writesPage {s : State} {cxd sl : Nat} {m : DieMsg} {g : Graph} {pg : Page} (hg : s.part.shapeOf sl = some g)
    (hp : (s.part.kvSlot sl).pages[fld m.payload 0 4 / 64]? = some pg) : ∃ heads, s.acceptAppend cxd sl m =
      { s with
        part := (s.part.setKvSlot sl ((s.part.kvSlot sl).counted m heads)).bump (aKvCnt (8 + cxd)) 0 32 1
        kvmem := memWrites s.kvmem (appendWrites g (pageAddr cxd (pageBytes g) pg) m.payload) } := by
  simp only [State.acceptAppend, hg, hp]
  exact ⟨_, rfl⟩

/-! ### The message at the head of the slot unit -/

theorem kvAppend_nothing {s : State} {cxd sl : Nat}
    (h : s.part.inbox (8 + cxd) sl = [] ∨ ∃ a rest, s.part.inbox (8 + cxd) sl = a :: rest ∧ a.m.cls ≠ 4) : s.kvAppend cxd sl = s := by
  rcases h with h | ⟨a, rest, h, hc⟩
  · simp only [State.kvAppend, h]
  · simp only [State.kvAppend, h, if_pos hc]

/-- The part with the message at the head of a slot unit taken and given back, and counted as refused (R185). -/
def Part.appendRefused (p : Part) (cxd sl : Nat) (m : DieMsg) (st : Nat) : Part :=
  ((p.popInbox (8 + cxd) sl).giveBack (8 + cxd) m (p.slotEpoch cxd sl) st).bump (aKvCnt (8 + cxd)) 48 16 1

/-- A slot tracks four tags, and a given one is not among them. -/
def KvSlot.fullFor (v : KvSlot) (tag : Nat) : Bool := decide (4 ≤ v.tagList.length) && !v.tagList.contains tag

/-- A slot with fewer than four tags, or whose oldest tag still has requests to start, keeps its tags (R186). -/
theorem dropTag_keeps {p : Part} {sl : Nat}
    (h : (p.kvSlot sl).tagList.length < 4 ∨ ∀ t more, (p.kvSlot sl).tagList = t :: more → p.tagDone sl t = false) : p.dropTag sl = p := by
  unfold Part.dropTag
  dsimp only
  split
  next t more ht =>
    refine if_neg ?_
    rintro ⟨h4, hd⟩
    rcases h with h | h
    · omega
    · simp [h t more ht] at hd
  next => rfl

/-- The part with an append taken from the head of a slot unit; a new tag lets go of the oldest that is done (R186). -/
def Part.appendTaken (p : Part) (cxd sl : Nat) (m : DieMsg) : Part :=
  if (p.kvSlot sl).tagList.contains (fld m.payload 10 2) then p.popInbox (8 + cxd) sl else (p.popInbox (8 + cxd) sl).dropTag sl

theorem appendTaken_undropped {p : Part} {cxd sl : Nat} {m : DieMsg}
    (h : (p.kvSlot sl).tagList.contains (fld m.payload 10 2) = true ∨ (p.kvSlot sl).tagList.length < 4 ∨
      ∀ t more, (p.kvSlot sl).tagList = t :: more → p.tagDone sl t = false) : p.appendTaken cxd sl m = p.popInbox (8 + cxd) sl := by
  unfold Part.appendTaken
  split
  · rfl
  next hn => exact dropTag_keeps (p := p.popInbox (8 + cxd) sl) (h.resolve_left hn)

section
variable {s : State} {cxd sl : Nat} {a : Arrived} {rest : List Arrived}

theorem kvAppend_stale (hi : s.part.inbox (8 + cxd) sl = a :: rest) (hc : a.m.cls = 4)
    (h : (s.part.kvSlot sl).assigned = false ∨ (s.part.kvSlot sl).home ≠ cxd ∨ a.m.epoch ≠ s.part.slotEpoch cxd sl) :
    s.kvAppend cxd sl = withPart s ((s.part.popInbox (8 + cxd) sl).slotStale cxd sl a.m) := by
  have hb : (!(s.part.kvSlot sl).assigned || (s.part.kvSlot sl).home != cxd || a.m.epoch != s.part.slotEpoch cxd sl) = true := by
    simpa [or_assoc] using h
  simp only [State.kvAppend, hi, hc, ne_eq, not_true, if_false, hb, if_true]
  rfl

/-- An append under its slot's epoch, for the shape of the slot's version. -/
structure State.AppendAt (s : State) (cxd sl : Nat) (a : Arrived) (rest : List Arrived) (g : Graph) : Prop where
  inbox : s.part.inbox (8 + cxd) sl = a :: rest
  cls : a.m.cls = 4
  assigned : (s.part.kvSlot sl).assigned = true
  home : (s.part.kvSlot sl).home = cxd
  epoch : a.m.epoch = s.part.slotEpoch cxd sl
  shape : s.part.shapeOf sl = some g

variable {g : Graph} (h : s.AppendAt cxd sl a rest g)
include h

theorem kvAppend_outOfRange {st : Nat} (hf : appendFail g a.m = some st) :
    s.kvAppend cxd sl = withPart s (s.part.appendRefused cxd sl a.m st) := by
  obtain ⟨hi, hc, hv, hh, he, hg⟩ := h
  simp [State.kvAppend, hi, hc, hv, hh, he, hg, hf, withPart, Part.appendRefused]

theorem kvAppend_pageFault (hf : appendFail g a.m = none) (hp : (s.part.kvSlot sl).pages.length ≤ fld a.m.payload 0 4 / 64) :
    s.kvAppend cxd sl = withPart s (s.part.appendRefused cxd sl a.m stPageFault) := by
  obtain ⟨hi, hc, hv, hh, he, hg⟩ := h
  simp [State.kvAppend, hi, hc, hv, hh, he, hg, hf, hp, withPart, Part.appendRefused]

/-- An append in range whose page is there is held while four other tags are tracked, and accepted else (R186). -/
theorem kvAppend_inRange (hf : appendFail g a.m = none) (hp : fld a.m.payload 0 4 / 64 < (s.part.kvSlot sl).pages.length) :
    s.kvAppend cxd sl =
      let q := s.part.appendTaken cxd sl a.m
      if (q.kvSlot sl).fullFor (fld a.m.payload 10 2) then
        withPart s (q.setKvSlot sl { q.kvSlot sl with heldAppends := (q.kvSlot sl).heldAppends ++ [a.m] })
      else (withPart s q).acceptAppend cxd sl a.m := by
  obtain ⟨hi, hc, hv, hh, he, hg⟩ := h
  have hn : ¬ (s.part.kvSlot sl).pages.length ≤ fld a.m.payload 0 4 / 64 := Nat.not_le.mpr hp
  simp only [State.kvAppend, hi, hc, hv, hh, he, hg, hf, if_neg hn, ne_eq, not_true, if_false, Bool.not_true, bne_self_eq_false,
    Bool.or_self, Bool.false_eq_true]
  rfl

theorem kvAppend_held {t : Nat} {more : List Nat} (hf : appendFail g a.m = none)
    (hp : fld a.m.payload 0 4 / 64 < (s.part.kvSlot sl).pages.length) (ht : (s.part.kvSlot sl).tagList = t :: more)
    (hl : 3 ≤ more.length) (hn : (s.part.kvSlot sl).tagList.contains (fld a.m.payload 10 2) = false)
    (hd : s.part.tagDone sl t = false) : s.kvAppend cxd sl = withPart s ((s.part.popInbox (8 + cxd) sl).setKvSlot sl
      { s.part.kvSlot sl with heldAppends := (s.part.kvSlot sl).heldAppends ++ [a.m] }) := by
  have h4 : 4 ≤ (s.part.kvSlot sl).tagList.length := by
    rw [ht, List.length_cons]
    omega
  have hfull : (s.part.kvSlot sl).fullFor (fld a.m.payload 10 2) = true := by rw [KvSlot.fullFor, decide_eq_true h4, hn]; rfl
  rw [kvAppend_inRange h hf hp, appendTaken_undropped (.inr (.inr fun _ _ e => by cases ht.symm.trans e; exact hd))]
  exact if_pos hfull

theorem kvAppend_accepted (hf : appendFail g a.m = none) (hp : fld a.m.payload 0 4 / 64 < (s.part.kvSlot sl).pages.length)
    (ht : (s.part.kvSlot sl).tagList.length < 4 ∨ (s.part.kvSlot sl).tagList.contains (fld a.m.payload 10 2) = true) :
    s.kvAppend cxd sl = (withPart s (s.part.popInbox (8 + cxd) sl)).acceptAppend cxd sl a.m := by
  have hn : ¬ (s.part.kvSlot sl).fullFor (fld a.m.payload 10 2) = true := by
    rw [KvSlot.fullFor, Bool.and_eq_true, decide_eq_true_eq, Bool.not_eq_true']
    rintro ⟨h4, hc⟩
    rcases ht with ht | ht
    · omega
    · exact Bool.noConfusion (hc.symm.trans ht)
  rw [kvAppend_inRange h hf hp, appendTaken_undropped (ht.symm.imp_right .inl)]
  exact if_neg hn

end

/-! ### The command -/

theorem exec_kvAppend {s : State} {cxd sl : Nat} (hc : isCxd cxd = true) (hs : isSlot sl = true) (ha : s.part.alive (11 + cxd) = true) :
    exec (.kvAppend cxd sl) s = .next ((s.kvAppend cxd sl).chunkDone sl) := by
  calc exec (.kvAppend cxd sl) s
      = s.liveMem (11 + cxd) (slotOk cxd sl) fun t => (t.kvAppend cxd sl).chunkDone sl := rfl
    _ = .next ((s.kvAppend cxd sl).chunkDone sl) := by rw [slotOk_of hc hs, liveMem_alive ha]

end Sys2Proof.Machine

namespace Sys2Proof

open Machine

/-- Settles O36: each message at the head of the slot unit by its class, epoch, header, page and tag. -/
theorem appendsAreWritten : Obligations.AppendsAreWritten := by
  unfold Obligations.AppendsAreWritten
  intro s cxd sl hc hs ha
  rw [exec_kvAppend hc hs ha]
  refine ⟨fun h => by rw [kvAppend_nothing h], ?_⟩
  rintro a rest _ _ hi ha rfl rfl
  refine ⟨fun h => by rw [kvAppend_stale hi ha h], fun hv hh he g hg => ?_⟩
  have h : s.AppendAt cxd sl a rest g := ⟨hi, ha, hv, hh, he, hg⟩
  refine ⟨fun st hf => ?outOfRange, fun hf hp => ?pageFault, fun t more hf hp ht hl hn hd hk => ?held, fun pg hf hp ht => ?accepted⟩
  case outOfRange =>
    rw [kvAppend_outOfRange h hf]
    rfl
  case pageFault =>
    rw [kvAppend_pageFault h hf hp]
    rfl
  case held =>
    rw [kvAppend_held h hf hp ht hl hn hd]
    refine ⟨_, rfl, chunkDone_kvmem _ _, chunkDone_mem _ _, ?_⟩
    rw [chunkDone_noChunk (by simpa [withPart] using hk)]
    simp [withPart]
  case accepted =>
    obtain ⟨hlt, -⟩ := List.getElem?_eq_some_iff.mp hp
    have hg' : (withPart s (s.part.popInbox (8 + cxd) sl)).part.shapeOf sl = some g := hg
    have hp' : ((withPart s (s.part.popInbox (8 + cxd) sl)).part.kvSlot sl).pages[fld a.m.payload 0 4 / 64]? = some pg := hp
    obtain ⟨heads, hw⟩ := acceptAppend_writesPage (cxd := cxd) hg' hp'
    rw [kvAppend_accepted h hf hlt ht, hw]
    refine ⟨_, rfl, chunkDone_mem _ _, chunkDone_kvmem _ _, fun b hb => ?_, fun hk => ?_⟩
    · rw [chunkDone_kvmem]
      exact memRead_memWrites_out hb _
    · rw [chunkDone_noChunk (by simpa [KvSlot.counted, withPart] using hk)]
      refine ⟨?_, ?_, ?_, ?_, fun x hx => ?_⟩
      · simp [KvSlot.counted, KvSlot.pages, withPart]
      · simp [KvSlot.counted, withPart]
      · simp [KvSlot.counted, withPart]
      · simp [withPart, inbox_popInbox, hi]
      · simp [withPart, kvSlot_setKvSlot_ne _ _ hx]

end Sys2Proof

/-! SUPPORT. Page operations (R175, R181 to R184, R193, R285): taking an operation's message, applying it, and the copies and rebuilt pages. -/
namespace Sys2Proof.Machine

/-! ### Taking the message of an operation -/

theorem slotCmd_noMessage {p : Part} {cxd sl op : Nat} {f : DieMsg → Part → Part}
    (h : p.headCmd (8 + cxd) (p.pageUnit cxd sl op) op = none) : p.slotCmd cxd sl op f = p := by
  simp only [Part.slotCmd, h]

section
variable {p : Part} {cxd sl op : Nat} {f : DieMsg → Part → Part} {m : DieMsg}
  (h : p.headCmd (8 + cxd) (p.pageUnit cxd sl op) op = some m)
include h

/-- Less than 2 µs after the last change of the epoch no operation that changes it is taken (R285). -/
theorem slotCmd_early (ho : op = 0xC3 ∨ op = 0xC4) (he : p.epochSoon cxd sl = true) : p.slotCmd cxd sl op f = p := by
  have hb : ((op == 0xC3 || op == 0xC4) && p.epochSoon cxd sl) = true := by simpa [he] using ho
  simp only [Part.slotCmd, h, hb, if_true]

theorem slotCmd_assign (ho : op = 0xC3) (he : p.epochSoon cxd sl = false) :
    p.slotCmd cxd sl op f = f m (p.popInbox (8 + cxd) (p.pageUnit cxd sl op)) := by
  simp only [Part.slotCmd, h, he, Bool.and_false, Bool.false_eq_true, if_false, if_pos ho]

/-- An operation on an assigned slot goes on once its epoch may change, unless its message is stale (R175). -/
theorem slotCmd_operation (ho : op ≠ 0xC3) (he : op ≠ 0xC4 ∨ p.epochSoon cxd sl = false) : p.slotCmd cxd sl op f =
    if !(p.kvSlot sl).assigned || (p.kvSlot sl).home != cxd || (p.pageUnit cxd sl op == sl && m.epoch != p.slotEpoch cxd sl) then
      (p.popInbox (8 + cxd) (p.pageUnit cxd sl op)).slotStale cxd sl m
    else f m (p.popInbox (8 + cxd) (p.pageUnit cxd sl op)) := by
  have hb : ¬ ((op == 0xC3 || op == 0xC4) && p.epochSoon cxd sl) = true := by
    rcases he with he | he <;> simp [ho, he]
  simp only [Part.slotCmd, h, if_neg hb, if_neg ho]

theorem slotCmd_taken (ho : op ≠ 0xC3) (he : op ≠ 0xC4 ∨ p.epochSoon cxd sl = false) (hv : (p.kvSlot sl).assigned = true)
    (hh : (p.kvSlot sl).home = cxd) (hm : p.pageUnit cxd sl op ≠ sl ∨ m.epoch = p.slotEpoch cxd sl) :
    p.slotCmd cxd sl op f = f m (p.popInbox (8 + cxd) (p.pageUnit cxd sl op)) := by
  rw [slotCmd_operation h ho he, if_neg]
  rcases hm with hm | hm <;> simp [hv, hh, hm]

theorem slotCmd_stale (ho : op ≠ 0xC3) (he : op ≠ 0xC4 ∨ p.epochSoon cxd sl = false)
    (hm : (p.kvSlot sl).assigned = false ∨ (p.kvSlot sl).home ≠ cxd ∨ (p.pageUnit cxd sl op = sl ∧ m.epoch ≠ p.slotEpoch cxd sl)) :
    p.slotCmd cxd sl op f = (p.popInbox (8 + cxd) (p.pageUnit cxd sl op)).slotStale cxd sl m := by
  rw [slotCmd_operation h ho he, if_pos]
  simpa [or_assoc] using hm

end

/-- SLOT_ASSIGN and SLOT_RELEASE come to the slot's own unit. -/
theorem pageUnit_slot (p : Part) (cxd sl : Nat) {op : Nat} (h : 0xC3 ≤ op) : p.pageUnit cxd sl op = sl := by
  have : ¬ op < 0xC3 := Nat.not_lt.mpr h
  simp [Part.pageUnit, this]

/-! ### What keeps the slots -/

/-- Two parts with the same slots under the same epochs. -/
structure Part.SameSlots (p q : Part) : Prop where
  slots : q.kv.slots = p.kv.slots
  epochs : q.kv.epochs = p.kv.epochs

namespace Part.SameSlots

theorem refl (p : Part) : p.SameSlots p := ⟨rfl, rfl⟩

theorem trans {p q r : Part} (a : p.SameSlots q) (b : q.SameSlots r) : p.SameSlots r :=
  ⟨b.slots.trans a.slots, b.epochs.trans a.epochs⟩

theorem ofKv {p q : Part} (h : q.kv = p.kv) : p.SameSlots q := ⟨congrArg Kv.slots h, congrArg Kv.epochs h⟩

theorem foldl {α : Type} {f : Part → α → Part} (h : ∀ (q : Part) x, q.SameSlots (f q x)) (l : List α) (p : Part) :
    p.SameSlots (l.foldl f p) := by
  induction l generalizing p with
  | nil => exact refl p
  | cons x l ih => exact (h p x).trans (ih _)

theorem kvSlot {p q : Part} (h : p.SameSlots q) (x : Nat) : q.kvSlot x = p.kvSlot x := by rw [Part.kvSlot, h.slots, Part.kvSlot]

theorem slotEpoch {p q : Part} (h : p.SameSlots q) (cxd x : Nat) : q.slotEpoch cxd x = p.slotEpoch cxd x := by
  rw [Part.slotEpoch, h.epochs, Part.slotEpoch]

end Part.SameSlots

theorem setSlab_sameSlots (p : Part) (cxd n : Nat) (u : SlabUse) : p.SameSlots (p.setSlab cxd n u) := ⟨rfl, rfl⟩

theorem sweepSlabs_sameSlots (p : Part) (cxd : Nat) : p.SameSlots (p.sweepSlabs cxd) := by
  refine .foldl (fun q n => ?_) _ _
  split
  · exact .refl q
  · exact setSlab_sameSlots q cxd n .free

/-- The end of an operation that a die message asked for is an answer (R184): `kv` stays. -/
theorem opDone_kv {w : WaitingOp} {m : DieMsg} (h : w.msg = some m) (p : Part) (sl st : Nat) : (p.opDone sl w st).kv = p.kv := by
  simp [Part.opDone, h]

theorem opDone_sameSlots {w : WaitingOp} {m : DieMsg} (h : w.msg = some m) (p : Part) (sl st : Nat) : p.SameSlots (p.opDone sl w st) :=
  .ofKv (opDone_kv h p sl st)

/-! ### Assignment and release -/

@[simp] theorem kvSlot_raiseEpoch (p : Part) (cxd sl x : Nat) : (p.raiseEpoch cxd sl).kvSlot x = p.kvSlot x := by
  simp only [Part.kvSlot, Part.raiseEpoch]

@[simp] theorem slotEpoch_raiseEpoch (p : Part) (cxd sl : Nat) :
    (p.raiseEpoch cxd sl).slotEpoch cxd sl = (p.slotEpoch cxd sl + 1) % 65536 := mget_mset_same _ _ _ _

/-- A slot just assigned on a CXD. -/
def KvSlot.fresh (cxd shape : Nat) : KvSlot := { KvSlot.reset with assigned := true, home := cxd, shape := shape }

@[simp] theorem kvSlot_assignSlot (p : Part) (sl cxd shape : Nat) : (p.assignSlot sl cxd shape).kvSlot sl = KvSlot.fresh cxd shape := by
  simp [Part.assignSlot, KvSlot.fresh]

theorem kvSlot_assignSlot_ne (p : Part) {sl x : Nat} (cxd shape : Nat) (h : x ≠ sl) :
    (p.assignSlot sl cxd shape).kvSlot x = p.kvSlot x := by
  simp [Part.assignSlot, kvSlot_setKvSlot_ne p _ h]

@[simp] theorem slotEpoch_assignSlot (p : Part) (sl cxd shape : Nat) :
    (p.assignSlot sl cxd shape).slotEpoch cxd sl = (p.slotEpoch cxd sl + 1) % 65536 := by
  simp [Part.assignSlot]

theorem slotAssign_inUse {p : Part} {sl : Nat} (h : (p.kvSlot sl).assigned = true) (cxd shape : Nat) (m : DieMsg) :
    (p.slotAssign cxd sl shape m).kv = p.kv := by
  simp [Part.slotAssign, h]

theorem slotAssign_assigns {p : Part} {sl : Nat} (h : (p.kvSlot sl).assigned = false) (cxd shape : Nat) (m : DieMsg) :
    (p.assignSlot sl cxd shape).SameSlots (p.slotAssign cxd sl shape m) := by
  refine .ofKv ?_
  simp [Part.slotAssign, h]

/-- A released slot is not assigned, under a new epoch (R183). -/
theorem releaseSlot_frees {p : Part} {sl : Nat} (h : (p.kvSlot sl).assigned = true) : (p.releaseSlot sl).kvSlot sl = KvSlot.reset ∧
    (p.releaseSlot sl).slotEpoch (p.kvSlot sl).home sl = (p.slotEpoch (p.kvSlot sl).home sl + 1) % 65536 := by
  have hs := sweepSlabs_sameSlots ((p.setKvSlot sl KvSlot.reset).raiseEpoch (p.kvSlot sl).home sl) (p.kvSlot sl).home
  rw [Part.releaseSlot, if_pos h, hs.kvSlot, hs.slotEpoch]
  simp

/-! ### What each operation does (R182, R183) -/

theorem pageOp_inStep {p : Part} {sl : Nat} (w : WaitingOp) (h : (p.kvSlot sl).inStep = true) :
    p.pageOp sl w = p.setKvSlot sl { p.kvSlot sl with ops := (p.kvSlot sl).ops ++ [w] } := by
  simp [Part.pageOp, Part.opHeld, h]

section
variable {p : Part} {sl : Nat} {w : WaitingOp} {m : DieMsg} (hm : w.msg = some m)
include hm

theorem applyOp_alloc (hw : w.op = .alloc) (hl : (p.kvSlot sl).pages.length < 2048) {g : Page} {q : Part}
    (hf : p.takeFrame (p.kvSlot sl).home (p.slotPage sl) = some (g, q)) :
    ((p.applyOp sl w).kvSlot sl).pages = (p.kvSlot sl).pages ++ [g] := by
  have ha : p.allocPage sl = .ok (q.setKvSlot sl ((p.kvSlot sl).withPages ((p.kvSlot sl).pages ++ [g]))) := by
    simp only [Part.allocPage, if_neg (Nat.not_le.mpr hl), hf]
  have happ : p.applyOp sl w = (q.setKvSlot sl ((p.kvSlot sl).withPages ((p.kvSlot sl).pages ++ [g]))).opDone sl w stOk := by
    simp only [Part.applyOp, hw, ha]
  rw [happ, (opDone_sameSlots hm _ _ _).kvSlot, kvSlot_setKvSlot]
  rfl

theorem applyOp_truncate {n : Nat} (hw : w.op = .truncate n) (hn : n ≤ (p.kvSlot sl).len) (h64 : n % 64 = 0) :
    (p.applyOp sl w).kvSlot sl = { (p.kvSlot sl).withPages ((p.kvSlot sl).pages.take (cdiv n 64)) with len := n } := by
  have happ : p.applyOp sl w = (p.cutPages sl n).opDone sl w stOk := by
    simp only [Part.applyOp, hw, Part.truncateOp, if_neg (Nat.not_lt.mpr hn)]
    split
    · rw [if_neg fun h => h.1 h64]
    · rfl
  rw [happ, (opDone_sameSlots hm _ _ _).kvSlot, Part.cutPages, (sweepSlabs_sameSlots _ _).kvSlot, kvSlot_setKvSlot]

/-- The target of a fork of whole pages, before the fork is answered (R183). -/
def Part.forkWhole (p : Part) (sl t n : Nat) : Part :=
  (p.assignSlot t (p.kvSlot sl).home (p.kvSlot sl).shape).setKvSlot t
    { (KvSlot.fresh (p.kvSlot sl).home (p.kvSlot sl).shape).withPages ((p.kvSlot sl).pages.take (n / 64)) with
      len := 64 * (n / 64), rebuild := (p.kvSlot sl).rebuild.filter fun i => decide (i < n / 64) }

theorem applyOp_fork {t n : Nat} (hw : w.op = .fork t n) (h0 : 0 < n) (hn : n ≤ (p.kvSlot sl).len) (h64 : n % 64 = 0) (ht : t < 16384)
    (hf : (p.kvSlot t).assigned = false) : (p.forkWhole sl t n).SameSlots (p.applyOp sl w) := by
  have hr : ¬ (n = 0 ∨ (p.kvSlot sl).len < n) := by omega
  have hg : ¬ (16384 ≤ t ∨ (p.kvSlot t).assigned = true) := by
    rw [hf, not_or]
    exact ⟨Nat.not_le.mpr ht, Bool.false_ne_true⟩
  have happ : p.applyOp sl w = (p.forkWhole sl t n).opDone sl { w with op := .fork t n } stOk := by
    simp only [Part.applyOp, hw, Part.forkOp, if_pos ht, if_neg hr, if_neg hg, if_pos h64, kvSlot_assignSlot]
    rfl
  rw [happ]
  exact opDone_sameSlots (w := { w with op := .fork t n }) hm _ _ _

theorem applyOp_release (hw : w.op = .release) (ho : (p.kvSlot sl).ops = []) : (p.releaseSlot sl).SameSlots (p.applyOp sl w) := by
  simp only [Part.applyOp, hw, ho, List.foldl_nil]
  exact (opDone_sameSlots hm _ _ _).trans (.foldl (fun q x => .ofKv (by simp)) _ _)

end

/-! ### Waiting operations -/

theorem applyNext_idle {p : Part} {sl : Nat} (h : (p.kvSlot sl).ops = []) : p.applyNext sl = p := by
  simp only [Part.applyNext, h]

theorem applyNext_held {p : Part} {sl : Nat} {w : WaitingOp} {rest : List WaitingOp} (h : (p.kvSlot sl).ops = w :: rest)
    (hh : p.opHeld sl w = true) : p.applyNext sl = p := by
  simp only [Part.applyNext, h, hh, if_true]

theorem applyNext_applies {p : Part} {sl : Nat} {w : WaitingOp} {rest : List WaitingOp} (h : (p.kvSlot sl).ops = w :: rest)
    (hh : p.opHeld sl w = false) : p.applyNext sl = (p.setKvSlot sl { p.kvSlot sl with ops := rest }).applyOp sl w := by
  simp only [Part.applyNext, h, hh, Bool.false_eq_true, if_false]

/-! ### Copies and rebuilt pages (R183, R193) -/

theorem length_memReadN (m : Memory) (a n : Nat) : (memReadN m a n).length = n := by
  induction n generalizing a with
  | zero => rfl
  | succ n ih => rw [memReadN, List.length_cons, ih]

/-- The copy that a slot waits for. -/
abbrev Part.copyFor (p : Part) (sl : Nat) : Option (PageCopy × List PageCopy) := takeFirst (fun c : PageCopy => c.slot == sl) p.kv.copies

/-- A copy is not made yet: its time has not passed, or it reads a page of the slot that is being rebuilt. -/
def Part.CopyHeld (p : Part) (sl : Nat) (c : PageCopy) : Prop :=
  p.now < c.done ∨ ∃ i ∈ (p.kvSlot sl).rebuild, (p.kvSlot sl).pages[i]? = some c.src

theorem copyComplete_none {s : State} {sl : Nat} (h : s.part.copyFor sl = none) : s.copyComplete sl = s := by
  simp only [State.copyComplete, h]

section
variable {s : State} {sl : Nat} {c : PageCopy} {rest : List PageCopy} (h : s.part.copyFor sl = some (c, rest))
include h

theorem copyComplete_held (hc : s.part.CopyHeld sl c) : s.copyComplete sl = s := by
  have hb : s.part.now < c.done ∨ (s.part.kvSlot sl).rebuild.any (fun i => (s.part.kvSlot sl).pages[i]? == some c.src) = true := by
    simpa [Part.CopyHeld] using hc
  simp only [State.copyComplete, h, if_pos hb]

theorem copyComplete_copies (hc : ¬ s.part.CopyHeld sl c) (ho : (∃ t n, c.op.op = .fork t n) ∨ ∃ n, c.op.op = .truncate n) :
    ∃ p : Part, s.copyComplete sl = { s with
      part := p
      kvmem := memWriteN s.kvmem (pageAddr c.cxd (s.part.slotPage sl) c.dst)
        (memReadN s.kvmem (pageAddr c.cxd (s.part.slotPage sl) c.src) (s.part.slotPage sl)) } := by
  have hb : ¬ (s.part.now < c.done ∨ (s.part.kvSlot sl).rebuild.any (fun i => (s.part.kvSlot sl).pages[i]? == some c.src) = true) := by
    simpa [Part.CopyHeld] using hc
  simp only [State.copyComplete, h, if_neg hb]
  rcases ho with ⟨t, n, ho⟩ | ⟨n, ho⟩
  · rw [ho]
    exact ⟨_, rfl⟩
  · rw [ho]
    exact ⟨_, rfl⟩

end

theorem rebuilt_waits {s : State} {sl i : Nat} (b : Bytes)
    (h : (s.part.kvSlot sl).pages[i]? = none ∨ i ∉ (s.part.kvSlot sl).rebuild ∨
      s.part.takeFrame (s.part.kvSlot sl).home (s.part.slotPage sl) = none) : s.rebuilt sl i b = s := by
  unfold State.rebuilt
  dsimp only
  split
  next hp hf =>
    have hn : i ∉ (s.part.kvSlot sl).rebuild := by simpa [hp, hf] using h
    exact if_pos (by simpa using hn)
  next => rfl

theorem rebuilt_writesFrame {s : State} {sl i : Nat} (b : Bytes) {g d : Page} {q : Part} (hp : (s.part.kvSlot sl).pages[i]? = some g)
    (hf : s.part.takeFrame (s.part.kvSlot sl).home (s.part.slotPage sl) = some (d, q)) (hi : i ∈ (s.part.kvSlot sl).rebuild) :
    ∃ p : Part, s.rebuilt sl i b = { s with
      part := p
      kvmem := memWriteN s.kvmem (pageAddr (s.part.kvSlot sl).home (s.part.slotPage sl) d) (b.take (s.part.slotPage sl)) } := by
  have hb : ¬ (!(s.part.kvSlot sl).rebuild.contains i) = true := by simpa using hi
  simp only [State.rebuilt, hp, hf, if_neg hb]
  exact ⟨_, rfl⟩

/-! ### The commands -/

section
variable {s : State} {cxd sl : Nat} (hc : isCxd cxd = true) (hs : isSlot sl = true) (ha : s.part.alive (11 + cxd) = true)
include hc hs ha

/-- The command of a page operation, with its opcode. -/
inductive PageOpCommand (cxd sl : Nat) : Instr → Nat → PageOp → Prop
  | alloc : PageOpCommand cxd sl (.pageAlloc cxd sl) 0xC0 .alloc
  | fork (t n : Nat) : PageOpCommand cxd sl (.pageFork cxd sl t n) 0xC1 (.fork t n)
  | truncate (n : Nat) : PageOpCommand cxd sl (.pageTruncate cxd sl n) 0xC2 (.truncate n)
  | release : PageOpCommand cxd sl (.slotRelease cxd sl) 0xC4 .release

theorem exec_pageOpCommand {c : Instr} {op : Nat} {o : PageOp} (h : PageOpCommand cxd sl c op o) :
    exec c s = .next (withPart s (s.part.slotCmd cxd sl op fun m q => q.pageOp sl (msgOp o m))) := by
  have hexec : exec c s = s.live (11 + cxd) (slotOk cxd sl) fun p => p.slotCmd cxd sl op fun m q => q.pageOp sl (msgOp o m) := by
    cases h <;> rfl
  rw [hexec, live_slot hc hs ha]

theorem exec_slotAssign (shape : Nat) :
    exec (.slotAssign cxd sl shape) s = .next (withPart s (s.part.slotCmd cxd sl 0xC3 fun m q => q.slotAssign cxd sl shape m)) := by
  calc exec (.slotAssign cxd sl shape) s
      = s.live (11 + cxd) (slotOk cxd sl) fun p => p.slotCmd cxd sl 0xC3 fun m q => q.slotAssign cxd sl shape m := rfl
    _ = .next (withPart s (s.part.slotCmd cxd sl 0xC3 fun m q => q.slotAssign cxd sl shape m)) := live_slot hc hs ha

end

theorem PageOpCommand.not_assign {cxd sl op : Nat} {c : Instr} {o : PageOp} (h : PageOpCommand cxd sl c op o) : op ≠ 0xC3 := by
  cases h <;> decide

section
variable {s : State} {sl : Nat} (hs : isSlot sl = true) (ha : s.part.alive (11 + (s.part.kvSlot sl).home) = true)
include hs ha

theorem exec_pageOpApply : exec (.pageOpApply sl) s = .next (withPart s (s.part.applyNext sl)) := by
  calc exec (.pageOpApply sl) s
      = s.live (11 + (s.part.kvSlot sl).home) (isSlot sl) fun p => p.applyNext sl := rfl
    _ = .next (withPart s (s.part.applyNext sl)) := by rw [hs, live_alive ha]; rfl

theorem exec_pageCopyComplete : exec (.pageCopyComplete sl) s = .next (s.copyComplete sl) := by
  calc exec (.pageCopyComplete sl) s
      = s.liveMem (11 + (s.part.kvSlot sl).home) (isSlot sl) fun t => t.copyComplete sl := rfl
    _ = .next (s.copyComplete sl) := by rw [hs, liveMem_alive ha]

theorem exec_pageRebuildComplete (i : Nat) (b : Bytes) : exec (.pageRebuildComplete sl i b) s = .next (s.rebuilt sl i b) := by
  calc exec (.pageRebuildComplete sl i b) s
      = s.liveMem (11 + (s.part.kvSlot sl).home) (isSlot sl) fun t => t.rebuilt sl i b := rfl
    _ = .next (s.rebuilt sl i b) := by rw [hs, liveMem_alive ha]

end

end Sys2Proof.Machine

namespace Sys2Proof

open Machine

/-- Settles O34: an operation's message by its epoch and slot, an operation by its kind, and a copy or a rebuilt page by whether it is
held back. -/
theorem pagesAreOperatedOn : Obligations.PagesAreOperatedOn := by
  unfold Obligations.PagesAreOperatedOn
  refine ⟨fun s cxd sl c op u o hc hs ha hu h => ?message, fun s cxd sl shape hc hs ha => ⟨fun h => ?noAssign, fun m h => ?assign⟩,
    fun s sl hs ha => ⟨fun h => ?idle, fun w rest h => ⟨fun hh => ?waits, fun hh => ?applies⟩⟩, fun p sl w m hm => ?operation,
    fun s sl hs ha => ⟨fun h => ?noCopy, fun c rest h => ⟨fun hh => ?copyHeld, fun hd hr ho => ?copied⟩, fun i b h => ?noRebuild,
      fun i g d q b hp hf hi => ?rebuilt⟩⟩
  case message =>
    subst hu
    have hop : PageOpCommand cxd sl c op o := by
      rcases h with ⟨rfl, rfl, rfl⟩ | ⟨t, n, rfl, rfl, rfl⟩ | ⟨n, rfl, rfl, rfl⟩ | ⟨rfl, rfl, rfl⟩
      · exact .alloc
      · exact .fork t n
      · exact .truncate n
      · exact .release
    rw [exec_pageOpCommand hc hs ha hop]
    refine ⟨fun hm => ?_, fun m hm => ⟨fun h4 he => ?_, fun he => ⟨fun hv hh hu => ?_, fun hv => ⟨?_, ?_⟩⟩⟩⟩
    · rw [slotCmd_noMessage hm]
      rfl
    · rw [slotCmd_early hm (.inr h4) he]
      rfl
    · rw [slotCmd_taken hm hop.not_assign he hv hh hu]
    · rw [slotCmd_stale hm hop.not_assign he hv]
    · rw [kv_slotStale, kv_popInbox]
  case noAssign =>
    rw [← pageUnit_slot s.part cxd sl (Nat.le_refl 0xC3)] at h
    rw [exec_slotAssign hc hs ha, slotCmd_noMessage h]
    rfl
  case assign =>
    have hu := pageUnit_slot s.part cxd sl (Nat.le_refl 0xC3)
    rw [← hu] at h
    rw [exec_slotAssign hc hs ha]
    refine ⟨fun he => ?_, fun he hv => ⟨_, rfl, ?_⟩, fun he hv => ⟨_, rfl, ?_⟩⟩
    · rw [slotCmd_early h (.inl rfl) he]
      rfl
    · rw [slotCmd_assign h rfl he]
      exact slotAssign_inUse (p := s.part.popInbox _ _) hv cxd shape m
    · rw [slotCmd_assign h rfl he]
      have hq := slotAssign_assigns (p := s.part.popInbox (8 + cxd) (s.part.pageUnit cxd sl 0xC3)) hv cxd shape m
      refine ⟨?_, ?_, fun x hx => ?_⟩
      · exact (hq.kvSlot sl).trans (kvSlot_assignSlot _ _ _ _)
      · exact (hq.slotEpoch cxd sl).trans (slotEpoch_assignSlot _ _ _ _)
      · exact (hq.kvSlot x).trans (kvSlot_assignSlot_ne _ _ _ hx)
  case idle =>
    rw [exec_pageOpApply hs ha, applyNext_idle h]
    rfl
  case waits =>
    rw [exec_pageOpApply hs ha, applyNext_held h hh]
    rfl
  case applies => rw [exec_pageOpApply hs ha, applyNext_applies h hh]
  case operation =>
    refine ⟨fun h => pageOp_inStep w h, fun g q hw hl hf => applyOp_alloc hm hw hl hf, fun n hw hn h64 => ?_,
      fun t n hw h0 hn h64 ht hne hf => ?_, fun hw hv ho => ?_⟩
    · rw [applyOp_truncate hm hw hn h64]
      exact ⟨rfl, rfl⟩
    · have hq := applyOp_fork hm hw h0 hn h64 ht hf
      rw [hq.kvSlot, hq.kvSlot, Part.forkWhole, kvSlot_setKvSlot, kvSlot_setKvSlot_ne _ _ hne.symm, kvSlot_assignSlot_ne _ _ _ hne.symm]
      exact ⟨Nat.mul_div_cancel' (Nat.dvd_of_mod_eq_zero h64), rfl, rfl, rfl⟩
    · have hq := applyOp_release hm hw ho
      rw [hq.kvSlot, hq.slotEpoch]
      exact releaseSlot_frees hv
  case noCopy => rw [exec_pageCopyComplete hs ha, copyComplete_none h]
  case copyHeld => rw [exec_pageCopyComplete hs ha, copyComplete_held h hh]
  case copied =>
    have hc : ¬ s.part.CopyHeld sl c := by
      rintro (hlt | ⟨i, hi, hp⟩)
      · omega
      · exact hr i hi hp
    obtain ⟨p, hcopy⟩ := copyComplete_copies h hc ho
    rw [exec_pageCopyComplete hs ha, hcopy]
    exact ⟨_, rfl, rfl, rfl, fun a hout => memRead_writeN_out _ _ _ a (by rwa [length_memReadN])⟩
  case noRebuild => rw [exec_pageRebuildComplete hs ha, rebuilt_waits b h]
  case rebuilt =>
    obtain ⟨p, hwrite⟩ := rebuilt_writesFrame b hp hf hi
    rw [exec_pageRebuildComplete hs ha, hwrite]
    refine ⟨_, rfl, rfl, rfl, fun a hout => memRead_writeN_out _ _ _ a ?_⟩
    have := List.length_take_le (s.part.slotPage sl) b
    omega

end Sys2Proof

/-! SUPPORT. The records of the stacks: what leaves them as they are, up to the end of a request and the failure of a shard. -/
namespace Sys2Proof.Machine

/-- Two parts with the same stacks. -/
structure Part.SameStacks (p q : Part) : Prop where
  hbm : q.hbm = p.hbm

namespace Part.SameStacks

theorem refl (p : Part) : p.SameStacks p := ⟨rfl⟩

theorem trans {p q r : Part} (a : p.SameStacks q) (b : q.SameStacks r) : p.SameStacks r := ⟨b.hbm.trans a.hbm⟩

theorem foldl {α : Type} {f : Part → α → Part} (h : ∀ (q : Part) x, q.SameStacks (f q x)) (l : List α) (p : Part) :
    p.SameStacks (l.foldl f p) := by
  induction l generalizing p with
  | nil => exact refl p
  | cons x l ih => exact (h p x).trans (ih _)

theorem stack {p q : Part} (h : p.SameStacks q) (k : Nat) : q.stack k = p.stack k := by rw [Part.stack, h.hbm, Part.stack]

end Part.SameStacks

/-! ### The operations that every chapter shares -/

theorem bump_sameStacks (p : Part) (a lo w n : Nat) : p.SameStacks (p.bump a lo w n) := ⟨by simp⟩
theorem event_sameStacks (p : Part) (l : Nat) (d : Bytes) : p.SameStacks (p.event l d) := ⟨by simp⟩
theorem produce_sameStacks (p : Part) (i : Nat) (r : Reply) : p.SameStacks (p.produce i r) := ⟨by simp⟩
theorem finish_sameStacks (p : Part) (i st : Nat) (b : Bytes) : p.SameStacks (p.finish i st b) := ⟨by simp⟩
theorem completeA_sameStacks (p : Part) (i seq st : Nat) (b : Bytes) : p.SameStacks (p.completeA i seq st b) := ⟨by simp⟩
theorem answer_sameStacks (p : Part) (a : Nat) (m : DieMsg) (e st : Nat) (b : Bytes) : p.SameStacks (p.answer a m e st b) := ⟨by simp⟩
theorem giveBack_sameStacks (p : Part) (a : Nat) (m : DieMsg) (e st : Nat) : p.SameStacks (p.giveBack a m e st) := ⟨by simp⟩
theorem traceAdd_sameStacks (p : Part) (t d w : Nat) (b : Bytes) : p.SameStacks (p.traceAdd t d w b) := ⟨by simp⟩
theorem toMasked_sameStacks (p : Part) (m : Nat) (r : Reply) (l : List Nat) : p.SameStacks (p.toMasked m r l) := ⟨by simp⟩
theorem setReq_sameStacks (p : Part) (s : Nat) (r : Req) : p.SameStacks (p.setReq s r) := ⟨rfl⟩
theorem setGram_sameStacks (p : Part) (g : Nat) (v : Grammar) : p.SameStacks (p.setGram g v) := ⟨rfl⟩
theorem setKvSlot_sameStacks (p : Part) (s : Nat) (v : KvSlot) : p.SameStacks (p.setKvSlot s v) := ⟨rfl⟩
theorem setSlab_sameStacks (p : Part) (c n : Nat) (u : SlabUse) : p.SameStacks (p.setSlab c n u) := ⟨rfl⟩
theorem raiseEpoch_sameStacks (p : Part) (c s : Nat) : p.SameStacks (p.raiseEpoch c s) := ⟨rfl⟩
theorem modVer_sameStacks (p : Part) (e : Nat) (f : Version → Version) : p.SameStacks (p.modVer e f) := ⟨rfl⟩
theorem serv_sameStacks (p : Part) (x : Serv) : p.SameStacks { p with serv := x } := ⟨rfl⟩
theorem models_sameStacks (p : Part) (x : Models) : p.SameStacks { p with models := x } := ⟨rfl⟩
theorem dropReads_sameStacks (p : Part) (e s : Nat) : p.SameStacks (p.dropReads e s) := ⟨rfl⟩

theorem fabSend_sameStacks (p : Part) (d c sl : Nat) (m : FabMsg) : p.SameStacks (p.fabSend d c sl m) := by
  unfold Part.fabSend
  dsimp only
  split
  · exact .refl p
  split <;> split <;> exact ⟨rfl⟩

theorem control_sameStacks (p : Part) (d : Nat) (m : FabMsg) : p.SameStacks (p.control d m) := fabSend_sameStacks p d 1 0xFFFF m

theorem journalSend_sameStacks (p : Part) (d k id : Nat) (b : Bytes) : p.SameStacks (p.journalSend d k id b) :=
  .foldl (fun q x => fabSend_sameStacks q d 2 0xFFFF (.journal x)) _ p

theorem ringAdd_sameStacks (p : Part) (c s r a : Nat) : p.SameStacks (p.ringAdd c s r a) := by
  unfold Part.ringAdd
  split <;> exact ⟨by simp⟩

theorem completeKey_sameStacks (p : Part) (op k st : Nat) (b : Bytes) : p.SameStacks (p.completeKey op k st b) := by
  refine .foldl (fun q i => .foldl (fun r a => ?_) _ q) _ p
  split
  · exact completeA_sameStacks r i a.id st b
  · exact .refl r

/-! ### The model table: shards, tier copies, pins -/

theorem modShard_sameStacks (p : Part) (e s : Nat) (f : Shard → Shard) : p.SameStacks (p.modShard e s f) := by
  unfold Part.modShard
  dsimp only
  split <;> exact ⟨rfl⟩

theorem setStripe_sameStacks (p : Part) (n : Nat) (u : SlabUse) : p.SameStacks (p.setStripe n u) := by
  have hs := Part.SameStacks.foldl (fun q c => setSlab_sameStacks q c n u) (List.range 4) p
  unfold Part.setStripe Part.slabEvent
  split
  · exact hs.trans (event_sameStacks _ _ _)
  · exact hs

theorem freeSpace_sameStacks (p : Part) (e s : Nat) : p.SameStacks (p.freeSpace e s) := by
  unfold Part.freeSpace
  split
  · exact .refl p
  split
  · exact .refl p
  refine (modShard_sameStacks _ _ _ _).trans (.foldl (fun q n => ?_) _ _)
  split
  · exact .refl q
  · exact setStripe_sameStacks q n .free

theorem dropTier_sameStacks (p : Part) (e s : Nat) : p.SameStacks (p.dropTier e s) := by
  unfold Part.dropTier
  split
  · exact .refl p
  have hm := modShard_sameStacks p e s fun y => { y with tier := none }
  dsimp only
  split
  · exact hm.trans (control_sameStacks _ _ _)
  · exact hm

theorem bankCommand_sameStacks (p : Part) (op k : Nat) : p.SameStacks (p.bankCommand op k) :=
  ⟨by simp [Part.bankCommand, Part.bankMessage, Part.issue]⟩

theorem retireFree_sameStacks (p : Part) (e : Nat) : p.SameStacks (p.retireFree e) := by
  unfold Part.retireFree
  split
  · exact .refl p
  refine .trans (.foldl (fun q b => ?_) _ _) (.trans (.foldl (fun q s => ?_) _ _) ((models_sameStacks _ _).trans (ringAdd_sameStacks _ _ _ _ _)))
  · split
    · exact bankCommand_sameStacks q _ _
    · exact bankCommand_sameStacks q _ _
    · exact .refl q
  · exact (freeSpace_sameStacks q _ _).trans (dropTier_sameStacks _ _ _)

theorem leaveCheck_sameStacks (p : Part) (id : Nat) : p.SameStacks (p.leaveCheck id) := by
  unfold Part.leaveCheck
  split
  · exact .refl p
  next r _ =>
  split
  case isFalse => exact .refl p
  have hc : p.SameStacks (if r.root = p.fabCfg.partId then p else p.control r.root (.left id)) := by
    split
    · exact .refl p
    · exact control_sameStacks p _ _
  dsimp only
  generalize (if r.root = p.fabCfg.partId then p else p.control r.root (.left id)) = q at hc ⊢
  have hk : p.SameStacks ((q.dropSlice id).completeKey 0x71 id stOk []) :=
    (hc.trans (r := q.dropSlice id) ⟨rfl⟩).trans (completeKey_sameStacks _ _ _ _ _)
  split
  · split
    · exact hk
    · refine hk.trans (.foldl (fun q x => ?_) _ _)
      split
      · exact .refl q
      · exact control_sameStacks q _ _
  · exact hk

theorem unpin1_sameStacks (p : Part) (e : Nat) : p.SameStacks (p.unpin1 e) := by
  have hm := modVer_sameStacks p e fun v => { v with pins := v.pins - 1 }
  unfold Part.unpin1
  dsimp only
  split
  · exact hm
  split
  · exact hm.trans (retireFree_sameStacks _ _)
  · exact hm

theorem unpin_sameStacks (p : Part) (e : Nat) : p.SameStacks (p.unpin e) := by
  refine .trans (unpin1_sameStacks p e) (.trans ?_ (.foldl (fun q r => leaveCheck_sameStacks q _) _ _))
  split
  · exact .refl _
  · exact unpin1_sameStacks _ _

theorem pin_sameStacks (p : Part) (e : Nat) : p.SameStacks (p.pin e) := by
  unfold Part.pin
  dsimp only
  split <;> exact ⟨rfl⟩

theorem dropPins_sameStacks (p : Part) (r : Req) : p.SameStacks (p.dropPins r) := by
  have hd : p.SameStacks (match r.draft with | none => p.unpin r.ver | some d => (p.unpin r.ver).unpin d) := by
    split
    · exact unpin_sameStacks _ _
    · exact (unpin_sameStacks _ _).trans (unpin_sameStacks _ _)
  unfold Part.dropPins
  dsimp only
  split
  · exact hd
  · exact hd.trans (setGram_sameStacks _ _ _)

end Sys2Proof.Machine

/-! SUPPORT. The stacks under page operations, the end of requests and the failure of shards (R171 to R184, R193, R203). -/
namespace Sys2Proof.Machine

/-! ### Page operations -/

theorem takeFrame_sameStacks {p q : Part} {cxd pb : Nat} {g : Page} (h : p.takeFrame cxd pb = some (g, q)) : p.SameStacks q := by
  unfold Part.takeFrame at h
  split at h
  · cases h
    exact .refl p
  split at h
  · cases h
  · cases h
    exact setSlab_sameStacks p _ _ _

theorem allocPage_sameStacks {p q : Part} {sl : Nat} (h : p.allocPage sl = .ok q) : p.SameStacks q := by
  unfold Part.allocPage at h
  dsimp only at h
  split at h
  · cases h
  split at h
  · cases h
  next hf =>
    cases h
    exact (takeFrame_sameStacks hf).trans (setKvSlot_sameStacks _ _ _)

theorem sweepSlabs_sameStacks (p : Part) (cxd : Nat) : p.SameStacks (p.sweepSlabs cxd) := by
  refine .foldl (fun q n => ?_) _ _
  split
  · exact .refl q
  · exact setSlab_sameStacks q cxd n .free

theorem cutPages_sameStacks (p : Part) (sl n : Nat) : p.SameStacks (p.cutPages sl n) :=
  (setKvSlot_sameStacks _ _ _).trans (sweepSlabs_sameStacks _ _)

theorem releaseSlot_sameStacks (p : Part) (sl : Nat) : p.SameStacks (p.releaseSlot sl) := by
  unfold Part.releaseSlot
  dsimp only
  split
  · exact ((setKvSlot_sameStacks _ _ _).trans (raiseEpoch_sameStacks _ _ _)).trans (sweepSlabs_sameStacks _ _)
  · exact .refl p

theorem entryFree_sameStacks (p : Part) (sl : Nat) : p.SameStacks (p.entryFree sl) := by
  unfold Part.entryFree
  dsimp only
  split
  · exact .refl p
  split
  · exact serv_sameStacks p _
  · exact .refl p

theorem preempted_sameStacks (p : Part) (sl : Nat) : p.SameStacks (p.preempted sl) := by
  unfold Part.preempted
  split
  · exact .refl p
  split
  · exact ((setReq_sameStacks _ _ _).trans (bump_sameStacks _ _ _ _ _)).trans (ringAdd_sameStacks _ _ _ _ _)
  · exact .refl p

/-- The end of an operation of CTL's own (R202, R218). -/
theorem opDone_own_sameStacks (p : Part) (sl st : Nat) (w : WaitingOp) (hm : w.msg = none) (hw : 64 ≤ w.sess) :
    p.SameStacks (p.opDone sl w st) := by
  simp only [Part.opDone, hm, if_pos hw]
  refine .trans ?_ (.foldl (fun q (x : Nat × Req) => entryFree_sameStacks q x.1) _ _)
  split
  · exact preempted_sameStacks p sl
  · exact .refl p

theorem opDone_sameStacks (p : Part) (sl st : Nat) (w : WaitingOp) : p.SameStacks (p.opDone sl w st) := by
  cases hm : w.msg with
  | some m =>
    simp only [Part.opDone, hm]
    exact answer_sameStacks p _ m _ st []
  | none =>
    by_cases hw : 64 ≤ w.sess
    · exact opDone_own_sameStacks p sl st w hm hw
    simp only [Part.opDone, hm, if_neg hw]
    split
    · exact finish_sameStacks p _ _ _
    split
    · exact ((serv_sameStacks p _).trans (pin_sameStacks _ _)).trans (finish_sameStacks _ _ _ _)
    · split
      · exact finish_sameStacks p _ _ _
      · exact (serv_sameStacks p _).trans (finish_sameStacks _ _ _ _)
    · split
      · exact finish_sameStacks p _ _ _
      · exact ((serv_sameStacks p _).trans (unpin_sameStacks _ _)).trans (finish_sameStacks _ _ _ _)
    · exact finish_sameStacks p _ _ _

theorem startCopy_sameStacks (p : Part) (sl cxd : Nat) (src dst : Page) (pb : Nat) (w : WaitingOp) :
    p.SameStacks (p.startCopy sl cxd src dst pb w) := ⟨rfl⟩

theorem assignSlot_sameStacks (p : Part) (sl cxd shape : Nat) : p.SameStacks (p.assignSlot sl cxd shape) :=
  (setKvSlot_sameStacks _ _ _).trans (raiseEpoch_sameStacks _ _ _)

theorem forkOp_sameStacks (p : Part) (sl : Nat) (w : WaitingOp) (t n : Nat) : p.SameStacks (p.forkOp sl w t n) := by
  unfold Part.forkOp
  dsimp only
  generalize (if t < 16384 then t else (p.freeSlot []).getD 16384) = t
  split
  · exact opDone_sameStacks p _ _ _
  split
  · exact opDone_sameStacks p _ _ _
  split
  · exact ((assignSlot_sameStacks p _ _ _).trans (setKvSlot_sameStacks _ _ _)).trans (opDone_sameStacks _ _ _ _)
  split
  next hf =>
    exact (((takeFrame_sameStacks hf).trans (assignSlot_sameStacks _ _ _ _)).trans (setKvSlot_sameStacks _ _ _)).trans
      (startCopy_sameStacks _ _ _ _ _ _ _)
  · exact opDone_sameStacks p _ _ _

theorem truncateOp_sameStacks (p : Part) (sl : Nat) (w : WaitingOp) (n : Nat) : p.SameStacks (p.truncateOp sl w n) := by
  have hcut := (cutPages_sameStacks p sl n).trans (opDone_sameStacks (p.cutPages sl n) sl stOk w)
  unfold Part.truncateOp
  dsimp only
  split
  · exact opDone_sameStacks p _ _ _
  split
  · split
    · split
      · exact opDone_sameStacks p _ _ _
      next hf => exact (takeFrame_sameStacks hf).trans (startCopy_sameStacks _ _ _ _ _ _ _)
    · exact hcut
  · exact hcut

theorem applyOp_sameStacks (p : Part) (sl : Nat) (w : WaitingOp) : p.SameStacks (p.applyOp sl w) := by
  unfold Part.applyOp
  split
  · split
    · exact opDone_sameStacks p _ _ _
    next ha => exact (allocPage_sameStacks ha).trans (opDone_sameStacks _ _ _ _)
  · exact forkOp_sameStacks p sl w _ _
  · exact truncateOp_sameStacks p sl w _
  · refine .trans ((releaseSlot_sameStacks p sl).trans (opDone_sameStacks _ _ _ _)) (.trans (.foldl (fun q m => ?_) _ _) (.foldl (fun q w => ?_) _ _))
    · exact (giveBack_sameStacks q _ m _ _).trans (bump_sameStacks _ _ _ _ _)
    · split
      · exact opDone_sameStacks q _ _ _
      · exact .refl q
  · dsimp only
    split
    · exact (setKvSlot_sameStacks _ _ _).trans (sweepSlabs_sameStacks _ _)
    · exact .refl p

theorem pageOp_sameStacks (p : Part) (sl : Nat) (w : WaitingOp) : p.SameStacks (p.pageOp sl w) := by
  unfold Part.pageOp
  dsimp only
  split
  · exact setKvSlot_sameStacks _ _ _
  · exact applyOp_sameStacks p sl w

/-! ### The end of a request (R203) -/

theorem dropSlots_sameStacks (p : Part) (sl : Nat) (r : Req) : p.SameStacks (p.dropSlots sl r) := by
  unfold Part.dropSlots
  dsimp only
  split
  · exact pageOp_sameStacks p _ _
  · exact (pageOp_sameStacks p _ _).trans (pageOp_sameStacks _ _ _)

theorem toEnding_sameStacks (p : Part) (sl end_ : Nat) : p.SameStacks (p.toEnding sl end_) := by
  unfold Part.toEnding
  split
  · exact .refl p
  next r _ =>
  refine .trans ?_ ((ringAdd_sameStacks _ _ _ _ _).trans ((dropPins_sameStacks _ r).trans (dropSlots_sameStacks _ sl r)))
  have hr := setReq_sameStacks p sl { r with st := .ending, end_ := end_ }
  split
  · exact hr.trans (bump_sameStacks _ _ _ _ _)
  split
  · exact hr.trans (bump_sameStacks _ _ _ _ _)
  · exact hr

theorem answerCancels_sameStacks (p : Part) (r : Req) : p.SameStacks (p.answerCancels r) := by
  refine .foldl (fun q c => ?_) _ _
  split
  · exact finish_sameStacks q _ _ _
  · exact (bump_sameStacks _ _ _ _ _).trans (finish_sameStacks _ _ _ _)

theorem flushRecs_sameStacks (p : Part) (sl : Nat) : p.SameStacks (p.flushRecs sl) := by
  unfold Part.flushRecs
  split
  · exact .refl p
  next r _ =>
  split
  · exact .refl p
  extract_lets ready last q q'
  have hp : p.SameStacks q' := (setReq_sameStacks p sl _).trans (.foldl (fun q t => produce_sameStacks q _ _) _ _)
  split
  · exact hp.trans (answerCancels_sameStacks _ r)
  · exact hp

theorem pushRec_sameStacks (p : Part) (sl : Nat) (ts : List Nat) (i : RecInfo) : p.SameStacks (p.pushRec sl ts i) := by
  unfold Part.pushRec
  split
  · exact .refl p
  next r _ =>
  extract_lets first flags body d t q q'
  have hq : p.SameStacks q := (setReq_sameStacks p sl _).trans (traceAdd_sameStacks _ _ _ _ _)
  refine .trans ?_ (flushRecs_sameStacks q' sl)
  unfold q'
  clear_value d
  split
  · exact hq
  · exact hq.trans (journalSend_sameStacks _ _ _ _ _)

theorem endRequest_sameStacks (p : Part) (sl end_ : Nat) : p.SameStacks (p.endRequest sl end_) := by
  unfold Part.endRequest
  split
  · exact .refl p
  split
  · exact .refl p
  · exact (toEnding_sameStacks p sl end_).trans (pushRec_sameStacks _ _ _ _)

theorem endAll_sameStacks (p : Part) (end_ : Nat) (q : Nat → Req → Bool) : p.SameStacks (p.endAll end_ q) :=
  .foldl (fun a (x : Nat × Req) => endRequest_sameStacks a x.1 end_) _ p

/-! ### The failure chain of a shard (R170 to R172) -/

theorem shardRecord_sameStacks (p : Part) (v : Version) (s cause attempt source outcome peer : Nat) :
    p.SameStacks (p.shardRecord v s cause attempt source outcome peer) := by
  refine .foldl (fun q i => ?_) _ p
  split
  · exact produce_sameStacks q i _
  · exact .refl q

theorem moveCurrent_sameStacks (p : Part) (e : Nat) (v : Version) : p.SameStacks (p.moveCurrent e v) := by
  unfold Part.moveCurrent
  split
  · exact .refl p
  dsimp only
  split
  · exact modVer_sameStacks p e _
  · exact (modVer_sameStacks p e _).trans (modVer_sameStacks _ _ _)

theorem unavailable_sameStacks (p : Part) (e cause st : Nat) : p.SameStacks (p.unavailable e cause st) := by
  unfold Part.unavailable
  split
  · exact .refl p
  next v _ =>
  refine .trans ?_ ((models_sameStacks _ _).trans ((modVer_sameStacks _ e _).trans ((moveCurrent_sameStacks _ e v).trans
    (completeA_sameStacks _ _ _ _ _))))
  split
  · exact .refl p
  · exact (modVer_sameStacks p e _).trans (ringAdd_sameStacks _ _ _ _ _)

theorem endNeedy_sameStacks (p : Part) (e : Nat) : p.SameStacks (p.endNeedy e) := by
  unfold Part.endNeedy
  split
  · exact endAll_sameStacks p _ _
  · exact .refl p

theorem markUnavailable_sameStacks (p : Part) (e s cause : Nat) : p.SameStacks (p.markUnavailable e s cause) := by
  unfold Part.markUnavailable
  split
  · exact (modShard_sameStacks p e s _).trans ((unavailable_sameStacks _ e cause _).trans ((freeSpace_sameStacks _ e s).trans
      (endNeedy_sameStacks _ e)))
  · exact .refl p

theorem shardFail_sameStacks (p : Part) (e s cause : Nat) (holders : List Nat) : p.SameStacks (p.shardFail e s cause holders) := by
  unfold Part.shardFail
  split
  case h_2 => exact .refl p
  next v x _ _ =>
  extract_lets die p1 p2 source from_ p3 n peers p4 first p5 p6
  have h1 : p.SameStacks p1 := by
    unfold p1
    split
    · exact bump_sameStacks p _ _ _ _
    · exact .refl p
  have h3 : p.SameStacks p3 := h1.trans ((dropReads_sameStacks _ e s).trans ((freeSpace_sameStacks _ e s).trans (dropTier_sameStacks _ e s)))
  have h5 : p.SameStacks p5 := h3.trans ((modVer_sameStacks _ e _).trans (modShard_sameStacks _ e s _))
  split
  · exact h5.trans ((shardRecord_sameStacks _ v s _ _ _ _ _).trans (markUnavailable_sameStacks _ e s _))
  · exact h5.trans ((shardRecord_sameStacks _ v s _ _ _ _ _).trans ((bump_sameStacks _ _ _ _ _).trans (models_sameStacks _ _)))

end Sys2Proof.Machine

/-! SUPPORT. Attention requests, from their arrival to their end (R187 to R189, R193, R204). -/
namespace Sys2Proof.Machine

/-! ### ATTENTION (R187, R204) -/

/-- The range check of a request on a slot (R187). -/
def Part.attOutOfRange (p : Part) (cxd sl layer first count : Nat) : Prop :=
  count = 0 ∨ 4096 < count ∨ (p.kvSlot sl).home ≠ cxd ∨ (p.kvSlot sl).len < first + count ∨
    ((p.shapeOf sl).map fun g => g.layersKv).getD 0 ≤ layer

section
variable {p : Part} {cxd sl layer first count : Nat}

theorem attOutOfRange_of (h : count = 0 ∨ 4096 < count ∨ (p.kvSlot sl).home ≠ cxd ∨ (p.kvSlot sl).len < first + count ∨
    ∃ g, p.shapeOf sl = some g ∧ g.layersKv ≤ layer) : p.attOutOfRange cxd sl layer first count := by
  unfold Part.attOutOfRange
  rcases h with h | h | h | h | ⟨g, hg, hl⟩
  · exact .inl h
  · exact .inr (.inl h)
  · exact .inr (.inr (.inl h))
  · exact .inr (.inr (.inr (.inl h)))
  · refine .inr (.inr (.inr (.inr ?_)))
    rw [hg]
    exact hl

theorem not_attOutOfRange {g : Graph} (h0 : 0 < count) (h1 : count ≤ 4096) (hh : (p.kvSlot sl).home = cxd)
    (hl : first + count ≤ (p.kvSlot sl).len) (hg : p.shapeOf sl = some g) (hy : layer < g.layersKv) :
    ¬ p.attOutOfRange cxd sl layer first count := by
  unfold Part.attOutOfRange
  rw [hg, Option.map_some, Option.getD_some, hh]
  omega

end

/-- A request under a STEP_TAG that the slot has or tracks. -/
def KvSlot.Tracks (v : KvSlot) (tag : Nat) : Prop := tag = v.tag ∨ v.tagList.contains tag = true

theorem KvSlot.Tracks.not_untracked {v : KvSlot} {tag : Nat} (ht : v.Tracks tag) : ¬ (tag ≠ v.tag ∧ (!v.tagList.contains tag) = true) := by
  rintro ⟨hne, hl⟩
  rcases ht with ht | ht
  · exact hne ht
  · rw [ht] at hl
    exact Bool.noConfusion hl

section
variable {p : Part} {cxd id sl layer first count tag app : Nat} {f : Bool} {qs outs : Nat}

theorem attention_noMessage (h : p.headCmd (8 + cxd) 0x4000 0xC8 = none) :
    p.attention cxd id sl layer first count tag app f qs outs = p := by
  simp only [Part.attention, h]

variable {m : DieMsg} (h : p.headCmd (8 + cxd) 0x4000 0xC8 = some m)
include h

theorem attention_untracked (ht : tag ≠ (p.kvSlot sl).tag) (hl : (p.kvSlot sl).tagList.contains tag = false) :
    p.attention cxd id sl layer first count tag app f qs outs = p := by
  simp only [Part.attention, h]
  exact if_pos ⟨ht, by rw [hl]; rfl⟩

theorem attention_refused (ht : (p.kvSlot sl).Tracks tag) (hr : p.attOutOfRange cxd sl layer first count) :
    p.attention cxd id sl layer first count tag app f qs outs =
      (p.popInbox (8 + cxd) 0x4000).answer (8 + cxd) m 0 stLenRange [] := by
  simp only [Part.attention, h, if_neg ht.not_untracked]
  exact if_pos hr

theorem attention_repeated (ht : (p.kvSlot sl).Tracks tag) (hr : ¬ p.attOutOfRange cxd sl layer first count)
    (hid : ∃ r ∈ p.kv.atts, r.id = id) : p.attention cxd id sl layer first count tag app f qs outs = p := by
  have ha : (p.kv.atts.any fun x => x.id == id) = true := by simpa using hid
  simp only [Part.attention, h, if_neg ht.not_untracked, ha, if_true]
  exact if_neg hr

theorem attention_joins (ht : (p.kvSlot sl).Tracks tag) (hr : ¬ p.attOutOfRange cxd sl layer first count)
    (hid : ∀ r ∈ p.kv.atts, r.id ≠ id) : p.attention cxd id sl layer first count tag app f qs outs =
      { p.popInbox (8 + cxd) 0x4000 with kv := { p.kv with atts := p.kv.atts ++ [
        { id := id, cxd := cxd, slot := sl, layer := layer, first := first, count := count, tag := tag, appends := app, fp32 := f,
          queries := qs, outputs := outs, started := false, msg := some m }] } } := by
  have ha : (p.kv.atts.any fun x => x.id == id) = false := by simpa using hid
  simp only [Part.attention, h, if_neg ht.not_untracked, ha, Bool.false_eq_true, if_false]
  exact if_neg hr

end

/-! ### ATTENTION_START (R186, R187, R193) -/

/-- Only appends have been taken between two states, for one slot: the stacks and the list of requests are as they were, and the slot is still
in the same chunk. -/
structure State.TakesAppends (s t : State) (sl : Nat) : Prop where
  mem : t.mem = s.mem
  atts : t.part.kv.atts = s.part.kv.atts
  chunk : (t.part.kvSlot sl).chunk = (s.part.kvSlot sl).chunk

theorem State.TakesAppends.refl (s : State) (sl : Nat) : s.TakesAppends s sl := ⟨rfl, rfl, rfl⟩

theorem State.TakesAppends.trans {s t u : State} {sl : Nat} (a : s.TakesAppends t sl) (b : t.TakesAppends u sl) : s.TakesAppends u sl :=
  ⟨b.mem.trans a.mem, b.atts.trans a.atts, b.chunk.trans a.chunk⟩

/-- What is taken after the slot's record has changed within its chunk. -/
theorem State.TakesAppends.afterSlot {s t : State} {sl : Nat} {v : KvSlot}
    (h : State.TakesAppends { s with part := s.part.setKvSlot sl v } t sl) (hv : v.chunk = (s.part.kvSlot sl).chunk) :
    s.TakesAppends t sl :=
  ⟨h.mem, h.atts, h.chunk.trans (by rw [kvSlot_setKvSlot, hv])⟩

theorem acceptAppend_takesAppends (s : State) (cxd sl : Nat) (m : DieMsg) : s.TakesAppends (s.acceptAppend cxd sl m) sl := by
  cases hg : s.part.shapeOf sl with
  | none =>
    simp only [State.acceptAppend, hg]
    exact .refl s sl
  | some g => cases hp : (s.part.kvSlot sl).pages[fld m.payload 0 4 / 64]? with
    | none =>
      simp only [State.acceptAppend, hg, hp]
      exact .refl s sl
    | some pg =>
      obtain ⟨heads, hw⟩ := acceptAppend_writesPage (cxd := cxd) hg hp
      rw [hw]
      exact ⟨rfl, by simp [Part.setKvSlot], by simp [KvSlot.counted]⟩

theorem nextTag_takesAppends (s : State) (cxd sl : Nat) : s.TakesAppends (s.nextTag cxd sl) sl := by
  unfold State.nextTag
  dsimp only
  split
  · split
    · exact (acceptAppend_takesAppends _ _ _ _).afterSlot rfl
    · exact .refl s sl
  · exact .refl s sl

theorem heldRun_takesAppends (cxd sl n : Nat) (s : State) : s.TakesAppends (s.heldRun cxd sl n) sl := by
  induction n generalizing s with
  | zero => exact .refl s sl
  | succ n ih =>
    unfold State.heldRun
    dsimp only
    split
    · exact .refl s sl
    split
    · exact ((acceptAppend_takesAppends _ _ _ _).trans (ih _)).afterSlot rfl
    · exact .refl s sl

theorem nextTag_noneHeld {s : State} {cxd sl : Nat} (h : (s.part.kvSlot sl).heldAppends = []) : s.nextTag cxd sl = s := by
  unfold State.nextTag
  dsimp only
  split
  next hm => exact absurd (h.symm.trans hm) (List.cons_ne_nil _ _).symm
  next => rfl

theorem attentionStart_none {s : State} {id : Nat} (h : (s.part.kv.atts.find? fun r => r.id == id) = none) : s.attentionStart id = s := by
  simp only [State.attentionStart, h]

/-- The request that a start marks as started. -/
def AttReq.startIf (id : Nat) (x : AttReq) : AttReq := if x.id = id then { x with started := true } else x

theorem find?_startIf {l : List AttReq} {id : Nat} {r : AttReq} (h : (l.find? fun x => x.id == id) = some r) :
    ((l.map (AttReq.startIf id)).find? fun x => x.id == id) = some { r with started := true } := by
  have hid : r.id = id := by simpa using List.find?_some h
  have hc : (fun x : AttReq => x.id == id) ∘ AttReq.startIf id = fun x => x.id == id := by
    funext x
    simp only [Function.comp_apply, AttReq.startIf]
    split <;> rfl
  rw [List.find?_map, hc, h, Option.map_some, AttReq.startIf, if_pos hid]

/-- The list of requests with one marked as started. -/
def Part.markStarted (p : Part) (id : Nat) : Part := { p with kv := { p.kv with atts := p.kv.atts.map (AttReq.startIf id) } }

/-- A slot with a tag of which a request has started. -/
def KvSlot.tagStarted (v : KvSlot) (tag : Nat) : KvSlot := { v with tags := countTag v.tags tag 65536 }

/-- The state in which a request has started, before appends that its start lets in. -/
def State.attStarted (s : State) (r : AttReq) : State :=
  withPart s ((s.part.markStarted r.id).setKvSlot r.slot ((s.part.kvSlot r.slot).tagStarted r.tag))

section
variable {s : State} {id : Nat} {r : AttReq} (h : (s.part.kv.atts.find? fun r => r.id == id) = some r)
include h

theorem attentionStart_waits (hw : r.started = true ∨ s.part.pwr.paced = true ∨ (s.part.kvSlot r.slot).appends r.tag r.layer < r.appends ∨
    s.part.attBlocked r = true) : s.attentionStart id = s := by
  have hb : (r.started || s.part.pwr.paced || decide ((s.part.kvSlot r.slot).appends r.tag r.layer < r.appends) ||
      s.part.attBlocked r) = true := by simpa [or_assoc] using hw
  simp only [State.attentionStart, h, hb, if_true]

theorem attentionStart_starts (hs : r.started = false) (hp : s.part.pwr.paced = false)
    (ha : r.appends ≤ (s.part.kvSlot r.slot).appends r.tag r.layer) (hb : s.part.attBlocked r = false) :
    s.attentionStart id = ((s.attStarted r).nextTag r.cxd r.slot).heldRun r.cxd r.slot
      (((s.attStarted r).nextTag r.cxd r.slot).part.kvSlot r.slot).heldAppends.length := by
  have hid : r.id = id := by simpa using List.find?_some h
  have hd : decide ((s.part.kvSlot r.slot).appends r.tag r.layer < r.appends) = false := decide_eq_false (Nat.not_lt.mpr ha)
  subst hid
  simp only [State.attentionStart, h, hs, hp, hd, hb, Bool.or_self, Bool.false_eq_true, if_false]
  rfl

end

/-! ### ATTENTION_COMPLETE (R189) -/

/-- Two parts with the same slots, requests and pages. -/
structure Part.SameKv (p q : Part) : Prop where
  kv : q.kv = p.kv

namespace Part.SameKv

theorem refl (p : Part) : p.SameKv p := ⟨rfl⟩

theorem trans {p q r : Part} (a : p.SameKv q) (b : q.SameKv r) : p.SameKv r := ⟨b.kv.trans a.kv⟩

theorem foldl {α : Type} {f : Part → α → Part} (h : ∀ (q : Part) x, q.SameKv (f q x)) (l : List α) (p : Part) :
    p.SameKv (l.foldl f p) := by
  induction l generalizing p with
  | nil => exact refl p
  | cons x l ih => exact (h p x).trans (ih _)

end Part.SameKv

theorem bump_sameKv (p : Part) (a lo w n : Nat) : p.SameKv (p.bump a lo w n) := ⟨by simp⟩

theorem answer_sameKv (p : Part) (a : Nat) (m : DieMsg) (e st : Nat) (b : Bytes) : p.SameKv (p.answer a m e st b) := ⟨by simp⟩

theorem askMvm_sameKv (p : Part) (r : MvmReq) : p.SameKv (p.askMvm r) := by
  unfold Part.askMvm
  dsimp only
  split <;> exact ⟨rfl⟩

theorem issueJobs_sameKv (p : Part) (v : Nat) : p.SameKv (p.issueJobs v) := by
  refine .foldl (fun q j => ?_) _ _
  split
  · exact .trans (q := q.modJob j.job.id _) ⟨rfl⟩ (.foldl askMvm_sameKv _ _)
  · exact .refl q

/-- A vector that arrives lets layer jobs go on: the context dies are not asked. -/
theorem putVect_sameKv (p : Part) (v : Nat) (x : Vect) : p.SameKv (p.putVect v x) := by
  unfold Part.putVect
  exact ⟨(issueJobs_sameKv _ v).kv⟩

section
variable {s : State} {id : Nat}

theorem attentionComplete_none (h : (s.part.kv.atts.find? fun r => r.id == id) = none) : s.attentionComplete id = s := by
  simp only [State.attentionComplete, h]

variable {r : AttReq} (h : (s.part.kv.atts.find? fun r => r.id == id) = some r)
include h

theorem attentionComplete_waits (hw : r.started = false ∨ s.part.shapeOf r.slot = none) : s.attentionComplete id = s := by
  cases hg : s.part.shapeOf r.slot with
  | none => simp only [State.attentionComplete, h, hg]
  | some g =>
    have hs : r.started = false := hw.resolve_right (by rw [hg]; exact Option.some_ne_none g)
    simp only [State.attentionComplete, h, hg, hs, Bool.not_false, if_true]

theorem attentionComplete_ends {g : Graph} (hs : r.started = true) (hg : s.part.shapeOf r.slot = some g) :
    ∃ p : Part, s.attentionComplete id = { s with part := p } ∧
      p.kv = { s.part.kv with atts := s.part.kv.atts.filter fun x => x.id != id } := by
  unfold State.attentionComplete
  extract_lets p kv q
  split
  next hn => exact absurd (h.symm.trans hn) (Option.some_ne_none r)
  next x hx =>
  obtain rfl : r = x := Option.some.inj (h.symm.trans hx)
  split
  next hn => exact absurd (hg.symm.trans hn) (Option.some_ne_none g)
  split
  next hn => simp [hs] at hn
  extract_lets rows one out
  have hone : q.SameKv out := .trans (.foldl (fun q th => ((bump_sameKv _ _ _ _ _).trans (bump_sameKv _ _ _ _ _)).trans
    (putVect_sameKv _ _ _)) rows q) (bump_sameKv _ _ _ _ _)
  split
  · exact ⟨out, rfl, hone.kv⟩
  next m _ => exact ⟨_, rfl, (hone.trans (answer_sameKv _ _ m 0 stOk [])).kv⟩

end

end Sys2Proof.Machine

/-! SUPPORT. The stacks under the patrol, refreshes and readouts (R191 to R195, R421, R422, R430). -/
namespace Sys2Proof.Machine

/-! ### PATROL_READ (R191 to R195) -/

theorem stackRecord_sameStacks (p : Part) (k owner outcome model version shard slot page addr : Nat) :
    p.SameStacks (p.stackRecord k owner outcome model version shard slot page addr) := toMasked_sameStacks p 1 _ _

theorem tableLost_sameStacks (p : Part) (sl : Nat) : p.SameStacks (p.tableLost sl) := by
  unfold Part.tableLost
  split
  · exact (serv_sameStacks p _).trans ((unpin_sameStacks _ _).trans (pageOp_sameStacks _ _ _))
  · exact endAll_sameStacks p _ _

/-- The part with an uncorrectable read counted and recorded, before what its owner does (R191, R195). -/
def Part.readRecorded (p : Part) (k addr : Nat) : Part :=
  let q := p.bump (aStackStatus (8 + k / 8) (k % 8)) 48 16 1
  q.setStack k { q.stack k with ueAddr := addr, ueOwner := (p.blockOwner k addr).code }

/-- What the owner of a lost block does leaves every stack's record as it is (R193). -/
theorem readLost_sameStacks (p : Part) (k addr : Nat) (other : Bool) (hit : Nat) (holders : List Nat) :
    (p.readRecorded k addr).SameStacks (p.readLost k addr other hit holders) := by
  unfold Part.readLost
  extract_lets cxd o q1 st q2
  change q2.SameStacks _
  clear_value q2 o
  cases o with
  | shard e s =>
    dsimp only
    split
    · exact .refl q2
    · exact (stackRecord_sameStacks _ _ _ _ _ _ _ _ _ _).trans (shardFail_sameStacks _ e s _ holders)
  | grammar g => exact (stackRecord_sameStacks _ _ _ _ _ _ _ _ _ _).trans (setGram_sameStacks _ g _)
  | journal part => exact (stackRecord_sameStacks q2 _ _ _ _ _ _ _ _ _).trans ⟨rfl⟩
  | lent => exact stackRecord_sameStacks _ _ _ _ _ _ _ _ _ _
  | table b s h =>
    dsimp only
    split
    · exact stackRecord_sameStacks _ _ _ _ _ _ _ _ _ _
    split
    · exact (stackRecord_sameStacks _ _ _ _ _ _ _ _ _ _).trans (tableLost_sameStacks _ s)
    · exact (stackRecord_sameStacks _ _ _ _ _ _ _ _ _ _).trans (setKvSlot_sameStacks _ s _)
  | page g => exact (stackRecord_sameStacks _ _ _ _ _ _ _ _ _ _).trans (.foldl (fun q (h : Nat × Nat) => setKvSlot_sameStacks q h.1 _) _ _)
  | free => exact stackRecord_sameStacks _ _ _ _ _ _ _ _ _ _

section
variable {p : Part} {k addr hit : Nat} {demand other last : Bool} {l : List Nat}

/-- A read within a pass of the patrol, or by another unit. -/
theorem patrolRead_withinPass (kind : Nat) (h : last = false ∨ demand = true) : p.patrolRead k addr kind demand other hit last l =
    if kind = 0 then p else if kind = 1 then p.readCorrected k (!demand) else p.readLost k addr other hit l := by
  have hb : ¬ (last && !demand) = true := by rcases h with h | h <;> simp [h]
  simp only [Part.patrolRead, if_neg hb]

theorem patrolRead_endsPass : p.patrolRead k addr 0 false other hit true l =
    { p with kv := { p.kv with passes := mset 0 p.kv.passes (k / 8) ((mget 0 p.kv.passes (k / 8) + 1) % 65536) } } := rfl

theorem patrolRead_lost : (p.readRecorded k addr).SameStacks (p.patrolRead k addr 2 demand other hit last l) := by
  have hl := readLost_sameStacks p k addr other hit l
  unfold Part.patrolRead
  dsimp only
  split
  · exact hl.trans ⟨rfl⟩
  · exact hl

end

/-! ### Refresh and band (R194) -/

theorem stackRefresh_waits {p : Part} {k : Nat}
    (h : (p.stack k).ready = false ∨ 1000 * p.now < 1000 * (p.stack k).refreshAt + (p.stack k).refreshPs) : p.stackRefresh k = p := by
  have hb : ¬ ((p.stack k).ready && decide (1000 * (p.stack k).refreshAt + (p.stack k).refreshPs ≤ 1000 * p.now)) = true := by
    rw [Bool.and_eq_true, decide_eq_true_eq]
    rintro ⟨hr, hd⟩
    rcases h with h | h
    · exact Bool.noConfusion (h.symm.trans hr)
    · omega
  simp only [Part.stackRefresh, if_neg hb]

theorem stackRefresh_due {p : Part} {k : Nat} (hr : (p.stack k).ready = true)
    (hd : 1000 * (p.stack k).refreshAt + (p.stack k).refreshPs ≤ 1000 * p.now) : p.stackRefresh k =
      p.setStack k { p.stack k with refreshAt := p.now, band := (p.stack k).rise.getD (p.stack k).band, rise := none } := by
  simp only [Part.stackRefresh, hr, decide_eq_true hd, Bool.and_self, if_true]

theorem stackBandFall_none {p : Part} {k : Nat} (h : ((p.stack k).lower.find? fun x => decide (x.2 + 1000000000 ≤ p.now)) = none) :
    p.stackBandFall k = p := by
  simp only [Part.stackBandFall, h]

theorem stackBandFall_falls {p : Part} {k : Nat} {x : Nat × Nat}
    (h : ((p.stack k).lower.find? fun x => decide (x.2 + 1000000000 ≤ p.now)) = some x) : p.stackBandFall k =
      p.setStack k { p.stack k with band := x.1, lower := (p.stack k).lower.filter fun y => decide (y.1 < x.1) } := by
  simp only [Part.stackBandFall, h]

/-! ### Readouts (R421, R422, R430) -/

theorem takeThrottle_sameStacks (p : Part) : p.SameStacks p.takeThrottle := by
  unfold Part.takeThrottle
  split <;> exact ⟨rfl⟩

theorem takeThrottle_quenched (p : Part) : p.takeThrottle.therm.quenched = p.therm.quenched := by
  unfold Part.takeThrottle
  split <;> rfl

theorem quench_quenched (p : Part) (src unit sensor : Nat) (t : Int) : (p.quench src unit sensor t).therm.quenched = true := by
  unfold Part.quench
  split
  · assumption
  · rfl

/-- A stack's record after a readout in range. -/
def Stack.readAt (x : Stack) (t : Int) (now : Nat) : Stack :=
  { (x.readBand t now) with temp := t, invalid := 0, blind := false, hot := decide (420 ≤ t) }

/-- A stack's record after a readout out of range, or none. -/
def Stack.unread (x : Stack) : Stack :=
  { x with invalid := min (x.invalid + 1) 10, blind := x.blind || decide (10 ≤ min (x.invalid + 1) 10), hot := false }

theorem stackReadout_inRange {p : Part} {k : Nat} {t : Int} (h0 : 0 ≤ t) (h1 : t ≤ 600) : p.stackReadout k (some t) =
    let q := (p.setStack k ((p.stack k).readAt t p.now)).takeThrottle
    if (p.stack k).hot && !(p.stack k).blind && decide (420 ≤ t) then q.quench 1 k 0 t else q := by
  simp only [Part.stackReadout, if_pos (And.intro h0 h1)]
  rfl

theorem stackReadout_cool {p : Part} {k : Nat} {t : Int} (h0 : 0 ≤ t) (h1 : t ≤ 600)
    (h : (p.stack k).hot = false ∨ (p.stack k).blind = true ∨ t < 420) :
    p.stackReadout k (some t) = (p.setStack k ((p.stack k).readAt t p.now)).takeThrottle := by
  have hb : ¬ ((p.stack k).hot && !(p.stack k).blind && decide (420 ≤ t)) = true := by
    simp only [Bool.and_eq_true, Bool.not_eq_true', decide_eq_true_eq]
    rintro ⟨⟨hh, hn⟩, ht⟩
    rcases h with h | h | h
    · exact Bool.noConfusion (h.symm.trans hh)
    · exact Bool.noConfusion (hn.symm.trans h)
    · omega
  rw [stackReadout_inRange h0 h1]
  exact if_neg hb

theorem stackReadout_quenches {p : Part} {k : Nat} {t : Int} (h0 : 420 ≤ t) (h1 : t ≤ 600) (hh : (p.stack k).hot = true)
    (hb : (p.stack k).blind = false) : (p.stackReadout k (some t)).therm.quenched = true := by
  rw [stackReadout_inRange (by omega) h1]
  simp only [hh, hb, decide_eq_true h0, Bool.not_false, Bool.and_self, if_true]
  exact quench_quenched _ _ _ _ _

theorem stackReadout_unread {p : Part} {k : Nat} {v : Option Int} (h : ∀ t, v = some t → t < 0 ∨ 600 < t) : p.stackReadout k v =
    let q := (p.setStack k (p.stack k).unread).takeThrottle
    if !(p.stack k).blind && decide (10 ≤ min ((p.stack k).invalid + 1) 10) then (q.bump aThermCnt 48 16 1).notice 0x403 (leBytes 1 k)
    else q := by
  cases v with
  | none => rfl
  | some t =>
    have hr : ¬ (0 ≤ t ∧ t ≤ 600) := fun hr => by
      have := h t rfl
      omega
    simp only [Part.stackReadout, if_neg hr]
    rfl

theorem stackReadout_outOfRange {p : Part} {k : Nat} {v : Option Int} (h : ∀ t, v = some t → t < 0 ∨ 600 < t) :
    (p.setStack k (p.stack k).unread).SameStacks (p.stackReadout k v) := by
  rw [stackReadout_unread h]
  have ht := takeThrottle_sameStacks (p.setStack k (p.stack k).unread)
  dsimp only
  split
  · exact ht.trans ((bump_sameStacks _ _ _ _ _).trans (toMasked_sameStacks _ _ _ _))
  · exact ht

end Sys2Proof.Machine

/-! SUPPORT. The commands of attention and of the stacks, where their context die is alive (R187, R189, R192, R194, R422). -/
namespace Sys2Proof.Machine

theorem exec_attention {s : State} {cxd sl : Nat} (hc : isCxd cxd = true) (hs : isSlot sl = true) (ha : s.part.alive (11 + cxd) = true)
    (id layer first count tag app : Nat) (f : Bool) (qs outs : Nat) : exec (.attention cxd id sl layer first count tag app f qs outs) s =
      .next (withPart s (s.part.attention cxd id sl layer first count tag app f qs outs)) := by
  calc exec (.attention cxd id sl layer first count tag app f qs outs) s
      = s.live (11 + cxd) (slotOk cxd sl) fun p => p.attention cxd id sl layer first count tag app f qs outs := rfl
    _ = _ := live_slot hc hs ha

theorem exec_attentionStart {s : State} {id : Nat} (ha : s.part.alive (s.attDomain id) = true) :
    exec (.attentionStart id) s = .next ((s.attentionStart id).chunkDone (s.part.attSlot id)) := by
  calc exec (.attentionStart id) s
      = s.liveMem (s.attDomain id) true fun t => (t.attentionStart id).chunkDone (t.part.attSlot id) := rfl
    _ = _ := liveMem_alive ha

theorem exec_attentionComplete {s : State} {id : Nat} (ha : s.part.alive (s.attDomain id) = true) :
    exec (.attentionComplete id) s = .next (s.attentionComplete id) := by
  calc exec (.attentionComplete id) s
      = s.liveMem (s.attDomain id) true fun t => t.attentionComplete id := rfl
    _ = _ := liveMem_alive ha

theorem attSlot_none {p : Part} {id : Nat} (h : (p.kv.atts.find? fun r => r.id == id) = none) : p.attSlot id = 0 := by
  rw [Part.attSlot, h]
  rfl

theorem attSlot_some {p : Part} {id : Nat} {r : AttReq} (h : (p.kv.atts.find? fun r => r.id == id) = some r) : p.attSlot id = r.slot := by
  rw [Part.attSlot, h]
  rfl

/-- What a start leaves: the request is marked, and only appends are taken. -/
theorem attStarted_takesAppends {s : State} {id : Nat} {r : AttReq} (h : (s.part.kv.atts.find? fun r => r.id == id) = some r)
    (hs : r.started = false) (hp : s.part.pwr.paced = false) (ha : r.appends ≤ (s.part.kvSlot r.slot).appends r.tag r.layer)
    (hb : s.part.attBlocked r = false) : (s.attStarted r).TakesAppends (s.attentionStart id) r.slot := by
  rw [attentionStart_starts h hs hp ha hb]
  exact (nextTag_takesAppends _ _ _).trans (heldRun_takesAppends _ _ _ _)

/-- The start of a request of a slot that holds no append. -/
theorem attentionStart_noneHeld {s : State} {id : Nat} {r : AttReq} (h : (s.part.kv.atts.find? fun r => r.id == id) = some r)
    (hs : r.started = false) (hp : s.part.pwr.paced = false) (ha : r.appends ≤ (s.part.kvSlot r.slot).appends r.tag r.layer)
    (hb : s.part.attBlocked r = false) (hn : (s.part.kvSlot r.slot).heldAppends = []) : s.attentionStart id = s.attStarted r := by
  have hn' : ((s.attStarted r).part.kvSlot r.slot).heldAppends = [] := by
    simpa [State.attStarted, withPart, KvSlot.tagStarted] using hn
  rw [attentionStart_starts h hs hp ha hb, nextTag_noneHeld hn', hn']
  rfl

section
variable {s : State} {k : Nat} (hk : isStack k = true) (ha : s.part.alive (11 + k / 8) = true)
include hk ha

/-- A command of a stack whose context die is alive acts on the part. -/
theorem live_stack (f : Part → Part) : s.live (11 + k / 8) (isStack k) f = .next (withPart s (f s.part)) := by
  rw [hk, live_alive ha]
  rfl

theorem exec_patrolRead (addr kind : Nat) (demand other : Bool) (hit : Nat) (last : Bool) (l : List Nat) :
    exec (.patrolRead k addr kind demand other hit last l) s =
      .next (withPart s (s.part.patrolRead k addr kind demand other hit last l)) := by
  calc exec (.patrolRead k addr kind demand other hit last l) s
      = s.live (11 + k / 8) (isStack k) fun p => p.patrolRead k addr kind demand other hit last l := rfl
    _ = _ := live_stack hk ha _

theorem exec_stackRefresh : exec (.stackRefresh k) s = .next (withPart s (s.part.stackRefresh k)) := by
  calc exec (.stackRefresh k) s
      = s.live (11 + k / 8) (isStack k) fun p => p.stackRefresh k := rfl
    _ = _ := live_stack hk ha _

theorem exec_stackBandFall : exec (.stackBandFall k) s = .next (withPart s (s.part.stackBandFall k)) := by
  calc exec (.stackBandFall k) s
      = s.live (11 + k / 8) (isStack k) fun p => p.stackBandFall k := rfl
    _ = _ := live_stack hk ha _

theorem exec_stackTempReadout (v : Option Int) : exec (.stackTempReadout k v) s = .next (withPart s (s.part.stackReadout k v)) := by
  calc exec (.stackTempReadout k v) s
      = s.live (11 + k / 8) (isStack k) fun p => p.stackReadout k v := rfl
    _ = _ := live_stack hk ha _

end

end Sys2Proof.Machine

namespace Sys2Proof

open Machine

/-- Settles O37: the attention request by the message at its engine's head, its start and its end by the request of that number; the stack
commands by what the patrol finds, what is due and whether a readout is in range. -/
theorem attentionAndStacks : Obligations.AttentionAndStacks := by
  unfold Obligations.AttentionAndStacks
  refine ⟨?arrives, ?runs, ?patrol, ?refresh, ?readout⟩
  case arrives =>
    rintro s cxd id sl layer first count tag app f qs outs _ hc hs ha rfl
    rw [exec_attention hc hs ha]
    refine ⟨fun h => by rw [attention_noMessage h, withPart_part], fun m h => ⟨fun ht hl => ?untracked, fun ht => ⟨fun hr => ?refused, ?inRange⟩⟩⟩
    case untracked => rw [attention_untracked h ht hl, withPart_part]
    case refused => rw [attention_refused h ht (attOutOfRange_of hr)]
    case inRange =>
      intro g h0 h1 hh hl hg hy
      have hr := not_attOutOfRange h0 h1 hh hl hg hy
      refine ⟨fun hid => by rw [attention_repeated h ht hr hid, withPart_part], fun hid => ?_⟩
      rw [attention_joins h ht hr hid]
      exact ⟨_, _, rfl, rfl, rfl, rfl, rfl, rfl, rfl, rfl, rfl, rfl, rfl, rfl, (inbox_congr rfl _ _).trans (inbox_popInbox _ _ _)⟩
  case runs =>
    intro s id ha
    rw [exec_attentionStart ha, exec_attentionComplete ha]
    refine ⟨fun h hc => ?none, ?request⟩
    case none => rw [attentionStart_none h, attentionComplete_none h, attSlot_none h, chunkDone_noChunk hc]; exact ⟨rfl, rfl⟩
    case request =>
      rintro r _ h rfl hc
      rw [attSlot_some h]
      refine ⟨fun hw => ?waits, fun hs hp hn hb => ?starts, fun hw => by rw [attentionComplete_waits h hw], fun g hs hg => ?ends⟩
      case waits => rw [attentionStart_waits h hw, chunkDone_noChunk hc]
      case starts =>
        have ht := attStarted_takesAppends h hs hp hn hb
        have hc' : ((s.attentionStart id).part.kvSlot r.slot).chunk = false := by
          rw [ht.chunk]
          simpa [State.attStarted, withPart, KvSlot.tagStarted] using hc
        have hid : r.id = id := by simpa using List.find?_some h
        rw [chunkDone_noChunk hc']
        refine ⟨_, _, rfl, ?_, rfl, ht.mem, fun he => ?_⟩
        · rw [ht.atts]
          subst hid
          exact find?_startIf h
        · rw [attentionStart_noneHeld h hs hp hn hb he]
          exact ⟨rfl, kvSlot_setKvSlot _ _ _⟩
      case ends =>
        obtain ⟨p, hp, hk⟩ := attentionComplete_ends h hs hg
        rw [hp]
        exact ⟨_, rfl, hk, rfl, rfl⟩
  case patrol =>
    intro s k addr hit demand other last l hk ha
    simp only [exec_patrolRead hk ha]
    refine ⟨fun h => ?_, by rw [patrolRead_endsPass], ?_, ?_, _, rfl, ?_, ?_, rfl, rfl⟩
    · rw [patrolRead_withinPass 0 h]
      rfl
    · rw [patrolRead_withinPass 1 (.inl rfl)]
      rfl
    · rw [patrolRead_withinPass 1 (.inr rfl)]
      rfl
    · exact congrArg Stack.ueAddr ((patrolRead_lost.stack k).trans (stack_setStack _ _ _))
    · exact congrArg Stack.ueOwner ((patrolRead_lost.stack k).trans (stack_setStack _ _ _))
  case refresh =>
    intro s k hk ha
    rw [exec_stackRefresh hk ha, exec_stackBandFall hk ha]
    exact ⟨fun h => by rw [stackRefresh_waits h, withPart_part], fun hr hd => by rw [stackRefresh_due hr hd],
      fun h => by rw [stackBandFall_none h, withPart_part], fun x h => by rw [stackBandFall_falls h]⟩
  case readout =>
    intro s k hk ha hq
    simp only [exec_stackTempReadout hk ha]
    refine ⟨fun t h0 h1 h => ?cool, fun t h0 h1 hh hb => ⟨_, rfl, stackReadout_quenches h0 h1 hh hb⟩, fun v h => ⟨_, rfl, ?unread⟩⟩
    case cool =>
      rw [stackReadout_cool h0 h1 h]
      have hs := takeThrottle_sameStacks (s.part.setStack k ((s.part.stack k).readAt t s.part.now))
      exact ⟨_, rfl, (hs.stack k).trans (stack_setStack _ _ _), (takeThrottle_quenched _).trans hq,
        fun j hj => (hs.stack j).trans (stack_setStack_ne _ _ hj)⟩
    case unread =>
      have hd : decide (10 ≤ min ((s.part.stack k).invalid + 1) 10) = decide (9 ≤ (s.part.stack k).invalid) :=
        decide_eq_decide.mpr (by omega)
      exact ((stackReadout_outOfRange h).stack k).trans ((stack_setStack _ _ _).trans (by rw [Stack.unread, hd]))

end Sys2Proof

/-! SUPPORT. The requests of the sequence slots: reading a slot's request after each update of the part, and what leaves the requests as
they are (R166 to R168, R202, R266, R267). -/
namespace Sys2Proof.Machine

/-! ### Reading a request -/

/-- The requests are read from `serv` alone. -/
theorem req_congr {p q : Part} (h : q.serv = p.serv) (x : Nat) : q.req x = p.req x := by rw [Part.req, h, Part.req]

@[simp] theorem req_setReq (p : Part) (x : Nat) (r : Req) : (p.setReq x r).req x = some r := mfind_minsert_same _ _ _

theorem req_setReq_ne (p : Part) {x y : Nat} (r : Req) (h : y ≠ x) : (p.setReq x r).req y = p.req y := mfind_minsert_ne _ _ _ _ h

theorem ses_setReq (p : Part) (x : Nat) (r : Req) (i : Nat) : (p.setReq x r).ses i = p.ses i := rfl

theorem kv_setReq (p : Part) (x : Nat) (r : Req) : (p.setReq x r).kv = p.kv := rfl

/-! ### What keeps the requests -/

/-- A fold keeps the requests when each of its steps does. -/
theorem serv_foldl {α : Type} {f : Part → α → Part} (h : ∀ (q : Part) x, (f q x).serv = q.serv) (l : List α) (p : Part) :
    (l.foldl f p).serv = p.serv := by
  induction l generalizing p with
  | nil => rfl
  | cons x l ih => exact (ih _).trans (h p x)

@[simp] theorem serv_control (p : Part) (d : Nat) (m : FabMsg) : (p.control d m).serv = p.serv := by
  unfold Part.control Part.fabSend
  dsimp only
  split
  · rfl
  split <;> split <;> rfl

@[simp] theorem serv_ringAdd (p : Part) (c s r a : Nat) : (p.ringAdd c s r a).serv = p.serv := by
  unfold Part.ringAdd
  split <;> simp

@[simp] theorem serv_completeKey (p : Part) (op k st : Nat) (b : Bytes) : (p.completeKey op k st b).serv = p.serv := by
  refine serv_foldl (fun q i => serv_foldl (fun r a => ?_) _ q) _ p
  split
  · simp
  · rfl

@[simp] theorem serv_modShard (p : Part) (e s : Nat) (f : Shard → Shard) : (p.modShard e s f).serv = p.serv := by
  unfold Part.modShard
  dsimp only
  split <;> rfl

theorem serv_setSlab (p : Part) (cxd n : Nat) (u : SlabUse) : (p.setSlab cxd n u).serv = p.serv := rfl

@[simp] theorem serv_setStripe (p : Part) (n : Nat) (u : SlabUse) : (p.setStripe n u).serv = p.serv := by
  have hs : ((List.range 4).foldl (fun q c => q.setSlab c n u) p).serv = p.serv := serv_foldl (fun q c => serv_setSlab q c n u) _ p
  unfold Part.setStripe Part.slabEvent
  split
  · rw [← hs]
    simp
  · exact hs

@[simp] theorem serv_freeSpace (p : Part) (e s : Nat) : (p.freeSpace e s).serv = p.serv := by
  have hstripe (q : Part) (n : Nat) : (if q.stripeUsed n then q else q.setStripe n .free).serv = q.serv := by split <;> simp
  cases h : p.shard e s with
  | none => simp only [Part.freeSpace, h]
  | some x =>
    cases hx : x.held with
    | false => simp [Part.freeSpace, h, hx]
    | true =>
      simp only [Part.freeSpace, h, hx, Bool.not_true, Bool.false_eq_true, if_false]
      rw [serv_foldl hstripe, serv_modShard]

@[simp] theorem serv_dropTier (p : Part) (e s : Nat) : (p.dropTier e s).serv = p.serv := by
  unfold Part.dropTier
  split
  · rfl
  dsimp only
  split <;> simp

@[simp] theorem serv_bankCommand (p : Part) (op k : Nat) : (p.bankCommand op k).serv = p.serv := by
  simp [Part.bankCommand, Part.bankMessage, Part.issue]

/-- Freeing a version that retires touches banks, shards and the table (R168). -/
@[simp] theorem serv_retireFree (p : Part) (e : Nat) : (p.retireFree e).serv = p.serv := by
  unfold Part.retireFree
  split
  · rfl
  refine (serv_ringAdd _ _ _ _ _).trans ((serv_foldl (fun q s => ?_) _ _).trans (serv_foldl (fun q b => ?_) _ p))
  · simp [Part.forgetShard]
  · split <;> simp

@[simp] theorem serv_leaveCheck (p : Part) (id : Nat) : (p.leaveCheck id).serv = p.serv := by
  unfold Part.leaveCheck
  split
  · rfl
  split
  case isFalse => rfl
  next r _ _ =>
  have hc : (if r.root = p.fabCfg.partId then p else p.control r.root (.left id)).serv = p.serv := by split <;> simp
  dsimp only
  generalize (if r.root = p.fabCfg.partId then p else p.control r.root (.left id)) = q at hc ⊢
  have hk : ((q.dropSlice id).completeKey 0x71 id stOk []).serv = p.serv := (serv_completeKey _ _ _ _ _).trans hc
  split
  · split
    · exact hk
    · refine (serv_foldl (fun a x => ?_) _ _).trans hk
      split <;> simp
  · exact hk

@[simp] theorem serv_unpin1 (p : Part) (e : Nat) : (p.unpin1 e).serv = p.serv := by
  unfold Part.unpin1
  dsimp only
  split
  · rfl
  split
  · exact serv_retireFree _ e
  · rfl

@[simp] theorem serv_unpin (p : Part) (e : Nat) : (p.unpin e).serv = p.serv := by
  refine (serv_foldl (fun q r => serv_leaveCheck q _) _ _).trans ?_
  split <;> simp

@[simp] theorem serv_sweepSlabs (p : Part) (cxd : Nat) : (p.sweepSlabs cxd).serv = p.serv := by
  refine serv_foldl (fun q n => ?_) _ p
  split <;> rfl

@[simp] theorem serv_releaseSlot (p : Part) (sl : Nat) : (p.releaseSlot sl).serv = p.serv := by
  unfold Part.releaseSlot
  dsimp only
  split
  · exact serv_sweepSlabs _ _
  · rfl

/-- An operation of a die message or of the host that fails is answered, and nothing else (R184). -/
theorem serv_opDone_fails {w : WaitingOp} {st : Nat} (hw : w.msg.isSome = true ∨ w.sess < 64) (hst : st ≠ stOk) (p : Part) (sl : Nat) :
    (p.opDone sl w st).serv = p.serv := by
  unfold Part.opDone
  dsimp only
  split
  · simp
  next hm =>
  have hlt : w.sess < 64 := by simpa [hm] using hw
  rw [if_neg (Nat.not_le.mpr hlt), if_pos hst]
  simp

/-! ### What brings no request to a slot -/

/-- A slot without a request is still without one. -/
def Part.BringsNone (p q : Part) : Prop := ∀ x, p.req x = none → q.req x = none

namespace Part.BringsNone

theorem ofServ {p q : Part} (h : q.serv = p.serv) : p.BringsNone q := fun x hx => (req_congr h x).trans hx

theorem trans {p q r : Part} (a : p.BringsNone q) (b : q.BringsNone r) : p.BringsNone r := fun x hx => b x (a x hx)

theorem foldl {α : Type} {f : Part → α → Part} (h : ∀ (q : Part) x, q.BringsNone (f q x)) (l : List α) (p : Part) :
    p.BringsNone (l.foldl f p) := by
  induction l generalizing p with
  | nil => exact fun _ hx => hx
  | cons x l ih => exact (h p x).trans (ih _)

end Part.BringsNone

theorem req_erase (p : Part) (x : Nat) (l : List Nat) :
    Part.req { p with serv := { p.serv with reqs := merase p.serv.reqs x, order := l } } x = none := mfind_merase_same _ _

/-- An entry that ends goes, and no other slot's request changes (R203). -/
theorem entryFree_bringsNone (p : Part) (sl : Nat) : p.BringsNone (p.entryFree sl) := by
  unfold Part.entryFree
  dsimp only
  split
  · exact .ofServ rfl
  split
  case isFalse => exact .ofServ rfl
  intro x hx
  by_cases h : x = sl
  · subst h
    exact req_erase p x _
  · exact (mfind_merase_ne _ _ _ h).trans hx

/-- CTL's own release of a slot may free entries (R202), and answers with a failure what waits behind it (R184). -/
theorem pageOp_release_bringsNone (p : Part) (sl : Nat) : p.BringsNone (p.pageOp sl (ownOp .release)) := by
  unfold Part.pageOp
  dsimp only
  split
  · exact .ofServ rfl
  refine .trans (.trans (.ofServ (serv_releaseSlot p sl)) (?freed : Part.BringsNone _ ((p.releaseSlot sl).opDone sl (ownOp .release) stOk)))
    (.trans (.foldl (fun q m => .ofServ (by simp)) _ _) (.foldl (fun q w => ?behind) _ _))
  case freed => exact .foldl (fun q (x : Nat × Req) => entryFree_bringsNone q x.1) _ _
  case behind =>
    split
    next hw => exact .ofServ (serv_opDone_fails (by simpa using hw) (by decide) q sl)
    · exact .ofServ rfl

theorem serv_cancelsDone (p : Part) (r : Req) : (p.cancelsDone r).serv = p.serv := serv_foldl (fun q c => by simp) _ p

/-- A rejected admission leaves its slot without a request (R199, R267). -/
theorem admitReject_req (p : Part) (sl st : Nat) : (p.admitReject sl st).req sl = none := by
  unfold Part.admitReject
  split
  case h_1 h => exact h
  next r _ =>
  extract_lets old p1 h old' p2 p3 p4 p5
  have h1 : p1.req sl = none := req_erase p sl _
  have h2 : p1.BringsNone p2 := by
    unfold p2
    split
    · exact fun _ hx => hx
    · exact (pageOp_release_bringsNone p1 sl).trans (.ofServ (serv_unpin _ _))
  have h3 : p2.BringsNone p3 := by
    unfold p3
    split
    · exact .ofServ rfl
    · exact .ofServ (serv_unpin _ _)
  have h4 : p3.BringsNone p4 := by
    unfold p4
    split
    · exact .ofServ rfl
    · exact pageOp_release_bringsNone _ _
  have h5 : p4.BringsNone p5 := by
    unfold p5
    split <;> exact .ofServ rfl
  have h6 : p5.BringsNone ((p5.completeA r.sess r.cmd st []).cancelsDone r) := .ofServ (by rw [serv_cancelsDone]; simp)
  exact ((((h2.trans h3).trans h4).trans h5).trans h6) sl h1

end Sys2Proof.Machine

/-! SUPPORT. ADMIT: where it stops, the reads of its lists, and the slot and request that it makes (R196 to R203, R264 to R266). -/
namespace Sys2Proof.Machine

/-! ### What stops an admission -/

/-- A list of an admission on the session is being read from host memory (R265). -/
def Part.readsLists (p : Part) (i : Nat) : Bool := p.host.reads.any fun r => (r.kind == 2 || r.kind == 3) && r.sess == i

theorem readsLists_iff {p : Part} {i : Nat} : p.readsLists i = true ↔ ∃ r ∈ p.host.reads, (r.kind = 2 ∨ r.kind = 3) ∧ r.sess = i := by
  simp [Part.readsLists]

theorem not_readsLists {p : Part} {i : Nat} (h : ∀ r ∈ p.host.reads, ¬ ((r.kind = 2 ∨ r.kind = 3) ∧ r.sess = i)) :
    p.readsLists i = false := by
  rw [← Bool.not_eq_true, readsLists_iff]
  exact fun ⟨r, hr, hk⟩ => h r hr hk

/-- The read of the prompt. -/
def promptRead (i : Nat) (k : Bytes) : HostRead := { kind := 2, sess := i, key := 0, addr := par k 96 8, len := 4 * par k 16 4 }

/-- The read of the allowed-token list. -/
def allowedRead (i : Nat) (k : Bytes) : HostRead := { kind := 3, sess := i, key := 0, addr := par k 104 8, len := 4 * par k 46 2 }

/-- The read of the allowed-token list, where it lies in host memory. -/
def allowedReads (i : Nat) (k : Bytes) : List HostRead := if par k 104 8 = 0 ∨ par k 46 2 = 0 then [] else [allowedRead i k]

theorem allowedReads_cases (i : Nat) (k : Bytes) : allowedReads i k = [] ∨ allowedReads i k = [allowedRead i k] := by
  unfold allowedReads
  split
  · exact .inl rfl
  · exact .inr rfl

/-- The host link with more reads to make. -/
def Part.withReads (p : Part) (l : List HostRead) : Part := { p with host := { p.host with reads := p.host.reads ++ l } }

/-- Every list is in the packet and every check but the version's has passed (R196, R197). -/
structure Part.AdmitChecked (p : Part) (i : Nat) (k : Bytes) : Prop where
  noRead : p.readsLists i = false
  fields : p.admitFieldFail i k = none
  prompt : par k 96 8 = 0
  allowed : par k 104 8 = 0 ∨ par k 46 2 = 0
  lists : p.admitListFail k = none

section
variable {p : Part} {i : Nat} {k : Bytes}

theorem admitHere_reading (h : p.readsLists i = true) : p.admitHere i k = p := if_pos h

section
variable (hr : p.readsLists i = false)
include hr

/-- The reads in progress do not hold the admission back. -/
theorem admit_notReading : ¬ (p.host.reads.any fun r => (r.kind == 2 || r.kind == 3) && r.sess == i) = true := by
  rw [show (p.host.reads.any fun r => (r.kind == 2 || r.kind == 3) && r.sess == i) = false from hr]
  exact Bool.false_ne_true

theorem admitHere_badField {st : Nat} (h : p.admitFieldFail i k = some st) : p.admitHere i k = p.finish i st [] := by
  simp only [Part.admitHere, if_neg (admit_notReading hr), h]

variable (hf : p.admitFieldFail i k = none)
include hf

theorem admitHere_readsPrompt (h : par k 96 8 ≠ 0) : p.admitHere i k = p.withReads (promptRead i k :: allowedReads i k) := by
  simp only [Part.admitHere, if_neg (admit_notReading hr), hf, if_neg h]
  rfl

theorem admitHere_readsAllowed (hp : par k 96 8 = 0) (ha : par k 104 8 ≠ 0) (hn : par k 46 2 ≠ 0) :
    p.admitHere i k = p.withReads [allowedRead i k] := by
  have h : ¬ (par k 104 8 = 0 ∨ par k 46 2 = 0) := not_or.mpr ⟨ha, hn⟩
  simp only [Part.admitHere, if_neg (admit_notReading hr), hf, if_pos hp, if_neg h]
  rfl

theorem admitHere_badList {st : Nat} (hp : par k 96 8 = 0) (ha : par k 104 8 = 0 ∨ par k 46 2 = 0) (h : p.admitListFail k = some st) :
    p.admitHere i k = p.finish i st [] := by
  simp [Part.admitHere, admit_notReading hr, hf, hp, ha, h]

end

/-- An admission whose checks have passed binds its versions, or ends where one is not available (R166). -/
def Part.admitVersions (p : Part) (i : Nat) (k : Bytes) : Part :=
  match p.binds (par k 4 4) (par k 8 2), if par k 12 4 = 0 then none else some (p.binds (par k 12 4) (par k 10 2)) with
  | none, _ => p.finish i stModelUnavailable []
  | some _, some none => p.finish i stModelUnavailable []
  | some e, d =>
    if admitPrefix k && !((p.prefixSlot i k).any fun h => h.ver == e) then p.finish i stBadParam []
    else p.admitBound i k e (d.bind id)

theorem admitVersions_unavailable (hb : p.binds (par k 4 4) (par k 8 2) = none ∨
    (par k 12 4 ≠ 0 ∧ p.binds (par k 12 4) (par k 10 2) = none)) : p.admitVersions i k = p.finish i stModelUnavailable [] := by
  unfold Part.admitVersions
  rcases hb with hb | ⟨hd, hb⟩
  · rw [hb]
  · rw [if_neg hd, hb]
    cases p.binds (par k 4 4) (par k 8 2) <;> rfl

/-- An admission without draft and PREFIX binds its version. -/
theorem admitVersions_binds {e : Nat} (hb : p.binds (par k 4 4) (par k 8 2) = some e) (hd : par k 12 4 = 0) (hx : admitPrefix k = false) :
    p.admitVersions i k = p.admitBound i k e none := by
  rw [Part.admitVersions, hb, if_pos hd, hx]
  rfl

section
variable (h : p.AdmitChecked i k)
include h

/-- After its checks an admission waits for a healthy part (R331). -/
theorem admitHere_checked : p.admitHere i k =
    if p.faulted then p.finish i stNotReady [] else if p.boot.noTake then p else p.admitVersions i k := by
  obtain ⟨hr, hf, hp, ha, hl⟩ := h
  simp only [Part.admitHere, if_neg (admit_notReading hr), hf, if_pos hp, if_pos ha, hl]
  rfl

theorem admitHere_faulted (hfault : p.faulted = true) : p.admitHere i k = p.finish i stNotReady [] := by
  rw [admitHere_checked h, if_pos hfault]

variable (hfault : p.faulted = false)
include hfault

theorem admitHere_resetting (ht : p.boot.noTake = true) : p.admitHere i k = p := by
  rw [admitHere_checked h, hfault, if_pos ht]
  rfl

theorem admitHere_healthy (ht : p.boot.noTake = false) : p.admitHere i k = p.admitVersions i k := by
  rw [admitHere_checked h, hfault, ht]
  rfl

end
end

/-! ### The slot that an admission takes (R173, R199) -/

theorem prefixSlot_none {k : Bytes} (h : admitPrefix k = false) (p : Part) (i : Nat) : p.prefixSlot i k = none := by
  simp [Part.prefixSlot, h]

/-- Without a held slot to start from and a draft the request takes one slot, the lowest that is free (log entry 23). -/
theorem takeSlots_one {k : Bytes} (h : admitPrefix k = false) (p : Part) (i e : Nat) : p.takeSlots i k e none =
    if p.slotsLeft 1 then (p.freeSlot []).map fun sl => (sl, none, p.assignSlot sl (p.homeFor (p.verPage e)) e) else none := by
  simp only [Part.takeSlots, prefixSlot_none h, Option.isSome_none, Bool.not_false, bit, if_true, Bool.false_eq_true, if_false, Nat.add_zero]
  cases p.slotsLeft 1 with
  | false => rfl
  | true => cases p.freeSlot [] <;> rfl

/-! ### The request that an admission makes -/

/-- The admission at its start point, with the seed drawn where the packet gives none (R200, R244). -/
def Part.admitStarted (p : Part) (i : Nat) (k : Bytes) : Part :=
  (if (par k 43 1).testBit 0 then p else p.free.2).startA i (par k 0 4)

/-- The seed of the request. -/
def Part.admitSeed (p : Part) (k : Bytes) : Word64 :=
  if (par k 43 1).testBit 0 then BitVec.ofNat 64 (par k 56 8) else Config.freeValue p.freeTick

/-- The start of an A command changes the sessions alone (R244). -/
theorem startA_eq (p : Part) (i n : Nat) : ∃ l, p.startA i n = { p with sess := l } := by
  unfold Part.startA
  dsimp only
  split
  · exact ⟨p.sess, rfl⟩
  · exact ⟨_, rfl⟩

/-- The next command may start (R244). -/
theorem startA_cur (p : Part) (i n : Nat) : ((p.startA i n).ses i).cur = none := by
  unfold Part.startA
  dsimp only
  split
  case h_1 h => exact h
  case h_2 => rw [ses_setSes]

theorem admitStarted_cur (p : Part) (i : Nat) (k : Bytes) : ((p.admitStarted i k).ses i).cur = none := startA_cur _ _ _

/-- The start of an admission draws a seed and changes sessions, and nothing else. -/
theorem admitStarted_eq (p : Part) (i : Nat) (k : Bytes) : ∃ n l, p.admitStarted i k = { p with freeTick := n, sess := l } := by
  unfold Part.admitStarted
  split
  · obtain ⟨l, h⟩ := startA_eq p i (par k 0 4)
    exact ⟨p.freeTick, l, h⟩
  · obtain ⟨l, h⟩ := startA_eq p.free.2 i (par k 0 4)
    exact ⟨p.freeTick + 1, l, h⟩

theorem takeSlots_admitStarted {k : Bytes} (h : admitPrefix k = false) (p : Part) (i e : Nat) :
    (p.admitStarted i k).takeSlots i k e none = if p.slotsLeft 1 then (p.freeSlot []).map fun sl =>
      (sl, none, (p.admitStarted i k).assignSlot sl (p.homeFor (p.verPage e)) e) else none := by
  obtain ⟨n, l, hq⟩ := admitStarted_eq p i k
  rw [takeSlots_one h, hq]
  rfl

theorem completeA_serv (p : Part) (i n st : Nat) (b : Bytes) : (p.completeA i n st b).serv = p.serv := by simp

theorem completeA_kv (p : Part) (i n st : Nat) (b : Bytes) : (p.completeA i n st b).kv = p.kv := by simp

/-- A command that completes elsewhere leaves the command in execution. -/
theorem completeA_cur (p : Part) (i n st : Nat) (b : Bytes) : ((p.completeA i n st b).ses i).cur = (p.ses i).cur := by
  unfold Part.completeA
  dsimp only
  split
  · rfl
  · split
    · rw [ses_setSes]
    · obtain ⟨_, _, _, hcur, _⟩ := (produce_ses _ i i _).keeps
      rw [hcur, ses_setSes]

/-- The request of an admission that takes one slot, with no held slot to start from and no grammar. -/
def Part.admitReq (p : Part) (i : Nat) (k : Bytes) (e : Nat) : Req :=
  { (p.admitStarted i k).newReq i k e none (p.admitSeed k) with prefix_ := false, companion := none, gram := none }

/-- A request joins the order of admission. -/
def Part.enrol (p : Part) (sl : Nat) (r : Req) : Part :=
  let a := p.setReq sl r
  { a with serv := { a.serv with order := a.serv.order ++ [sl], cohorts := a.serv.cohorts + 1 } }

theorem enrol_frame (p : Part) (sl : Nat) (r : Req) :
    (p.enrol sl r).ctl = p.ctl ∧ (p.enrol sl r).jrn = p.jrn ∧ (p.enrol sl r).kv = p.kv ∧ (p.enrol sl r).sess = p.sess :=
  ⟨rfl, rfl, rfl, rfl⟩

theorem req_enrol (p : Part) (sl : Nat) (r : Req) : (p.enrol sl r).req sl = some r := req_setReq p sl r

theorem req_enrol_ne (p : Part) {sl x : Nat} (r : Req) (h : x ≠ sl) : (p.enrol sl r).req x = p.req x := req_setReq_ne p r h

/-- The admission that takes slot `sl`, before its question to policy firmware. -/
def Part.admitTaken (p : Part) (sl i : Nat) (k : Bytes) (e : Nat) : Part :=
  (((p.admitStarted i k).assignSlot sl (p.homeFor (p.verPage e)) e).pin e).enrol sl (p.admitReq i k e)

/-- A field within a slice of a packet. -/
theorem fld_slice (b : Bytes) {o m c n : Nat} (h : c + n ≤ m) : fld (slice b o m) c n = fld b (o + c) n := by
  have ht : n ≤ m - c := by omega
  simp only [fld, slice, List.drop_take, List.drop_drop, List.take_take, Nat.min_eq_left ht]

/-- The request asks for a grammar when its packet does. -/
theorem newReq_grammarEn (p : Part) (i : Nat) (k : Bytes) (e : Nat) (d : Option Nat) (w : Word64) :
    (p.newReq i k e d w).grammarEn = (par k 43 1).testBit 1 := by
  have h : fld (bytesAt k 16 128) 43 1 = par k 43 1 := fld_slice k (by decide)
  rw [← h]
  rfl

section
variable {p : Part} {i e : Nat} {k : Bytes} (hx : admitPrefix k = false) (hg : (par k 43 1).testBit 1 = false)
include hx hg

/-- With its start point passed, an admission of one slot without a grammar takes its slot, or ends for want of one. -/
theorem admitBound_plain : p.admitBound i k e none =
    match p.slotsLeft 1, p.freeSlot [] with
    | true, some sl => (p.admitTaken sl i k e).admitAsk sl
    | _, _ => (p.admitStarted i k).completeA i ((p.admitStarted i k).ses i).serial stNoSlot [] := by
  have hdraw : (if (par k 43 1).testBit 0 then (BitVec.ofNat 64 (par k 56 8), p) else p.free) =
      (p.admitSeed k, if (par k 43 1).testBit 0 then p else p.free.2) := by
    unfold Part.admitSeed
    split <;> rfl
  have hgram (q : Part) : q.grammarBad k e = false := by rw [Part.grammarBad, hg, Bool.false_and]
  have hprefix (q : Part) (w : Word64) : (q.newReq i k e none w).prefix_ = false := hx
  have htake := takeSlots_admitStarted hx p i e
  rw [Part.admitStarted] at htake
  simp only [Part.admitBound, hdraw, hgram, Bool.false_eq_true, if_false, htake, newReq_grammarEn, hg]
  cases p.slotsLeft 1 with
  | false => rfl
  | true =>
    cases p.freeSlot [] with
    | none => rfl
    | some sl =>
      simp only [if_true, Option.map_some, hprefix, Bool.false_eq_true, if_false]
      rfl

/-- For want of a slot the admission ends, and has taken nothing (R200). -/
theorem admitBound_noSlot (h : p.slotsLeft 1 = false ∨ p.freeSlot [] = none) : (p.admitBound i k e none).serv = p.serv ∧
    (p.admitBound i k e none).kv = p.kv ∧ ((p.admitBound i k e none).ses i).cur = none := by
  have hb : p.admitBound i k e none = (p.admitStarted i k).completeA i ((p.admitStarted i k).ses i).serial stNoSlot [] := by
    rw [admitBound_plain hx hg]
    rcases h with h | h
    · rw [h]
    · rw [h]
      cases p.slotsLeft 1 <;> rfl
  obtain ⟨n, l, hq⟩ := admitStarted_eq p i k
  rw [hb, completeA_serv, completeA_kv, completeA_cur, admitStarted_cur, hq]
  exact ⟨rfl, rfl, rfl⟩

theorem admitBound_slot {sl : Nat} (hl : p.slotsLeft 1 = true) (h : p.freeSlot [] = some sl) :
    p.admitBound i k e none = (p.admitTaken sl i k e).admitAsk sl := by
  rw [admitBound_plain hx hg, hl, h]

end

theorem sess_assignSlot (p : Part) (sl cxd e : Nat) : (p.assignSlot sl cxd e).sess = p.sess := rfl

/-- A pin changes the model table alone. -/
theorem pin_frame (p : Part) (e : Nat) :
    (p.pin e).ctl = p.ctl ∧ (p.pin e).jrn = p.jrn ∧ (p.pin e).kv = p.kv ∧ (p.pin e).sess = p.sess ∧ (p.pin e).serv = p.serv := by
  unfold Part.pin
  dsimp only
  split <;> exact ⟨rfl, rfl, rfl, rfl, rfl⟩

/-- What an admission that has its slot has changed. -/
theorem admitTaken_frame (p : Part) (sl i : Nat) (k : Bytes) (e : Nat) :
    (p.admitTaken sl i k e).ctl = p.ctl ∧ (p.admitTaken sl i k e).jrn = p.jrn ∧
    ((p.admitTaken sl i k e).ses i).cur = none ∧
    (p.admitTaken sl i k e).kvSlot sl = KvSlot.fresh (p.homeFor (p.verPage e)) e ∧
    (p.admitTaken sl i k e).req sl = some (p.admitReq i k e) ∧
    ∀ x, x ≠ sl → (p.admitTaken sl i k e).req x = p.req x := by
  obtain ⟨n, l, hq⟩ := admitStarted_eq p i k
  generalize hp1 : (p.admitStarted i k).assignSlot sl (p.homeFor (p.verPage e)) e = p1
  obtain ⟨hctl, hjrn, hkv, hsess, hserv⟩ := pin_frame p1 e
  obtain ⟨ectl, ejrn, ekv, esess⟩ := enrol_frame (p1.pin e) sl (p.admitReq i k e)
  simp only [Part.admitTaken, hp1, ectl, ejrn]
  refine ⟨?_, ?_, ?_, ?_, req_enrol _ _ _, fun x hx => ?_⟩
  · rw [hctl, ← hp1, hq]; rfl
  · rw [hjrn, ← hp1, hq]; rfl
  · rw [Part.ses, esess, hsess, ← hp1, sess_assignSlot]; exact admitStarted_cur p i k
  · rw [kvSlot_congr (ekv.trans hkv), ← hp1, kvSlot_assignSlot]
  · rw [req_enrol_ne _ _ hx, req_congr hserv, ← hp1, hq]; rfl

/-- A request that is admitted waits for its first step (R199). -/
def Req.admitted (r : Req) : Req := { r with st := .waiting, stage := .done }

section
variable {p : Part} {sl : Nat} {r : Req} (hr : p.req sl = some r)
include hr

theorem admitAck_uncancelled (hc : r.cancels = []) :
    p.admitAck sl = (p.setReq sl r.admitted).completeA r.sess r.cmd stOk (p.admitBody sl r) := by
  simp only [Part.admitAck, hr, hc, List.isEmpty_nil, if_true, Req.admitted]

theorem admitJournal_unprotected (hj : p.jrn.partner = none) : p.admitJournal sl = (p.bump aJrnCnt 48 16 1).admitAck sl := by
  simp only [Part.admitJournal, hr, hj]

/-- Without policy firmware the question is skipped: only the slot's rank is reset (R352). -/
theorem admitAsk_noFirmware (hl : p.ctl.loaded = false) : ∃ q : Part, p.admitAsk sl = q.admitJournal sl ∧
    q.serv = p.serv ∧ q.kv = p.kv ∧ q.sess = p.sess ∧ q.jrn = p.jrn := by
  have hr' (c : Ctl) : Part.req { p with ctl := c } sl = some r := hr
  refine ⟨{ p with ctl := { p.ctl with ranks := mset 0x8000 p.ctl.ranks sl 0x8000 } }, ?_, rfl, rfl, rfl, rfl⟩
  simp only [Part.admitAsk, hr', hl, Bool.not_false, if_true]

/-- Without policy firmware and a partner an admission is acknowledged at once (R199, R333, R352). -/
theorem admitAsk_plain (hl : p.ctl.loaded = false) (hj : p.jrn.partner = none) (hc : r.cancels = []) :
    (p.admitAsk sl).req sl = some r.admitted ∧ (∀ x, x ≠ sl → (p.admitAsk sl).req x = p.req x) ∧
    (p.admitAsk sl).kv = p.kv ∧ ((p.admitAsk sl).ses r.sess).cur = (p.ses r.sess).cur := by
  obtain ⟨q, hask, hserv, hkv, hsess, hjrn⟩ := admitAsk_noFirmware hr hl
  have hq : q.req sl = some r := (req_congr hserv sl).trans hr
  have hbump (x : Nat) : (q.bump aJrnCnt 48 16 1).req x = p.req x := req_congr ((by simp : _ = q.serv).trans hserv) x
  have hbkv : (q.bump aJrnCnt 48 16 1).kv = p.kv := by simp [hkv]
  have hbses (i : Nat) : (q.bump aJrnCnt 48 16 1).ses i = p.ses i := by rw [ses_bump, Part.ses, hsess, Part.ses]
  have hb : q.admitJournal sl = (q.bump aJrnCnt 48 16 1).admitAck sl := admitJournal_unprotected hq (by rw [hjrn, hj])
  generalize q.bump aJrnCnt 48 16 1 = b at hbump hbkv hbses hb
  rw [hask, hb, admitAck_uncancelled ((hbump sl).trans hr) hc]
  refine ⟨?_, fun x hx => ?_, by rw [completeA_kv, kv_setReq, hbkv], ?_⟩
  · rw [req_congr (completeA_serv _ _ _ _ _), req_setReq]
  · rw [req_congr (completeA_serv _ _ _ _ _), req_setReq_ne _ _ hx, hbump]
  · rw [completeA_cur, ses_setReq, hbses]

end

/-- An admission that takes its slot and asks nobody makes a request that waits (R199, log entry 23). -/
theorem admitBound_waits {p : Part} {sl i e : Nat} {k : Bytes} (hx : admitPrefix k = false) (hg : (par k 43 1).testBit 1 = false)
    (hl : p.ctl.loaded = false) (hj : p.jrn.partner = none) (hs : p.slotsLeft 1 = true) (hf : p.freeSlot [] = some sl) :
    (p.admitBound i k e none).req sl = some (p.admitReq i k e).admitted ∧
    (p.admitBound i k e none).kvSlot sl = KvSlot.fresh (p.homeFor (p.verPage e)) e ∧
    ((p.admitBound i k e none).ses i).cur = none ∧ ∀ x, x ≠ sl → (p.admitBound i k e none).req x = p.req x := by
  obtain ⟨hctl, hjrn, hcur, hslot, hreq, hother⟩ := admitTaken_frame p sl i k e
  obtain ⟨areq, aother, akv, acur⟩ := admitAsk_plain hreq (by rw [hctl, hl]) (by rw [hjrn, hj]) rfl
  rw [admitBound_slot hx hg hs hf]
  exact ⟨areq, (kvSlot_congr akv sl).trans hslot, acur.trans hcur, fun x h => (aother x h).trans (hother x h)⟩

/-- The request that an admission without PREFIX makes, field by field (R196, R199). -/
theorem admitReq_fields (p : Part) (i : Nat) {k : Bytes} (e : Nat) (hx : admitPrefix k = false) :
    (p.admitReq i k e).id = par k 0 4 ∧ (p.admitReq i k e).sess = i ∧ (p.admitReq i k e).ver = e ∧
    (p.admitReq i k e).tokens = tokensAt k (promptOff k) (par k 16 4) ∧ (p.admitReq i k e).admitAt = p.now := by
  obtain ⟨n, l, hq⟩ := admitStarted_eq p i k
  refine ⟨rfl, rfl, rfl, ?_, ?_⟩
  · simp [Part.admitReq, Part.newReq, prefixSlot_none hx]
  · rw [Part.admitReq, hq]; rfl

end Sys2Proof.Machine

/-! SUPPORT. Asks without an answer, cancels, cancel markers, time limits and queries (R231 to R233, R267, R356). -/
namespace Sys2Proof.Machine

/-! ### ADMIT_ASK_TIMEOUT (R356) -/

/-- The ask of a request has no answer in time. -/
def Part.askOverdue (p : Part) (r : Req) : Prop := r.st = .admitting ∧ r.stage = .asking ∧ r.askAt + p.askLimit < p.now

theorem askTimeout_noRequest {p : Part} {sl : Nat} (h : p.req sl = none) : p.askTimeout sl = p := by
  simp only [Part.askTimeout, h]

theorem askTimeout_waits {p : Part} {sl : Nat} {r : Req} (h : p.req sl = some r) (ho : ¬ p.askOverdue r) : p.askTimeout sl = p := by
  simp only [Part.askTimeout, h]
  exact if_neg ho

theorem askTimeout_overdue {p : Part} {sl : Nat} {r : Req} (h : p.req sl = some r) (ho : p.askOverdue r) :
    p.askTimeout sl = p.askLate sl := by
  simp only [Part.askTimeout, h]
  exact if_pos ho

/-- Counting an ask that is late leaves TIMEOUT_ADMIT. -/
theorem regFld_timeoutAdmit (p : Part) : (p.bump aPolCnt 0 32 1).regFld aPolCfg 8 1 = p.regFld aPolCfg 8 1 := by
  rw [Part.regFld, regGet_bump_ne _ _ _ _ _ _ (by decide), Part.regFld]

theorem askLate_admits {p : Part} (sl : Nat) (h : p.regFld aPolCfg 8 1 = 1) :
    p.askLate sl = (p.bump aPolCnt 0 32 1).admitJournal sl := by
  simp only [Part.askLate, regFld_timeoutAdmit, h, if_true]

theorem askLate_rejects {p : Part} (sl : Nat) (h : p.regFld aPolCfg 8 1 = 0) :
    p.askLate sl = (p.bump aPolCnt 0 32 1).admitReject sl stPolicyReject := by
  simp only [Part.askLate, regFld_timeoutAdmit, h, Nat.zero_ne_one, if_false]

/-! ### TIME_LIMIT_EXPIRE (R233) -/

theorem limitExpire_noRequest {p : Part} {sl : Nat} (h : p.req sl = none) : p.limitExpire sl = p := by
  simp only [Part.limitExpire, h]

section
variable {p : Part} {sl : Nat} {r : Req} (h : p.req sl = some r)
include h

theorem limitExpire_unlimited (hl : r.limitNs = none) : p.limitExpire sl = p := by
  simp only [Part.limitExpire, h, hl]

variable {t : Nat} (hl : r.limitNs = some t)
include hl

theorem limitExpire_waits (hw : r.st = .admitting ∨ r.st = .ending ∨ p.now ≤ t) : p.limitExpire sl = p := by
  simp only [Part.limitExpire, h, hl, if_pos hw]

theorem limitExpire_expires (ha : r.st ≠ .admitting) (he : r.st ≠ .ending) (ht : t < p.now) : p.limitExpire sl =
    (p.setReq sl { r with limitNs := none }).stopRequest sl { r with limitNs := none } 6 := by
  have hw : ¬ (r.st = .admitting ∨ r.st = .ending ∨ p.now ≤ t) := by
    rw [not_or, not_or]
    exact ⟨ha, he, Nat.not_le.mpr ht⟩
  simp only [Part.limitExpire, h, hl, if_neg hw]

end

/-! ### CANCEL (R231, R267) -/

/-- The request with one more cancel that waits for its end. -/
def Req.cancelledBy (r : Req) (i : Nat) : Req := { r with cancels := r.cancels ++ [(i, 0)] }

/-- A cancel of the session waits for the end of its request. -/
def Part.cancelWaits (p : Part) (i : Nat) : Bool := p.serv.reqs.any fun x => x.2.cancels.any fun c => c.1 == i

theorem cancelWaits_iff {p : Part} {i : Nat} : p.cancelWaits i = true ↔ ∃ x ∈ p.serv.reqs, ∃ c ∈ x.2.cancels, c.1 = i := by
  simp [Part.cancelWaits]

section
variable {p : Part} {i : Nat} {k : Bytes}

theorem cancel_again (h : p.cancelWaits i = true) : p.cancel i k = p := if_pos h

variable (hw : p.cancelWaits i = false)
include hw

theorem cancel_notWaiting : ¬ (p.serv.reqs.any fun x => x.2.cancels.any fun c => c.1 == i) = true := by
  rw [show (p.serv.reqs.any fun x => x.2.cancels.any fun c => c.1 == i) = false from hw]
  exact Bool.false_ne_true

theorem cancel_noRequest (h : p.reqOf (par k 0 4) = none) : p.cancel i k = p.alreadyDone i := by
  rw [Part.cancel, if_neg (cancel_notWaiting hw), h]

variable {sl : Nat} {r : Req} (h : p.reqOf (par k 0 4) = some (sl, r))
include h

/-- A cancel that finds its request: it comes too late, is stale, or is noted and stops a request that is admitted. -/
theorem cancel_found : p.cancel i k =
    if r.st = .ending then p.alreadyDone i
    else if !p.epochOk k sl then p.finish i stStaleRole []
    else if r.st = .admitting then p.setReq sl (r.cancelledBy i)
    else (p.setReq sl (r.cancelledBy i)).stopRequest sl (r.cancelledBy i) 5 := by
  rw [Part.cancel, if_neg (cancel_notWaiting hw), h]
  rfl

theorem cancel_ending (he : r.st = .ending) : p.cancel i k = p.alreadyDone i := by
  rw [cancel_found hw h, if_pos he]

theorem cancel_stale (he : r.st ≠ .ending) (ho : p.epochOk k sl = false) : p.cancel i k = p.finish i stStaleRole [] := by
  rw [cancel_found hw h, if_neg he, ho]
  rfl

variable (ho : p.epochOk k sl = true)
include ho

theorem cancel_admitting (ha : r.st = .admitting) : p.cancel i k = p.setReq sl (r.cancelledBy i) := by
  have he : r.st ≠ .ending := by rw [ha]; decide
  rw [cancel_found hw h, if_neg he, ho, if_pos ha]
  rfl

theorem cancel_stops (he : r.st ≠ .ending) (ha : r.st ≠ .admitting) :
    p.cancel i k = (p.setReq sl (r.cancelledBy i)).stopRequest sl (r.cancelledBy i) 5 := by
  rw [cancel_found hw h, if_neg he, ho, if_neg ha]
  rfl

end

theorem stopRequest_atOnce {r : Req} (h : r.run = none) (p : Part) (sl n : Nat) : p.stopRequest sl r n = p.endRequest sl n := by
  rw [Part.stopRequest, h]
  rfl

theorem stopRequest_inStep {r : Req} (h : r.run ≠ none) (hc : r.cancelEnd = 0) (p : Part) (sl n : Nat) :
    p.stopRequest sl r n = (p.setReq sl { r with cancelEnd := n }).sendMark sl := by
  rw [Part.stopRequest, if_neg (by simpa using h), if_pos hc]

theorem stopRequest_stopped {r : Req} (h : r.run ≠ none) (hc : r.cancelEnd ≠ 0) (p : Part) (sl n : Nat) : p.stopRequest sl r n = p := by
  rw [Part.stopRequest, if_neg (by simpa using h), if_neg hc]

/-! ### CANCEL_MARK (R232) -/

theorem cancelMark_noMessage {p : Part} {cxd : Nat} (h : p.headCmd (8 + cxd) 0x4002 0xC9 = none) : p.cancelMark cxd = p := by
  simp only [Part.cancelMark, h]

section
variable {p : Part} {cxd : Nat} {m : DieMsg} (h : p.headCmd (8 + cxd) 0x4002 0xC9 = some m)
include h

/-- The slot of a marker is not the one that it was sent for. -/
theorem cancelMark_stale (hs : (p.kvSlot (fld m.payload 16 2)).assigned = false ∨ (p.kvSlot (fld m.payload 16 2)).home ≠ cxd ∨
      fld m.payload 18 2 ≠ p.slotEpoch cxd (fld m.payload 16 2)) : p.cancelMark cxd =
    (p.popInbox (8 + cxd) 0x4002).giveBack (8 + cxd) m (p.slotEpoch cxd (fld m.payload 16 2)) stStaleRole := by
  simp only [Part.cancelMark, h, kvSlot_popInbox, slotEpoch_popInbox]
  exact if_pos (by simpa [or_assoc] using hs)

/-- The instant of a marker is the CXD cycle of its arrival. -/
theorem cancelMark_noted (ha : (p.kvSlot (fld m.payload 16 2)).assigned = true) (hh : (p.kvSlot (fld m.payload 16 2)).home = cxd)
    (he : fld m.payload 18 2 = p.slotEpoch cxd (fld m.payload 16 2)) :
    (p.cancelMark cxd).kv = { p.kv with marks := minsert p.kv.marks (fld m.payload 16 2) (p.clk.cycles * 48 / 5) } := by
  have hs : ¬ (!(p.kvSlot (fld m.payload 16 2)).assigned || (p.kvSlot (fld m.payload 16 2)).home != cxd ||
      fld m.payload 18 2 != p.slotEpoch cxd (fld m.payload 16 2)) = true := by simp [ha, hh, he]
  simp only [Part.cancelMark, h, kvSlot_popInbox, slotEpoch_popInbox, if_neg hs, answer_frame]
  rfl

end

/-! ### REQUEST_QUERY (R267) -/

theorem requestQuery_noRequest {p : Part} {i : Nat} {k : Bytes} (h : p.reqOf (par k 0 4) = none) :
    p.requestQuery i k = p.finish i stAlreadyDone [] := by
  simp only [Part.requestQuery, h]

section
variable {p : Part} {i : Nat} {k : Bytes} {sl : Nat} {r : Req} (h : p.reqOf (par k 0 4) = some (sl, r))
include h

theorem requestQuery_stale (ho : p.epochOk k sl = false) : p.requestQuery i k = p.finish i stStaleRole [] := by
  simp only [Part.requestQuery, h, ho, Bool.not_false, if_true]

theorem requestQuery_answers (ho : p.epochOk k sl = true) :
    p.requestQuery i k = p.finish i stOk (wordBytes (p.srvReq sl) ++ wordBytes (p.srvReq2 sl)) := by
  simp only [Part.requestQuery, h, ho, Bool.not_true, Bool.false_eq_true, if_false]

end

/-! ### The commands -/

/-- A host command in execution acts on the part (R244). -/
theorem cmd_of_running {s : State} {i op : Nat} {k : Bytes} (h : Running s i op k) (f : Bytes → Part → Part) :
    s.cmd i op f = .next (withPart s (f k s.part)) := by
  obtain ⟨hi, ha, hc, ho⟩ := h
  exact cmd_running (of_decide_eq_true hi) ha hc ho

theorem exec_admitRequest {s : State} {i : Nat} {k : Bytes} (h : Running s i 0x40 k) :
    exec (.admitRequest i) s = .next (withPart s (s.part.admitHere i k)) := cmd_of_running h _

theorem exec_cancel {s : State} {i : Nat} {k : Bytes} (h : Running s i 0x41 k) :
    exec (.cancel i) s = .next (withPart s (s.part.cancel i k)) := cmd_of_running h _

theorem exec_requestQuery {s : State} {i : Nat} {k : Bytes} (h : Running s i 0x42 k) :
    exec (.requestQuery i) s = .next (withPart s (s.part.requestQuery i k)) := cmd_of_running h _

theorem exec_admitAskTimeout {s : State} {sl : Nat} (hs : isSlot sl = true) (ha : s.part.alive 1 = true) :
    exec (.admitAskTimeout sl) s = .next (withPart s (s.part.askTimeout sl)) := by
  calc exec (.admitAskTimeout sl) s
      = s.live 1 (isSlot sl) fun p => p.askTimeout sl := rfl
    _ = _ := by rw [hs, live_alive ha]; rfl

theorem exec_timeLimitExpire {s : State} {sl : Nat} (hs : isSlot sl = true) (ha : s.part.alive 1 = true) :
    exec (.timeLimitExpire sl) s = .next (withPart s (s.part.limitExpire sl)) := by
  calc exec (.timeLimitExpire sl) s
      = s.live 1 (isSlot sl) fun p => p.limitExpire sl := rfl
    _ = _ := by rw [hs, live_alive ha]; rfl

theorem exec_cancelMark {s : State} {cxd : Nat} (hc : isCxd cxd = true) (ha : s.part.alive (11 + cxd) = true) :
    exec (.cancelMark cxd) s = .next (withPart s (s.part.cancelMark cxd)) := by
  calc exec (.cancelMark cxd) s
      = s.live (11 + cxd) (isCxd cxd) fun p => p.cancelMark cxd := rfl
    _ = _ := by rw [hc, live_alive ha]; rfl

end Sys2Proof.Machine

namespace Sys2Proof

open Machine

/-- Settles O47: an admission by the first check that stops it and the slot that is free, a cancel and a limit by the state of the request
they name, a marker and a query by the slot's epoch. -/
theorem requestsAreAdmittedAndStopped : Obligations.RequestsAreAdmittedAndStopped := by
  unfold Obligations.RequestsAreAdmittedAndStopped
  refine ⟨fun s i k hrun => ⟨fun h => ?reading, fun hn => ⟨fun st hf => ?badField, fun hf hp => ?readsPrompt, fun hf hp ha hz => ?readsAllowed,
      fun hf hp ha => ⟨fun st hl => ?badList, fun hl => ?checked⟩⟩⟩,
    fun s sl hsl ha => ⟨fun h => ?noRequest, fun r h => ⟨fun ho => ?asked, fun hst hstage hlate => ⟨fun h1 => ?admits, fun h0 => ?rejects⟩,
      fun hw => ?unlimited, fun t hl hadm hend ht => ?expires⟩⟩,
    fun s i k hrun => ⟨fun h => ?again, fun h => ?cancels⟩,
    fun p sl n r => ⟨fun h => stopRequest_atOnce h p sl n, fun h hc => stopRequest_inStep h hc p sl n, fun h hc => stopRequest_stopped h hc p sl n⟩,
    fun s cxd hc ha => ⟨fun h => ?noMark, fun m sl h hsl => ⟨fun hs => ?staleMark, fun hv hh he => ?noted⟩⟩,
    fun s i k hrun => ⟨fun h => ?noQuery, fun sl r h => ⟨fun ho => ?staleQuery, fun ho => ?answers⟩⟩⟩
  case reading => rw [exec_admitRequest hrun, admitHere_reading (readsLists_iff.mpr h), withPart_part]
  case badField => rw [exec_admitRequest hrun, admitHere_badField (not_readsLists hn) hf]
  case readsPrompt =>
    refine ⟨_, allowedReads i k, exec_admitRequest hrun, ?_⟩
    rw [admitHere_readsPrompt (not_readsLists hn) hf hp]
    exact ⟨rfl, rfl, allowedReads_cases i k⟩
  case readsAllowed =>
    rw [exec_admitRequest hrun, admitHere_readsAllowed (not_readsLists hn) hf hp ha hz]
    rfl
  case badList => rw [exec_admitRequest hrun, admitHere_badList (not_readsLists hn) hf hp ha hl]
  case checked =>
    have hchk : s.part.AdmitChecked i k := ⟨not_readsLists hn, hf, hp, ha, hl⟩
    rw [exec_admitRequest hrun]
    refine ⟨fun hb => by rw [admitHere_faulted hchk hb], fun hb ht => by rw [admitHere_resetting hchk hb ht, withPart_part], fun hb ht => ?_⟩
    rw [admitHere_healthy hchk hb ht]
    refine ⟨fun hv => by rw [admitVersions_unavailable hv], fun e hv hd hx => ?_⟩
    rw [admitVersions_binds hv hd hx]
    refine ⟨rfl, fun hg hs => ⟨_, rfl, admitBound_noSlot hx hg hs⟩, fun sl hg hc hj hs hfree => ?_⟩
    obtain ⟨hreq, hslot, hcur, hother⟩ := admitBound_waits (e := e) (i := i) hx hg hc hj hs hfree
    obtain ⟨hid, hsess, hver, htokens, hat⟩ := admitReq_fields s.part i e hx
    exact ⟨_, (s.part.admitReq i k e).admitted, rfl, hreq, rfl, hid, hsess, hver, htokens, hat, congrArg KvSlot.assigned hslot,
      congrArg KvSlot.home hslot, hcur, hother⟩
  case noRequest =>
    rw [exec_admitAskTimeout hsl ha, askTimeout_noRequest h, exec_timeLimitExpire hsl ha, limitExpire_noRequest h]
    exact ⟨rfl, rfl⟩
  case asked => rw [exec_admitAskTimeout hsl ha, askTimeout_waits h ho, withPart_part]
  case admits => rw [exec_admitAskTimeout hsl ha, askTimeout_overdue h ⟨hst, hstage, hlate⟩, askLate_admits sl h1]
  case rejects =>
    rw [exec_admitAskTimeout hsl ha, askTimeout_overdue h ⟨hst, hstage, hlate⟩, askLate_rejects sl h0]
    exact ⟨rfl, admitReject_req _ _ _⟩
  case unlimited =>
    rw [exec_timeLimitExpire hsl ha]
    cases hl : r.limitNs with
    | none => rw [limitExpire_unlimited h hl, withPart_part]
    | some t =>
      have hwait : r.st = .admitting ∨ r.st = .ending ∨ s.part.now ≤ t := by simpa [hl] using hw
      rw [limitExpire_waits h hl hwait, withPart_part]
  case expires => rw [exec_timeLimitExpire hsl ha, limitExpire_expires h hl hadm hend ht]
  case again => rw [exec_cancel hrun, cancel_again (cancelWaits_iff.mpr h), withPart_part]
  case cancels =>
    have hw : s.part.cancelWaits i = false := by
      rw [← Bool.not_eq_true, cancelWaits_iff]
      exact fun ⟨x, hx, c, hc, hi⟩ => h x hx c hc hi
    simp only [exec_cancel hrun]
    refine ⟨fun hr => ?_, fun sl r hr => ⟨fun he => ?_, fun he ho => ?_, fun ho ha => ?_, fun ho he ha => ?_⟩⟩
    · rw [cancel_noRequest hw hr, Part.alreadyDone]
    · rw [cancel_ending hw hr he, Part.alreadyDone]
    · rw [cancel_stale hw hr he ho]
    · rw [cancel_admitting hw hr ho ha, Req.cancelledBy]
    · rw [cancel_stops hw hr ho he ha, Req.cancelledBy]
  case noMark => rw [exec_cancelMark hc ha, cancelMark_noMessage h, withPart_part]
  case staleMark =>
    subst hsl
    rw [exec_cancelMark hc ha, cancelMark_stale h hs]
  case noted =>
    subst hsl
    have hkv := cancelMark_noted h hv hh he
    refine ⟨_, exec_cancelMark hc ha, ?_, (congrArg Kv.slots hkv :)⟩
    rw [withPart, hkv]
    exact mfind_minsert_same _ _ _
  case noQuery => rw [exec_requestQuery hrun, requestQuery_noRequest h]
  case staleQuery => rw [exec_requestQuery hrun, requestQuery_stale h ho]
  case answers => rw [exec_requestQuery hrun, requestQuery_answers h ho]

end Sys2Proof
